-- ==== Sys2Proof/Word.lean ====
section
/-! DEFINITION. The word type of the KRS-6440's registers and the sparse table every map of the model uses. -/

namespace Sys2Proof

/-- A register word (R40: 32-bit registers at 32-bit byte addresses). -/
abbrev Word := BitVec 32

/-- One byte of overhead, relay, message or flash data. -/
abbrev Byte := BitVec 8

/-- A sparse map from an index to plain data: keys strictly rising, no entry equal to the default. -/
abbrev Tab (α : Type) := List (Nat × α)

/-- The entry at `n`, or the default.
DESIGN CHOICE, log entry 12. -/
def tabGet (dflt : α) : Tab α → Nat → α
  | [], _ => dflt
  | (k, v) :: t, n => if k = n then v else tabGet dflt t n

/-- The table without the entries of key `n`. -/
def tabDel (t : Tab α) (n : Nat) : Tab α := t.filter (fun e => decide (e.1 ≠ n))

/-- Inserts an entry before the first key above `n`. -/
def tabIns : Tab α → Nat → α → Tab α
  | [], n, v => [(n, v)]
  | (k, w) :: t, n, v => if n < k then (n, v) :: (k, w) :: t else (k, w) :: tabIns t n v

/-- Writes the entry at `n`, keeping the canonical form: the default is never listed.
DESIGN CHOICE, log entry 12. -/
def tabPut [DecidableEq α] (dflt : α) (t : Tab α) (n : Nat) (v : α) : Tab α :=
  if v = dflt then tabDel t n else tabIns (tabDel t n) n v

/-- Every key of the list lies above `lo`, strictly rising. -/
def risingFrom : Nat → List Nat → Bool
  | _, [] => true
  | lo, k :: t => decide (lo < k) && risingFrom k t

/-- The keys rise strictly. -/
def rising : List Nat → Bool
  | [] => true
  | k :: t => risingFrom k t

/-- The canonical form of a table: rising keys and no default entry. -/
def tabWf [DecidableEq α] (dflt : α) (t : Tab α) : Bool :=
  rising (t.map (·.1)) && t.all (fun e => decide (e.2 ≠ dflt))

/-- The keys a table lists. -/
def tabKeys (t : Tab α) : List Nat := t.map (·.1)

end Sys2Proof
end

