-- ==== Sys2Proof/Operand.lean ====
section
/-! DEFINITION. What the environment shows the device in a command: received frames, samples, messages and flash data, as
plain data. -/

namespace Sys2Proof

/-- The target domains of posted writes (R66): Hearth (HEARTH and TOD), PCIe (ATTIC), the lane receive domains. -/
inductive Domain | hearth | pcie | laneRx (n : Nat)
  deriving DecidableEq, Repr

/-- The layers SF and SD are evaluated on (R316). -/
inductive SfLayer | ms (n : Nat) | sm (n : Nat) | ho (h : Nat) | tc (k : Nat)
  deriving DecidableEq, Repr

/-- What the memories of the Cellar show with a context's period (R372, R381, R387): the channel on which the period's line read
will meet an uncorrectable error, the channels of the reads that were corrected, and the time of the period's last byte
against the frame's end in microseconds.
DESIGN CHOICE, log entry 9. -/
structure MemObs where
  ctx : Nat
  bad : Option Nat := none
  corr : List Nat := []
  skew : Int := 0
  deriving DecidableEq, Repr

/-- An object of the Attic (R441): TYPE, unit, SEQ, FLAGS, EPOCH, SECOND, OBJECT_LEN; the words at bytes 24, 28, 32, 40, 44,
48 and 52; the points of its bitmap, its records, its data bytes; `bad` when a CRC on the drive does not match. -/
structure AtticObj where
  kind : Nat
  unit : Nat := 0
  seq : Nat := 0
  flags : Nat := 0
  epoch : Nat := 0
  sec : Nat := 0
  len : Nat := 4096
  info : List Nat := []
  points : List Nat := []
  recs : List (List Word) := []
  data : List Byte := []
  bad : Bool := false
  deriving DecidableEq, Repr

/-- A superblock (R439). -/
structure SuperBlk where
  gen : Nat
  serialHi : Word
  serialLo : Word
  lba : Nat
  ringEnd : Nat
  head : Nat
  tail : Nat
  lastIndex : Nat
  nextSeq : Nat
  durEpoch : Nat
  durSec : Nat
  formatted : List Word
  deriving DecidableEq, Repr

/-- What an adoption meets on the drive (R434, R451): the link, the controller and namespace (in 4 KiB units), the queues, the
superblock copies that are valid, the objects from TAIL on in ring order, and how the writes and the Flush of steps 4 and 5
end.
DESIGN CHOICE, log entry 9. -/
structure DriveObs where
  link : Bool := true
  linkGen : Nat := 3
  width : Nat := 2
  meets : Bool := true
  units : Nat := 2097152
  lba4k : Bool := false
  queues : Bool := true
  copies : List SuperBlk := []
  objs : List AtticObj := []
  writes : Bool := true
  flush : Bool := true
  deriving DecidableEq, Repr

/-- Why the Attic loses its drive (R450). -/
inductive LossCause | linkDown | stalled | fatalStatus
  deriving DecidableEq, Repr
/-- What a selection tick sees at XREF_A or XREF_B (R459, R460): valid edges, E1 LOF or AIS, a CRC-4 win, the accepted Sa
nibble.
DESIGN CHOICE, log entry 9. -/
structure XrefObs where
  edges : Bool := true
  lof : Bool := false
  crc4 : Bool := true
  sa : Option Nat := none
  deriving DecidableEq, Repr

/-- What a selection tick sees of the DPLL (R467 to R472): whether the phase error stayed within LOCK_BOUND since the last
tick, the phase error and the output's phase difference to the candidate in ps, the frequency asked of the output in
10^-12.
DESIGN CHOICE, log entry 9. -/
structure DpllObs where
  inBound : Bool := true
  phase : Int := 0
  diff : Int := 0
  freq : Int := 0
  deriving DecidableEq, Repr
/-- The mirrored state of a selector or an MSP pair (R537): the choice, the active request, the standing commands, both
timers. -/
structure MirSel where
  choice : Bool := false
  req : Nat := 0
  ch : Nat := 0
  remote : Bool := false
  lo : Bool := false
  fs : Option Bool := none
  ms : Option Bool := none
  exer : Bool := false
  hold : Option Nat := none
  wtr : Option Nat := none
  deriving DecidableEq, Repr

/-- The data of a mirror record (R537). The HALL record: ACTIVE_PAGE, SWITCH_PENDING, SWITCH_CFG, SWITCH_TIME as second and
nanosecond, PAGE_CRC_EXP, SYSFRAME of the last commit. The HEARTH record: the selected slot if any, the DPLL state,
HO_FREQ_LAST, HO_VALID. -/
inductive MirData
  | sel (m : MirSel)
  | msp (m : MirSel) (k1 k2 : Byte)
  | defects (w : Word)
  | hall (page : Nat) (pending : Bool) (cfg : Word) (sec ns : Nat) (crc : Word) (frame : Nat)
  | hearth (slot : Option Nat) (dpll : Nat) (freq : Word) (valid : Bool)
  | pair (d : Option (Nat × Nat))
  deriving DecidableEq, Repr

/-- A mirror record (R537): KIND, INDEX and data. -/
structure MirRec where
  kind : Nat
  idx : Nat
  data : MirData
  deriving DecidableEq, Repr

/-- What a Party Wall message carries (R527, R644), by TYPE.
PRESUMED, log entry 64. -/
inductive PwBody
  | idle
  | lease (num ms : Nat)
  | leaseAck (num : Nat) (fit aligned : Bool)
  | release
  | delta (recs : List MirRec)
  | pmSnap (off : Nat) (data : List Word)
  | bulkData (off : Nat) (data : List Word) (recs : List MirRec)
  | bulkReq
  | bulkEnd (len : Nat) (crc : Word)
  | digest (cycle mask : Nat) (sums : List Word)
  | attestReq (id nonceLen : Nat) (nonce : List Byte)
  | attestRsp (id : Nat) (status : Nat) (report : List Byte)
  deriving DecidableEq, Repr

/-- A Party Wall message (R526): FLAGS LAST, SIDE and acting, SEQ, CYCLE. -/
structure PwMsg where
  last : Bool := false
  side : Bool := false
  acting : Bool := false
  seq : Nat := 0
  cycle : Nat := 0
  body : PwBody
  deriving DecidableEq, Repr
/-- A report at a Fault Collector source (R556, R569): the source, the address, master and access involved, the syndrome. -/
structure FaultRep where
  src : Nat
  addr : Nat := 0
  master : Nat := 7
  access : Nat := 3
  syndrome : Nat := 0
  deriving DecidableEq, Repr
/-- A slot of the flash as read (R598): the 512 header bytes and the body.
DESIGN CHOICE, log entry 9. -/
structure SlotObs where
  hdr : List Byte := []
  body : List Byte := []
  deriving DecidableEq, Repr

/-- What flash discovery reads (R586, R595, R596): a valid SFDP table, log2 of the capacity, the 1-4-4 mode and clock, the
first 64 bytes of both directory copies; and the voltage of VDD_NVM in mV as its monitor finds it (R579).
DESIGN CHOICE, log entry 9. -/
structure FlashObs where
  sfdp : Bool := true
  log2 : Nat := 28
  quad : Bool := true
  mhz : Nat := 50
  dir0 : List Byte := []
  dir1 : List Byte := []
  nvm : Nat := 1800
  deriving DecidableEq, Repr

/-- What a finished flash step shows (R606, R607): the read-back agrees, the bytes read, the slot read by VERIFY.
DESIGN CHOICE, log entry 9. -/
structure StepObs where
  same : Bool := true
  data : List Byte := []
  slot : SlotObs := {}
  deriving DecidableEq, Repr
/-- The header fields of a received TRANSACTION frame (R616): SEQ, ACK_SEQ when ACK_VALID, TAG. -/
structure PHead where
  seq : Nat
  ack : Option Nat := none
  tag : Nat := 0
  deriving DecidableEq, Repr

/-- A register transaction of the Porch (R623): a READ with its byte count, byte enables and the indexes of the words whose
memory shows an uncorrectable error (R32); a WRITE with its byte enables and payload; an RMW and a WRITE_BULK with their payloads. -/
inductive PTxn
  | rd (addr bytes be : Nat) (ecc : List Nat)
  | wr (addr be : Nat) (data : List Word)
  | rmw (addr : Nat) (data : List Word) (ecc : Bool)
  | bulk (data : List Word)
  deriving DecidableEq, Repr

/-- A tag that ends (R660, R661): its ID, the stamps S0 to S5 taken, the context index, the flags HO, DROPPED_IN_PATH and
BROADCAST.
DESIGN CHOICE, log entry 9. -/
structure TagObs where
  id : Nat
  stamps : List (Option Nat) := []
  idx : Nat := 0
  ho : Bool := false
  dropped : Bool := false
  broadcast : Bool := false
  deriving DecidableEq, Repr
end Sys2Proof
end

