-- ==== Sys2Proof/Syntax.lean ====
section
/-! DEFINITION. The commands: one constructor per row of the table of operations and events, with the row's operands. A register
command names the master that writes (R89) and, where the row's name fixes only part of the word, the whole word; an event names
its object and carries what the environment shows. -/

namespace Sys2Proof

inductive Instr
  /-- A write by master `m` at `a` with byte enables `be` (R46, R51, R53, R77). -/
  | registerWrite (m a be : Nat) (v : Word)
  /-- A read of word 0 of the wide or RS register at `a`, which may meet an uncorrectable error (R32, R59). -/
  | wideSnapshotRead (m a : Nat) (ecc : Bool)
  /-- A write of word `i`, 0 to 2, of the wide register at `a` (R61 to R63). -/
  | wideStageWrite (m a i : Nat) (v : Word)
  /-- A write of word 3 of the wide register at `a` (R61). -/
  | wideApplyWrite (m a : Nat) (v : Word)
  /-- A domain takes its oldest posted write (R68, R69). -/
  | postedWriteTakesEffect (dom : Domain)
  /-- A stopped domain loses its oldest posted write (R72). -/
  | postedWriteLost (dom : Domain)
  /-- A domain executes the RMW after the writes posted before it and answers; its read may meet an uncorrectable error (R32, R70). -/
  | crossDomainRmwAnswer (dom : Domain) (ecc : Bool)
  /-- A domain does not answer an RMW within 10 us (R70). -/
  | crossDomainRmwTimeout (dom : Domain)
  /-- A write of BLOCK_LOCK of the block at `base` (R75). -/
  | blockLockWrite (m base : Nat) (v : Word)
  /-- A write of 1 to CFG_COMMIT (R78). -/
  | cfgCommit (m : Nat)
  /-- A configuration CRC pass ends; `upsets` are the bit errors in covered words since the last one (R76 to R80). -/
  | cfgCrcPassEnd (upsets : List (Nat × Word))
  /-- CFG_DIRTY has been held longer than CFG_DIRTY_LIMIT (R81). -/
  | cfgDirtyLong
  /-- A write of 1 to ACC_CNT_CLR (R91). -/
  | accCntClr (m : Nat)
  /-- A write of 0xA5 with bit 0 to RESET_CTL (R91, R583). -/
  | warmResetCmd (m : Nat)
  /-- A write of LANE_CTL with ENABLE 1 (R152). -/
  | laneEnable (m n : Nat) (v : Word)
  /-- A write of LANE_CTL with ENABLE 0 (R153). -/
  | laneDisable (m n : Nat) (v : Word)
  /-- The draining frame of lane `n` ends (R153). -/
  | laneDrainDone (n : Nat)
  /-- An enabled lane's transmitter leaves electrical idle (R152). -/
  | laneTxStart (n : Nat)
  /-- The frame in transmission ends under a squelch cause (R156). -/
  | txIdleAtFrameEnd (n : Nat)
  /-- The next frame boundary after the last squelch cause clears (R156). -/
  | txResume (n : Nat)
  /-- A write of SDS_CMD.ADAPT_RESTART (R102). -/
  | adaptRestart (m n : Nat)
  /-- The receive adaptation settles (R102). -/
  | adaptDone (n : Nat)
  /-- A write of SDS_CMD.MARGIN_START (R106). -/
  | marginStart (m n : Nat)
  /-- A write of SDS_CMD.MARGIN_ABORT (R109). -/
  | marginAbort (m n : Nat)
  /-- One point of the scan has been compared: `errs` decisions differ (R107, R108). -/
  | marginPointDone (n errs : Nat)
  /-- No transition for LOS_TIME (R103). -/
  | losDeclare (n : Nat)
  /-- Two consecutive periods of 125 us with transitions (R103). -/
  | losClear (n : Nat)
  /-- An offset beyond 100 ppm for 1 ms, in units of 0.01 ppm (R104). -/
  | freqOorDeclare (n : Nat) (off : Int)
  /-- An offset within 80 ppm for 1 ms (R104). -/
  | freqOorClear (n : Nat) (off : Int)
  /-- A frame of the STM-N frame-length counter of lane `n` ends (R124 to R140, R171 to R185, R220 to R231, R659): `bits` are the line's
  bytes of it, of an STM1 lane its samples; `tags` counts the words the tracer's generator chose, `mem` what the Cellar's memories show. -/
  | sdhFrameEnd (n : Nat) (bits : List Byte) (tags : Nat) (mem : List MemObs)
  /-- 3 ms of OOF (R131). -/
  | lofDeclare (n : Nat) (otu : Bool)
  /-- 3 ms of SYNC (R131). -/
  | lofClear (n : Nat) (otu : Bool)
  /-- A frame of the OTU2 frame-length counter of lane `n` ends (R112 to R121): `bits` are the line's bytes of it. -/
  | otuFrameEnd (n : Nat) (bits : List Byte)
  /-- 3 ms of persistent OOM (R113). -/
  | otuLomDeclare (n : Nat)
  /-- 3 ms without OOM (R113). -/
  | otuLomClear (n : Nat)
  /-- The transmitter assembles a frame (R141 to R145, R149, R150). -/
  | laneTxFrame (n : Nat)
  /-- A receive relay record is built (R146, R147). -/
  | ohRxRecordBuild (n : Nat)
  /-- A write of 1 to OH_TX_PUSH (R148). -/
  | ohTxPush (m n : Nat)
  /-- A write of 1 to OH_CNT_CLR (R158). -/
  | ohCntClr (m n : Nat)
  /-- A write of HO_CFG with ENABLE 1 (R165, R193). -/
  | hoEnable (m h : Nat) (v : Word)
  /-- The receive side of a head starts (R177). -/
  | hoRxStart (h : Nat)
  /-- The transmit side of a head starts (R190). -/
  | hoTxStart (h : Nat)
  /-- A write of HO_CFG with ENABLE 0 (R194). -/
  | hoDisable (m h : Nat) (v : Word)
  /-- Both side boundaries have passed (R194). -/
  | hoDrainDone (h : Nat)
  /-- 1 ms of persistent OOM (R185). -/
  | hoLomDeclare (h : Nat)
  /-- 1 ms in multiframe (R185). -/
  | hoLomClear (h : Nat)
  /-- A transmit frame of a head; its store gained `delta` units (R188 to R192). -/
  | hoRegenFrame (h : Nat) (delta : Int)
  /-- A write of TC_CFG with ENABLE 1 (R212, R215). -/
  | tcEnable (m k : Nat) (v : Word)
  /-- The receive side of a tributary starts (R221). -/
  | tcRxStart (k : Nat)
  /-- The transmit side of a tributary starts (R236). -/
  | tcTxStart (k : Nat)
  /-- A write of TC_CFG with ENABLE 0 (R216). -/
  | tcDisable (m k : Nat) (v : Word)
  /-- Both boundaries have passed (R216). -/
  | tcDrainDone (k : Nat)
  /-- A write of 1 to TC_EVENT_POP (R240). -/
  | tcEventPop (m sl : Nat)
  /-- An outgoing pointer period of a tributary (R234 to R238, R262, R266); its store gained `delta` units. -/
  | tcRegenPeriod (k : Nat) (delta : Int)
  /-- A write of TC_CLIENT (R242, R245). -/
  | clientConfigWrite (m k : Nat) (v : Word)
  /-- A PDH client frame ends (R247 to R257). -/
  | clientFrameEnd (j : Nat)
  /-- 8 ms without a CRC-4 win of a BASIC candidate (R249). -/
  | e1Crc4CandidateTimeout (j off : Nat)
  /-- 400 ms without a CRC-4 win under CRC4_AUTO (R249). -/
  | e1Crc4AutoTimeout (j : Nat)
  /-- 3 ms of client OOF (R257). -/
  | clientLofDeclare (j : Nat)
  /-- 3 ms of client SYNC (R257). -/
  | clientLofClear (j : Nat)
  /-- The leak offset moves one bit towards 0 (R263). -/
  | retimeLeak (k : Nat)
  /-- A write of HO_CLIENTi (R269). -/
  | hoClientWrite (m sl i : Nat) (v : Word)
  /-- A write of CLIENT_SEL (R272). -/
  | clientSel (m sl : Nat) (v : Word)
  /-- A system frame boundary (R274, R294, R295, R535); the frame store's word of the outputs `store` and the page entry of the
  outputs `page` show an uncorrectable error (R275, R287). -/
  | systemFrameBoundary (store page : List Nat)
  /-- A write of the entry of context `c` in page `p` (R280). -/
  | pageEntryWrite (m p c : Nat) (v : Word)
  /-- A write of GO to SWITCH_CMD (R290). -/
  | hallSwitchGo (m : Nat)
  /-- A write of CANCEL to SWITCH_CMD (R298). -/
  | hallSwitchCancel (m : Nat)
  /-- The prepare pass ends; `ecc` lists the contexts whose entries met an uncorrectable error (R291, R292). -/
  | preparePassEnd (ecc : List Nat)
  /-- A slice that left an ISOLATE reset ends its own pass (R293). -/
  | slicePreparePassEnd (sl : Nat) (ecc : List Nat)
  /-- The Hall samples the ready signals (R294, R296, R297). -/
  | hallReadySample
  /-- MC0 writes the HALL_SWITCH record (R290). -/
  | hallOprecWrite
  /-- A write of 1 to CNT_CLR (R301). -/
  | hallCntClr (m : Nat)
  /-- An SF or SD window of a layer ends (R318). -/
  | sfsdWindowEnd (l : SfLayer) (sd : Bool)
  /-- A scan of 250 us (R349). -/
  | landingScan
  /-- The hold-off timer of a selector or MSP pair expires (R336). -/
  | holdoffExpiry (msp : Bool) (i : Nat)
  /-- The wait-to-restore timer expires (R337). -/
  | wtrExpiry (msp : Bool) (i : Nat)
  /-- A new choice takes effect at its boundary (R350, R351). -/
  | selectorChoiceApply (msp : Bool) (i : Nat)
  /-- A write of TC_PROT or HO_PROT of context `c` (R344). -/
  | protWordWrite (m c : Nat) (v : Word)
  /-- A write of SEL_CFG with ENA 1 (R346). -/
  | selEnable (m i : Nat) (v : Word)
  /-- A write of SEL_CFG with ENA 0 (R346). -/
  | selDisable (m i : Nat) (v : Word)
  /-- A write of SEL_CFG that leaves ENA as it is (R347). -/
  | selCfgChange (m i : Nat) (v : Word)
  /-- The CLEAR command (R340). -/
  | landClear (m : Nat) (msp : Bool) (i : Nat)
  /-- The LOCKOUT command (R340, R341). -/
  | lockout (m : Nat) (msp : Bool) (i : Nat)
  /-- The FORCED_P command (R340, R341). -/
  | forcedP (m : Nat) (msp : Bool) (i : Nat)
  /-- The FORCED_W command (R340, R341). -/
  | forcedW (m : Nat) (msp : Bool) (i : Nat)
  /-- The MANUAL_P command (R340, R341). -/
  | manualP (m : Nat) (msp : Bool) (i : Nat)
  /-- The MANUAL_W command (R340, R341). -/
  | manualW (m : Nat) (msp : Bool) (i : Nat)
  /-- The EXERCISE command (R340, R361). -/
  | exercise (m : Nat) (msp : Bool) (i : Nat)
  /-- 100 ms without an answer to an exercise (R361). -/
  | exerTimeout (i : Nat)
  /-- A write of MSP_CFG with ENA 1 (R353). -/
  | mspEnable (m i : Nat) (v : Word)
  /-- A write of MSP_CFG with ENA 0 (R366). -/
  | mspDisable (m i : Nat) (v : Word)
  /-- A protocol failure cause declares FOP (R360). -/
  | fopDeclare (i cause : Nat)
  /-- 50 ms without any FOP cause (R360). -/
  | fopClear (i : Nat)
  /-- A write of GROUP_CMD with GO (R364). -/
  | landingGroupGo (m : Nat) (v : Word)
  /-- MC0 has judged the group (R365). -/
  | landingGroupDone
  /-- A write of 1 to SEL_EVENT_POP (R368). -/
  | selEventPop (m : Nat)
  /-- A write of 1 to CNT_CLR (R369). -/
  | landingCntClr (m : Nat)
  /-- Channel training ends; `failed` lists the channels that failed (R374). -/
  | cellarTrainingDone (failed : List Nat)
  /-- A write of 1 to CEL_CMD.RETRAIN (R374). -/
  | cellarRetrain (m : Nat)
  /-- A channel's recalibration settles or keeps its settings (R375). -/
  | cellarRecal (c : Nat) (settles : Bool)
  /-- A write of word 3 of PAIR_SET (R378, R400). -/
  | pairSet (m : Nat) (v : Word)
  /-- The reservations of a pair change at its period boundary (R379). -/
  | pairReservationApply (i : Nat)
  /-- A write of PAIR_SEL (R401). -/
  | pairSel (m : Nat) (v : Word)
  /-- A search slot of the alignment engine (R383). -/
  | alignSearchSlot (ecc : Option Nat)
  /-- RETRY_MS after a failed search (R384). -/
  | pairRetryDue (i : Nat)
  /-- The changeover to a new line (R389). -/
  | rehomeChangeover (i late : Nat)
  /-- A write of RING_CFG with ENA 1 (R396). -/
  | ringEnable (m r : Nat) (v : Word)
  /-- A write of RING_CFG with ENA 0 (R396). -/
  | ringDisable (m r : Nat) (v : Word)
  /-- POST_MS elapses (R396). -/
  | ringPostExpiry (r : Nat)
  /-- The FREEZE command (R396). -/
  | ringFreeze (m r : Nat)
  /-- The EXPORT command (R397). -/
  | ringExport (m r : Nat)
  /-- The REARM command (R396). -/
  | ringRearm (m r : Nat)
  /-- A capture export ends (R397); `ecc`: the records, from the oldest, whose reads met an uncorrectable error, each with its channel (R398). -/
  | captureExportEnd (r : Nat) (ok : Bool) (steps : Nat) (ecc : List (Nat × Nat))
  /-- A write of 1 to CNT_CLR (R399). -/
  | cellarCntClr (m : Nat)
  /-- A PM second ends; `ecc` lists the points whose committed result met an uncorrectable error (R405, R411, R541, R544). -/
  | pmSecondBoundary (ecc : List (Nat × Nat))
  /-- MC1 adds a committed second to the bins; `ecc` lists bins that met an uncorrectable error (R418). -/
  | binUpdate (ecc : List (Nat × Bool × Nat))
  /-- A write of 1 to TCA_POP (R423). -/
  | tcaPop (m : Nat)
  /-- A write of VIEW_SEL (R431); `ecc` lists the bins whose read met an uncorrectable error, 0 to 3, with the channel (R419). -/
  | viewSel (m : Nat) (v : Word) (ecc : List (Nat × Nat))
  /-- A write of RAW_SEL (R427). -/
  | rawSel (m : Nat) (v : Word)
  /-- A write of word 3 of CNT_PRESET (R426). -/
  | cntPreset (m : Nat) (v : Word)
  /-- A write of ATTIC_CFG with ENA 1 (R450). -/
  | atticEnable (m : Nat) (v : Word)
  /-- A write of ATTIC_CFG with ENA 0 (R450). -/
  | atticDisable (m : Nat) (v : Word)
  /-- The ADOPT command (R451). -/
  | adopt (m : Nat)
  /-- The SMART_NOW command (R437). -/
  | smartNow (m : Nat)
  /-- The SMART/health log is read (R437): Get Log Page is issued (no words), or brings its four words. -/
  | smartPoll (ws : List Word)
  /-- The adoption steps end (R451). -/
  | adoptionEnd (o : DriveObs)
  /-- MC1 builds a second frame (R449). -/
  | atticFrameBuild
  /-- A frame is not started within 1 s of its commit (R449). -/
  | atticFrameDrop
  /-- The command at place `i` of the I/O queue completes (R448). -/
  | nvmeCommandComplete (i : Nat) (ok : Bool)
  /-- The oldest Flush completes (R448). -/
  | nvmeFlushComplete
  /-- The drive is lost (R450). -/
  | atticLoss (cause : LossCause)
  /-- A write of 1 to CNT_CLR (R455). -/
  | atticCntClr (m : Nat)
  /-- A selection tick of 1 ms (R463 to R474, R478). -/
  | hearthTick (o : DpllObs) (a b : XrefObs)
  /-- A write of REF_CFG with ENA 1 (R463, R482). -/
  | refEnable (m r : Nat) (v : Word)
  /-- A write of REF_CFG with ENA 0 (R463, R482). -/
  | refDisable (m r : Nat) (v : Word)
  /-- A posted REF_CFG write is judged in the Hearth domain (R482). -/
  | refCfgDomainJudge
  /-- The WTR of a reference elapses (R463). -/
  | refWtrExpiry (r : Nat)
  /-- 100 ms within LOCK_BOUND or 1 s in SWITCH (R467). -/
  | hearthSwitchSettle
  /-- 10 s within LOCK_BOUND (R469). -/
  | dpllLock
  /-- HO_TIME exceeds HOLDOVER_LIMIT (R469). -/
  | holdoverLimitExpiry
  /-- A write of HEARTH_CFG with MODE AUTO (R465). -/
  | hearthAuto (m : Nat) (v : Word)
  /-- A write of HEARTH_CFG with MODE MANUAL (R465). -/
  | hearthManual (m : Nat) (v : Word)
  /-- A write of HEARTH_CFG with MODE FORCED_HOLDOVER (R465). -/
  | forcedHoldover (m : Nat) (v : Word)
  /-- A write of HEARTH_CFG with MODE FREE_RUN (R465, R469). -/
  | freeRun (m : Nat) (v : Word)
  /-- A write of PHASE_STEP (R474). -/
  | phaseStep (m : Nat) (v : Word)
  /-- PHASE_REMAIN reaches 0 (R474). -/
  | stepDone
  /-- A write of 1 to CNT_CLR (R479). -/
  | hearthCntClr (m : Nat)
  /-- Phase samples of a slot enter its filter chain (R483 to R495). -/
  | filterOutput (r : Nat) (xs : List Int)
  /-- A FILT_CMD RESTART bit (R491). -/
  | filterRestart (m r : Nat)
  /-- A FILT_CMD FADE bit (R496, R497). -/
  | filterFade (m p : Nat)
  /-- A PPS rising edge of a domain: high time in ns, Hearth clocks since the last one (R510). -/
  | ppsEdge (x width since : Nat)
  /-- A time message, whether its bytes kept together, and the ms since the PPS edge (R511). -/
  | todMessage (x : Nat) (bytes : List Byte) (gapOk : Bool) (after : Nat)
  /-- 2,500 ms without an accepted edge (R512). -/
  | domainLost (x : Nat)
  /-- A write of DOM_CFG with ENA 1 (R512). -/
  | domainEnable (m x : Nat) (v : Word)
  /-- A write of DOM_CFG with ENA 0 (R512). -/
  | domainDisable (m x : Nat) (v : Word)
  /-- A write of TOD_CFG that may change the active domain (R516). -/
  | todDomainSelect (m : Nat) (v : Word)
  /-- A write of word 3 of TOD_SET (R514). -/
  | todSet (m : Nat) (v : Word)
  /-- A write of TP_CFG, or of word 3 of TP_TIME, of a pulse output (R518). -/
  | tpArm (m r : Nat) (cfg : Bool) (v : Word)
  /-- The counter reaches a pulse's due time (R517). -/
  | tpPulseDue (r : Nat)
  /-- TP_WIDTH has elapsed (R517). -/
  | tpPulseEnd (r : Nat)
  /-- A write of 1 to CNT_CLR (R521). -/
  | todCntClr (m : Nat)
  /-- A management cycle begins: the IDLE messages heard in the last one, and the slices without a digest (R531, R537, R541 to R543). -/
  | managementCycleBoundary (idles held : Nat)
  /-- A LEASE arrives (R530, R531, R536). -/
  | leaseReceived (num time : Nat) (side : Bool) (cycle : Nat) (inBound : Bool)
  /-- A LEASE_ACK arrives (R531, R532). -/
  | leaseAckReceived (num : Nat) (fit side : Bool)
  /-- A RELEASE arrives (R530). -/
  | releaseReceived
  /-- A MIRROR_DELTA arrives (R528, R538). -/
  | mirrorDeltaReceived (seq cycle : Nat) (last : Bool) (recs : List MirRec)
  /-- A PM_SNAP arrives (R541). -/
  | pmSnapReceived (seq : Nat) (last : Bool) (off : Nat) (data : List Word)
  /-- A BULK_REQ arrives (R545). -/
  | bulkReqReceived
  /-- A BULK_DATA arrives (R546). -/
  | bulkDataReceived (seq cycle off : Nat) (data : List Word) (recs : List MirRec)
  /-- A BULK_END arrives (R546). -/
  | bulkEndReceived (len : Nat) (crc : Word)
  /-- A DIGEST arrives (R543). -/
  | digestReceived (cycle mask : Nat) (sums : List Word)
  /-- An ATTEST_REQ arrives (R643, R644). -/
  | attestReqReceived (id nonceLen : Nat) (nonce : List Byte)
  /-- An ATTEST_RSP arrives (R645). -/
  | attestRspReceived (id status : Nat) (report : List Byte)
  /-- A message with a bad TYPE, LENGTH or CRC (R527). -/
  | pwBadMessage (msg : List Byte)
  /-- 100 us without sending (R525). -/
  | pwIdleSend
  /-- 1 ms without a valid message (R525). -/
  | pwLinkDown
  /-- No LEASE for LEASE_TIME (R530). -/
  | leaseExpiry
  /-- The guard of 2 ms passes (R530). -/
  | guardExpiry
  /-- An established lease is unacknowledged for LEASE_TIME (R530, R532). -/
  | leaseUnacked
  /-- ACT_IN takes a filtered level (R524, R530). -/
  | actInChange (low : Bool)
  /-- MATE_PRESENT_IN takes a filtered level (R524). -/
  | matePresentChange (low : Bool)
  /-- Every lane of a stopping device is in electrical idle (R534). -/
  | pwStopComplete
  /-- The HANDOVER command (R548). -/
  | handover (m : Nat)
  /-- The RESYNC command (R550). -/
  | resync (m : Nat)
  /-- A write of 1 to CNT_CLR (R550). -/
  | pwCntClr (m : Nat)
  /-- An IDLE arrives (R525). -/
  | idleReceived
  /-- ACT_IN has stayed low for more than 2 ms while side A acts (R549). -/
  | dualActDetected
  /-- An evaluation slot: the reports, the live sources whose condition ended, a temperature reading, voltages (R556 to R572). -/
  | faultSourceEvent (reps : List FaultRep) (ended : List Nat) (temp : Option Int) (volts : List (Nat × Nat))
  /-- A source's counting window ends (R556). -/
  | faultWindowExpiry (i : Nat)
  /-- A reaction's cooldown ends (R558). -/
  | cooldownEnd (i : Nat)
  /-- A consequence mask's MASK_MS elapses (R564). -/
  | maskEnd
  /-- ISOLATE_HOLD elapses (R560). -/
  | isolateHoldEnd
  /-- A management core's watchdog expires, `since` ms after its last service (R554). -/
  | wdogExpiry (core since : Nat)
  /-- A write of SRC_INJ (R566). -/
  | srcInj (m i : Nat) (v : Word)
  /-- The next injected event of a source (R566). -/
  | injectedEvent (i : Nat)
  /-- The SAFE_EXIT command (R562). -/
  | safeExit (m : Nat)
  /-- The LOG_CLEAR command (R571). -/
  | logClear (m : Nat)
  /-- The REARM command for the selected classes (R568). -/
  | fcRearm (m classes : Nat)
  /-- An indexed external input shows a value or a silence (R674, R675): `code` 1 for a value, 2 for a timeout. -/
  | inputConditionEnter (i code value : Nat)
  /-- The rails have had these voltages without a break for 1 ms and 10 ms more (R575, R577). -/
  | powerGood (mv : List Nat)
  /-- A rail has had a voltage for 10 us (R575, R578). -/
  | railFail (rail mv : Nat)
  /-- RST_N is low for at least 1 us (R580). -/
  | coldReset
  /-- Reset ends and the straps are sampled (R580 to R582, R586). -/
  | resetRelease (straps : Nat)
  /-- The 100 us warm reset hold ends (R583). -/
  | warmResetHoldEnd
  /-- SFDP and the boot directory have been read (R579, R586, R596). -/
  | flashDiscoveryDone (o : FlashObs)
  /-- The firmware slots have been read (R586, R587). -/
  | fwImageLoaded (a b : SlotObs)
  /-- Both management cores report started (R586). -/
  | coreStartReport
  /-- A core does not report within 1,000 ms (R586). -/
  | coreStartTimeout
  /-- The configuration slots have been verified (R586, R588, R590). -/
  | cfgImageVerified (a b : SlotObs)
  /-- The fallback configuration clear completes (R591). -/
  | cfgClearDone
  /-- A WR32 record (R600). -/
  | cfgWr32
  /-- A WRM32 record, whose read may meet an uncorrectable error (R32, R600). -/
  | cfgWrm32 (ecc : Bool)
  /-- A WR128 record (R600). -/
  | cfgWr128
  /-- A FILL record (R600). -/
  | cfgFill
  /-- A BLOCK record (R600). -/
  | cfgBlock
  /-- A POLL record reads its word, which may meet an uncorrectable error (R32, R600). -/
  | cfgPoll (ecc : Bool)
  /-- A POLL timeout elapses (R602). -/
  | pollTimeout
  /-- A DELAY record starts its wait (R600). -/
  | cfgDelay
  /-- A DELAY record's wait ends (R600). -/
  | delayElapsed
  /-- A COMMIT_CFG record (R600). -/
  | commitCfg
  /-- COMMITTED is not 1 within 100 ms (R602). -/
  | commitCfgTimeout
  /-- A LOCK record (R600). -/
  | cfgLock
  /-- An END record, with the image as the apply pass read it (R602, R603). -/
  | cfgEnd (o : SlotObs)
  /-- The ERASE command (R606). -/
  | flashErase (m target : Nat)
  /-- The PROGRAM command (R606). -/
  | flashProgram (m target : Nat)
  /-- The READ command (R606). -/
  | flashRead (m target : Nat)
  /-- The VERIFY command (R606). -/
  | flashVerify (m target : Nat)
  /-- The DIR_WRITE command (R606). -/
  | dirWrite (m : Nat)
  /-- A flash step finishes (R607). -/
  | flashStepDone (o : StepObs)
  /-- The flash does not finish a step in time (R607). -/
  | flashStepTimeout
  /-- A byte write to the flash window (R53, R608). -/
  | flashWinWrite (m off : Nat) (b : Byte)
  /-- The ENROLL command (R604). -/
  | enroll (m : Nat)
  /-- Owner key programming ends (R604). -/
  | enrollDone
  /-- The lanes gain or lose code-group synchronisation (R614). -/
  | porchLaneSync (s0 s1 : Bool)
  /-- An alignment marker is received, with its skew in UI (R613, R614). -/
  | porchAlignMarker (skew : Nat)
  /-- 1 ms without a valid frame (R614). -/
  | porchLinkTimeout
  /-- A KEEPALIVE is sent, with the latest acknowledgement (R615, R619). -/
  | porchKeepaliveSend
  /-- A frame with a bad CRC, FTYPE or length (R617). -/
  | porchInvalidFrame (frame : List Byte)
  /-- An ACK frame arrives (R619). -/
  | porchAckReceived (ack : Option Nat)
  /-- A NAK frame arrives (R619). -/
  | porchNakReceived (ack : Option Nat)
  /-- A KEEPALIVE frame arrives (R614, R619). -/
  | porchKeepaliveReceived (ack : Option Nat)
  /-- An ACK is sent (R619). -/
  | porchAckSend
  /-- The oldest unacknowledged frame has waited 20 us (R614, R619). -/
  | porchReplayTimeout
  /-- A READ transaction; `ecc` lists the words that met an uncorrectable error (R32, R623). -/
  | porchRead (h : PHead) (a bytes be : Nat) (ecc : List Nat)
  /-- A WRITE transaction (R623). -/
  | porchWrite (h : PHead) (a be : Nat) (data : List Word)
  /-- An RMW transaction: the mask and the value; its read may meet an uncorrectable error (R32, R623). -/
  | porchRmw (h : PHead) (a : Nat) (data : List Word) (ecc : Bool)
  /-- A WRITE_BULK transaction: address and value pairs (R624). -/
  | writeBulk (h : PHead) (data : List Word)
  /-- A host OH_STREAM frame for lane `n` (R628). -/
  | ohStream (h : PHead) (n : Nat) (bytes : List Byte)
  /-- An ATTIC_READ transaction (R629). -/
  | atticRead (h : PHead) (unit n : Nat)
  /-- MC0 has read the units from the drive; the first unit that failed (R629). -/
  | atticReadServed (data : List Byte) (bad : Option Nat)
  /-- An ATTEST transaction (R643). -/
  | attest (h : PHead) (nonceLen : Nat) (payload : List Byte)
  /-- MC0 has signed the report (R643). -/
  | attestReportReady
  /-- A request with an unknown TTYPE (R620). -/
  | porchBadTtype (h : PHead) (ttype : Nat)
  /-- A waiting SUMMARY EVENT is sent (R626). -/
  | eventSummarySend
  /-- MC0 sends a FOLLOW_UP EVENT (R626). -/
  | eventFollowUpSend
  /-- A write of PORCH_CFG (R614). -/
  | porchCfgWrite (m : Nat) (v : Word)
  /-- A write of 1 to CNT_CLR (R635). -/
  | porchCntClr (m : Nat)
  /-- An I2C write of 4 bytes; whether the transfer ends there (R633). -/
  | i2cPointerWrite (v : Nat) (stop : Bool)
  /-- An I2C write of 8 bytes (R634). -/
  | i2cWordWrite (a : Nat) (v : Word)
  /-- An I2C read of `n` words from the pointer (R633, R634). -/
  | i2cReadWords (n : Nat) (ecc : List Nat)
  /-- A 1-byte I2C read (R32, R633). -/
  | i2cStatusRead (ecc : Bool)
  /-- An I2C write of a wrong length (R633). -/
  | i2cBadLengthWrite
  /-- SCL has been low for over 35 ms (R634). -/
  | i2cSclTimeout (lowMs : Nat)
  /-- The EXTEND command (R638). -/
  | hostExtend (m : Nat)
  /-- The SWAP command (R646). -/
  | fwSwap (m : Nat)
  /-- The inactive firmware slot has been read (R647). -/
  | swapPrecheckDone (o : SlotObs)
  /-- The cores begin to quiesce (R647). -/
  | swapQuiesceStart
  /-- The cores have stopped (R647). -/
  | swapQuiesceDone
  /-- The new image has been read and checked (R647). -/
  | swapLoadDone (readOk : Bool) (o : SlotObs)
  /-- Both cores report within 10 ms (R647). -/
  | swapStartReport
  /-- A core does not report within 10 ms (R647). -/
  | swapStartTimeout
  /-- A GO to MATE_ATTEST_CMD (R645). -/
  | mateAttestGo (m nonceLen : Nat)
  /-- No ATTEST_RSP within 100 ms (R645). -/
  | mateAttestTimeout
  /-- A write of 1 to SLOT_SNAP (R658). -/
  | slotSnap (m sl : Nat)
  /-- The SLOT_SNAP_ALL command (R658). -/
  | slotSnapAll (m : Nat)
  /-- The POP command (R661). -/
  | tracerPop (m : Nat)
  /-- The HIST_CLR command (R662). -/
  | histClr (m : Nat)
  /-- A write of TRC_CFG with ENA 1 (R659). -/
  | tracerEnable (m : Nat) (v : Word)
  /-- A write of TRC_CFG with ENA 0 (R663). -/
  | tracerDisable (m : Nat) (v : Word)
  /-- A tag reaches egress or is dropped in the path (R661). -/
  | tagEnd (o : TagObs)
  /-- A tag without S5 after 2^26 clocks (R660). -/
  | tagTimeout (o : TagObs)
  /-- A write of 1 to CNT_CLR (R666). -/
  | tracerCntClr (m : Nat)
  /-- TRST_N is low (R680). -/
  | tapReset
  /-- EXTEST with the boundary register's cells (R681, R682). -/
  | extest (cells : List Bool)
  /-- IDCODE (R680). -/
  | idcodeLoad
  /-- SAMPLE/PRELOAD with the cells sampled or preloaded (R680, R681). -/
  | samplePreload (cells : List Bool)
  /-- HIGHZ (R682). -/
  | highz
  /-- CLAMP (R682). -/
  | clamp
  /-- EXTEST_PULSE with the boundary register's cells (R682). -/
  | extestPulse (cells : List Bool)
  /-- EXTEST_TRAIN with the boundary register's cells (R682). -/
  | extestTrain (cells : List Bool)
  /-- BYPASS, or an undefined value of the instruction register (R680). -/
  | tapBypass (ir : Nat)
  deriving DecidableEq, Repr

end Sys2Proof
end

