-- ==== Sys2Proof/Machine/Bits.lean ====
section
/-! DEFINITION. Bit-field, sign and byte helpers over register words and plain numbers. -/

namespace Sys2Proof.Machine
open Sys2Proof

/-- The field of `w` bits at `lo` of a word, as a number. -/
def fld (x : Word) (lo w : Nat) : Nat := x.toNat >>> lo % 2 ^ w

/-- A number as a word. -/
def wd (n : Nat) : Word := BitVec.ofNat 32 n

/-- The word with the field of `w` bits at `lo` replaced by `v`. -/
def setFld (x : Word) (lo w v : Nat) : Word :=
  wd (x.toNat - (x.toNat >>> lo % 2 ^ w) * 2 ^ lo + (v % 2 ^ w) * 2 ^ lo)

/-- Bit `i` of a word. -/
def bitAt (x : Word) (i : Nat) : Bool := fld x i 1 == 1

/-- A Bool as a bit. -/
def b2n (b : Bool) : Nat := if b then 1 else 0

/-- The signed value of the low `w` bits. -/
def signed (w n : Nat) : Int := if n % 2 ^ w < 2 ^ (w - 1) then (n % 2 ^ w : Nat) else ((n % 2 ^ w : Nat) : Int) - 2 ^ w

/-- The two's complement of an integer in `w` bits.
PRESUMED, log entry 43. -/
def unsigned (w : Nat) (i : Int) : Nat := (i % (2 ^ w : Nat)).toNat

/-- Addition that stops at `2 ^ w - 1`. -/
def satAdd (w a b : Nat) : Nat := min (a + b) (2 ^ w - 1)

/-- The big-endian bytes of a word. -/
def wordBytes (x : Word) : List Byte :=
  [BitVec.ofNat 8 (x.toNat / 0x1000000), BitVec.ofNat 8 (x.toNat / 0x10000), BitVec.ofNat 8 (x.toNat / 0x100),
   BitVec.ofNat 8 x.toNat]

/-- The number a big-endian byte string spells. -/
def bytesNat (l : List Byte) : Nat := l.foldl (fun a b => a * 256 + b.toNat) 0

/-- `n` big-endian bytes of a number. -/
def natBytes (n v : Nat) : List Byte := (List.range n).map (fun i => BitVec.ofNat 8 (v / 256 ^ (n - 1 - i)))

/-- The little-endian bytes of a word (R291). -/
def wordBytesLE (x : Word) : List Byte := (wordBytes x).reverse

/-- A byte string cut into big-endian words, zero padded at the end. -/
def bytesWords : List Byte → List Word
  | [] => []
  | [a] => [wd (bytesNat [a, 0, 0, 0])]
  | [a, b] => [wd (bytesNat [a, b, 0, 0])]
  | [a, b, c] => [wd (bytesNat [a, b, c, 0])]
  | a :: b :: c :: d :: t => wd (bytesNat [a, b, c, d]) :: bytesWords t

/-- One step of a reflected 32-bit CRC over a byte. -/
def crcByte (poly : Nat) (crc : Nat) (b : Byte) : Nat :=
  (List.range 8).foldl (fun c _ => if c % 2 = 1 then (c / 2) ^^^ poly else c / 2) (crc ^^^ b.toNat)

/-- CRC-32C (R291): reflected polynomial 0x82F63B78, initial value and final XOR 0xFFFF_FFFF. -/
def crc32c (l : List Byte) : Nat := (l.foldl (crcByte 0x82F63B78) 0xFFFFFFFF) ^^^ 0xFFFFFFFF

/-- CRC-32 (R616): reflected polynomial 0xEDB88320, which is 0x04C1_1DB7, initial value and final XOR 0xFFFF_FFFF. -/
def crc32 (l : List Byte) : Nat := (l.foldl (crcByte 0xEDB88320) 0xFFFFFFFF) ^^^ 0xFFFFFFFF

/-- CRC-16 of the time message (R509): polynomial 0x1021, initial value 0xFFFF, not reflected, no final XOR. -/
def crc16 (l : List Byte) : Nat :=
  l.foldl (fun c b => (List.range 8).foldl
    (fun c _ => if c ≥ 0x8000 then (c * 2 % 0x10000) ^^^ 0x1021 else c * 2) (c ^^^ (b.toNat * 256))) 0xFFFF

/-- Inserts into a rising list without repeats. -/
def insRising (n : Nat) : List Nat → List Nat
  | [] => [n]
  | k :: t => if n < k then n :: k :: t else if n = k then k :: t else k :: insRising n t

/-- The rising list of the members of a list, without repeats. -/
def toRising (l : List Nat) : List Nat := l.foldr insRising []

end Sys2Proof.Machine
end

