-- ==== Sys2Proof/Config.lean ====
section
/-! DEFINITION. What one device fixes and what the spec leaves free: opaque constants, no proof can see their values. -/

namespace Sys2Proof

/-- The grade of the device (R11): true for KRS-6440-XE, false for KRS-6440-CE. Not fixed by the spec.
DESIGN CHOICE, log entry 2. -/
opaque Config.gradeXE : Bool

/-- SERIAL_LO of the device (R91: per device).
DESIGN CHOICE, log entry 2. -/
opaque Config.serialLo : Word

/-- SERIAL_HI of the device (R91: per device).
DESIGN CHOICE, log entry 2. -/
opaque Config.serialHi : Word

/-- Word `n` of DEVICE_KEY, the public identity key (R654: per device).
DESIGN CHOICE, log entry 2. -/
opaque Config.deviceKey : Nat → Word

/-- A fresh value the spec leaves open, drawn with the counter `Device.fresh`.
DESIGN CHOICE, log entry 2. -/
opaque Config.freeValue : Nat → Word

/-- SHA-384 of a byte string (R598, R639; FIPS 180-4 is outside the spec): its 12 words.
DESIGN CHOICE, log entry 2. -/
opaque Config.sha384 : List Byte → List Word

/-- ECDSA P-384 verification of a signature under a key (R599; FIPS 186 is outside the spec).
DESIGN CHOICE, log entry 2. -/
opaque Config.ecdsaOk : (key msg sig : List Byte) → Bool

/-- ECDSA P-384 signature by the device identity key (R642).
DESIGN CHOICE, log entry 2. -/
opaque Config.deviceSign : List Byte → List Byte

/-- The vendor key digest held in ROM (R586): 12 words, not given by the spec.
DESIGN CHOICE, log entry 2. -/
opaque Config.vendorKeyDigest : List Word

/-- The SHA-384 digest of the boot ROM's own code (R586): 12 words, not given by the spec.
DESIGN CHOICE, log entry 2. -/
opaque Config.romDigest : List Word

/-- The CRC-7 of a 16-byte trace (R232, ITU-T G.707 is outside the spec).
DESIGN CHOICE, log entry 2. -/
opaque Config.traceCrc7 : List Byte → BitVec 7

/-- The kind of bit `n` of a VC-3 to an E3 mapped into it: 1 information, 2 and 3 control bits C1 and C2, 4 and 5 opportunities S1 and
S2, anything else stuff or overhead (R244, ITU-T G.707 is outside the spec).
PRESUMED, log entry 87. -/
opaque Config.e3Map : Nat → Nat

/-- How the 18 word slots of a slice point in an HK period fall among CARRIED, OVERHEAD and BLOCKED_BACK, drawn with the free
counter; the rest is STARVED_FRONT.
DESIGN CHOICE, log entry 58. -/
opaque Config.slotSplit : Nat → Nat → Nat

/-- START of a bin whose interval begins before second 0 of the time of day (R420, R431): not fixed by the spec.
DESIGN CHOICE, log entry 2. -/
opaque Config.earlyStart : Nat → Nat

end Sys2Proof
end

