-- ==== Sys2Proof/Machine/RegMap.lean ====
section
/-! DEFINITION. The frozen register map (R40) and, register by register, the access code, reset value, defined bits,
field ranges and coverage the chapters' register tables give. -/

namespace Sys2Proof.Machine
open Sys2Proof

/-- The access codes of R46, and the block lock word of R43 and R75. -/
inductive Acc | ro | rw | rwl | w1c | wo | wos | rs | lock
  deriving DecidableEq, Repr

/-- The blocks and windows of R40. -/
inductive Blk
  | global | fault | pantry | porch | measure | hearth | tod | partywall | attic | cellar | tracer | landing | hall
  | pm | lane | slice | ho | tc | pmStore | page | trace | sel
  deriving DecidableEq, Repr

/-- A field of `w` bits at `lo` whose value must lie in one of the closed intervals `ok` (R57). -/
structure Chk where
  lo : Nat
  w : Nat
  ok : List (Nat × Nat)
  deriving DecidableEq, Repr

/-- One row of a register table: `count` entries of `size` bytes, `stride` apart, from `base`. -/
structure RegRow where
  base : Nat
  acc : Acc
  reset : Nat := 0
  bits : Nat := 0xFFFFFFFF
  chks : List Chk := []
  size : Nat := 4
  stride : Nat := 0
  count : Nat := 1
  cov : Bool := true
  wide : Bool := false
  byteW : Bool := false
  roBits : Nat := 0
  deriving DecidableEq, Repr

/-- Whether the row holds the word at offset `o`. -/
def RegRow.has (r : RegRow) (o : Nat) : Bool :=
  if o < r.base then false
  else if r.stride = 0 then decide (o - r.base < r.size)
  else decide ((o - r.base) / r.stride < r.count) && decide ((o - r.base) % r.stride < r.size)

/-- Whether a written value sets a reserved bit (R41). -/
def RegRow.reserved (r : RegRow) (v : Nat) : Bool := decide (v &&& (0xFFFFFFFF - r.bits % 0x100000000) ≠ 0)

/-- Whether a written value meets the defined bits and the field ranges (R41, R57).
DEDUCED, log entry 16; DEDUCED, log entry 69. -/
def RegRow.legal (r : RegRow) (v : Nat) : Bool :=
  !r.reserved v &&
  r.chks.all (fun c => c.ok.any (fun i => decide (i.1 ≤ v >>> c.lo % 2 ^ c.w) && decide (v >>> c.lo % 2 ^ c.w ≤ i.2)))

/-- A place in the map: the block or window, its index and the byte offset inside it. -/
structure Loc where
  blk : Blk
  idx : Nat
  off : Nat
  deriving DecidableEq, Repr

/-- The block of a 64 KiB block number below 0x0E (R40). -/
def globalBlk : Nat → Option Blk
  | 0 => some .global | 1 => some .fault | 2 => some .pantry | 3 => some .porch | 4 => some .measure
  | 5 => some .hearth | 6 => some .tod | 7 => some .partywall | 8 => some .attic | 9 => some .cellar
  | 10 => some .tracer | 11 => some .landing | 12 => some .hall | 13 => some .pm | _ => none

/-- Where an address lies (R40); none for an address the map does not assign. -/
def locOf (a : Nat) : Option Loc :=
  if a < 0x000E0000 then (globalBlk (a / 0x10000)).map (fun b => ⟨b, 0, a % 0x10000⟩)
  else if a < 0x00100000 then none
  else if a < 0x00500000 then some ⟨.lane, (a - 0x00100000) / 0x10000, a % 0x10000⟩
  else if a < 0x00800000 then none
  else if a < 0x00900000 then some ⟨.slice, (a - 0x00800000) / 0x10000, a % 0x10000⟩
  else if a < 0x01000000 then none
  else if a < 0x01300000 then some ⟨.ho, (a - 0x01000000) / 0x100, a % 0x100⟩
  else if a < 0x02000000 then none
  else if a < 0x03000000 then some ⟨.tc, (a - 0x02000000) / 0x40, a % 0x40⟩
  else if a < 0x04000000 then some ⟨.pmStore, 0, a - 0x03000000⟩
  else if a < 0x0410C000 then some ⟨.page, 0, a - 0x04000000⟩
  else if a < 0x04200000 then none
  else if a < 0x0430C000 then some ⟨.page, 1, a - 0x04200000⟩
  else if a < 0x05000000 then none
  else if a < 0x06000000 then some ⟨.trace, 0, a - 0x05000000⟩
  else if a < 0x06430000 then some ⟨.sel, (a - 0x06000000) / 0x20, a % 0x20⟩
  else none

/-! The register tables. -/

/-- A read-only row (R46). -/
def ro (base : Nat) (reset : Nat := 0) (size : Nat := 4) : RegRow :=
  { base := base, acc := .ro, reset := reset, size := size, cov := false }
/-- A read-write row (R46). -/
def rw (base bits : Nat) (reset : Nat := 0) (chks : List Chk := []) (size : Nat := 4) : RegRow :=
  { base := base, acc := .rw, reset := reset, bits := bits, chks := chks, size := size }
/-- A lockable read-write row (R46). -/
def rwl (base bits : Nat) (reset : Nat := 0) (chks : List Chk := []) (size : Nat := 4) : RegRow :=
  { base := base, acc := .rwl, reset := reset, bits := bits, chks := chks, size := size }
/-- A write-1-to-clear row (R46). -/
def w1c (base bits : Nat) : RegRow := { base := base, acc := .w1c, bits := bits, cov := false }
/-- A command row (R46). -/
def wo (base bits : Nat) (chks : List Chk := []) (size : Nat := 4) : RegRow :=
  { base := base, acc := .wo, bits := bits, chks := chks, size := size, cov := false }
/-- A snapshot row of 16-byte registers (R46, R59). -/
def rs (base : Nat) (size : Nat := 16) : RegRow :=
  { base := base, acc := .rs, size := size, cov := false, wide := true }
/-- The row repeated `count` times, `stride` bytes apart. -/
def RegRow.each (r : RegRow) (stride count : Nat) : RegRow := { r with stride := stride, count := count }
/-- The row left out of covered configuration (R76). -/
def RegRow.uncovered (r : RegRow) : RegRow := { r with cov := false }

/-- The block header of R42 with its BLOCK_ID, BLOCK_CAPS and BLOCK_LOCK (R43). -/
def header (id caps : Nat) : List RegRow :=
  [ro 0x0 id, ro 0x4 0x00010000, ro 0x8 caps, { base := 0xC, acc := .lock, bits := 0x301, cov := false }]

/-- The GLOBAL block (R91) and its operation records (R87). -/
def globalRows : List RegRow := header 0x64400000 0 ++ [
  ro 0x10, ro 0x14, ro 0x18, ro 0x1C, wo 0x20 0xFFFFFFFF, ro 0x24 1, wo 0x30 0x1, rw 0x34 0xFFF 0xA [⟨0, 12, [(1, 3600)]⟩],
  ro 0x38, ro 0x3C, ro 0x40, ro 0x44, ro 0x50, w1c 0x54 0x7F, rw 0x58 0x7F,
  ro 0x60, ro 0x64, ro 0x68, ro 0x6C, rw 0x70 0x33FFF, rw 0x74 0x33FFF,
  ro 0x80 0 32, wo 0xA0 0x1, ro 0xA4, ro 0xA8, ro 0xB0, ro 0xB4, ro 0xC0, ro 0x100, ro 0x104 1,
  (ro 0x400 0 16).each 0x40 16, (ro 0x410 0xFFFFFFFF).each 0x40 16, (ro 0x414).each 0x40 16,
  (rs 0x420).each 0x40 16]

/-- A Fault Collector source index the table of R552 names. -/
def srcNamed (i : Nat) : Bool :=
  decide (i ≤ 42) || (decide (128 ≤ i) && decide (i ≤ 321)) || (decide (448 ≤ i) && decide (i ≤ 459))
/-- The sources of class FATAL (R552): the firmware pool, TEMP_CRIT and VOLT_CRIT. -/
def srcFatal (i : Nat) : Bool := i == 18 || i == 40 || i == 42

/-- The FAULT block (R573). SRC_CFG values are judged by the Fault Collector itself (R574). -/
def faultRows : List RegRow := header 0x64400100 3 ++ [
  ro 0x10, w1c 0x14 0x7F, rw 0x18 0x7F, wo 0x1C 0x03FF0003,
  rwl 0x40 0xFFFFFFFF 0x00640064 [⟨0, 16, [(1, 60000)]⟩, ⟨16, 16, [(1, 65535)]⟩] 24,
  rwl 0x60 0x1FFFF 0x3E8 [⟨0, 17, [(100, 100000)]⟩], rwl 0x64 0x3FFF 0x1F4 [⟨0, 14, [(10, 10000)]⟩],
  rwl 0x68 0xFF 0x64, ro 0x6C, ro 0x70 1, ro 0x74, ro 0x78, ro 0x7C, ro 0x80,
  ro 0x100 0 0x40, ro 0x200 0 0x140, ro 0x800 0 0x800,
  (rwl 0x1000 0xFF0F 0x0A01 [⟨0, 3, [(0, 5)]⟩, ⟨8, 8, [(1, 255)]⟩]).each 0x10 512,
  (rwl 0x1004 0x3FFFFF 0x3E8 [⟨0, 22, [(1, 3600000)]⟩]).each 0x10 512,
  (ro 0x1008).each 0x10 512, (wo 0x100C 0xFFFF [⟨0, 8, [(1, 255)]⟩]).each 0x10 512,
  (ro 0x3000 0 16).each 0x10 512]

/-- The PANTRY block: boot registers (R594) and the registers of R609. -/
def pantryRows : List RegRow := header 0x64400200 3 ++ [
  ro 0x10, w1c 0x14 0x1F, rw 0x18 0x1F, ro 0x20, ro 0x24, ro 0x28, ro 0x2C, ro 0x30,
  ro 0x40, ro 0x44, ro 0x48, ro 0x50 0 16, ro 0x60 0 16, wo 0x80 0x77,
  (rw 0x84 0xFFFFFFFF).uncovered, (rw 0x88 0xFFFF 0 [⟨0, 16, [(0, 0), (4, 32768)]⟩]).uncovered, ro 0x8C, ro 0x90, w1c 0x94 0x7, (rw 0x98 0x7).uncovered,
  ro 0xA0, ro 0xA4, wo 0xB0 0xFF01, (rw 0xC0 0xFFFFFFFF 0 [] 0x30).uncovered, ro 0x100 0 0x30,
  { base := 0x8000, acc := .rw, size := 0x8000, cov := false, byteW := true }]

/-- The PORCH block (R635). -/
def porchRows : List RegRow := header 0x64400300 7 ++ [
  rw 0x10 0x11F, ro 0x14, w1c 0x18 0x7F, (rw 0x1C 0x7F).uncovered, ro 0x20 0 0x24, wo 0x44 0x1, rs 0x50,
  ro 0x60, ro 0x70, ro 0x74]

/-- The MEASURE block (R654). -/
def measureRows : List RegRow := header 0x64400400 3 ++ [
  ro 0x10, w1c 0x14 0x1F, (rw 0x18 0x1F).uncovered, ro 0x20, ro 0x24, ro 0x28, ro 0x2C, wo 0x30 0x1,
  (rw 0x40 0xFFFFFFFF 0 [] 0x30).uncovered, wo 0x80 0xFF01, ro 0x84, ro 0x88, wo 0x90 0x7F, ro 0x94,
  (rw 0xA0 0xFFFFFFFF 0 [] 0x20).uncovered, ro 0x100 0 0x60, ro 0x200 0 0xC0, ro 0x2C0 0 0x30,
  ro 0x1000 0 0x200, ro 0x8000 0 0x8000]

/-- The HEARTH block: selection (R479, R481) and filter chain (R501, R502). -/
def hearthRows : List RegRow := header 0x64400500 7 ++ [
  rw 0x10 0x1FF 0x110, ro 0x14, w1c 0x18 0x1FF, rw 0x1C 0x1FF,
  rw 0x20 0x3FFF 0x1F4 [⟨0, 14, [(10, 10000)]⟩],
  rw 0x24 0x00FF3FFF 0x003C05A0 [⟨0, 14, [(0, 10080)]⟩, ⟨16, 8, [(1, 240)]⟩],
  rw 0x28 0xFFF0 0xFBB0, rw 0x2C 0xFFFFFF 0x320A [⟨0, 8, [(1, 255)]⟩, ⟨8, 16, [(1, 65535)]⟩],
  rw 0x30 0xFF 0 [⟨0, 3, [(0, 4)]⟩, ⟨4, 3, [(0, 4)]⟩], rw 0x34 0x3FFF 0x32 [⟨0, 14, [(1, 10000)]⟩],
  wo 0x38 0xFFFFFFFF, ro 0x3C 0 0x2C, wo 0x68 0x1, rs 0x70,
  (rw 0x100 0x3FFF7F).each 0x40 8, (rw 0x104 0x3FF 0x12C [⟨0, 10, [(0, 720)]⟩]).each 0x40 8, (ro 0x108).each 0x40 8,
  (w1c 0x10C 0x3F).each 0x40 8, (rw 0x110 0x3F).each 0x40 8, (ro 0x114 0 12).each 0x40 8,
  wo 0x1000 0x7FF, ro 0x1004, w1c 0x1008 0x7, rw 0x100C 0x7,
  rw 0x1010 0x7FF 0x40 [⟨0, 11, [(1, 1024)]⟩] 12,
  (rw 0x1100 0xF 5 [⟨2, 2, [(0, 2)]⟩]).each 0x20 8,
  (rw 0x1104 0xFFFFFFFF 0x0FA011F8 [⟨0, 16, [(1, 65535)]⟩]).each 0x20 8,
  (rw 0x1108 0xFFFFFFFF 0x1F4023F0 [⟨0, 16, [(1, 65535)]⟩]).each 0x20 8,
  (rw 0x110C 0xFFFF0FFF 0x0014003C [⟨0, 12, [(1, 3600)]⟩, ⟨16, 16, [(1, 65535)]⟩]).each 0x20 8,
  (rs 0x1110).each 0x20 8, (rw 0x1400 0x3FFFF 0x800 [] 0x80).each 0x80 6]

/-- The TOD block (R521). -/
def todRows : List RegRow := header 0x64400600 3 ++ [
  rw 0x10 0x7 0x4, ro 0x14, w1c 0x18 0x1FF, rw 0x1C 0xF1FF,
  rw 0x20 0x3FFFFFFF 0xF4240 [⟨0, 30, [(1000, 1000000000)]⟩], rw 0x24 0x1FFFF 0x2710 [⟨0, 17, [(1, 100000)]⟩],
  rw 0x28 0xFFFFF 0x3E8 [⟨0, 20, [(0, 1000000)]⟩], rs 0x30,
  { base := 0x40, acc := .wo, size := 16, cov := false, wide := true }, rs 0x50, ro 0x60, ro 0x64, ro 0x68, wo 0x6C 0x1,
  (rw 0x100 0xFFFFFF01 0 [⟨8, 24, [(0, 1000000), (15777216, 16777215)]⟩]).uncovered.each 0x40 2, (ro 0x104).each 0x40 2, (rs 0x110).each 0x40 2, (rs 0x120).each 0x40 2,
  (ro 0x130 0 16).each 0x40 2,
  (rw 0x200 0x7 0 [⟨0, 2, [(0, 2)]⟩]).each 0x40 4, (rw 0x204 0x3FFFFFFF 0x64 [⟨0, 30, [(10, 999999999)]⟩]).each 0x40 4,
  (ro 0x208).each 0x40 4, (w1c 0x20C 0x3).each 0x40 4,
  { base := 0x210, acc := .rw, size := 16, stride := 0x40, count := 4, cov := false, wide := true },
  { base := 0x220, acc := .rw, size := 16, stride := 0x40, count := 4, cov := false, wide := true },
  (rs 0x230).each 0x40 4]

/-- The PARTYWALL block (R550). -/
def partywallRows : List RegRow := header 0x64400700 3 ++ [
  rw 0x10 0x17F 0x10A [⟨0, 7, [(4, 64)]⟩], ro 0x14, w1c 0x18 0xFFF, rw 0x1C 0xFFF, wo 0x20 0x3,
  rw 0x24 0xFFFFFF 0x3FFFF [⟨16, 8, [(1, 255)]⟩], rw 0x28 0x3FFFFF 0x3E8 [⟨0, 22, [(10, 3600000)]⟩],
  ro 0x30 0 0x3C, wo 0x6C 0x1, rs 0x70, rs 0x80]

/-- The ATTIC block (R455). -/
def atticRows : List RegRow := header 0x64400800 3 ++ [
  rw 0x10 0x7 0 [⟨1, 2, [(0, 2)]⟩], wo 0x14 0x3, ro 0x18 0x8, w1c 0x1C 0xFF, rw 0x24 0xFF,
  rs 0x30, rs 0x40, rs 0x50, ro 0x60 0 0x20, wo 0x80 0x1, ro 0x84]

/-- The CELLAR block (R399) and its rings (R402). -/
def cellarRows : List RegRow := header 0x64400900 7 ++ [
  ro 0x10, w1c 0x14 0xFF, rw 0x18 0xFF, wo 0x1C 0x1,
  rw 0x20 0x1F3FFF 0x403E8 [⟨0, 14, [(100, 10000)]⟩, ⟨16, 5, [(2, 16)]⟩],
  rw 0x24 0x7FFF 0x7530 [⟨0, 15, [(1000, 30000)]⟩], ro 0x30 0 0x18, ro 0x50 0 0x34, wo 0x84 0x1,
  { base := 0x90, acc := .wo, size := 16, cov := false, wide := true }, wo 0xA0 0x3FFFF, rs 0xB0,
  ro 0x100 0 0xC0,
  (rw 0x1000 0x03FF1FFF 0x00640000).each 0x10 256, (rw 0x1004 0x3FF).each 0x10 256, (ro 0x1008).each 0x10 256,
  (wo 0x100C 0x7).each 0x10 256]

/-- The TRACER block (R666). -/
def tracerRows : List RegRow := header 0x64400A00 1 ++ [
  rw 0x10 0xFFFF003F 0xFFFF0028 [⟨1, 5, [(10, 30)]⟩], ro 0x14 2, w1c 0x18 0xF, rw 0x1C 0xF, wo 0x20 0x7,
  rw 0x24 0x1FFFFFF 0xB5AD6B
    [⟨0, 5, [(0, 20)]⟩, ⟨5, 5, [(0, 20)]⟩, ⟨10, 5, [(0, 20)]⟩, ⟨15, 5, [(0, 20)]⟩, ⟨20, 5, [(0, 20)]⟩],
  ro 0x30 0 0x14, wo 0x44 0x1, ro 0x100 0 0x20, ro 0x1000 0 0x500]

/-- The LANDING global block (R369) and its MSP pairs (R370). -/
def landingRows : List RegRow := header 0x64400B00 7 ++ [
  ro 0x10, w1c 0x14 0x1F, rw 0x18 0x1F, ro 0x20 0 12, rw 0x30 0x1F, ro 0x34, wo 0x38 0x1, ro 0x3C, ro 0x40 0 0x14,
  wo 0x54 0x1, rw 0x58 0x3F, wo 0x100 0x7FFF, ro 0x108, ro 0x10C,
  (rw 0x1000 0x7FFFFF 0 [⟨16, 7, [(0, 100)]⟩]).each 0x20 32, (rw 0x1004 0x3FF 0 [⟨0, 10, [(0, 720)]⟩]).each 0x20 32,
  (wo 0x1008 0x7).each 0x20 32, (ro 0x100C 0 16).each 0x20 32, (w1c 0x101C 0x3F).each 0x20 32,
  wo 0x2000 0xFFFFFFFF [] 0x1000, ro 0x3000 0 0x80, ro 0x3100 0 0x200]

/-- The HALL control block (R301). -/
def hallRows : List RegRow := header 0x64400C00 3 ++ [
  ro 0x10, w1c 0x14 0x1F, rw 0x18 0x1F, ro 0x1C, rw 0x20 0x1F07 0x400 [⟨0, 2, [(0, 2)]⟩, ⟨8, 5, [(1, 16)]⟩],
  wo 0x24 0x3, rw 0x28 0xFFFFFFFF,
  { base := 0x30, acc := .rw, size := 16, wide := true }, rs 0x40, rs 0x50, ro 0x60 0 12, ro 0x70 0 0x14, wo 0x84 0x1]

/-- The PM control block (R430) with its threshold profiles (R432). -/
def pmRows : List RegRow := header 0x64400D00 3 ++ [
  ro 0x10, w1c 0x14 0x1FF, rw 0x18 0x1FF, rw 0x1C 0x1, rw 0x20 0x3FFFF 0 [⟨0, 18, [(0, 86399), (175745, 262143)]⟩],
  rs 0x30, ro 0x40 0 12, wo 0x50 0x7FFFF, wo 0x54 0x3FFFF,
  { base := 0x60, acc := .wo, size := 16, cov := false, wide := true }, ro 0x70, ro 0x74, ro 0x80, wo 0x84 0x1, ro 0x88,
  ro 0x8C,
  (rw 0x100 0xFFFFFFFF 0 [⟨0, 16, [(0, 1800)]⟩, ⟨16, 16, [(0, 1800)]⟩]).each 0x20 16,
  (rw 0x104 0xFFFF 0 [⟨0, 16, [(0, 1800)]⟩]).each 0x20 16, (rw 0x108 0xFFFFFFFF).each 0x20 16,
  (rw 0x10C 0x1FFFF 0 [⟨0, 17, [(0, 90000)]⟩] 12).each 0x20 16, (rw 0x118 0xFFFFFFFF).each 0x20 16,
  ro 0x300 0 0x100, rw 0x400 0xFFF 0 [] 0x100]

/-- The LANE block of lane `n` (R157, R158, R159, R328, R329). OH_SEL and LANE_CTL writes are judged further by the lane. -/
def laneRows (n : Nat) : List RegRow := header (0x64401000 + n) 0xF ++ [
  rw 0x10 0xFF1 0x30 [⟨4, 3, [(0, 4)]⟩], ro 0x14 0x12, w1c 0x18 0x1F, rw 0x1C 0x1F,
  rw 0x20 0xFFFF 0x14 [⟨0, 5, [(0, 30)]⟩, ⟨5, 5, [(0, 12)]⟩, ⟨10, 5, [(0, 24)]⟩],
  rw 0x24 0x7, rw 0x28 0xFFFF, rw 0x2C 0xFF 0xF, rw 0x30 0x1F, rw 0x60 0xFF007FFF 0 [] 0x30, rw 0x90 0x3, wo 0x94 0x1, ro 0x98,
  ro 0xA0 0 12, wo 0xAC 0x1, rw 0x100 0xFFFFFFFF 0 [] 0xC0, { ro 0x3000 0 0xD0 with byteW := true },
  { base := 0x3100, acc := .rw, size := 0xD0, byteW := true },
  ro 0x4000, ro 0x4004 0x0B000000, w1c 0x4008 0x7FFF, rw 0x400C 0x7FFF,
  rw 0x4010 0x7F7FF 0x45266 [⟨0, 4, [(1, 12)]⟩, ⟨4, 4, [(1, 12)]⟩, ⟨8, 3, [(1, 4)]⟩, ⟨12, 4, [(2, 8)]⟩,
    ⟨16, 3, [(2, 2), (4, 4), (6, 6)]⟩],
  ro 0x4014, rw 0x4018 0x7F 0x32 [⟨0, 7, [(3, 100)]⟩], rw 0x401C 0x3 0 [⟨0, 2, [(0, 2)]⟩], rw 0x4020 0xF7 0x3,
  ro 0x4024 0 16, rw 0x4040 0xFF3F 0x1B [⟨0, 6, [(20, 34)]⟩], wo 0x4044 0x7, ro 0x4048, ro 0x404C, rw 0x4050 0x3, ro 0x4054,
  rw 0x4058 0xFF3F, w1c 0x405C 0x0F3FFFFF, rw 0x4060 0x0F3FFFFF,
  rw 0x4100 0xFFFFFFFF 0 [] 0x40, ro 0x4140 0 0x40, rw 0x4180 0xFFFFFFFF 0 [] 0x40, ro 0x41C0 0 0x40,
  rw 0x4200 0xFFFFFFFF 0 [] 0x40, ro 0x4240 0 0x40, rs 0x4400 0x120]

/-- The SLICE block of slice `s` (R239, R271, R304, R330, R331, R665). -/
def sliceRows (s : Nat) : List RegRow := header (0x64402000 + s) 0 ++ [
  ro 0x400 0 12, rw 0x40C 0x1F07FF, ro 0x410, wo 0x414 0x1, ro 0x418 0 8, w1c 0x420 0x7, rw 0x424 0x7,
  wo 0x500 0x8003FFFF, rs 0x510, rw 0x520 0xFFFF 0x204 [⟨0, 8, [(1, 255)]⟩, ⟨8, 8, [(1, 255)]⟩], ro 0x524 0 8,
  w1c 0x52C 0x7, rw 0x530 0x7, ro 0x534 0 16, rw 0x600 0xFFFFF 0 [] 0x80, rs 0x1000 0x1000,
  ro 0x700 0 12, ro 0x70C (if s = 0 then 0x40300 else 0x300), ro 0x710 0 8,
  (rw 0x800 0x3F7 0x63 [⟨0, 3, [(3, 5)]⟩, ⟨4, 4, [(5, 9)]⟩]).each 0x10 16,
  (rw 0x804 0xFFFFFFFF 0x0064000A [⟨0, 16, [(1, 65535)]⟩, ⟨16, 16, [(1, 65535)]⟩]).each 0x10 16,
  (rw 0x808 0xFFFFFFFF 0x03E80064 [⟨0, 16, [(1, 65535)]⟩, ⟨16, 16, [(1, 65535)]⟩]).each 0x10 16,
  rw 0x900 0x3F3F, wo 0xA00 0x1, ro 0xA04, ro 0xA10 0 0x78]

/-- One high-order context of the window (R197 to R199). -/
def hoRows : List RegRow := [
  { base := 0x0, acc := .rw, reset := 0x80, bits := 0x00FF00FF, roBits := 0x00FF0080, chks := [⟨1, 3, [(0, 4)]⟩] },
  rw 0x4 0xFFF3F 0 [⟨0, 2, [(0, 2)]⟩], rw 0x8 0xFFFFFFFF, rw 0xC 0xFFFF, rw 0x10 0xFFFF 0 [⟨0, 13, [(0, 6143)]⟩],
  rw 0x14 0xF3, rw 0x18 0xFF01, ro 0x20, w1c 0x24 0xF0FFF, rw 0x28 0xF0FFF, ro 0x2C 0 16, rs 0x40 0x90]

/-- One tributary context of the TCT window (R204 to R211). -/
def tcRows : List RegRow := [
  rw 0x0 0x1FFFFFFF 0 [⟨1, 3, [(0, 3)]⟩, ⟨10, 8, [(0, 191)]⟩, ⟨18, 2, [(0, 2)]⟩, ⟨20, 3, [(0, 6)]⟩],
  rw 0x4 0xFFFFFFFF 0 [⟨0, 2, [(0, 2)]⟩, ⟨2, 2, [(0, 2)]⟩], rw 0x8 0x7F 0 [⟨0, 3, [(0, 4)]⟩],
  rw 0xC 0xFFFFF, rw 0x10 0xF3, rw 0x14 0xFF01, ro 0x20 0x20000, w1c 0x24 0x1F07FF, ro 0x28 0 8]

/-- The PM store window: point `i` at 0x20 × i (R429), the raw view at 0x00F0_0000 (R427). -/
def pmStoreRows : List RegRow := [
  (ro 0x0).each 0x20 274688, (rs 0x10).each 0x20 274688, rs 0xF00000 0x110]

/-- The two Hall pages (R276, R278): entry values are judged by the Hall (R280). -/
def pageRows : List RegRow := [rw 0x0 0xFFFFFFFF 0 [] 0x10C000]

/-- The trace store window (R200, R232). -/
def traceRows : List RegRow := [
  (rw 0x0 0xFFFFFFFF 0 [] 16).each 0x20 262144, (ro 0x10 0 16).each 0x20 262144,
  (rw 0x800000 0xFFFFFFFF 0 [] 64).each 0x80 12288, (ro 0x800040 0 64).each 0x80 12288,
  rw 0x980000 0xFFFFFFFF 0 [] 0x4000, rw 0x984000 0xFFFFFFFF 0 [] 0x1000]

/-- One Landing selector (R367). -/
def selRows : List RegRow := [
  rw 0x0 0x1FFFFF 0 [⟨4, 7, [(0, 100)]⟩, ⟨11, 10, [(0, 720)]⟩], wo 0x8 0x7, ro 0xC 0 12, w1c 0x18 0x1F, ro 0x1C]

/-- The register table of a place. -/
def rowsAt (l : Loc) : List RegRow :=
  match l.blk with
  | .global => globalRows | .fault => faultRows | .pantry => pantryRows | .porch => porchRows | .measure => measureRows
  | .hearth => hearthRows | .tod => todRows | .partywall => partywallRows | .attic => atticRows | .cellar => cellarRows
  | .tracer => tracerRows | .landing => landingRows | .hall => hallRows | .pm => pmRows
  | .lane => laneRows l.idx | .slice => sliceRows l.idx | .ho => hoRows | .tc => tcRows | .pmStore => pmStoreRows
  | .page => pageRows | .trace => traceRows | .sel => selRows

/-- A register of a reserved Fault Collector index reads zero (R552). -/
def faultReservedAt (l : Loc) : Bool :=
  decide (l.blk = .fault) &&
    ((decide (0x1000 ≤ l.off) && decide (l.off < 0x3000) && !srcNamed ((l.off - 0x1000) / 0x10)) ||
     (decide (0x3000 ≤ l.off) && decide (l.off < 0x5000) && !srcNamed ((l.off - 0x3000) / 0x10)))

/-- The row of the register that holds the word at address `a`; none at a reserved address. -/
def rowOf (a : Nat) : Option RegRow :=
  match locOf a with
  | none => none
  | some l => (rowsAt l).find? (·.has l.off)

/-- Reset values the register tables give per device or per source (R91, R552, R573, R654). -/
def specialReset (l : Loc) : Option Nat :=
  match l.blk with
  | .global =>
    if l.off = 0x10 then some (if Config.gradeXE then 0x6440B002 else 0x6440B001)
    else if l.off = 0x14 then some Config.serialLo.toNat
    else if l.off = 0x18 then some Config.serialHi.toNat else none
  | .fault =>
    if l.off = 0x68 then some (if Config.gradeXE then 0x69 else 0x64)
    else if faultReservedAt l then some 0
    else if decide (0x1000 ≤ l.off) && decide (l.off < 0x3000) && l.off % 0x10 == 0 && srcFatal ((l.off - 0x1000) / 0x10)
      then some 0xA04 else none
  | .measure =>
    if 0x100 ≤ l.off ∧ l.off < 0x160 then some (Config.deviceKey ((l.off - 0x100) / 4)).toNat else none
  | _ => none

/-- The word the address reads right after reset (zero where the map assigns nothing, R41).
DESIGN CHOICE, log entry 12. -/
def resetWord (a : Nat) : Word :=
  match locOf a with
  | none => 0
  | some l =>
    match specialReset l with
    | some v => BitVec.ofNat 32 v
    | none =>
      match (rowsAt l).find? (·.has l.off) with
      | none => 0
      | some r => BitVec.ofNat 32 r.reset

/-- The highest `k` heads of address windows: base addresses of blocks, windows and their entries. -/
def laneBase (n : Nat) : Nat := 0x00100000 + n * 0x10000
/-- Base of SLICE `s`. -/
def sliceBase (s : Nat) : Nat := 0x00800000 + s * 0x10000
/-- Base of high-order context `h`. -/
def hoBase (h : Nat) : Nat := 0x01000000 + h * 0x100
/-- Base of TCT entry `k`. -/
def tcBase (k : Nat) : Nat := 0x02000000 + k * 0x40
/-- Base of the selector with window index `i` (R367): the high-order window follows the low-order one. -/
def selBase (i : Nat) : Nat := 0x06000000 + i * 0x20
/-- Base of MSP pair `i`. -/
def mspBase (i : Nat) : Nat := 0x000B1000 + i * 0x20
/-- Base of Hearth reference slot `r`. -/
def refBase (r : Nat) : Nat := 0x00050100 + r * 0x40
/-- Base of filter slot `r`. -/
def filtBase (r : Nat) : Nat := 0x00051100 + r * 0x20
/-- Base of time domain `d`. -/
def domBase (d : Nat) : Nat := 0x00060100 + d * 0x40
/-- Base of time pulse output `r`. -/
def tpBase (r : Nat) : Nat := 0x00060200 + r * 0x40
/-- Base of capture ring `r`. -/
def ringBase (r : Nat) : Nat := 0x00091000 + r * 0x10
/-- Base of operation record `k`. -/
def oprecBase (k : Nat) : Nat := 0x00000400 + k * 0x40
/-- Base of Fault Collector source `i`. -/
def srcBase (i : Nat) : Nat := 0x00011000 + i * 0x10
/-- Base of the counters of Fault Collector source `i`. -/
def srcCntBase (i : Nat) : Nat := 0x00013000 + i * 0x10
/-- Base of PM point `i` in the PM store window. -/
def pmBase (i : Nat) : Nat := 0x03000000 + i * 0x20

/-- The slice of lane `n` (R13). -/
def sliceOfLane (n : Nat) : Nat := n / 4
/-- The lane of high-order context `h` (R17). -/
def laneOfHo (h : Nat) : Nat := h / 192

/-- The event words and their enable words that reach the interrupt summary (R90), by block. -/
def eventPairs (b : Blk) : List (Nat × Nat) :=
  match b with
  | .global => [(0x54, 0x58)] | .fault => [(0x14, 0x18)] | .pantry => [(0x14, 0x18), (0x94, 0x98)]
  | .porch => [(0x18, 0x1C)] | .measure => [(0x14, 0x18)] | .hearth => [(0x18, 0x1C), (0x1008, 0x100C)]
  | .tod => [(0x18, 0x1C)] | .partywall => [(0x18, 0x1C)] | .attic => [(0x1C, 0x24)] | .cellar => [(0x14, 0x18)]
  | .tracer => [(0x18, 0x1C)] | .landing => [(0x14, 0x18)] | .hall => [(0x14, 0x18)] | .pm => [(0x14, 0x18)]
  | .lane => [(0x18, 0x1C), (0x4008, 0x400C), (0x405C, 0x4060)] | .slice => [(0x420, 0x424), (0x52C, 0x530)]
  | .ho => [(0x24, 0x28)] | _ => []

end Sys2Proof.Machine
end

