-- ==== Sys2Proof/Machine/State.lean ====
section
/-! DEFINITION. The state of the KRS-6440 as plain data, its reset value, and the reasons a step can stop. -/

namespace Sys2Proof.Machine
open Sys2Proof

/-- The status codes of R50. -/
inductive Status
  | ok | unaligned | narrow | locked | range | timeout | busy | ecc | unsupported | abandoned | partly
  deriving DecidableEq, Repr

/-- The reading of the last access a master made: its status, the words returned and the first failing word. -/
structure Completion where
  status : Status := .ok
  words : List Word := []
  failIdx : Nat := 0xFFFF
  opId : Nat := 0
  deriving DecidableEq, Repr

/-- What a posted entry of a dual-clock queue does in its target domain (R68, R70). -/
inductive PostKind
  | word (v : Word)
  | wide (ws : List Word)
  | rmw (mask val : Word)
  deriving DecidableEq, Repr

/-- One entry of XQ_HK or XQ_PCIE (R73). -/
structure Posted where
  master : Nat
  addr : Nat
  dom : Domain
  kind : PostKind
  deriving DecidableEq, Repr

/-- A master's wide-write staging buffer (R60, R61): the register and the words staged so far, word 0 first. -/
structure Staging where
  base : Nat
  words : List Word
  deriving DecidableEq, Repr

/-- The register bridge (R58 to R73). Masters are numbered by R89. -/
structure Bus where
  /-- Per master: the four snapshot words last captured (R59). -/
  snaps : Tab (List Word) := []
  /-- Per master: the staged wide write (R61). -/
  stages : Tab (Option Staging) := []
  /-- Per master: the last completion answered. -/
  done : Tab Completion := []
  xqHk : List Posted := []
  xqPcie : List Posted := []
  /-- The target domains that have stopped (R72). -/
  stopped : List Domain := []
  deriving DecidableEq, Repr

/-- The configuration CRC engine (R76 to R82): a covered write in the pass in progress; a commit armed for the next
pass to begin, or for the pass in progress; the record of the pending commit. -/
structure CrcEngine where
  dirtyPass : Bool := false
  latchThis : Bool := false
  commitRec : Option Nat := none
  deriving DecidableEq, Repr

/-- A condition raised at a Fault Collector source and waiting for its evaluation slot (R556). -/
structure SrcReport where
  src : Nat
  addr : Nat := 0
  master : Nat := 7
  access : Nat := 3
  syndrome : Nat := 0
  real : Bool := true
  inj : Bool := false
  deriving DecidableEq, Repr

/-- The parts of the device a source, mask or ISOLATE covers (R552, R564). -/
inductive Scope | device | slice (s : Nat) | lane (n : Nat) | tc (k : Nat) | channel (c : Nat)
  deriving DecidableEq, Repr

/-- An open consequence mask (R564): its scope, the capture ID of the masking reaction, and when it ends. -/
structure FcMask where
  scope : Scope
  capture : Nat
  till : Nat
  deriving DecidableEq, Repr

/-- An injection in progress (R566): events left to inject, the gap in ms, and when the next is due. -/
structure Injection where
  src : Nat
  left : Nat
  gap : Nat
  due : Nat
  deriving DecidableEq, Repr

/-- State of the Fault Collector that no register holds. -/
structure FaultCol where
  /-- Reports waiting for the next evaluation slot. -/
  raised : List SrcReport := []
  /-- Reports that the evaluation slots after it find, one list for each slot (R556). -/
  later : List (List SrcReport) := []
  masks : List FcMask := []
  /-- Sources a real event of whose open window was counted (R567). -/
  realWin : List Nat := []
  /-- Sources an injected event of whose open window was counted (R567, R569). -/
  injWin : List Nat := []
  injections : List Injection := []
  /-- The rails outside 5 % and outside 10 % of nominal (R555). -/
  railWarn : List Nat := []
  railCrit : List Nat := []
  /-- The ISOLATE holds in progress and when they end (R560). -/
  holds : List (Scope × Nat) := []
  /-- When the counting windows and the cooldowns of the sources end (R556, R558). -/
  winEnd : Tab Nat := []
  coolEnd : Tab Nat := []
  safe : Bool := false
  /-- A WARM_RESET reaction whose mask opens when the reset ends (R564): its capture ID and MASK_MS. -/
  warmMask : Option (Nat × Nat) := none
  deriving DecidableEq, Repr

/-- One time domain (R510 to R516). -/
structure TodDom where
  /-- An edge of adequate width has been seen; an edge has been accepted (R510). -/
  seen : Bool := false
  acc : Bool := false
  /-- The accepted message that applies to the next edge: seconds, VALID, STEP_OK (R511). -/
  msg : Option (Nat × Bool × Bool) := none
  good : Nat := 0
  noMeas : Nat := 0
  lastSec : Nat := 0
  leapPending : Bool := false
  leapSign : Bool := false
  qclass : Nat := 15
  stepOk : Bool := false
  deriving DecidableEq, Repr

/-- One time pulse output (R517 to R519): when it is due next, and whether its pulse is running. -/
structure Tpulse where
  armed : Bool := false
  fired : Bool := false
  active : Bool := false
  /-- The due time of the next pulse, in nanoseconds of the counter. -/
  due : Nat := 0
  /-- Hearth clocks left of the running pulse. -/
  left : Nat := 0
  deriving DecidableEq, Repr

/-- The time-of-day counter (R504) and what its rules keep beside the TOD registers. -/
structure Tod where
  sec : Nat := 0
  ns : Nat := 0
  frac : Nat := 0
  epoch : Nat := 0
  valid : Bool := false
  /-- The remaining slew correction in nanoseconds, signed (R512, R513), in units of 2^-16 ns. -/
  slew : Int := 0
  /-- Parts of the advance and of the slew below 2^-16 ns, carried over. -/
  rem : Nat := 0
  slewRem : Nat := 0
  /-- Hearth clocks of the last step. -/
  stepAt : Option Nat := none
  /-- A newly active domain whose first measurement applies R513 (R516). -/
  domChanged : Bool := false
  doms : Tab TodDom := []
  pulses : Tab Tpulse := []
  deriving DecidableEq, Repr

/-- An acceptance run: the last value received and how many consecutive periods it has held. -/
structure Run where
  val : Nat := 0
  cnt : Nat := 0
  deriving DecidableEq, Repr

/-- SF or SD evaluation (R318): declared, the errored blocks of the window in progress, and whether a window is in progress: the
first begins at a pointer-period boundary. -/
structure SfSd where
  decl : Bool := false
  errs : Nat := 0
  on : Bool := false
  deriving DecidableEq, Repr

/-- A detector of R309 that counts consecutive frames against its present state. -/
structure DefRun where
  det : Bool := false
  cnt : Nat := 0
  deriving DecidableEq, Repr

/-- The framer states of R132. -/
inductive FrmState | hunt | presync | sync
  deriving DecidableEq, Repr

/-- A framing candidate (R126): its bit offset, the frame that created it, its consecutive verifications. -/
structure Cand where
  off : Nat
  made : Nat
  verifs : Nat
  deriving DecidableEq, Repr

/-- A frame hunter (R124 to R132): the SDH framer, the OTU2 framer. -/
structure Framer where
  st : FrmState := .hunt
  cands : List Cand := []
  lock : Nat := 0
  errRun : Nat := 0
  /-- Frames of the frame-length counter, which orders the creation of candidates. -/
  frame : Nat := 0
  deriving DecidableEq, Repr

/-- A trace acceptance (R118, R137, R181, R230): bytes of the period in progress, the last whole trace and its run. -/
structure TraceRx where
  buf : List Byte := []
  last : List Byte := []
  cnt : Nat := 0
  /-- A trace has been accepted since the lane or context last became enabled (R312). -/
  accepted : Bool := false
  /-- The expected trace in use, taken at the end of each trace period (R311). -/
  expct : List Byte := []
  deriving DecidableEq, Repr

/-- The shadow margin scan (R106 to R109): direction 0 left, 1 right, 2 up, 3 down, and passing steps so far. -/
structure Margin where
  dir : Nat := 0
  steps : Nat := 0
  /-- The passing steps of the directions finished. -/
  res : List Nat := []
  deriving DecidableEq, Repr

/-- A container in progress (R178, R223): the index of the next unit, whether it was followed from its beginning, its
bytes so far. -/
structure Demux where
  pos : Nat := 0
  whole : Bool := false
  buf : List Byte := []
  deriving DecidableEq, Repr

/-- The bytes a lane's receiver holds between frames (R111, R120, R121, R124, R134, R135, R117). -/
structure LaneRx where
  /-- The bytes of the last two counter frames of the STM-N, and of the OTU2, the newer first. -/
  back : List Byte := []
  back2 : List Byte := []
  otuBack : List Byte := []
  otuBack2 : List Byte := []
  /-- B1 and B2 of the last frame read in SYNC; BIP-8 of the last two OTU2 frames, the newer first. -/
  b1 : Option Byte := none
  b2 : Option (List Byte) := none
  bip : List Byte := []
  /-- The demapped STM-64 of an OTU2 lane not yet framed; the looped line not yet received (R111). -/
  client : List Byte := []
  loop : List Byte := []
  deriving DecidableEq, Repr

/-- The bytes a lane's transmitter holds between frames (R122, R123, R135). -/
structure LaneTx where
  b1 : Byte := 0
  b2 : List Byte := []
  /-- The STM-64 waiting for OTU2 frames, MFAS of the next, BIP-8 of the last two. -/
  map : List Byte := []
  mfas : Nat := 0
  bip : List Byte := []
  /-- What the line carried with the last transmit frame; empty in electrical idle. -/
  line : List Byte := []
  deriving DecidableEq, Repr

/-- The section overhead a lane transmitted in its last frame (R141, R142, R123). -/
structure TxOh where
  /-- Whether a frame was sent: an idle transmitter sends none. -/
  sent : Bool := false
  msAis : Bool := false
  j0 : Byte := 0
  k1 : Byte := 0
  k2 : Byte := 0
  s1 : Byte := 0
  m0 : Byte := 0
  m1 : Byte := 0
  invB1 : Bool := false
  invB2 : Bool := false
  relay : List Byte := []
  smTti : Byte := 0
  pmTti : Byte := 0
  smBei : Nat := 0
  pmBei : Nat := 0
  smBdi : Bool := false
  pmBdi : Bool := false
  smBiae : Bool := false
  iae : Bool := false
  stat : Nat := 0
  pt : Byte := 0
  jc : Nat := 0
  invSm : Bool := false
  fecZero : Bool := false
  deriving DecidableEq, Repr

/-- A transmit relay record in the queue: its frames still to send (R148 to R150). -/
abbrev TxRecord := List (List Byte)

/-- State of a lane that no register holds. -/
structure LaneSt where
  sdh : Framer := {}
  otu : Framer := {}
  /-- The receive side runs (R152, R153). -/
  rxOn : Bool := false
  /-- A drain is in progress (R153). -/
  draining : Bool := false
  /-- The transmitter sends frames; otherwise it is in electrical idle (R152, R156). -/
  txOn : Bool := false
  margin : Option Margin := none
  kRun : Run := {}
  kValid : Bool := false
  kNoAcc : Nat := 0
  s1Run : Run := {}
  s1Valid : Bool := false
  j0 : TraceRx := {}
  smTti : TraceRx := {}
  pmTti : TraceRx := {}
  /-- OTU2 multiframe: the expected MFAS, the out and in runs (R113). -/
  mfas : Nat := 0
  oomRun : Nat := 0
  imRun : Nat := 0
  /-- The detectors of R309. -/
  msAis : DefRun := {}
  msRdi : DefRun := {}
  smBdi : DefRun := {}
  smIae : DefRun := {}
  smBiae : DefRun := {}
  oduAis : DefRun := {}
  oduOci : DefRun := {}
  oduLck : DefRun := {}
  pmBdi : DefRun := {}
  rsTim : Bool := false
  smTim : Bool := false
  pmTim : Bool := false
  ptRun : Run := {}
  oduPlm : Bool := false
  msSf : SfSd := {}
  msSd : SfSd := {}
  smSf : SfSd := {}
  smSd : SfSd := {}
  /-- Errors of the last received frame to send back as MS-REI, SM BEI and PM BEI (R324). -/
  reiB2 : Nat := 0
  beiSm : Nat := 0
  beiPm : Nat := 0
  /-- The lane frame number (R151) and the transmitted frame number. -/
  rxFrame : Nat := 0
  txFrame : Nat := 0
  /-- The receive relay record being built: selected bytes per frame, and its OOF flag (R146). -/
  relayBuf : List (List Byte) := []
  relayOof : Bool := false
  relaySeq : Nat := 0
  relayGap : Bool := false
  /-- The receive relay records waiting for the Porch, oldest first (R147). -/
  relayRx : List (List Byte) := []
  /-- The transmit relay queue, oldest first (R148). -/
  relayTx : List TxRecord := []
  tx : TxOh := {}
  rxb : LaneRx := {}
  txb : LaneTx := {}
  /-- DFE taps 4 and 5, which no register shows (R100). -/
  taps : Word := 0
  /-- DEF_CFG as the derived signals use it (R327). -/
  act : Word := 0
  deriving DecidableEq, Repr

/-- The pointer interpretation states of R175 and R176; a TC uses the first three (R220). -/
inductive PiState | norm | lop | ais | conc | lopc | aisc
  deriving DecidableEq, Repr

/-- The pointer indications of R172. -/
inductive Ind | aisInd | concInd | invPoint | ndfEnable | incInd | decInd | normPoint | newPoint
  deriving DecidableEq, Repr

/-- A pointer interpreter (R172 to R177): its state, the active value, and the one run that lives (R174). -/
structure Pi where
  st : PiState := .norm
  active : Nat := 0
  ind : Ind := .normPoint
  run : Nat := 0
  newVal : Nat := 0
  /-- 0 none, 1 increment, 2 decrement, 3 NDF, 4 three equal new points (R197). -/
  lastChange : Nat := 0
  since : Nat := 0
  deriving DecidableEq, Repr

/-- One side of a context (R193, R194, R215, R216): stopped, waiting for its boundary, running, or about to stop. -/
inductive Side | off | starting | on | stopping
  deriving DecidableEq, Repr

/-- What the Hall delivers to an output (R282): AIS, unequipped, the test pattern, or the container of a source
context, with the source's delay path when a hitless selector serves it.
DESIGN CHOICE, log entry 31. -/
inductive Content | none_ | ais | unequipped | test | source (idx : Nat)
  deriving DecidableEq, Repr

/-- What the Hall gives an output position (R276 to R286, R295): the entry word in effect, its delivery, whether the types
mismatch, and the place in the test pattern. -/
structure OutSt where
  entry : Word := 0
  content : Content := .none_
  mis : Bool := false
  prbs : Nat := 0
  /-- The bytes of the container read for it (R274), and the justification mark it carries (R261). -/
  bytes : List Byte := []
  mark : Nat := 0
  /-- The page entry was read with an uncorrectable error: AIS for the pointer period (R287). -/
  bad : Bool := false
  deriving DecidableEq, Repr

/-- A pointer generator and its regeneration store (R188 to R192, R234 to R238). -/
structure Regen where
  fill : Nat := 4
  value : Nat := 0
  /-- Periods in which a pointer change is still barred. -/
  bar : Nat := 0
  /-- A new pointer with NDF ENABLED is due in the next period. -/
  newPtr : Bool := false
  /-- The word last generated carried NDF ENABLED; the period sent AIS; the justification sent: 0 none, 1 positive, 2 negative. -/
  ndf : Bool := false
  ais : Bool := true
  just : Nat := 0
  /-- The H1/H2 (V1/V2) word sent, the opportunity's bytes, the payload area of this period and of the one before, and the bytes of
  the container that wait for the next period (R188, R234). -/
  word : Nat := 0xFFFF
  opp : List Byte := []
  pay : List Byte := []
  last : List Byte := []
  rest : List Byte := []
  /-- BIP over the last outgoing container (R187, R233). -/
  bip : Byte := 0
  deriving DecidableEq, Repr

/-- The path overhead a head or TC sent last, when it generates it (R187, R233). -/
structure PohTx where
  trace : Byte := 0
  /-- B3; of a TU11, TU12 or TU2 BIP-2 in its two highest bits. -/
  bip : Byte := 0
  label : Byte := 0
  rdi : Nat := 0
  rei : Nat := 0
  f2 : Byte := 0
  h4 : Byte := 0
  f3 : Byte := 0
  k3 : Byte := 0
  n1 : Byte := 0
  k4bit : Bool := false
  deriving DecidableEq, Repr

/-- State of a high-order context that no register holds. -/
structure HoSt where
  rx : Side := .off
  tx : Side := .off
  /-- The head that claims this context as a member (R166). -/
  claim : Option Nat := none
  pi : Pi := {}
  /-- The interpreter of the lane of an MSP pair that does not serve the context (R355, R356). -/
  shadow : Pi := {}
  /-- HO_MON in use on the receive side; HO_MON, HO_TX and HO_TX2 in use on the transmit side (R195). -/
  rxMon : Word := 0
  txMon : Word := 0
  tx1 : Word := 0
  tx2 : Word := 0
  j1 : TraceRx := {}
  c2 : Run := {}
  g1 : Run := {}
  f2 : Run := {}
  f3 : Run := {}
  k3 : Run := {}
  n1 : Run := {}
  /-- C2 and G1 have been accepted since the head was enabled (R312). -/
  c2Ok : Bool := false
  g1Ok : Bool := false
  h4Exp : Nat := 0
  h4Bad : Nat := 0
  h4Good : Nat := 0
  inMf : Bool := false
  oom : Bool := false
  lom : Bool := false
  uneq : Bool := false
  plm : Bool := false
  tim : Bool := false
  rdi : Bool := false
  sf : SfSd := {}
  sd : SfSd := {}
  /-- B3 errors of the last evaluated received container (R325). -/
  b3Last : Nat := 0
  /-- aAIS held when the pointer period in progress began (R323). -/
  aisFrom : Bool := true
  /-- The container in progress, and B3 of the one before. -/
  dem : Demux := {}
  b3 : Option Byte := none
  gen : Regen := {}
  out : OutSt := {}
  /-- HO_PROT in use (R344), HO_CAPTURE in use (R195), DEF_CA as the derived signals use it (R327). -/
  prot : Word := 0
  capt : Word := 0
  ca : Nat := 0
  txPos : Nat := 0
  poh : PohTx := {}
  deriving DecidableEq, Repr

/-- State of a tributary context that no register holds. -/
structure TcSt where
  /-- An LO_TYPE was written that does not carry the accepted CLIENT; until TC_CLIENT is rewritten (R243). -/
  conflict : Bool := false
  rx : Side := .off
  tx : Side := .off
  pi : Pi := {}
  /-- TC_CFG and TC_MON in use on each side (R217). -/
  rxCfg : Word := 0
  rxMon : Word := 0
  txCfg : Word := 0
  txMon : Word := 0
  rfiRun : Run := {}
  lblRun : Run := {}
  rdiRun : Run := {}
  n2Run : Run := {}
  extRun : Run := {}
  rfiOk : Bool := false
  lblOk : Bool := false
  rdiOk : Bool := false
  /-- The K4 bit-1 multiframe (R226): last 32 bits, position in the multiframe, good and bad patterns, alignment. -/
  k4Sr : Nat := 0
  k4Pos : Nat := 0
  k4Good : Nat := 0
  k4Bad : Nat := 0
  k4Al : Bool := false
  j2 : TraceRx := {}
  uneq : Bool := false
  plm : Bool := false
  tim : Bool := false
  rdi : Bool := false
  rfi : Bool := false
  sf : SfSd := {}
  sd : SfSd := {}
  /-- BIP errors of the last evaluated received VC (R325). -/
  bipLast : Nat := 0
  /-- aAIS held when the pointer period in progress began (R323). -/
  aisFrom : Bool := true
  /-- The container in progress, BIP of the one before, V1 of the multiframe that is followed and the justification its V3 brings. -/
  dem : Demux := {}
  bip : Option Byte := none
  v1 : Option Byte := none
  just : Nat := 0
  gen : Regen := {}
  out : OutSt := {}
  /-- TC_PROT in use (R344), TC_CAPTURE in use; TC_CLIENT in use on each side (R217); DEF_CA as the derived signals use it (R327). -/
  prot : Word := 0
  capt : Word := 0
  ca : Nat := 0
  rxCli : Word := 0
  txCli : Word := 0
  poh : PohTx := {}
  txPos : Nat := 0
  deriving DecidableEq, Repr

/-- A client framing candidate (R248, R253, R255): offset, client frame of creation, checks passed, the frame in which
it became BASIC, and the frames in which the CRC-4 alignment word completed. -/
structure CliCand where
  off : Nat
  made : Nat
  stage : Nat := 1
  basic : Option Nat := none
  hits : List Nat := []
  deriving DecidableEq, Repr

/-- A PDH client monitor (R246 to R257). -/
structure Cli where
  st : FrmState := .hunt
  cands : List CliCand := []
  lock : Nat := 0
  frame : Nat := 0
  /-- SYNC was won by CRC-4; NO_CRC4 (R249). -/
  crcWin : Bool := false
  noCrc4 : Bool := false
  /-- Consecutive errored FAS words, consecutive wrong NFAS frames. -/
  fasRun : Nat := 0
  nfasRun : Nat := 0
  /-- The last framing bits and multiframe alignments, true where errored, newest first. -/
  bits : List Bool := []
  mbits : List Bool := []
  /-- Submultiframes of the R250 window, and errored ones. -/
  winN : Nat := 0
  winE : Nat := 0
  lof : Bool := false
  ais : DefRun := {}
  rai : DefRun := {}
  saRuns : List Run := []
  sa : Nat := 0
  nRun : Run := {}
  n : Bool := false
  aicRun : Run := {}
  aic : Bool := false
  /-- Client bits demapped and not yet framed, and the bits of the frames before, oldest first. -/
  fifo : List Bool := []
  past : List Bool := []
  /-- E1: the double frame's place in the CRC-4 multiframe, and in the group of four since SYNC. -/
  mf : Nat := 0
  grp : Nat := 0
  /-- DS1: FDL bits of a group in progress; bits and zeros of the AIS period in progress. -/
  fdl : List Bool := []
  zeroN : Nat := 0
  zeroC : Nat := 0
  deriving DecidableEq, Repr

/-- A retimer (R260 to R267): RT_STATE 0 OFF, 1 FILLING, 2 RUNNING, 3 BYPASS, the fill and the leak offset. -/
structure Retimer where
  st : Nat := 0
  fill : Nat := 0
  p : Int := 0
  /-- The S bits of the last period, true for data (R262). -/
  sent : List Bool := []
  /-- The client bits in the store and behind it, oldest first; periods since P last leaked (R263). -/
  bits : List Bool := []
  leak : Nat := 0
  deriving DecidableEq, Repr


/-- A container in the frame store: its bytes, none for AIS, and the justification mark of the pointer processor that located it (R261):
1 positive, 2 negative.
DESIGN CHOICE, log entry 31. -/
structure Cell where
  bytes : List Byte := []
  mark : Nat := 0
  deriving DecidableEq, Repr

/-- A page switch from GO to its outcome (R290): the latched settings, its record, and how far it is. -/
structure HallSw where
  cfg : Word
  sec : Nat
  ns : Nat
  crc : Word
  /-- Its operation record. -/
  op : Nat
  /-- The page that becomes active. -/
  page : Nat
  /-- Boundaries of the selected kind passed since GO. -/
  waited : Nat := 0
  /-- The ready bitmap of the last boundary tried. -/
  ready : Nat := 0
  /-- The sample committed and the boundary has not come; the pages are exchanged and low-order entries wait (R295). -/
  committing : Bool := false
  deferred : Bool := false
  /-- DETAIL of a committed switch, for MC0 to write (R290). -/
  detail : Word := 0
  /-- The slices a reset has taken out of the prepare pass: each runs a pass of its own (R293). -/
  missed : List Nat := []
  deriving DecidableEq, Repr

/-- An outcome MC0 has not yet written into its record (R290). -/
structure HallOut where
  op : Nat
  abandoned : Bool
  fail : Option Nat
  detail : Word
  deriving DecidableEq, Repr

/-- The Hall beside its registers and pages.
DESIGN CHOICE, log entry 31. -/
structure HallSt where
  sw : Option HallSw := none
  /-- The slices that passed the current or last prepare pass (R293). -/
  passed : List Nat := []
  outcomes : List HallOut := []
  /-- SYSFRAME of the last commit (R537). -/
  lastCommit : Nat := 0
  /-- The halves of the frame store (R20, R274): the containers written in this system frame, and those the outputs read, by
  context; AIS where none is listed. What a selector reads from its pair's line (R386) stands at 524,288 and its window index. -/
  wr : Tab Cell := []
  rd : Tab Cell := []
  deriving DecidableEq, Repr


/-- An MSP pair in force (R353 to R356): its lanes, and whether its contexts are served from the protect lane. A
disabled pair that holds its choice stays listed with `ena` false. -/
structure Pair where
  idx : Nat
  work : Nat
  prot : Nat
  ena : Bool := true
  sel : Bool := false
  deriving DecidableEq, Repr


/-- The request machine of a selector or an MSP pair (R333 to R342). -/
structure Chooser where
  /-- The choice decided last, and the choice in force: true is protect. -/
  choice : Bool := false
  applied : Bool := false
  /-- The SF and SD requests raised. -/
  sfW : Bool := false
  sfP : Bool := false
  sdW : Bool := false
  sdP : Bool := false
  /-- Scans left of the hold-off and the WTR timer (R336, R337). -/
  hold : Option Nat := none
  wtr : Option Nat := none
  /-- The standing commands (R339): LO; FS and MS with their channel, true for protect; EXER. -/
  lo : Bool := false
  fs : Option Bool := none
  ms : Option Bool := none
  exer : Bool := false
  /-- The active request: its code, its channel, whether it is remote (R333, R358). -/
  req : Nat := 0
  ch : Nat := 0
  remote : Bool := false
  /-- The next scan re-evaluates as R347 describes; a membership changed as well (R348). -/
  reeval : Bool := false
  lastRes : Nat := 0
  deriving DecidableEq, Repr

/-- The contexts that name a selector as its working and its protect member. -/
structure Members where
  w : Option Nat := none
  p : Option Nat := none
  deriving DecidableEq, Repr

/-- A path selector (R344 to R352): its state 0 OFF, 1 ACTIVE, 2 HELD, its members by the words as accepted, by the words taken into
use, and as the scans since have applied them (R348). `moved` waits for the next scan. -/
structure Sel where
  st : Nat := 0
  c : Chooser := {}
  named : Members := {}
  taken : Members := {}
  used : Members := {}
  moved : Bool := false
  deriving DecidableEq, Repr

/-- An MSP pair beside the lanes it binds (R353 to R361). -/
structure Msp where
  c : Chooser := {}
  fop : Bool := false
  cause : Nat := 0
  exerRes : Nat := 0
  deriving DecidableEq, Repr

/-- The Landing beside its registers: a group command in progress is its record, the command and the count. -/
structure LandSt where
  sels : Tab Sel := []
  msps : Tab Msp := []
  /-- The Landing event queue (R368), oldest first. -/
  queue : List Nat := []
  group : Option (Nat × Nat × Nat) := none
  deriving DecidableEq, Repr


/-- One period of a history (R381, R382): the CRC-32C, the time in core clock periods of 5 ns, whether the member had aTSF, the
channel on which a read of the line meets an uncorrectable error, and the container as the line holds it (R386). -/
structure HashEnt where
  hash : Nat
  time : Int
  tsf : Bool
  bad : Option Nat
  cell : Cell := {}
  deriving DecidableEq, Repr

/-- One member's history, newest first, and how many periods it has written since the reset of the history. -/
structure Hist where
  ents : List HashEnt := []
  seq : Nat := 0
  /-- Consecutive periods with aTSF = 0, at most 16; the aTSF of the last period. -/
  clean : Nat := 0
  tsf : Bool := true
  deriving DecidableEq, Repr

/-- An alignment (R384 to R388): the leader (true is protect), the offset, the delay in microseconds, the sequence numbers
of the leader's and the lagging member's newest period at the match, and the runs of compared periods. -/
structure Align where
  leader : Bool
  d : Nat
  delta : Nat
  lead0 : Nat
  lag0 : Nat
  good : Nat := 0
  bad : Nat := 0
  /-- The line is locked (LOCKING ended). -/
  locked : Bool := false
  deriving DecidableEq, Repr

/-- A hitless pair's descriptor (R376 to R391); its state is coded as PAIR_VIEW (R401). -/
structure HPair where
  st : Nat := 1
  maxDelay : Nat
  ctype : Nat
  /-- An accepted PAIR_SET that waits for the period boundary (R379): MAXDELAY and CTYPE. -/
  next : Option (Nat × Nat) := none
  w : Hist := {}
  p : Hist := {}
  al : Option Align := none
  build : Option Align := none
  /-- The match of a build that waits for units or rate (R391). -/
  waiting : Option Align := none
  /-- A failed search waits for RETRY_MS (R384). -/
  retry : Bool := false
  outcome : Nat := 0
  searches : Nat := 0
  rehomes : Nat := 0
  mismatch : Nat := 0
  deriving DecidableEq, Repr

/-- A capture ring beside its registers (R393 to R397): the records held, oldest first, and the export's record. -/
structure Ring where
  recs : List (List Byte) := []
  op : Option Nat := none
  offAtEnd : Bool := false
  /-- TOD_EPOCH, TOD_SEC and RING_STATUS at the freeze (R441). -/
  epoch : Nat := 0
  sec : Nat := 0
  frozen : Word := 0
  deriving DecidableEq, Repr

/-- The Cellar beside its registers. -/
structure CelSt where
  pairs : Tab (Option HPair) := []
  /-- The window index served last by the engine (R383). -/
  served : Nat := 0
  sel : Nat := 0
  rings : Tab Ring := []
  /-- The period sequence and the dropped flag of capturing contexts (R393, R395): TC k at k, context h at 262,144 + h. -/
  capSeq : Tab Nat := []
  capDrop : Tab Bool := []
  deriving DecidableEq, Repr


/-- One side of a monitor point (R407, R409): the blocks and defect of the second in progress, and the machine. -/
structure PmSide where
  eb : Nat := 0
  nb : Nat := 0
  dfct : Bool := false
  unavail : Bool := false
  run : Nat := 0
  deriving DecidableEq, Repr

/-- A monitor point (R403 to R417). -/
structure PmPoint where
  /-- PM_ENA and PM_CFG.ENA as the last boundary took them (R404). -/
  ena : Bool := false
  /-- Evaluation runs: its lane or context is enabled as well. -/
  on : Bool := false
  /-- Evaluated at some time in the second; for only part of it; MOVED in it. -/
  seen : Bool := false
  part : Bool := false
  moved : Bool := false
  /-- The lane that fed the point last (R415). -/
  lane : Nat := 0
  ne : PmSide := {}
  fe : PmSide := {}
  cli : PmSide := {}
  /-- The client monitor did not run throughout the second (R408). -/
  cliOff : Bool := false
  pos : Nat := 0
  neg : Nat := 0
  deriving DecidableEq, Repr

/-- One side of a second's result before its commit: EB, the SES judgement, defect, UAS and skip. -/
structure PmRes where
  eb : Nat := 0
  es : Bool := false
  ses : Bool := false
  uas : Bool := false
  dfct : Bool := false
  skip : Bool := false
  deriving DecidableEq, Repr

/-- The result of a point in a second (R414). -/
structure PmResult where
  point : Nat
  ne : PmRes := {}
  fe : PmRes := {}
  cli : PmRes := {}
  hasCli : Bool := false
  moved : Bool := false
  step : Bool := false
  part : Bool := false
  pos : Nat := 0
  neg : Nat := 0
  deriving DecidableEq, Repr

/-- A PM second: its name, its flag, its stamp at the start, and the results of the points evaluated in it. A second that
ended while the Cellar was not ready is `lost`: it is never committed (R419). -/
structure PmSecond where
  sec : Nat
  epoch : Nat
  step : Bool := false
  ts : List Word := []
  lost : Bool := false
  /-- The points whose Attic enable the second uses (R444), and PM.COMMIT_SEQ of the second. -/
  attic : List Nat := []
  seq : Nat := 0
  results : List PmResult := []
  /-- The seconds missed since the one committed before (R419, R422): start and evaluated points. -/
  missed : List (Nat × List Nat) := []
  deriving DecidableEq, Repr

/-- A bin of a point (R418, R431): start, flags, seconds received, twelve counters ES, SES, UAS, BBE of NE, FE, CLI. -/
structure PmBin where
  start : Nat := 0
  /-- The first second after its interval (R420). -/
  fin : Nat := 0
  epoch : Nat := 0
  secs : Nat := 0
  valid : Bool := false
  suspect : Bool := false
  part : Bool := false
  moved : Bool := false
  cnt : List Nat := [0, 0, 0, 0, 0, 0, 0, 0, 0, 0, 0, 0]
  /-- The counters that raised a TCA (R423). -/
  raised : List Nat := []
  deriving DecidableEq, Repr

/-- The bins of a point: current and previous, 15 minutes and 24 hours. -/
structure PmBins where
  cur15 : PmBin := {}
  prev15 : PmBin := {}
  cur24 : PmBin := {}
  prev24 : PmBin := {}
  deriving DecidableEq, Repr

/-- Performance Monitoring beside its registers. -/
structure PmSt where
  points : Tab PmPoint := []
  /-- The second in progress, its results still empty (R405); none before the first boundary after reset. -/
  cur : Option PmSecond := none
  /-- PM_CFG.ENA as the last boundary took it (R404). -/
  running : Bool := false
  /-- The ended seconds not yet committed, oldest first (R411). -/
  queue : List PmSecond := []
  /-- The committed seconds waiting for MC1, oldest first (R422), and those whose bins are updated and whose frame is due. -/
  waiting : List PmSecond := []
  toFrame : List PmSecond := []
  bins : Tab PmBins := []
  /-- The seconds missed under R419 since the last commit: start and evaluated points. -/
  missed : List (Nat × List Nat) := []
  tca : List Word := []
  deriving DecidableEq, Repr


/-- A frame or capture on its way to the drive (R443, R446, R449): the object, the Attic enables its second used, the bytes
staged, issued, completed and released; `placed` once it has its unit and SEQ. -/
structure Staged where
  obj : AtticObj
  ena : List Nat := []
  staged : Nat := 0
  sent : Nat := 0
  done : Nat := 0
  freed : Nat := 0
  placed : Bool := false
  deriving DecidableEq, Repr

/-- An NVMe command of the I/O queue (R12, R436, R437, R447, R448, R453): a Write of so many bytes of the object with a SEQ, a Flush
that covers objects up to a byte each, the Write and the Flush of a superblock; Dataset Management with the deallocate attribute over
units, the Read of the header of an object at TAIL, the Read of an ATTIC_READ, Get Log Page. -/
inductive NvmeKind
  | write (seq bytes : Nat)
  | flush (covers : List (Nat × Nat))
  | super (sb : SuperBlk)
  | superFlush
  | dealloc (first last : Nat)
  | header (unit : Nat)
  | read (unit n : Nat)
  | log
  deriving DecidableEq, Repr

/-- An outstanding NVMe command, and whether it was retried. -/
structure NvmeCmd where
  kind : NvmeKind
  retried : Bool := false
  deriving DecidableEq, Repr

/-- HEAD, TAIL and NEXT_SEQ last durable, and GENERATION and SERIAL of the current superblock, kept over a warm reset (R452). -/
structure AtticKept where
  head : Nat
  tail : Nat
  next : Nat
  gen : Nat
  serialHi : Word
  serialLo : Word
  deriving DecidableEq, Repr

/-- The Attic beside its registers (R438 to R452).
DESIGN CHOICE, log entry 70. -/
structure AtticSt where
  staging : List Staged := []
  cmds : List NvmeCmd := []
  /-- Bytes written since the last Flush. -/
  sinceFlush : Nat := 0
  /-- The objects of the ring, oldest first, and those not yet indexed. -/
  ring : List AtticObj := []
  toIndex : List AtticObj := []
  framesSince : Nat := 0
  nextSeq : Nat := 0
  gen : Nat := 0
  superA : Option SuperBlk := none
  superB : Option SuperBlk := none
  formatted : List Word := []
  durEpoch : Nat := 0
  durSec : Nat := 0
  /-- The points of the last enable map written; the next object is the first after an adoption. -/
  lastMap : Option (List Nat) := none
  restart : Bool := false
  op : Option Nat := none
  mode : Nat := 0
  dropped : Nat := 0
  /-- An adoption has begun since reset: PCIE_PERST_N is high (R451, R677). -/
  perst : Bool := false
  /-- The position last durable. -/
  kept : Option AtticKept := none
  /-- It was kept over a warm reset, and no object has been durable since (R452). -/
  warm : Bool := false
  /-- The reservations of running exports, by ring: unit and SEQ of the object (R446). -/
  reserved : List (Nat × AtticObj) := []
  /-- A superblock waits for MC1 (R21, R440); the Read of the first ATTIC_READ has been issued (R453). -/
  superWait : Bool := false
  reading : Bool := false
  deriving DecidableEq, Repr


/-- A reference slot (R457 to R463): its state 0 DISABLED, 1 FAILED, 2 WAIT, 3 QUALIFIED; ticks of WTR left; the last
reading of its pin; the priority and effective level of the last tick; the main frequency outputs of past ticks. -/
structure RefSt where
  st : Nat := 0
  wtr : Nat := 0
  pin : XrefObs := {}
  prio : Nat := 0
  eff : Nat := 15
  inv : Bool := true
  past : List Int := []
  deriving DecidableEq, Repr

/-- One branch of a filter chain (R485 to R493): the preload, the integrators and combs of the CIC, the 32 newest decimator
outputs scaled by R^3, samples and outputs since the last reset, outputs left to settle, the filtered phase in 2^-16 ps, the
frequency, and the outputs made of a fade in which the branch takes part. -/
structure Branch where
  base : Int := 0
  i1 : Int := 0
  i2 : Int := 0
  i3 : Int := 0
  c1 : Int := 0
  c2 : Int := 0
  c3 : Int := 0
  fir : List Int := []
  cnt : Nat := 0
  outs : Nat := 0
  settle : Nat := 0
  y : Int := 0
  f : Int := 0
  fade : Option Nat := none
  deriving DecidableEq, Repr

/-- The filter chain of a slot (R484 to R493): the last samples without wrap, newest first, both branches, the threshold
events, and the main outputs since SETTLING ended, newest first. -/
structure Chain where
  win : List Int := []
  main : Branch := {}
  hold : Branch := {}
  warn : Bool := false
  disq : Bool := false
  slope : Bool := false
  fs : List Int := []
  deriving DecidableEq, Repr

/-- A preset's cross-fade (R496): its length and the branches still in it, by slot, true for the holdover branch. -/
structure Fade where
  preset : Nat
  len : Nat
  left : List (Nat × Bool)
  deriving DecidableEq, Repr

/-- The Hearth beside its registers (R463 to R474). -/
structure HearthSt where
  refs : Tab RefSt := []
  chains : Tab Chain := []
  fades : List Fade := []
  /-- DPLL_STATE, the selected slot, SWITCH_PHASE and the candidate (R467, R469, R479). -/
  dpll : Nat := 0
  sel : Option Nat := none
  phase : Nat := 0
  cand : Option Nat := none
  /-- The slot switched from, the cause, the ticks in SWITCH, and the offset built out. -/
  swFrom : Option Nat := none
  cause : Nat := 0
  swMs : Nat := 0
  offset : Int := 0
  /-- Ticks within LOCK_BOUND without a break; ticks in HOLDOVER; ticks since power-on. -/
  inMs : Nat := 0
  hoMs : Nat := 0
  ticks : Nat := 0
  drift : Bool := false
  /-- The second in progress counts (R470), the sum and number of its holdover outputs; the counted seconds: sum, number and
  the tick of the end, newest first. -/
  secOk : Bool := false
  secSum : Int := 0
  secN : Nat := 0
  hist : List (Int × Nat × Nat) := []
  /-- A holdover frequency has been valid since the last entry to FREE_RUN (R471). -/
  hadFreq : Bool := false
  /-- The mirrored holdover frequency of a STANDBY device (R538). -/
  mirFreq : Option Word := none
  /-- The mirrored selected slot (R538). -/
  mirSlot : Option Nat := none
  /-- A phase step is being applied (R474). -/
  stepping : Bool := false
  deriving DecidableEq, Repr


/-- The Party Wall beside its registers (R523 to R549). -/
structure PwSt where
  /-- The filtered pins (true: low), when ACT_IN fell and was not reported, ACT_OUT pulled low, the outcome of a stop in
  progress: true sends RELEASE. -/
  actIn : Bool := false
  mate : Bool := false
  lowAt : Option Nat := none
  actOut : Bool := false
  stopping : Option Bool := none
  /-- The link: up, consecutive valid messages. -/
  up : Bool := false
  good : Nat := 0
  /-- The lease received last: any since reset, its LEASE_TIME, when it came; when it expired; the
  guard has passed; a RELEASE has come since. -/
  leased : Bool := false
  leaseMs : Nat := 0
  leaseAt : Nat := 0
  /-- LEASE_NUM of the last LEASE received, and when it came (R533). -/
  rxNum : Word := 0
  rxAt : Nat := 0
  expired : Option Nat := none
  guardDone : Bool := false
  released : Bool := false
  /-- The lease sent: established; the LEASEs sent and their times, newest first; the time of the last acknowledged. -/
  established : Bool := false
  sent : List (Nat × Nat) := []
  ackedAt : Nat := 0
  /-- SEQ sent last, and received last. -/
  txSeq : Nat := 0
  rxSeq : Option Nat := none
  /-- Own fitness while STANDBY, the mate's while ACTIVE, and its cause. -/
  fit : Bool := false
  unfit : Nat := 0
  mateSide : Bool := false
  mateStandby : Bool := false
  aligned : Bool := false
  alignRun : Nat := 0
  /-- What the mirror records said last: HALL, HEARTH. -/
  mirHall : Option MirRec := none
  /-- A mirrored commit waits for this device's boundary. -/
  follow : Bool := false
  /-- Objects as last sent, by KIND x 2^20 + INDEX (R537). -/
  mirrored : Tab (Option MirData) := []
  /-- The snapshot being received (R541), by byte offset, and whether a SEQ gap fell in it. -/
  snap : List (Nat × List Word) := []
  snapGap : Bool := false
  /-- The snapshot of the second that ended is still to be sent. -/
  snapDue : Bool := false
  /-- The bulk transfer (R546): running, its record, the image by byte offset and CYCLE of its message, the objects it
  carried, the deltas that wait; a BULK_REQ waits for the link. -/
  bulk : Bool := false
  op : Option Nat := none
  image : List (Nat × Nat × List Word) := []
  carried : List MirRec := []
  reqDue : Bool := false
  queued : List PwMsg := []
  /-- What MC1 has still to take up while it is away (R21, R23), with whether a SEQ gap fell before it: each message as it came. -/
  held : List (Bool × PwMsg) := []
  /-- The container bytes whose transmission began in the cycle, by output (R542). -/
  begun : Tab (List Byte) := []
  /-- Own digests of the last cycle: cycle, slices not to be compared, sums. -/
  own : Option (Nat × Nat × List Word) := none
  /-- Slices whose outputs a mirrored record changed in the cycle. -/
  moved : Nat := 0
  mismatches : List Nat := []
  compared : Nat := 0
  /-- A cause of R544 occurred, or a transfer ran, in the PM second. -/
  spoiled : Bool := true
  /-- The messages the last sending command sent, oldest first. -/
  out : List PwMsg := []
  deriving DecidableEq, Repr


/-- What a configuration load waits for, and until when: a POLL, a DELAY or a COMMIT_CFG (R600, R602). -/
inductive LoadWait | poll (addr : Nat) (mask val : Word) (till : Nat) | delay (till : Nat) | commit (till : Nat)
  deriving DecidableEq, Repr

/-- A configuration load in progress (R590, R600): its record, its slot, COUNT, the records applied, the body words not yet read, the
recorded LOCKs and what it waits for. -/
structure Load where
  op : Option Nat
  slot : Nat
  count : Nat
  idx : Nat := 0
  body : List Word := []
  locks : List Nat := []
  wait : Option LoadWait := none
  /-- This is the load of R591 after a first load failed. -/
  fallback : Bool := false
  deriving DecidableEq, Repr

/-- Power, reset and boot beside the registers (R575 to R591).
DESIGN CHOICE, log entry 6. -/
structure BootSt where
  /-- Reset is held: by power or RST_N, or for the 100 us of a warm reset; STRAP_TEST was sampled high. -/
  power : Bool := true
  rstLow : Bool := false
  held : Bool := false
  warm : Bool := false
  test : Bool := false
  /-- Hearth clocks at the last reset release or end of a warm reset. -/
  since : Nat := 0
  /-- The enrolled owner key digest in one-time-programmable storage: twelve words, none while not enrolled. -/
  otp : List Word := []
  /-- The current directory: BOOT_FALLBACK, the slots' OFFSET and CAPACITY. -/
  dir : List (Nat × Nat) := []
  /-- The configuration slots as the verification pass read them, and the slots tried in this boot (R591). -/
  cfgA : SlotObs := {}
  cfgB : SlotObs := {}
  tried : List Nat := []
  load : Option Load := none
  deriving DecidableEq, Repr

/-- A flash command in progress (R606, R607): OP, TARGET, its record, steps in all and done, OFFSET and LEN. -/
structure FlashCmd where
  fop : Nat
  target : Nat
  op : Nat
  total : Nat
  done : Nat := 0
  off : Nat := 0
  len : Nat := 0
  deriving DecidableEq, Repr

/-- The Pantry engine beside its registers: the command in progress, the digest being programmed, the slots that read as empty,
one bit each. -/
structure PantrySt where
  cmd : Option FlashCmd := none
  enrolling : Option (List Word) := none
  empty : Nat := 0
  deriving DecidableEq, Repr


/-- A FOLLOW_UP event waiting for the Porch (R626): kind 0 lane, 1 high-order context, 2 TC. -/
structure FollowUp where
  kind : Nat
  idx : Nat
  word : Word
  changed : Word
  stamp : List Word
  deriving DecidableEq, Repr

/-- A TRANSACTION frame the device sends (R616): TTYPE, TAG, RESPONSE, MORE, STATUS, ADDRESS, AUX, payload.
PRESUMED, log entry 64. -/
structure PFrame where
  ttype : Nat
  tag : Nat := 0
  resp : Bool := true
  more : Bool := false
  status : Nat := 0
  addr : Nat := 0
  aux : Nat := 0
  payload : List Byte := []
  deriving DecidableEq, Repr

/-- A frame sent and not yet acknowledged: its SEQ and how often it was sent again. -/
structure Unacked where
  seq : Nat
  frame : PFrame
  again : Nat := 0
  deriving DecidableEq, Repr

/-- An attestation request with MC0 (R643): from the Porch with its TAG, or from the mate with its REQ_ID. -/
inductive AttFrom | porch (tag : Nat) | mate (id : Nat)
  deriving DecidableEq, Repr

/-- A request for a report: its source, NONCE_LEN, nonce, and once MC0 serves it its record and the body that step 1 took. -/
structure AttReq where
  src : AttFrom
  nonceLen : Nat
  nonce : List Byte
  op : Option Nat := none
  body : List Byte := []
  deriving DecidableEq, Repr

/-- The Porch beside its registers (R611 to R634). -/
structure PorchSt where
  /-- Synchronised lanes; markers found aligned; the skew in UI. LINK_STATE stands in PORCH_STATUS. -/
  sync0 : Bool := false
  sync1 : Bool := false
  markers : Nat := 0
  skew : Nat := 0
  /-- The SEQ expected next from the host, a NAK is out, frames accepted since an acknowledgement went out. -/
  rxNext : Nat := 0
  nak : Bool := false
  unsent : Nat := 0
  /-- The SEQ of the next TRANSACTION frame, the frames unacknowledged and those that wait behind 16 of them. -/
  txNext : Nat := 0
  unacked : List Unacked := []
  queue : List PFrame := []
  /-- Tags of outstanding requests. -/
  tags : List Nat := []
  /-- The SUMMARY EVENT waiting: RESYNC and the stamp of the change; the EVENT sequence number. -/
  summary : Option (Bool × List Word) := none
  evSeq : Nat := 0
  /-- ATTIC_READs with MC0, oldest first: TAG, first unit, count, and whether its response goes out. -/
  reads : List (Nat × Nat × Nat × Bool) := []
  /-- Attestation requests with MC0, oldest first. -/
  atts : List AttReq := []
  /-- The TAG of an RMW that waits for its target domain (R70), and the register transactions accepted behind it (R622). -/
  rmw : Option Nat := none
  waiting : List (Nat × PTxn) := []
  /-- Requests accepted during the hold of a warm reset: TTYPE and TAG. -/
  busy : List (Nat × Nat) := []
  /-- The I2C target (R633): the pointer, set in this transfer, and the status of the last access. -/
  ptr : Nat := 0
  ptrSet : Bool := false
  i2c : Status := .ok
  deriving DecidableEq, Repr


/-- Whether the firmware of each management core is away (R24, R650). -/
structure Cores where
  mc0Away : Bool := true
  mc1Away : Bool := true
  deriving DecidableEq, Repr

/-- A firmware swap (R646 to R648): its record, the digest kept, GENERATION and version of the new image, when QUIESCE began,
the failing step and its status once the running image reloads. -/
structure Swap where
  op : Nat
  digest : List Word := []
  gen : Nat := 0
  version : Word := 0
  began : Option Nat := none
  failed : Option (Nat × Nat) := none
  deriving DecidableEq, Repr

/-- Measurement beside its registers (R636 to R647): an extend is in progress; the swap; the REQ_ID sent last and when. -/
structure MeasSt where
  busy : Bool := false
  swap : Option Swap := none
  reqId : Nat := 0
  reqAt : Nat := 0
  deriving DecidableEq, Repr


/-- The tracer beside its registers (R659 to R663): tags in flight as ID, slice and lane of S0, the next ID, the FIFO
entries, oldest first. -/
structure TracerSt where
  flying : List (Nat × Nat × Nat) := []
  next : Nat := 0
  fifo : List (List Word) := []
  deriving DecidableEq, Repr

/-- The live slot counters of a slice (R655 to R657): per point CARRIED, OVERHEAD, STARVED_FRONT, BLOCKED_BACK, and the core
clocks they cover. -/
structure SlotSt where
  cnt : List Nat := [0, 0, 0, 0, 0, 0, 0, 0, 0, 0, 0, 0]
  total : Nat := 0
  deriving DecidableEq, Repr

/-- The register between TDI and TDO (R680). -/
inductive TapReg | boundary | idcode | bypass
  deriving DecidableEq, Repr

/-- The test access port (R680 to R682): the instruction and the 1,642 cells of the boundary register.
DESIGN CHOICE, log entry 5; DESIGN CHOICE, log entry 63. -/
structure TapSt where
  ir : Nat := 1
  boundary : List Bool := List.replicate 1642 false
  deriving DecidableEq, Repr


/-- Everything of the device but the queue of waiting commands.
DESIGN CHOICE, log entry 3; DESIGN CHOICE, log entry 13. -/
structure Device where
  /-- Every register and window word that differs from its reset value, by byte address (R40). -/
  regs : Tab Word := []
  /-- Hearth clocks of 5 ns since power-on; the model's own clock, for durations (DESIGN CHOICE, log entry 3). -/
  uptime : Nat := 0
  /-- The model's own counter of free values drawn (DESIGN CHOICE, log entry 2). -/
  fresh : Nat := 0
  bus : Bus := {}
  crc : CrcEngine := {}
  fc : FaultCol := {}
  tod : Tod := {}
  /-- Per lane 0 to 63. -/
  lanes : Tab LaneSt := []
  /-- Per high-order context 0 to 12,287. -/
  hos : Tab HoSt := []
  /-- Per tributary context 0 to 262,143. -/
  tcs : Tab TcSt := []
  /-- Raw counters of TC k (R427): counter i at index 32 k + i, 48 bits and the WRAP flag above them. -/
  raw : Tab Nat := []
  /-- Slice event queues (R240), oldest first. -/
  tcQueues : Tab (List Nat) := []
  /-- Client monitors: of TC k at k, of entry i of slice s at 262,144 + 32 s + i (R268). -/
  clis : Tab Cli := []
  /-- Retimers by TC. -/
  rts : Tab Retimer := []
  /-- The object CLIENT_SEL names, per slice (R272). -/
  cliSel : Tab Word := []
  hall : HallSt := {}
  /-- The MSP pairs in force (R353, R356). -/
  pairs : List Pair := []
  land : LandSt := {}
  cel : CelSt := {}
  pm : PmSt := {}
  attic : AtticSt := {}
  hearth : HearthSt := {}
  pw : PwSt := {}
  boot : BootSt := {}
  pantry : PantrySt := {}
  /-- FOLLOW_UP events waiting, oldest first (R627). -/
  follow : List FollowUp := []
  porch : PorchSt := {}
  cores : Cores := {}
  meas : MeasSt := {}
  tracer : TracerSt := {}
  slots : Tab SlotSt := []
  deriving DecidableEq, Repr

/-- The machine: the device, its test access port, which no reset touches (R682), and the commands that are waiting, first in, first
out.
DESIGN CHOICE, log entry 1; DESIGN CHOICE, log entry 63. -/
structure State where
  dev : Device := {}
  tap : TapSt := {}
  pending : List Instr := []
  deriving DecidableEq, Repr

/-- The machine right after reset: every register at its reset value, every buffer and queue empty.
DESIGN CHOICE, log entry 5; DESIGN CHOICE, log entry 8; DESIGN CHOICE, log entry 13; PRESUMED, log entry 14. -/
def State.reset : State := { dev := {}, tap := {}, pending := [] }

/-- A step never stops with a fault. -/
inductive Fault
  /-- Raised by no command: the spec gives every command an effect. Safe. -/
  | none_
  deriving DecidableEq, Repr

/-- Why a command is refused by the model. -/
inductive Refusal
  /-- A command that has no meaning in the model yet. Safe: nothing can be proved of a run through it. -/
  | notModelled (mnemonic : String)
  deriving DecidableEq, Repr

end Sys2Proof.Machine
end

