-- ==== Sys2Proof/Machine/Ops.lean ====
section
/-! DEFINITION. The named operations every meaning is built from: registers and their fields, counters, time stamps,
free values, operation records, refusals and reports to the Fault Collector. -/

namespace Sys2Proof.Machine
open Sys2Proof

/-! Registers. -/

/-- The stored word at an address.
DESIGN CHOICE, log entry 12. -/
def Device.rd (d : Device) (a : Nat) : Word := tabGet (resetWord a) d.regs a

/-- Stores a word, whatever the access rules say (the device's own update).
DESIGN CHOICE, log entry 12. -/
def Device.wr (d : Device) (a : Nat) (v : Word) : Device := { d with regs := tabPut (resetWord a) d.regs a v }

/-- A field of a stored word. -/
def Device.get (d : Device) (a lo w : Nat) : Nat := fld (d.rd a) lo w

/-- Stores a field of a word. -/
def Device.put (d : Device) (a lo w v : Nat) : Device := d.wr a (setFld (d.rd a) lo w v)

/-- Bit `i` of a stored word. -/
def Device.bit (d : Device) (a i : Nat) : Bool := bitAt (d.rd a) i

/-- Stores bit `i` of a word. -/
def Device.setBit (d : Device) (a i : Nat) (b : Bool) : Device := d.put a i 1 (b2n b)

/-- Sets bit `i`: a sticky event (R46). -/
def Device.ev (d : Device) (a i : Nat) : Device := d.setBit a i true

/-- Applies an update when a condition holds. -/
def Device.when (d : Device) (c : Bool) (f : Device → Device) : Device := if c then f d else d

/-- Stores consecutive words. -/
def Device.wrs (d : Device) (a : Nat) : List Word → Device
  | [] => d
  | v :: t => (d.wr a v).wrs (a + 4) t

/-- Reads `n` consecutive words. -/
def Device.rds (d : Device) (a n : Nat) : List Word := (List.range n).map (fun i => d.rd (a + 4 * i))

/-- A 32-bit saturating counter moves up by `n`. -/
def Device.add (d : Device) (a n : Nat) : Device := d.wr a (wd (satAdd 32 (d.rd a).toNat n))

/-- A 32-bit saturating counter moves up by 1. -/
def Device.inc (d : Device) (a : Nat) : Device := d.add a 1

/-- A field counter saturating at its width. -/
def Device.incField (d : Device) (a lo w : Nat) : Device := d.put a lo w (satAdd w (d.get a lo w) 1)

/-- A 32-bit wrapping counter moves up by 1. -/
def Device.incWrap (d : Device) (a : Nat) : Device := d.wr a (d.rd a + 1)

/-- A 48-bit wrapping counter (R424) moves up by `n`, setting WRAP when it passes 2^48 - 1. -/
def Device.count (d : Device) (a n : Nat) : Device :=
  if n = 0 then d
  else
    (fun total : Nat =>
      (d.wr a (wd total)).wr (a + 4)
        (wd ((total / 2 ^ 32) % 2 ^ 16 + 2 ^ 16 * (if total ≥ 2 ^ 48 then 1 else d.get (a + 4) 16 1))))
    ((d.rd a).toNat + 2 ^ 32 * d.get (a + 4) 0 16 + n)

/-- Zeroes the 32-bit counters at the given addresses. -/
def Device.zero (d : Device) (as : List Nat) : Device := as.foldl (fun d a => d.wr a 0) d

/-! Hidden state by index. -/

/-- The state of lane `n`. -/
def Device.lane (d : Device) (n : Nat) : LaneSt := tabGet {} d.lanes n
/-- Stores the state of lane `n`. -/
def Device.setLane (d : Device) (n : Nat) (l : LaneSt) : Device := { d with lanes := tabPut {} d.lanes n l }
/-- Updates the state of lane `n`. -/
def Device.onLane (d : Device) (n : Nat) (f : LaneSt → LaneSt) : Device := d.setLane n (f (d.lane n))

/-! Free values and time. -/

/-- Draws a free value: an opaque word no rule fixes.
DESIGN CHOICE, log entry 2. -/
def Device.free (d : Device) : Word × Device := (Config.freeValue d.fresh, { d with fresh := d.fresh + 1 })

/-- The Hearth clock in seconds, truncated: 5 ns units. -/
def clocksPerMs : Nat := 200000

/-- QCLASS and the leap flags of the active time domain (R507). -/
def Device.activeDom (d : Device) : TodDom := tabGet {} d.tod.doms (d.get 0x60014 1 1)

/-- The counter is corrected by the active domain: TRACK_ENA and the domain QUALIFIED (R512, R513). -/
def Device.tracking (d : Device) : Bool :=
  d.bit 0x60010 0 && d.get (domBase (d.get 0x60014 1 1) + 4) 0 2 == 3

/-- The SUSPECT flag (R507): VALID is 0, or the remaining slew exceeds STEP_THRESHOLD. -/
def Device.suspect (d : Device) : Bool :=
  !d.tod.valid || decide (d.tod.slew.natAbs > (d.rd 0x60020).toNat * 65536)

/-- The 18 flags of a time stamp (R507). -/
def Device.tsFlags (d : Device) : Nat :=
  b2n d.tod.valid + 2 * d.get 0x60014 1 1 + 4 * b2n d.tracking
  + 8 * b2n (match d.tod.stepAt with | some t => decide (d.uptime - t < 1000 * clocksPerMs) | none => false)
  + 16 * b2n d.suspect + 32 * b2n (d.tod.slew != 0) + 64 * b2n d.activeDom.leapPending + 128 * b2n d.activeDom.leapSign
  + 256 * (if d.tracking then d.activeDom.qclass else 15)

/-- The four words of a TSTAMP128 (R507). -/
def Device.stamp (d : Device) : List Word :=
  [wd (d.tod.ns + 2 ^ 30 * (d.tsFlags % 4)), wd d.tod.sec,
   wd (d.tod.sec / 2 ^ 32 % 2 ^ 16 + 2 ^ 16 * d.tod.epoch), wd (d.tod.frac + 2 ^ 16 * (d.tsFlags / 4))]

/-- Stores a time stamp taken now. -/
def Device.wrStamp (d : Device) (a : Nat) : Device := d.wrs a d.stamp

/-- The difference a - b of two times of second and nanosecond (R508), in nanoseconds. -/
def timeDiff (aSec aNs bSec bNs : Nat) : Int :=
  (signed 48 ((aSec + 2 ^ 48 - bSec % 2 ^ 48) % 2 ^ 48)) * 1000000000 + ((aNs : Int) - (bNs : Int))

/-- The second and nanosecond of a stored time stamp. -/
def Device.stampAt (d : Device) (a : Nat) : Nat × Nat :=
  ((d.rd (a + 4)).toNat + 2 ^ 32 * d.get (a + 8) 0 16, d.get a 0 30)

/-- The device is STANDBY (R529): its role stands in PW_STATUS. -/
def Device.standby (d : Device) : Bool := d.get 0x70014 0 2 == 1

/-! Reports. -/

/-- Raises a condition at a Fault Collector source: it waits for its evaluation slot, one event per slot (R556).
DEDUCED, log entry 50. -/
def Device.raise (d : Device) (r : SrcReport) : Device :=
  if d.fc.raised.any (fun x => x.src == r.src && x.real) then d
  else { d with fc := { d.fc with raised := d.fc.raised ++ [r] } }

/-- Raises conditions found in evaluation slots that follow one another: those of the first now, of each other in a slot of its own. -/
def Device.raiseSlots (d : Device) : List (List SrcReport) → Device
  | [] => d
  | now :: rest => (fun d1 : Device => { d1 with fc := { d1.fc with later := d1.fc.later ++ rest } }) (now.foldl Device.raise d)

/-- Raises a source that involves no address and no access. -/
def Device.raiseSrc (d : Device) (src : Nat) : Device := d.raise { src := src }

/-- The code of a status (R50). -/
def Status.code : Status → Nat
  | .ok => 0 | .unaligned => 1 | .narrow => 2 | .locked => 3 | .range => 4 | .timeout => 5 | .busy => 6 | .ecc => 7
  | .unsupported => 8 | .abandoned => 9 | .partly => 10

/-- The GLOBAL counter of a refusing status (R51, R91). -/
def refuseCounter : Status → Option Nat
  | .narrow => some 0x80 | .unaligned => some 0x84 | .locked => some 0x88 | .range => some 0x8C | .timeout => some 0x90
  | .ecc => some 0x94 | .busy => some 0xA4 | .unsupported => some 0xA8 | _ => none

/-- How an access reaches the bridge: its master (R89) and whether it writes, is an RMW, is wide (R91). -/
structure Access where
  master : Nat
  write : Bool := true
  rmw : Bool := false
  wide : Bool := false
  deriving DecidableEq, Repr

/-- The record of a refused access (R51, R74, R92, R552): its counter, REFUSE_ADDR, REFUSE_INFO, ACCESS_REFUSED and the
Fault Collector source REG_LOCK_WRITE or REG_REFUSED. OK, ABANDONED and PARTIAL are no refusals.
DEDUCED, log entry 65; DESIGN CHOICE, log entry 77. -/
def Device.refused (d : Device) (x : Access) (st : Status) (addr : Nat) : Device :=
  match refuseCounter st with
  | none => d
  | some c =>
    ((((d.inc c).ev 0x54 4).wr 0xB0 (wd addr)).wr 0xB4
      (wd (st.code + 16 * x.master + 256 * b2n x.write + 512 * b2n x.rmw + 1024 * b2n x.wide))).raise
        { src := if st = .locked then 23 else 24, addr := addr, master := x.master,
          access := if x.rmw then 2 else if x.write then 1 else 0, syndrome := st.code }

/-! Operation records (R83 to R88). -/

/-- Whether operation record `k` is RUNNING. -/
def Device.opRunning (d : Device) (k : Nat) : Bool := d.get (oprecBase k + 4) 12 2 == 1

/-- The record a new operation takes (R84): the oldest that is not RUNNING, the lowest index among equals. -/
def Device.opPick (d : Device) : Option Nat :=
  ((List.range 16).filter (fun k => !d.opRunning k)).foldl (fun best k =>
    match best with
    | none => some k
    | some b =>
      if timeDiff (d.stampAt (oprecBase k + 0x20)).1 (d.stampAt (oprecBase k + 0x20)).2
          (d.stampAt (oprecBase b + 0x20)).1 (d.stampAt (oprecBase b + 0x20)).2 < 0 then some k else some b) none

/-- OP_ID steps by 1 and wraps from 0xFFFF_FFFF to 1 (R85). -/
def nextOpId (i : Word) : Word := if i = 0xFFFFFFFF then 1 else i + 1

/-- Opens record `k` (R83, R85). -/
def Device.opOpenAt (d : Device) (k kind origin total : Nat) : Device :=
  ((((((((d.wr (oprecBase k) (d.rd 0x104)).wr 0x104 (nextOpId (d.rd 0x104))).wr (oprecBase k + 4)
    (wd (kind + 2 ^ 12 + 2 ^ 16 * origin))).wr (oprecBase k + 8) (wd total)).wr (oprecBase k + 0xC) 0).wr
    (oprecBase k + 0x10) 0xFFFFFFFF).wr (oprecBase k + 0x14) 0).wrStamp (oprecBase k + 0x20)).wr 0x100 (wd k)

/-- Opens a record of a kind (R84): none, with the refusal counted, when all 16 are RUNNING. -/
def Device.opOpen (d : Device) (kind origin total : Nat) : Option Nat × Device :=
  match d.opPick with
  | some k => (some k, d.opOpenAt k kind origin total)
  | none => (none, (d.inc 0x9C).ev 0x54 6)

/-- The steps done of a record (R86: they only increase). -/
def Device.opSteps (d : Device) (k n : Nat) : Device := d.wr (oprecBase k + 0xC) (wd (max n (d.rd (oprecBase k + 0xC)).toNat))

/-- The OP_ID of record `k`. -/
def Device.opId (d : Device) (k : Nat) : Word := d.rd (oprecBase k)

/-- Closes a record (R86): RESULT and STATE after the final steps, a new time stamp, OPREC_DONE. -/
def Device.opClose (d : Device) (k : Nat) (st : Status) : Device :=
  (((d.put (oprecBase k + 4) 8 4 st.code).put (oprecBase k + 4) 12 2 2).wrStamp (oprecBase k + 0x20)).ev 0x54 5

/-- The first failing step of a record. -/
def Device.opFail (d : Device) (k i : Nat) : Device := d.wr (oprecBase k + 0x10) (wd i)

/-- The DETAIL of a record. -/
def Device.opDetail (d : Device) (k v : Nat) : Device := d.wr (oprecBase k + 0x14) (wd v)

/-- Whether an operation record of a kind is RUNNING. -/
def Device.opKindRunning (d : Device) (kind : Nat) : Bool :=
  (List.range 16).any (fun k => d.opRunning k && d.get (oprecBase k + 4) 0 8 == kind)

/-- An event whose time has come: at least the Hearth clock `t` is reached. A command that reports the end of a time brings that time
with it.
DESIGN CHOICE, log entry 7. -/
def Device.reach (d : Device) (t : Nat) : Device := { d with uptime := max d.uptime t }

end Sys2Proof.Machine
end

