-- ==== Sys2Proof/Machine/Framer.lean ====
section
/-! DEFINITION. The frame hunt both framers of a lane share (R124 to R133) and the acceptance of values and traces
over consecutive periods (R118, R137 to R139, R181, R230). -/

namespace Sys2Proof.Machine
open Sys2Proof

/-- What one frame of hunting counts: mimics and matches lost for want of a slot. -/
structure HuntCount where
  mimic : Nat := 0
  full : Nat := 0
  deriving DecidableEq, Repr

/-- One bit offset of the frame, in the order the frame passes it (R126, R129): a match verifies the candidate there
or creates one; a candidate without its match is discarded. -/
def huntOffset (frame : Nat) (ms : List Nat) (x : List Cand × HuntCount) (off : Nat) : List Cand × HuntCount :=
  match x.1.find? (·.off == off) with
  | some c =>
    if ms.contains off then
      (x.1.map (fun e => if e.off == off then { e with verifs := c.verifs + 1 } else e), x.2)
    else (x.1.filter (·.off != off), { x.2 with mimic := x.2.mimic + 1 })
  | none =>
    if x.1.length < 4 then (x.1 ++ [⟨off, frame, 1⟩], x.2) else (x.1, { x.2 with full := x.2.full + 1 })

/-- The winner among the candidates that reached INFRAME_COUNT (R127, R128). -/
def huntWinner (l : List Cand) : Option Cand :=
  l.foldl (fun w c =>
    match w with
    | none => some c
    | some b => if c.made < b.made ∨ (c.made = b.made ∧ c.off < b.off) then some c else some b) none

/-- A frame in HUNT or PRESYNC ends (R127 to R129, R132). -/
def huntFrame (inframe : Nat) (ms : List Nat) (f : Framer) : Framer × HuntCount :=
  (fun x : List Cand × HuntCount =>
    match huntWinner (x.1.filter (fun c => inframe ≤ c.verifs)) with
    | some w =>
      ({ f with st := .sync, cands := [], lock := w.off, errRun := 0, frame := f.frame + 1 },
        { x.2 with mimic := x.2.mimic + (x.1.length - 1) })
    | none =>
      ({ f with st := if x.1.isEmpty then .hunt else .presync, cands := x.1, frame := f.frame + 1 }, x.2))
  ((toRising (ms ++ f.cands.map (·.off))).foldl (huntOffset f.frame ms) (f.cands, {}))

/-- A frame in SYNC ends (R130): the framer, and whether OOF was declared. -/
def syncFrame (oof : Nat) (ok : Bool) (f : Framer) : Framer × Bool :=
  if ok then ({ f with errRun := 0, frame := f.frame + 1 }, false)
  else if oof ≤ f.errRun + 1 then
    ({ f with st := .hunt, cands := [], errRun := 0, frame := f.frame + 1 }, true)
  else ({ f with errRun := f.errRun + 1, frame := f.frame + 1 }, false)

/-- The last row of R132: LOS, FREQ_OOR, disable or restart clear the candidates without counting. -/
def Framer.drop (f : Framer) : Framer := { f with st := .hunt, cands := [], errRun := 0 }

/-- One more period of a value: the run grows or starts afresh. -/
def Run.next (r : Run) (v : Nat) : Run := if r.cnt > 0 ∧ r.val = v then ⟨v, r.cnt + 1⟩ else ⟨v, 1⟩

/-- A run reaches its length with this period. -/
def Run.accepts (r : Run) (n : Nat) : Bool := n ≤ r.cnt

/-- The 16-byte trace carries its own CRC-7 in byte 0 (R137; the polynomial is G.707's). -/
def trace16Ok (tr : List Byte) : Bool :=
  match tr with
  | [] => false
  | b :: t => decide (b = 0x80 ||| (Config.traceCrc7 t).setWidth 8)

/-- A whole trace of one period ended: good extends the run, a CRC-7 error breaks it. -/
def TraceRx.period (t : TraceRx) (good : Bool) (tr : List Byte) : TraceRx :=
  if !good then { t with buf := [], cnt := 0 }
  else if t.cnt > 0 ∧ t.last = tr then { t with buf := [], cnt := t.cnt + 1 }
  else { t with buf := [], last := tr, cnt := 1 }

/-- The trace formats: one byte, 16 bytes aligned by the MSB of the CRC-7 byte, 64 bytes ending in CR LF. -/
inductive TraceFmt | one | sixteen | sixtyFour | off
  deriving DecidableEq, Repr

/-- One trace byte arrives: the acceptance state, and whether a trace period ended with it (R136, R137, R180). -/
def TraceRx.byte (t : TraceRx) (fmt : TraceFmt) (b : Byte) : TraceRx × Bool :=
  match fmt with
  | .off => ({ t with buf := [], cnt := 0 }, false)
  | .one => (t.period true [b], true)
  | .sixteen =>
    if b.toNat ≥ 0x80 then
      ({ t with buf := [b], cnt := if t.buf.isEmpty then t.cnt else 0 }, false)
    else if t.buf.isEmpty then ({ t with cnt := 0 }, false)
    else if t.buf.length = 15 then (t.period (trace16Ok (t.buf ++ [b])) (t.buf ++ [b]), true)
    else ({ t with buf := t.buf ++ [b] }, false)
  | .sixtyFour =>
    if t.buf.length < 63 then ({ t with buf := t.buf ++ [b] }, false)
    else if t.buf.getLast? = some 0x0D ∧ b = 0x0A then (t.period true (t.buf ++ [b]), true)
    else ({ t with buf := t.buf.drop 1 ++ [b], cnt := 0 }, false)

/-- The run of identical traces ends (R700). -/
def TraceRx.brk (t : TraceRx) : TraceRx := { t with buf := [], cnt := 0, expct := [] }

/-- A trace of up to 64 bytes as the words of a trace register, byte 0 in bits [31:24], zero padded (R162). -/
def traceWords (n : Nat) (tr : List Byte) : List Word := bytesWords (tr ++ List.replicate (n - tr.length) 0)

/-- The first `n` bytes a trace register holds. -/
def Device.traceBytes (d : Device) (a n : Nat) : List Byte :=
  ((d.rds a ((n + 3) / 4)).flatMap wordBytes).take n

/-- Accepts a trace into its ACC register when its run reaches 3 periods: the state, the device, whether it changed. -/
def Device.traceAccept (d : Device) (t : TraceRx) (acc size : Nat) : TraceRx × Device × Bool :=
  if t.cnt ≥ 3 then
    if t.accepted ∧ d.traceBytes acc size = t.last ++ List.replicate (size - t.last.length) 0 then (t, d, false)
    else ({ t with accepted := true }, d.wrs acc (traceWords size t.last), true)
  else (t, d, false)

end Sys2Proof.Machine
end

