-- ==== Sys2Proof/Machine/Pointer.lean ====
section
/-! DEFINITION. Pointer interpretation and generation, shared by high-order heads, members and tributaries
(R170 to R177, R188 to R192, R220 to R223, R234 to R238). -/

namespace Sys2Proof.Machine
open Sys2Proof

/-- The NDF nibble (R170): ENABLED and NORMAL allow one bit in error. -/
inductive Ndf | enabled | normal | invalid
  deriving DecidableEq, Repr

/-- Decodes the NDF nibble (R170). -/
def ndfOf (n : Nat) : Ndf :=
  if [9, 1, 13, 11, 8].contains n then .enabled else if [6, 14, 2, 4, 7].contains n then .normal else .invalid

/-- The number of ones among the bits of `n` that the mask picks, ten bits wide. -/
def ones (n mask : Nat) : Nat := ((List.range 10).filter (fun i => (n &&& mask) >>> i % 2 = 1)).length

/-- How a pointer word is judged: its range, SS checking with the expected SS bits, and whether it is a member's. -/
structure PtrRule where
  top : Nat
  ssCheck : Bool
  ss : Nat
  member : Bool := false
  deriving DecidableEq, Repr

/-- The indication a 16-bit pointer word gives (R171, R172, R220). -/
def classify (r : PtrRule) (p : Pi) (w : Nat) : Ind :=
  if w = 0xFFFF then .aisInd
  else if r.ssCheck ∧ w / 0x400 % 4 ≠ r.ss then .invPoint
  else if r.member then
    (if ndfOf (w / 0x1000) = .enabled ∧ w % 0x400 = 0x3FF then .concInd else .invPoint)
  else
    match ndfOf (w / 0x1000) with
    | .enabled => if w % 0x400 ≤ r.top then .ndfEnable else .invPoint
    | .invalid => .invPoint
    | .normal =>
      if p.st = .norm then
        (if ones (w % 0x400 ^^^ p.active) 0x2AA ≥ 3 ∧ ones (w % 0x400 ^^^ p.active) 0x155 ≤ 2 then .incInd
         else if ones (w % 0x400 ^^^ p.active) 0x155 ≥ 3 ∧ ones (w % 0x400 ^^^ p.active) 0x2AA ≤ 2 then .decInd
         else if w % 0x400 = p.active then .normPoint
         else if w % 0x400 ≤ r.top then .newPoint else .invPoint)
      else if w % 0x400 ≤ r.top then .newPoint else .invPoint

/-- An increment or decrement within 3 periods of the last change counts as inv_point (R173). -/
def barred (p : Pi) (i : Ind) : Ind :=
  if (i = .incInd ∨ i = .decInd) ∧ p.lastChange ≠ 0 ∧ p.since + 1 ≤ 3 then .invPoint else i

/-- The run of indications after one more (R174). -/
def Pi.extend (p : Pi) (i : Ind) (v : Nat) : Pi :=
  if i = p.ind ∧ (i ≠ .newPoint ∨ v = p.newVal) then { p with run := p.run + 1 }
  else { p with ind := i, run := 1, newVal := v }

/-- A change of the active value (R197, R210). -/
def Pi.changed (p : Pi) (v code : Nat) : Pi := { p with st := .norm, active := v, lastChange := code, since := 0 }

/-- What one pointer period counts. -/
structure PtrCount where
  pos : Bool := false
  neg : Bool := false
  ndf : Bool := false
  inv : Bool := false
  deriving DecidableEq, Repr

/-- The state machine of a head or tributary (R175) on an indication, its run already extended. -/
def Pi.act (top : Nat) (p : Pi) (v : Nat) : Pi × PtrCount :=
  match p.ind with
  | .normPoint => (p, {})
  | .concInd => (p, {})
  | .incInd => (p.changed (if p.active = top then 0 else p.active + 1) 1, { pos := true })
  | .decInd => (p.changed (if p.active = 0 then top else p.active - 1) 2, { neg := true })
  | .ndfEnable =>
    match p.st with
    | .norm => if p.run < 8 then (p.changed v 3, { ndf := true }) else ({ p with st := .lop }, {})
    | .ais => (p.changed v 3, { ndf := true })
    | _ => (p, {})
  | .newPoint => if p.run ≥ 3 then (p.changed v 4, {}) else (p, {})
  | .invPoint =>
    if p.run ≥ 8 ∧ (p.st = .norm ∨ p.st = .ais) then ({ p with st := .lop }, { inv := true }) else (p, { inv := true })
  | .aisInd => if p.run ≥ 3 ∧ (p.st = .norm ∨ p.st = .lop) then ({ p with st := .ais }, {}) else (p, {})

/-- The state machine of a member (R176). -/
def Pi.actMember (p : Pi) : Pi :=
  match p.ind with
  | .concInd => if p.st = .conc ∨ p.run < 3 then p else { p with st := .conc }
  | .aisInd => if p.run ≥ 3 then { p with st := .aisc } else p
  | _ => if p.run ≥ 8 then { p with st := .lopc } else p

/-- One pointer period of a head or tributary (R172 to R175): the periods since the last change saturate at 255. -/
def Pi.period (r : PtrRule) (p : Pi) (w : Nat) : Pi × PtrCount :=
  ({ p with since := min 255 (p.since + 1) }.extend (barred p (classify r p w)) (w % 0x400)).act r.top (w % 0x400)

/-- One frame of a member (R176). -/
def Pi.periodMember (r : PtrRule) (p : Pi) (w : Nat) : Pi :=
  ({ p with since := min 255 (p.since + 1) }.extend (classify { r with member := true } p w) 0).actMember

/-- The justification of the last period: 1 positive, 2 negative. -/
def Pi.just (p : Pi) : Nat := if p.since = 0 ∧ (p.lastChange = 1 ∨ p.lastChange = 2) then p.lastChange else 0

/-- The code of a pointer state in HO_PTR and TC_PTR (R197, R210). -/
def PiState.code : PiState → Nat
  | .norm => 0 | .lop => 1 | .ais => 2 | .conc => 3 | .lopc => 4 | .aisc => 5

/-- What a generator period counts: generated justifications and slips. -/
structure GenCount where
  pos : Bool := false
  neg : Bool := false
  slip : Bool := false
  deriving DecidableEq, Repr

/-- One period of a pointer generator (R188 to R191, R234 to R237). `delta` is how many units the store gained on its
output since the last period; `fresh` is the value of a new pointer, which the spec leaves to the container's place.
DESIGN CHOICE, log entry 28. -/
def Regen.period (top : Nat) (g : Regen) (ais : Bool) (delta : Int) (fresh : Nat) : Regen × GenCount :=
  if ais then ({ g with ais := true, ndf := false, just := 0, newPtr := true }, {})
  else if g.newPtr then
    ({ g with ais := false, newPtr := false, ndf := true, just := 0, fill := 4, value := fresh % (top + 1), bar := 3 }, {})
  else if (g.fill : Int) + delta ≤ 0 ∨ (g.fill : Int) + delta ≥ 8 then
    ({ g with ais := false, ndf := true, just := 0, fill := 4, value := fresh % (top + 1), bar := 3 }, { slip := true })
  else if g.bar > 0 then
    ({ g with ais := false, ndf := false, just := 0, bar := g.bar - 1, fill := ((g.fill : Int) + delta).toNat }, {})
  else if (g.fill : Int) + delta ≥ 6 then
    ({ g with ais := false, ndf := false, just := 2, bar := 3, fill := ((g.fill : Int) + delta).toNat - 1,
              value := if g.value = 0 then top else g.value - 1 }, { neg := true })
  else if (g.fill : Int) + delta ≤ 2 then
    ({ g with ais := false, ndf := false, just := 1, bar := 3, fill := ((g.fill : Int) + delta).toNat + 1,
              value := if g.value = top then 0 else g.value + 1 }, { pos := true })
  else
    ({ g with ais := false, ndf := false, just := 0, fill := ((g.fill : Int) + delta).toNat }, {})

/-- The H1/H2 or V1/V2 word of a period: the value before a justification of the period, its I or D bits inverted when it carries one
(R170, R188, R234). -/
def Regen.wordOf (old g : Regen) (ss : Nat) : Nat :=
  (if g.ndf then 9 else 6) * 4096 + ss * 1024 +
    (if g.just = 1 then old.value ^^^ 0x2AA else if g.just = 2 then old.value ^^^ 0x155 else g.value) % 1024

end Sys2Proof.Machine
end

