-- ==== Sys2Proof/Machine/Defects.lean ====
section
/-! DEFINITION. Reported defects, their suppression, and the derived signals of every layer (R305 to R323), as functions
of the detectors; and the events their changes set. -/

namespace Sys2Proof.Machine
open Sys2Proof

/-! Indexed state of high-order contexts and tributaries. -/

/-- The state of high-order context `h`. -/
def Device.ho (d : Device) (h : Nat) : HoSt := tabGet {} d.hos h
/-- Stores the state of high-order context `h`. -/
def Device.setHo (d : Device) (h : Nat) (x : HoSt) : Device := { d with hos := tabPut {} d.hos h x }
/-- Updates the state of high-order context `h`. -/
def Device.onHo (d : Device) (h : Nat) (f : HoSt → HoSt) : Device := d.setHo h (f (d.ho h))
/-- The state of tributary `k`. -/
def Device.tc (d : Device) (k : Nat) : TcSt := tabGet {} d.tcs k
/-- Stores the state of tributary `k`. -/
def Device.setTc (d : Device) (k : Nat) (x : TcSt) : Device := { d with tcs := tabPut {} d.tcs k x }
/-- Updates the state of tributary `k`. -/
def Device.onTc (d : Device) (k : Nat) (f : TcSt → TcSt) : Device := d.setTc k (f (d.tc k))

/-- A side that has started and not stopped. -/
def Side.runs (x : Side) : Bool := x == .on || x == .stopping

/-! Configuration read in many places. -/

/-- LANE_CTL.ENABLE. -/
def Device.laneEna (d : Device) (n : Nat) : Bool := d.bit (laneBase n + 0x10) 0
/-- LANE_CTL.MODE (R95): 4 is OTU2. -/
def Device.laneMode (d : Device) (n : Nat) : Nat := d.get (laneBase n + 0x10) 4 3
/-- The lane carries OTU2. -/
def Device.isOtu (d : Device) (n : Nat) : Bool := d.laneMode n == 4
/-- N of the lane's STM-N (R95). -/
def stmN (mode : Nat) : Nat := if mode = 0 then 1 else if mode = 1 then 4 else if mode = 2 then 16 else 64
/-- HO_CFG.ENABLE of context `h`. -/
def Device.hoEna (d : Device) (h : Nat) : Bool := d.bit (hoBase h) 0
/-- HO_CFG.TYPE of context `h` as written. -/
def Device.hoType (d : Device) (h : Nat) : Nat := d.get (hoBase h) 1 3
/-- The slots of a group by TYPE (R164). -/
def groupSize (t : Nat) : Nat := if t = 0 then 1 else if t = 1 then 3 else if t = 2 then 12 else if t = 3 then 48 else 192
/-- The contexts a head's group covers. -/
def Device.groupOf (d : Device) (h : Nat) : List Nat := (List.range (groupSize (d.hoType h))).map (h + ·)
/-- HO_CFG.DRAINED of context `h` (R194). -/
def Device.hoDrained (d : Device) (h : Nat) : Bool := d.bit (hoBase h) 7
/-- TC_CFG.ENABLE of tributary `k`. -/
def Device.tcEna (d : Device) (k : Nat) : Bool := d.bit (tcBase k) 0
/-- TC_STATUS.DRAINED of tributary `k`. -/
def Device.tcDrained (d : Device) (k : Nat) : Bool := d.bit (tcBase k + 0x20) 17
/-- TC_CFG.LANE of tributary `k`. -/
def Device.tcLane (d : Device) (k : Nat) : Nat := d.get (tcBase k) 4 6
/-- TC_CFG.LO_TYPE of tributary `k`: 3 is TU3. -/
def Device.tcType (d : Device) (k : Nat) : Nat := d.get (tcBase k) 1 3
/-- The tributaries that are enabled or draining. -/
def Device.tcActive (d : Device) : List Nat :=
  toRising (d.regs.filterMap (fun e =>
    match locOf e.1 with
    | some ⟨.tc, k, 0⟩ => if bitAt e.2 0 then some k else none
    | some ⟨.tc, k, 0x20⟩ => if bitAt e.2 17 then none else some k
    | _ => none))

/-- The context of the head that carries tributary `k` (R212). -/
def Device.tcCarrier (d : Device) (k : Nat) : Nat := 192 * d.tcLane k + d.get (tcBase k) 10 8
/-- An ISOLATE holds its target (R560). -/
def Device.fcHeld (d : Device) (x : Scope) : Bool := d.fc.holds.any (fun e => e.1 == x)
/-- A slice held in reset by ISOLATE (R560). -/
def Device.sliceHeld (d : Device) (s : Nat) : Bool := d.fcHeld (.slice s)

/-- The lane whose received signal serves the contexts of lane `n` (R356). -/
def Device.rxLane (d : Device) (n : Nat) : Nat :=
  match d.pairs.find? (fun p => p.work == n && p.sel) with
  | some p => p.prot
  | none => n

/-! Lane layer. -/

/-- The reported defects and derived signals of a lane, in the order of DEFECT (R329). -/
structure LaneDef where
  los : Bool := false
  oor : Bool := false
  lof : Bool := false
  rsTim : Bool := false
  msAis : Bool := false
  msRdi : Bool := false
  msSf : Bool := false
  msSd : Bool := false
  otuLof : Bool := false
  otuLom : Bool := false
  smTim : Bool := false
  smBdi : Bool := false
  smIae : Bool := false
  smBiae : Bool := false
  smSf : Bool := false
  smSd : Bool := false
  oduAis : Bool := false
  oduOci : Bool := false
  oduLck : Bool := false
  pmTim : Bool := false
  pmBdi : Bool := false
  oduPlm : Bool := false
  ssf : Bool := true
  tsf : Bool := true
  tsd : Bool := false
  aisOut : Bool := true
  deriving DecidableEq, Repr

/-- The signals of a lane that is disabled, draining (R319). -/
def laneOff : LaneDef := {}

/-- The defects below and within OTU2 and the regenerator section, reported under R306: LOS to LOF. -/
def laneDefLow (l : LaneSt) (otu : Bool) (rx : Word) : LaneDef :=
  let los := bitAt rx 0
  let oor := bitAt rx 1 && !los
  let sup := los || oor
  let otuLof := otu && bitAt rx 5 && !sup
  let supOtu := !otu || sup || otuLof
  let ais := l.oduAis.det && !supOtu
  let oci := l.oduOci.det && !supOtu
  let lck := l.oduLck.det && !supOtu
  let pm := supOtu || ais || oci || lck
  let lom := bitAt rx 7 && !supOtu
  let plm := l.oduPlm && !pm
  { los := los, oor := oor, otuLof := otuLof, otuLom := lom, oduAis := ais, oduOci := oci, oduLck := lck
    smTim := l.smTim && !supOtu, smBdi := l.smBdi.det && !supOtu, smIae := l.smIae.det && !supOtu
    smBiae := l.smBiae.det && !supOtu, smSf := l.smSf.decl && !supOtu, smSd := l.smSd.decl && !supOtu
    pmTim := l.pmTim && !pm, pmBdi := l.pmBdi.det && !pm, oduPlm := plm
    lof := bitAt rx 3 && (if otu then !(otuLof || lom || ais || oci || lck || plm) else !sup) }

/-- Whether LOF, or what suppresses it, is reported (R306). -/
def lofOrBelow (otu : Bool) (x : LaneDef) : Bool :=
  x.lof || (if otu then x.otuLof || x.otuLom || x.oduAis || x.oduOci || x.oduLck || x.oduPlm else x.los || x.oor)

/-- Whether the multiplex section's MS_RDI, MS_SF and MS_SD are suppressed (R306), given the rows below. -/
def msSuppressed (otu timAct : Bool) (x : LaneDef) : Bool := x.msAis || lofOrBelow otu x || (x.rsTim && timAct)

/-- The reported defects and signals of an evaluated lane (R305, R306, R319); `cfg` is DEF_CFG, `held` a slice reset. -/
def laneDefOn (l : LaneSt) (otu : Bool) (rx cfg : Word) (held : Bool) : LaneDef :=
  let timAct := bitAt cfg 1
  let oduAct := bitAt cfg 2
  let x := laneDefLow l otu rx
  let x := { x with rsTim := l.rsTim && !lofOrBelow otu x }
  let x := { x with msAis := l.msAis.det && !lofOrBelow otu x && !(x.rsTim && timAct) }
  let sup := msSuppressed otu timAct x
  let x := { x with msRdi := l.msRdi.det && !sup, msSf := l.msSf.decl && !sup, msSd := l.msSd.decl && !sup }
  let core := held || x.los || x.oor || x.lof || x.otuLof || x.otuLom || x.oduAis
    || (timAct && (x.rsTim || x.smTim || x.pmTim)) || (oduAct && (x.oduOci || x.oduLck || x.oduPlm))
  let ssf := core || (bitAt cfg 5 && x.smSf)
  let tsf := ssf || x.msAis || (bitAt cfg 4 && x.msSf)
  { x with ssf := ssf, aisOut := core || x.msAis, tsf := tsf, tsd := x.msSd && !tsf }

/-- The reported defects and signals of lane `n` (R305 to R310, R319). -/
def Device.laneDef (d : Device) (n : Nat) : LaneDef :=
  if d.laneEna n then
    laneDefOn (d.lane n) (d.isOtu n) (d.rd (laneBase n + 0x4000)) (d.lane n).act (d.sliceHeld (sliceOfLane n))
  else laneOff

/-- The bits of a list of Bools, the first at bit 0. -/
def bitsNat : List Bool → Nat
  | [] => 0
  | b :: t => b2n b + 2 * bitsNat t

/-- DEFECT as the register shows it (R329). -/
def LaneDef.word (x : LaneDef) : Word :=
  wd (bitsNat [x.los, x.oor, x.lof, x.rsTim, x.msAis, x.msRdi, x.msSf, x.msSd, x.otuLof, x.otuLom, x.smTim, x.smBdi, x.smIae,
    x.smBiae, x.smSf, x.smSd, x.oduAis, x.oduOci, x.oduLck, x.pmTim, x.pmBdi, x.oduPlm, false, false,
    x.ssf, x.tsf, x.tsd, x.aisOut])

/-! High-order layer. -/

/-- The reported defects and signals of a high-order head or member (R305, R306, R320, R321). -/
structure HoDef where
  lop : Bool := false
  ais : Bool := false
  lopc : Bool := false
  aisc : Bool := false
  oom : Bool := false
  lom : Bool := false
  uneq : Bool := false
  plm : Bool := false
  tim : Bool := false
  rdi : Bool := false
  sf : Bool := false
  sd : Bool := false
  ssf : Bool := true
  aAis : Bool := true
  tsf : Bool := true
  tsd : Bool := false
  deriving DecidableEq, Repr

/-- The members' pointer states of the group of head `h`. -/
def Device.memberStates (d : Device) (h : Nat) : List PiState := ((d.groupOf h).drop 1).map (fun m => (d.ho m).pi.st)

/-- A running head's reported defects (R306, R321): `ca` is DEF_CA [5:0] of its slice. -/
def hoDefOn (x : HoSt) (mem : List PiState) (ssf aisMs : Bool) (ca : Nat) : HoDef :=
  let lop := decide (x.pi.st = .lop) && !ssf
  let ais := decide (x.pi.st = .ais) && !ssf
  let lopc := mem.contains .lopc && !ssf
  let aisc := mem.contains .aisc && !ssf
  let sup := ssf || lop || ais || lopc || aisc
  let uneq := x.uneq && !sup
  let plm := x.plm && !sup && !uneq
  let tim := x.tim && !sup && !uneq
  let sf := x.sf.decl && !sup
  let sd := x.sd.decl && !sup
  let aAis := aisMs || lop || ais || lopc || aisc || (ca / 2 % 2 == 1 && uneq) || (ca % 2 == 1 && tim) || (ca / 4 % 2 == 1 && plm)
  let tsf := ssf || aAis || (ca / 32 % 2 == 1 && sf)
  { lop := lop, ais := ais, lopc := lopc, aisc := aisc, uneq := uneq, plm := plm, tim := tim
    rdi := x.rdi && !sup && !uneq, oom := x.oom && !sup && !uneq && !plm, lom := x.lom && !sup && !uneq && !plm
    sf := sf, sd := sd, ssf := ssf, aAis := aAis, tsf := tsf, tsd := sd && !tsf }

/-- The consequent-action flags of the slice that holds lane `n`, high-order half (R331). -/
def Device.caHo (d : Device) (n : Nat) : Nat := d.get (sliceBase (sliceOfLane n) + 0x900) 0 6
/-- The consequent-action flags, low-order half (R331). -/
def Device.caLo (d : Device) (n : Nat) : Nat := d.get (sliceBase (sliceOfLane n) + 0x900) 8 6

/-- The reported defects and signals of context `h` (R305, R320, R321): a disabled, draining or waiting context has
aTSF = 1; a member reports its own LOPC and AISC while its head is evaluated (R308). -/
def Device.hoDef (d : Device) (h : Nat) : HoDef :=
  match (d.ho h).claim with
  | some g =>
    if !(d.hoEna g && decide ((d.ho g).rx = .on)) then {}
    else
    { ssf := (d.laneDef (d.rxLane (laneOfHo h))).tsf
      lopc := decide ((d.ho h).pi.st = .lopc) && !(d.laneDef (d.rxLane (laneOfHo h))).tsf
      aisc := decide ((d.ho h).pi.st = .aisc) && !(d.laneDef (d.rxLane (laneOfHo h))).tsf }
  | none =>
    if d.hoEna h ∧ (d.ho h).rx = .on then
      hoDefOn (d.ho h) (d.memberStates h) ((d.laneDef (d.rxLane (laneOfHo h))).tsf || d.sliceHeld (sliceOfLane (laneOfHo h)))
        (d.laneDef (d.rxLane (laneOfHo h))).aisOut (d.ho h).ca
    else {}

/-- The defect bits of HO_STATUS (R197). -/
def HoDef.word (x : HoDef) : Nat :=
  bitsNat [x.lop, x.ais, x.lopc, x.aisc, x.oom, x.lom, x.uneq, x.plm, x.tim, x.rdi, x.sf, x.sd]

/-! Low-order layer. -/

/-- The reported defects and signals of a tributary (R305, R306, R321). -/
structure TcDef where
  lop : Bool := false
  ais : Bool := false
  lom : Bool := false
  uneq : Bool := false
  plm : Bool := false
  tim : Bool := false
  rdi : Bool := false
  rfi : Bool := false
  sf : Bool := false
  sd : Bool := false
  frozen : Bool := false
  ssf : Bool := true
  aAis : Bool := true
  tsf : Bool := true
  tsd : Bool := false
  deriving DecidableEq, Repr

/-- The lane's SDH framer is in SYNC and its receive side runs. -/
def Device.laneSync (d : Device) (n : Nat) : Bool := (d.lane n).rxOn && decide ((d.lane n).sdh.st = .sync)

/-- FROZEN of tributary `k` (R222): the framer out of SYNC, or the carrier in OOM except for a TU3. -/
def Device.tcFrozen (d : Device) (k : Nat) : Bool :=
  (d.tc k).rx.runs && (!d.laneSync (d.rxLane (d.tcLane k)) || (d.tcType k != 3 && (d.ho (d.tcCarrier k)).oom))

/-- A running tributary's reported defects (R306, R321): `ca` is DEF_CA [13:8]; `iso` an ISOLATE of the TC (R560). -/
def tcDefOn (x : TcSt) (tu3 : Bool) (c : HoDef) (sync frozen held iso : Bool) (ca : Nat) : TcDef :=
  let mf := !tu3 && (c.oom || c.lom)
  let ssf := c.tsf || mf || frozen || held
  let lop := decide (x.pi.st = .lop) && !ssf
  let ais := decide (x.pi.st = .ais) && !ssf
  let sup := ssf || lop || ais
  let uneq := x.uneq && !sup
  let plm := x.plm && !sup && !uneq
  let tim := x.tim && !sup && !uneq
  let sf := x.sf.decl && !sup
  let sd := x.sd.decl && !sup
  let aAis := c.aAis || mf || frozen || lop || ais || (ca / 2 % 2 == 1 && uneq) || (ca % 2 == 1 && tim) || (ca / 4 % 2 == 1 && plm)
  let tsf := ssf || aAis || (ca / 32 % 2 == 1 && sf) || iso
  { lop := lop, ais := ais, lom := !tu3 && c.lom && !c.tsf && sync, uneq := uneq, plm := plm, tim := tim
    rdi := x.rdi && !sup && !uneq, rfi := x.rfi && !sup && !uneq, sf := sf, sd := sd
    frozen := frozen, ssf := ssf, aAis := aAis, tsf := tsf, tsd := sd && !tsf }

/-- The reported defects and signals of tributary `k` (R305, R321). -/
def Device.tcDef (d : Device) (k : Nat) : TcDef :=
  if d.tcEna k ∧ (d.tc k).rx = .on then
    tcDefOn (d.tc k) (d.tcType k == 3) (d.hoDef (d.tcCarrier k)) (d.laneSync (d.rxLane (d.tcLane k))) (d.tcFrozen k)
      (d.sliceHeld (sliceOfLane (d.tcLane k))) (d.fcHeld (.tc k)) (d.tc k).ca
  else {}

/-- The defect bits [9:0] of TC_STATUS (R208). -/
def TcDef.word (x : TcDef) : Nat := bitsNat [x.lop, x.ais, x.lom, x.uneq, x.plm, x.tim, x.rdi, x.rfi, x.sf, x.sd]

/-! Signal fail and signal degrade. -/

/-- Parity bits per period, bits per block and periods per second of a layer (R316). -/
def Device.sfParams (d : Device) : SfLayer → Nat × Nat × Nat
  | .ms n => (24 * stmN (d.laneMode n), 801, 8000)
  | .sm _ => (8, 15240, 82025)
  | .ho h =>
    (8, match d.hoType h with | 0 => 765 | 1 => 2349 | 2 => 9396 | 3 => 37584 | _ => 150336, 8000)
  | .tc k =>
    match d.tcType k with
    | 0 => (2, 416, 2000) | 1 => (2, 560, 2000) | 2 => (2, 1712, 2000) | _ => (8, 765, 8000)

/-- The lane of a layer. -/
def Device.sfLane (d : Device) : SfLayer → Nat
  | .ms n => n | .sm n => n | .ho h => laneOfHo h | .tc k => d.tcLane k

/-- The SF/SD profile of a layer in the slice that owns it (R316, R330), by the word a context uses (R195, R217): the address of
its words. -/
def Device.sfProfile (d : Device) (l : SfLayer) : Nat :=
  sliceBase (sliceOfLane (d.sfLane l)) + 0x800 + 0x10 *
    (match l with
     | .ms n => d.get (laneBase n + 0x4058) 8 4
     | .sm n => d.get (laneBase n + 0x4058) 12 4
     | .ho h => fld (d.ho h).rxMon 16 4
     | .tc k => fld (d.tc k).rxMon 20 4)

/-- The threshold count N(e, W) of R317, exactly: max(1, ceil(B (1 - (1 - 2/10^e)^L) / 2)) for B blocks.
DEDUCED, log entry 33. -/
def sfCount (b l e : Nat) : Nat :=
  max 1 ((b * ((10 ^ e) ^ l - (10 ^ e - 2) ^ l) + 2 * (10 ^ e) ^ l - 1) / (2 * (10 ^ e) ^ l))

/-- The window of R318 in milliseconds: SF or SD, declare or clear. -/
def Device.sfWindowMs (d : Device) (p : Nat) (sd decl : Bool) : Nat :=
  if sd then 10 * (if decl then d.get (p + 8) 0 16 else d.get (p + 8) 16 16)
  else if decl then d.get (p + 4) 0 16 else d.get (p + 4) 16 16

/-- The threshold exponent: SF_EXP or SD_EXP, one more for a clear window (R317). -/
def Device.sfExp (d : Device) (p : Nat) (sd decl : Bool) : Nat :=
  (if sd then d.get p 4 4 else d.get p 0 3) + (if decl then 0 else 1)

/-- SF_ENA or SD_ENA of a profile. -/
def Device.sfEna (d : Device) (p : Nat) (sd : Bool) : Bool := d.bit p (if sd then 9 else 8)

/-- The count of errored blocks at which a window of the present kind declares or keeps the defect (R317, R318).
DEDUCED, log entry 33. -/
def Device.sfThreshold (d : Device) (l : SfLayer) (sd decl : Bool) : Nat :=
  sfCount ((d.sfParams l).1 * (d.sfWindowMs (d.sfProfile l) sd decl * (d.sfParams l).2.2 / 1000))
    (d.sfParams l).2.1 (d.sfExp (d.sfProfile l) sd decl)

/-- The evaluation of a layer. -/
def Device.sfGet (d : Device) (l : SfLayer) (sd : Bool) : SfSd :=
  match l with
  | .ms n => if sd then (d.lane n).msSd else (d.lane n).msSf
  | .sm n => if sd then (d.lane n).smSd else (d.lane n).smSf
  | .ho h => if sd then (d.ho h).sd else (d.ho h).sf
  | .tc k => if sd then (d.tc k).sd else (d.tc k).sf

/-- Stores the evaluation of a layer. -/
def Device.sfSet (d : Device) (l : SfLayer) (sd : Bool) (x : SfSd) : Device :=
  match l with
  | .ms n => d.onLane n (fun s => if sd then { s with msSd := x } else { s with msSf := x })
  | .sm n => d.onLane n (fun s => if sd then { s with smSd := x } else { s with smSf := x })
  | .ho h => d.onHo h (fun s => if sd then { s with sd := x } else { s with sf := x })
  | .tc k => d.onTc k (fun s => if sd then { s with sd := x } else { s with sf := x })

/-- Whether the layer's SF and SD are evaluated: not suppressed (R306) and not disabled (R308, R318). -/
def Device.sfOpen (d : Device) (l : SfLayer) : Bool :=
  match l with
  | .ms n =>
    d.laneEna n && !msSuppressed (d.isOtu n) (bitAt (d.lane n).act 1) (d.laneDef n)
  | .sm n => d.laneEna n && d.isOtu n && !((d.laneDef n).los || (d.laneDef n).oor || (d.laneDef n).otuLof)
  | .ho h =>
    d.hoEna h && decide ((d.ho h).rx = .on) &&
      !((d.hoDef h).ssf || (d.hoDef h).lop || (d.hoDef h).ais || (d.hoDef h).lopc || (d.hoDef h).aisc)
  | .tc k =>
    d.tcEna k && decide ((d.tc k).rx = .on) && !((d.tcDef k).ssf || (d.tcDef k).lop || (d.tcDef k).ais)

/-- Errored blocks of one period enter a window in progress. -/
def SfSd.add (x : SfSd) (e : Nat) : SfSd := { x with errs := if x.on then x.errs + e else x.errs }

/-- A period ends with errored blocks (R317): a window that was waiting for its boundary begins behind it (R318). -/
def Device.sfErrors (d : Device) (l : SfLayer) (e : Nat) : Device :=
  [false, true].foldl (fun d sd =>
    d.sfSet l sd { (d.sfGet l sd).add e with on := (d.sfGet l sd).on || (d.sfOpen l && d.sfEna (d.sfProfile l) sd) }) d

/-- A window of a layer ends (R318): at or above the threshold the defect is declared or stays, below it is cleared.
DEDUCED, log entry 33. -/
def Device.sfWindowEnd (d : Device) (l : SfLayer) (sd : Bool) : Device :=
  if d.sfOpen l && d.sfEna (d.sfProfile l) sd then
    d.when (d.sfGet l sd).on (·.sfSet l sd { on := true, decl := decide (d.sfThreshold l sd (!(d.sfGet l sd).decl) ≤ (d.sfGet l sd).errs), errs := 0 })
  else d.sfSet l sd {}

/-- The evaluation of a layer that is suppressed or switched off goes to CLEAR and keeps no count (R318). -/
def Device.sfClose (d : Device) (l : SfLayer) : Device :=
  [false, true].foldl (fun d sd => if d.sfOpen l && d.sfEna (d.sfProfile l) sd then d else d.sfSet l sd {}) d

/-- The windows in progress of a layer are discarded (R318, last row): `on` tells whether this instant is the boundary at which the next
begin.
DEDUCED, log entry 33. -/
def Device.sfRestart (d : Device) (l : SfLayer) (on : Bool) : Device :=
  [false, true].foldl (fun d sd => d.sfSet l sd { d.sfGet l sd with errs := 0, on := (d.sfGet l sd).on && on }) d

/-! Labels and RDI. -/

/-- UNEQ and PLM from the accepted and expected labels (R313). -/
def labelJudge (acc exp : Nat) : Bool × Bool :=
  if acc = 0 ∧ exp = 0 then (false, false)
  else if acc = 0 then (true, false)
  else if exp = 0 then (false, true)
  else if acc = exp then (false, false)
  else if acc = 1 then (false, false)
  else if exp = 1 then (false, false)
  else (false, true)

/-- RDI from the accepted code (R315): one-bit, or enhanced with 010, 101, 110 or a first bit set. -/
def rdiJudge (erdi : Bool) (one : Bool) (code : Nat) : Bool :=
  if erdi then [2, 5, 6, 4, 7].contains code else one

/-- The RDI code a context sends (R325). -/
def rdiSend (erdi ena aAis server tim plm : Bool) : Nat :=
  if erdi then (if ena && server then 5 else if ena && tim then 6 else if ena && plm then 2 else 1)
  else if ena && aAis then 4 else 0

/-! Evaluation that resumes (R308, R312). -/

/-- The defect evaluation of a context starts anew: every acceptance and detector from its cleared state; the pointer and multiframe
processors go on.
DEDUCED, log entry 88. -/
def HoSt.fresh (x : HoSt) : HoSt :=
  { x with j1 := {}, c2 := {}, g1 := {}, f2 := {}, f3 := {}, k3 := {}, n1 := {}, c2Ok := false, g1Ok := false, lom := false
           uneq := false, plm := false, tim := false, rdi := false, sf := {}, sd := {} }

/-- The same of a tributary.
DEDUCED, log entry 88. -/
def TcSt.fresh (x : TcSt) : TcSt :=
  { x with rfiRun := {}, lblRun := {}, rdiRun := {}, n2Run := {}, rfiOk := false, lblOk := false, rdiOk := false, j2 := {}
           uneq := false, plm := false, tim := false, rdi := false, rfi := false, sf := {}, sd := {} }

/-- The contexts a lane carries start their evaluation anew when the lane's resumes (R155, R308, R312).
DEDUCED, log entry 88. -/
def Device.pathsFresh (d : Device) (n : Nat) : Device :=
  (fun d1 : Device => (tabKeys d1.tcs).foldl (fun d k => if d.rxLane (d.tcLane k) = n then d.onTc k TcSt.fresh else d) d1)
  ((tabKeys d.hos).foldl (fun d h => if d.rxLane (laneOfHo h) = n then d.onHo h HoSt.fresh else d) d)

/-- The lane whose path a context, by its number (R403), is. -/
def Device.ctxHome (d : Device) (c : Nat) : Nat := if c < 262144 then d.tcLane c else laneOfHo (c - 262144)

/-- The receive side of lanes stops: the frame store receives AIS for every context they carry (R155, R274). -/
def Device.cellsDrop (d : Device) (stops : Nat → Bool) : Device :=
  { d with hall := { d.hall with wr := d.hall.wr.filter (fun e => !stops (d.rxLane (d.ctxHome e.1))) } }

/-- One frame of a detector (R309): `set` and `clr` frames are needed. -/
def DefRun.step (r : DefRun) (cond : Bool) (set clr : Nat) : DefRun :=
  if r.det = cond then { r with cnt := 0 }
  else if r.cnt + 1 ≥ (if r.det then clr else set) then { det := cond, cnt := 0 } else { r with cnt := r.cnt + 1 }

/-- A frame out of SYNC ends the run (R700). -/
def DefRun.brk (r : DefRun) : DefRun := { r with cnt := 0 }

end Sys2Proof.Machine
end

