-- ==== Sys2Proof/Machine/Select.lean ====
section
/-! DEFINITION. The protection words of contexts and the membership of path selectors (R344, R345, R348, R352, R367). A
context is numbered as its monitor point (R403): TC `k` is `k`, high-order context `h` is 262,144 + h. -/

namespace Sys2Proof.Machine
open Sys2Proof

/-- The context number of high-order context `h`. -/
def hoCtx (h : Nat) : Nat := 262144 + h

/-- The address of a context's protection word. -/
def protAddr (c : Nat) : Nat := if c < 262144 then tcBase c + 0xC else hoBase (c - 262144) + 0x10

/-- SEL_ENA of a protection word (R197, R207). -/
def protEna (c : Nat) (w : Word) : Bool := bitAt w (if c < 262144 then 17 else 13)
/-- ROLE of a protection word: true for protect. -/
def protRole (c : Nat) (w : Word) : Bool := bitAt w (if c < 262144 then 18 else 14)
/-- HITLESS of a protection word. -/
def protHitless (c : Nat) (w : Word) : Bool := bitAt w (if c < 262144 then 19 else 15)
/-- The window index of the selector a protection word names (R367). -/
def protSel (c : Nat) (w : Word) : Nat := if c < 262144 then fld w 0 17 else 131072 + fld w 0 13

/-- The member of a side. -/
def Members.side (m : Members) (p : Bool) : Option Nat := if p then m.p else m.w
/-- Names a context as the member of a side. -/
def Members.put (m : Members) (p : Bool) (c : Option Nat) : Members := if p then { m with p := c } else { m with w := c }

/-- The selector of window index `i`. -/
def Device.sel (d : Device) (i : Nat) : Sel := tabGet {} d.land.sels i
/-- Stores a selector. -/
def Device.setSel (d : Device) (i : Nat) (s : Sel) : Device := { d with land := { d.land with sels := tabPut {} d.land.sels i s } }

/-- The protection word of a context in use. -/
def Device.protUsed (d : Device) (c : Nat) : Word := if c < 262144 then (d.tc c).prot else (d.ho (c - 262144)).prot

/-- Removes context `c` from the members a word names. -/
def unname (c : Nat) (w : Word) (m : Members) : Members :=
  if protEna c w && m.side (protRole c w) == some c then m.put (protRole c w) none else m

/-- Enters context `c` among the members a word names. -/
def enname (c : Nat) (w : Word) (m : Members) : Members := if protEna c w then m.put (protRole c w) (some c) else m

/-- The change of membership a protection word brings when it is taken into use (R344): the next scan applies it (R348). -/
def Device.protMembers (d : Device) (c : Nat) (old new : Word) : Device :=
  (fun d1 : Device =>
    if protEna c new then
      d1.setSel (protSel c new) { d1.sel (protSel c new) with
        taken := enname c new (d1.sel (protSel c new)).taken
        moved := true }
    else d1)
  (if protEna c old then
    d.setSel (protSel c old) { d.sel (protSel c old) with
      taken := unname c old (d.sel (protSel c old)).taken
      moved := true }
   else d)

/-- A scan applies the membership taken into use since the one before (R348): timers stop, a standing MS is cancelled and the
requests of an ACTIVE selector are re-evaluated. -/
def Device.selJoin (d : Device) (i : Nat) : Device :=
  (fun s : Sel =>
    if s.moved then
      d.setSel i { s with
        used := s.taken
        moved := false
        c := if s.st = 1 then { s.c with reeval := true, ms := none } else s.c }
    else d)
  (d.sel i)

/-- Two protection words name the same selector and side. -/
def protSame (c : Nat) (a b : Word) : Bool :=
  protEna c a == protEna c b && (!protEna c a || (protRole c a == protRole c b && protSel c a == protSel c b))

/-- A context takes its protection word into use (R344). -/
def Device.protTake (d : Device) (c : Nat) : Device :=
  (fun old new : Word =>
    (fun d1 : Device => if protSame c old new then d1 else d1.protMembers c old new)
    (if c < 262144 then d.onTc c (fun x => { x with prot := new }) else d.onHo (c - 262144) (fun x => { x with prot := new })))
  (d.protUsed c) (d.rd (protAddr c))

/-- The descriptor of a hitless pair. -/
def Device.hpair (d : Device) (i : Nat) : Option HPair := tabGet none d.cel.pairs i
/-- Stores or releases a descriptor. -/
def Device.setHpair (d : Device) (i : Nat) (p : Option HPair) : Device :=
  { d with cel := { d.cel with pairs := tabPut none d.cel.pairs i p } }

/-- A member's word in use carries HITLESS. -/
def Device.memberHitless (d : Device) (m : Option Nat) : Bool :=
  match m with | some c => protHitless c (d.protUsed c) | none => false

/-- SEL_STATUS.HITLESS of a selector (R352). -/
def Device.selHitless (d : Device) (i : Nat) : Bool :=
  d.memberHitless (d.sel i).used.w && d.memberHitless (d.sel i).used.p &&
    (match d.hpair i with | some p => p.st == 4 | none => false)

/-- The context's type, LO_TYPE or HO_CFG.TYPE. -/
def Device.ctxType (d : Device) (c : Nat) : Nat := if c < 262144 then d.tcType c else d.hoType (c - 262144)
/-- The context is enabled. -/
def Device.ctxEna (d : Device) (c : Nat) : Bool := if c < 262144 then d.tcEna c else d.hoEna (c - 262144)
/-- TC_CAPTURE or HO_CAPTURE as the context uses it (R195, R217). -/
def Device.capUsed (d : Device) (c : Nat) : Word := if c < 262144 then (d.tc c).capt else (d.ho (c - 262144)).capt
/-- aSSF, aTSF, aTSD and aAIS of a context (R321). -/
def Device.ctxSig (d : Device) (c : Nat) : Bool × Bool × Bool × Bool :=
  if c < 262144 then ((d.tcDef c).ssf, (d.tcDef c).tsf, (d.tcDef c).tsd, (d.tcDef c).aAis)
  else ((d.hoDef (c - 262144)).ssf, (d.hoDef (c - 262144)).tsf, (d.hoDef (c - 262144)).tsd, (d.hoDef (c - 262144)).aAis)
/-- aAIS of a context when its pointer period in progress began (R323). -/
def Device.aisFrom (d : Device) (c : Nat) : Bool := if c < 262144 then (d.tc c).aisFrom else (d.ho (c - 262144)).aisFrom
/-- The receive side of a context runs. -/
def Device.rxRuns (d : Device) (c : Nat) : Bool := if c < 262144 then (d.tc c).rx.runs else (d.ho (c - 262144)).rx.runs
/-- A pointer period of a context begins (R323). -/
def Device.aisLatch (d : Device) (c : Nat) : Device :=
  if c < 262144 then d.onTc c (fun x => { x with aisFrom := (d.tcDef c).aAis })
  else d.onHo (c - 262144) (fun x => { x with aisFrom := (d.hoDef (c - 262144)).aAis })

end Sys2Proof.Machine
end

