-- ==== Sys2Proof/Machine/Chooser.lean ====
section
/-! DEFINITION. The request machine of the Landing (R333 to R342, R346 to R348, R358, R359): which request is active, what it
selects, and what a scan, a timer and an external command do to it. -/

namespace Sys2Proof.Machine
open Sys2Proof

/-- A request (R333): its priority, 1 the highest, its code, its channel, and the copy it selects; none keeps the choice. -/
structure ReqV where
  prio : Nat
  code : Nat
  ch : Nat
  pick : Option Bool
  deriving DecidableEq, Repr

/-- The signals that raise requests (R334): failure and degrade of the working and of the protect copy. -/
structure Sig where
  sfW : Bool := false
  sfP : Bool := false
  sdW : Bool := false
  sdP : Bool := false
  deriving DecidableEq, Repr

/-- The configuration of a selector or pair: hold-off in 100 ms, WTR in seconds. -/
structure ChooseCfg where
  rev : Bool
  sdTrig : Bool
  hold : Nat
  wtr : Nat
  deriving DecidableEq, Repr

/-- What a bidirectional pair receives (R358, R359): the remote request, and the channel of the received K2; a selector and
a unidirectional pair receive nothing. -/
structure FarEnd where
  req : Option ReqV := none
  gate : Option Nat := none
  deriving DecidableEq, Repr

/-- The local requests of priority 6 to 11. -/
def Chooser.localLow (c : Chooser) (rev : Bool) : ReqV :=
  match c.ms with
  | some b => ⟨6, 8, b2n b, some b⟩
  | none =>
    if c.wtr.isSome then ⟨7, 6, 1, some true⟩
    else if c.exer then ⟨8, 4, 1, none⟩
    else if !rev && c.choice then ⟨10, 1, 1, some true⟩ else ⟨11, 0, 0, some false⟩

/-- The local request of highest priority (R333). -/
def Chooser.localReq (c : Chooser) (rev : Bool) : ReqV :=
  if c.lo then ⟨1, 15, 0, some false⟩
  else if c.sfP then ⟨2, 12, 0, some false⟩
  else
    match c.fs with
    | some b => ⟨3, 14, b2n b, some b⟩
    | none =>
      if c.sfW then ⟨4, 12, 1, some true⟩
      else if c.sdW && c.sdP then ⟨5, 10, b2n c.choice, none⟩
      else if c.sdW || c.sdP then ⟨5, 10, b2n c.sdW, some c.sdW⟩
      else c.localLow rev

/-- The remote request of an accepted K1 (R358): 1101 and 1011 stand for SF and SD; RR, NR and the PSB codes are none; `ch` is 0 for the
null channel and 1 for any other. -/
def remoteReq (code ch : Nat) : Option ReqV :=
  match code with
  | 15 => some ⟨1, 15, ch, some false⟩
  | 14 => some ⟨3, 14, ch, some (ch != 0)⟩
  | 12 | 13 => some (if ch = 0 then ⟨2, 12, 0, some false⟩ else ⟨4, 12, ch, some true⟩)
  | 10 | 11 => some ⟨5, 10, ch, some (ch != 0)⟩
  | 8 => some ⟨6, 8, ch, some (ch != 0)⟩
  | 6 => some ⟨7, 6, ch, some true⟩
  | 4 => some ⟨8, 4, ch, none⟩
  | 1 => some ⟨10, 1, ch, some true⟩
  | _ => none

/-- The active request and whether it is remote (R333, R358): RR stands for a remote request, which must rank higher. -/
def Chooser.activeReq (c : Chooser) (rev : Bool) (far : FarEnd) : ReqV × Bool :=
  match far.req with
  | some r => if r.prio < (c.localReq rev).prio then ({ r with code := 2 }, true) else (c.localReq rev, false)
  | none => (c.localReq rev, false)

/-- What a higher request removes (R337, R339, R361): WTR, a standing MS, an exercise. -/
def Chooser.cancel (c : Chooser) (prio : Nat) : Chooser :=
  { c with wtr := if prio ≤ 6 then none else c.wtr, ms := if prio ≤ 5 then none else c.ms
           exer := c.exer && decide (7 < prio) }

/-- WTR starts (R337): an SF_W or SD_W that held the protect choice is gone and no request of priority 1 to 6 is left. -/
def Chooser.wtrStart (c : Chooser) (cfg : ChooseCfg) (prio : Nat) : Chooser :=
  if cfg.rev && c.wtr.isNone && !c.remote && (c.req == 12 || c.req == 10) && c.ch == 1 && c.choice && decide (6 < prio)
      && decide (0 < cfg.wtr) then
    { c with wtr := some (4000 * cfg.wtr) }
  else c

/-- The choice a request brings: a move to protect waits for the received channel (R359). -/
def chooseMove (choice : Bool) (r : ReqV) (gate : Option Nat) : Bool :=
  match r.pick with
  | none => choice
  | some false => false
  | some true => choice || (match gate with | some g => g == r.ch | none => true)

/-- The active request is taken and the choice decided (R333, R337 to R339, R359). -/
def Chooser.resolve (cfg : ChooseCfg) (far : FarEnd) (c : Chooser) : Chooser :=
  (fun c1 : Chooser =>
    (fun a : ReqV × Bool =>
      { c1 with req := a.1.code, ch := a.1.ch, remote := a.2, choice := chooseMove c1.choice a.1 far.gate })
    (c1.activeReq cfg.rev far))
  ((c.cancel (c.activeReq cfg.rev far).1.prio).wtrStart cfg (c.activeReq cfg.rev far).1.prio)

/-- Requests whose cause has gone are dropped (R336). -/
def Chooser.dropGone (c : Chooser) (s : Sig) : Chooser :=
  { c with sfW := c.sfW && s.sfW, sfP := c.sfP && s.sfP, sdW := c.sdW && s.sdW, sdP := c.sdP && s.sdP }

/-- The requests present are raised (R336). -/
def Chooser.raiseAll (c : Chooser) (s : Sig) : Chooser := { c with sfW := s.sfW, sfP := s.sfP, sdW := s.sdW, sdP := s.sdP }

/-- A cause is present whose request is not raised. -/
def Chooser.newCause (c : Chooser) (s : Sig) : Bool :=
  (s.sfW && !c.sfW) || (s.sfP && !c.sfP) || (s.sdW && !c.sdW) || (s.sdP && !c.sdP)

/-- The signals under SD_TRIG (R334). -/
def Sig.trig (s : Sig) (sd : Bool) : Sig := { s with sdW := s.sdW && sd, sdP := s.sdP && sd }

/-- The raising part of a scan (R336, R347, R349): a timer counts scans of 250 µs, and a hold-off timer that comes to its end
raises what is present. -/
def Chooser.scanRaise (cfg : ChooseCfg) (s : Sig) (c : Chooser) : Chooser :=
  if c.reeval then { c.raiseAll s with hold := none, wtr := none, reeval := false }
  else
    (fun c1 : Chooser =>
      (fun c2 : Chooser => { c2 with wtr := c2.wtr.map (· - 1) })
      (match c1.hold with
       | some n => if n ≤ 1 then { c1.raiseAll s with hold := none } else { c1 with hold := some (n - 1) }
       | none =>
         if c1.newCause s then (if cfg.hold = 0 then c1.raiseAll s else { c1 with hold := some (400 * cfg.hold) }) else c1))
    (c.dropGone s)

/-- The hold-off timer expires (R336): the requests present are raised. -/
def Chooser.holdExpire (cfg : ChooseCfg) (s : Sig) (far : FarEnd) (c : Chooser) : Chooser :=
  if c.hold.isSome then ({ c.raiseAll (s.trig cfg.sdTrig) with hold := none }).resolve cfg far else c

/-- The WTR timer expires (R337). -/
def Chooser.wtrExpire (cfg : ChooseCfg) (far : FarEnd) (c : Chooser) : Chooser :=
  if c.wtr.isSome then ({ c with wtr := none, req := 0, ch := 0 }).resolve cfg far else c

/-- The WTR timer comes to its end in a scan (R337, R349): a request of priority 1 to 6 the scan sees cancels it instead (R366). -/
def Chooser.wtrDue (cfg : ChooseCfg) (s : Sig) (far : FarEnd) (c : Chooser) : Bool :=
  (fun c1 : Chooser => decide (c1.wtr = some 0) && decide (6 < (c1.activeReq cfg.rev far).1.prio)) (c.scanRaise cfg (s.trig cfg.sdTrig))

/-- One scan (R349).
DEDUCED, log entry 34. -/
def Chooser.scan (cfg : ChooseCfg) (s : Sig) (far : FarEnd) (c : Chooser) : Chooser :=
  if c.wtrDue cfg s far then (c.scanRaise cfg (s.trig cfg.sdTrig)).wtrExpire cfg far
  else (c.scanRaise cfg (s.trig cfg.sdTrig)).resolve cfg far

/-- The priority of an external command (R333, R340). -/
def cmdPrio (cmd : Nat) : Nat := if cmd = 1 then 1 else if cmd = 2 ∨ cmd = 3 then 3 else if cmd = 4 ∨ cmd = 5 then 6 else 8

/-- A standing command has the class of `cmd`. -/
def Chooser.standsClass (c : Chooser) (cmd : Nat) : Bool :=
  if cmd = 1 then c.lo else if cmd = 2 ∨ cmd = 3 then c.fs.isSome else if cmd = 4 ∨ cmd = 5 then c.ms.isSome else c.exer

/-- A command is accepted (R341); CLEAR always. -/
def Chooser.accepts (c : Chooser) (rev : Bool) (far : FarEnd) (cmd : Nat) : Bool :=
  cmd == 0 || decide (cmdPrio cmd < (c.activeReq rev far).1.prio) ||
    (decide (cmdPrio cmd = (c.activeReq rev far).1.prio) && c.standsClass cmd)

/-- An accepted command stands (R339, R340). -/
def Chooser.stand (c : Chooser) (cmd : Nat) : Chooser :=
  match cmd with
  | 0 => { c with lo := false, fs := none, ms := none, exer := false, wtr := none }
  | 1 => { c with lo := true }
  | 2 => { c with fs := some true }
  | 3 => { c with fs := some false }
  | 4 => { c with ms := some true }
  | 5 => { c with ms := some false }
  | _ => { c with exer := true }

/-- An external command is judged (R341, R342) and an accepted one acts. Answers its result.
DEDUCED, log entry 34. -/
def Chooser.command (cfg : ChooseCfg) (far : FarEnd) (c : Chooser) (cmd : Nat) : Nat × Chooser :=
  if c.accepts cfg.rev far cmd then (0, { ((c.stand cmd).resolve cfg far) with lastRes := 0 })
  else (1, { c with lastRes := 1 })

/-- STANDING and STANDING_UNDER (R339, R367), coded per R340. -/
def Chooser.standing (c : Chooser) : Nat :=
  if c.lo then 1 else match c.fs, c.ms with
    | some b, _ => if b then 2 else 3
    | none, some b => if b then 4 else 5
    | none, none => if c.exer then 6 else 0
/-- The FS beneath an LO. -/
def Chooser.under (c : Chooser) : Nat := match c.lo, c.fs with | true, some b => if b then 2 else 3 | _, _ => 0

/-- SEL_TIMER and MSP_TIMER (R367): seconds of WTR and 100 ms of hold-off remaining. -/
def Chooser.timer (c : Chooser) : Word :=
  wd ((match c.wtr with | some n => (n + 3999) / 4000 | none => 0) + 2 ^ 16 * (match c.hold with | some n => (n + 399) / 400 | none => 0))

/-- A selector or pair stops evaluating (R346, R366): the choice and the request shown stay. -/
def Chooser.stop (c : Chooser) : Chooser := { c with hold := none, wtr := none, lo := false, fs := none, ms := none, exer := false }

/-- Evaluation resumes from a held choice with NR or DNR active (R346): what the next scans find is raised per R336. -/
def Chooser.resume (c : Chooser) (rev : Bool) : Chooser :=
  { c.stop with req := if !rev && c.choice then 1 else 0, ch := if !rev && c.choice then 1 else 0, remote := false, reeval := false
                sfW := false, sfP := false, sdW := false, sdP := false }

end Sys2Proof.Machine
end

