-- ==== Sys2Proof/Machine/Filter.lean ====
section
/-! DEFINITION. The Hearth filter chain: rank filter, decimator, FIR, coefficient banks, cross-fades and threshold events
(R483 to R503). -/

namespace Sys2Proof.Machine
open Sys2Proof

/-- Updates the hidden state of the Hearth. -/
def Device.onHearth (d : Device) (f : HearthSt → HearthSt) : Device := { d with hearth := f d.hearth }
/-- The chain of a slot. -/
def Device.chain (d : Device) (r : Nat) : Chain := tabGet {} d.hearth.chains r
/-- Stores the chain of a slot. -/
def Device.setChain (d : Device) (r : Nat) (c : Chain) : Device :=
  d.onHearth (fun h => { h with chains := tabPut {} h.chains r c })
/-- A reference slot. -/
def Device.ref (d : Device) (r : Nat) : RefSt := tabGet {} d.hearth.refs r
/-- Stores a reference slot. -/
def Device.setRef (d : Device) (r : Nat) (x : RefSt) : Device :=
  d.onHearth (fun h => { h with refs := tabPut {} h.refs r x })

/-- The decimation R of a preset (R489). -/
def presetR (p : Nat) : Nat := if p = 0 then 8 else if p = 1 then 80 else 800
/-- The output rate of a preset in Hz (R489). -/
def presetRate (p : Nat) : Nat := if p = 0 then 1000 else if p = 1 then 100 else 10
/-- The preset of a slot's main branch. -/
def Device.preset (d : Device) (r : Nat) : Nat := d.get (filtBase r) 0 2
/-- W of a slot's rank filter (R486). -/
def Device.rankW (d : Device) (r : Nat) : Nat := 3 + 2 * d.get (filtBase r) 2 2

/-! The three stages (R484 to R490). -/

/-- Inserts into a rising list of integers. -/
def insInt (x : Int) : List Int → List Int
  | [] => [x]
  | y :: t => if x ≤ y then x :: y :: t else y :: insInt x t

/-- The median of the samples held, the lower middle one of an even number (R486, R492). -/
def medianInt (l : List Int) : Int := (l.foldr insInt []).getD ((l.length - 1) / 2) 0

/-- A sample carried on from the newest one without wrap (R484).
PRESUMED, log entry 43. -/
def unwrap48 (win : List Int) (x : Int) : Int :=
  match win with
  | [] => signed 48 (unsigned 48 x)
  | n :: _ => n + signed 48 (unsigned 48 (x - n))

/-- Division rounded to the nearest integer, halves upward.
DEDUCED, log entry 42. -/
def roundDiv (a b : Int) : Int := (2 * a + b) / (2 * b)

/-- A branch preloaded with the first rank-filter output (R492). -/
def Branch.preload (b : Branch) (v : Int) (r : Nat) : Branch :=
  if b.fir = [] then { b with base := v, fir := List.replicate 32 (v * (r : Int) ^ 3), y := v * 65536 } else b

/-- The integrators take a rank-filter output (R487).
DEDUCED, log entry 42. -/
def Branch.integrate (b : Branch) (v : Int) : Branch :=
  { b with
      i1 := b.i1 + (v - b.base), i2 := b.i2 + (b.i1 + (v - b.base)), i3 := b.i3 + (b.i2 + (b.i1 + (v - b.base)))
      cnt := b.cnt + 1 }

/-- The combs give a decimator output, scaled by R^3, to the FIR filter.
DEDUCED, log entry 42. -/
def Branch.decimate (b : Branch) (r : Nat) : Branch :=
  { b with
      c1 := b.i3, c2 := b.i3 - b.c1, c3 := b.i3 - b.c1 - b.c2, cnt := 0, outs := b.outs + 1
      fir := ((b.i3 - b.c1 - b.c2 - b.c3 + b.base * (r : Int) ^ 3) :: b.fir).take 32 }

/-- Coefficient `t` of a bank of a preset (R488, R501). -/
def Device.coef (d : Device) (p bank t : Nat) : Int := signed 18 (d.get (0x51400 + 0x100 * p + 0x80 * bank + 4 * t) 0 18)
/-- The sum of products over the decimator outputs. -/
def Device.firSum (d : Device) (p bank : Nat) (l : List Int) : Int :=
  ((List.range 32).map (fun t => d.coef p bank t * l.getD t 0)).sum
/-- ACTIVE_BANK of a preset. -/
def Device.activeBank (d : Device) (p : Nat) : Nat := d.get 0x51004 p 1
/-- The cross-fade of a preset. -/
def Device.fadeOf (d : Device) (p : Nat) : Option Fade := d.hearth.fades.find? (fun x => x.preset == p)

/-- The filtered phase of a branch in 2^-16 ps: of its bank, or of both banks during its fade (R488, R496). -/
def Device.firOut (d : Device) (p : Nat) (inFade : Option (Nat × Nat)) (l : List Int) : Int :=
  match inFade with
  | some (j, n) =>
    roundDiv (((n : Int) - j) * d.firSum p (d.activeBank p) l + (j : Int) * d.firSum p (1 - d.activeBank p) l)
      ((n : Int) * (presetR p : Int) ^ 3)
  | none =>
    roundDiv (d.firSum p (if (d.fadeOf p).isSome then 1 - d.activeBank p else d.activeBank p) l) ((presetR p : Int) ^ 3)

/-! Cross-fades (R494 to R498). -/

/-- Every branch of the preset has finished: the bank changes over (R496). -/
def Device.fadeDone (d : Device) (p : Nat) : Device :=
  (((d.onHearth (fun h => { h with fades := h.fades.filter (fun x => x.preset != p) })).put 0x51004 p 1
    (1 - d.activeBank p)).put 0x51004 (4 + p) 1 0).ev 0x51008 p

/-- A branch leaves every fade it takes part in (R496, R498, R500). -/
def Device.fadeLeave (d : Device) (r : Nat) (ho : Bool) : Device :=
  (d.hearth.fades.filter (fun x => x.left.contains (r, ho))).foldl (fun d x =>
    if x.left.filter (fun b => b != (r, ho)) = [] then d.fadeDone x.preset
    else d.onHearth (fun h => { h with fades := h.fades.map (fun y =>
      if y.preset = x.preset then { y with left := y.left.filter (fun b => b != (r, ho)) } else y) })) d

/-- A branch's place in the fade of its preset: the output number and the length.
DEDUCED, log entry 42. -/
def Device.fadeStep (d : Device) (p r : Nat) (ho : Bool) (b : Branch) : Option (Nat × Nat) :=
  match d.fadeOf p with
  | some x => if x.left.contains (r, ho) then some (b.fade.getD 0 + 1, x.len) else none
  | none => none

/-- The slots whose branches take samples: WAIT and QUALIFIED (R483). -/
def Device.sampling (d : Device) (r : Nat) : Bool := decide (2 ≤ (d.ref r).st)

/-- The branches that run a preset (R485). -/
def Device.branchesOf (d : Device) (p : Nat) : List (Nat × Bool) :=
  (List.range 8).flatMap (fun r =>
    if d.sampling r then (if d.preset r = p then [(r, false)] else []) ++ (if p = 2 then [(r, true)] else []) else [])

/-- A cross-fade of a preset starts (R496). -/
def Device.fadeStart (d : Device) (p : Nat) : Device :=
  (fun d1 : Device => if d.branchesOf p = [] then d1.fadeDone p else d1)
  (((d.branchesOf p).foldl (fun d e =>
      d.setChain e.1 (if e.2 then { d.chain e.1 with hold := { (d.chain e.1).hold with fade := none } }
        else { d.chain e.1 with main := { (d.chain e.1).main with fade := none } }))
    (d.onHearth (fun h => { h with fades := h.fades ++ [⟨p, d.get (0x51010 + 4 * p) 0 11, d.branchesOf p⟩] }))).put 0x51004
      (4 + p) 1 1)

/-- A branch makes an output (R490, R496).
DEDUCED, log entry 42. -/
def Device.branchOut (d : Device) (p r : Nat) (ho : Bool) (b : Branch) : Branch × Device :=
  (fun (step : Option (Nat × Nat)) =>
    (fun y : Int =>
      ({ b with
          y := y, f := roundDiv ((y - b.y) * (presetRate p : Nat)) 65536, settle := b.settle - 1
          fade := match step with | some (j, n) => if n ≤ j then none else some j | none => none },
        match step with | some (j, n) => if n ≤ j then d.fadeLeave r ho else d | none => d))
    (d.firOut p step b.fir))
  (d.fadeStep p r ho b)

/-! Synchronising reset (R491 to R493). -/

/-- A branch after a reset. -/
def Branch.fresh : Branch := { settle := 35 }

/-- A synchronising reset of the main branch alone: PRESET changed. -/
def Device.resetMain (d : Device) (r : Nat) : Device :=
  (d.setChain r { d.chain r with main := Branch.fresh, warn := false, disq := false, slope := false, fs := [] }).fadeLeave r false

/-- A synchronising reset of both branches. -/
def Device.resetChain (d : Device) (r : Nat) : Device :=
  ((d.setChain r { main := Branch.fresh, hold := Branch.fresh }).fadeLeave r false).fadeLeave r true

/-! Threshold events (R499). -/

/-- A bit of REF_EVENT is set; an enabled one sets HEARTH_EVENT.REF_EVENT (R479, R481). -/
def Device.refEv (d : Device) (r i : Nat) : Device :=
  (d.ev (refBase r + 0xC) i).when (d.bit (refBase r + 0x10) i) (·.ev 0x50018 7)

/-- One threshold: declared above `on`, cleared at or below `off`. -/
def threshold (was : Bool) (v on off : Nat) : Bool := if was then decide (off < v) else decide (on < v)

/-- The threshold events of a main output outside SETTLING. -/
def Device.thresholds (d : Device) (r : Nat) (c : Chain) : Chain × Device :=
  (fun (f : Int) (s : Nat) =>
    (fun (w q : Bool) (sl : Bool) =>
      ({ c with warn := w, disq := q, slope := sl, fs := (f :: c.fs).take (s + 1) },
        ((d.when (w && !c.warn) (·.refEv r 3)).when (q && !c.disq) (·.refEv r 4)).when (sl && !c.slope) (·.refEv r 5)))
    (threshold c.warn f.natAbs (1000 * d.get (filtBase r + 4) 0 16) (1000 * d.get (filtBase r + 4) 16 16))
    (threshold c.disq f.natAbs (1000 * d.get (filtBase r + 8) 0 16) (1000 * d.get (filtBase r + 8) 16 16))
    (match c.fs[s - 1]? with
      | some g => threshold c.slope (2 * (f - g).natAbs) (200 * d.get (filtBase r + 0xC) 16 16) (100 * d.get (filtBase r + 0xC) 16 16)
      | none => c.slope))
  c.main.f (presetRate (d.preset r) * d.get (filtBase r + 0xC) 0 12)

/-- The main branch of a slot makes an output. -/
def Device.mainOut (d : Device) (r : Nat) (c : Chain) : Device :=
  (fun o : Branch × Device =>
    (fun c1 : Chain =>
      (fun p : Chain × Device => (p.2.setChain r p.1).wr (refBase r + 0x18) (wd (unsigned 32 o.1.f)))
      (if c.main.settle = 0 then o.2.thresholds r c1 else ({ c1 with fs := if c.main.settle = 1 then [o.1.f] else [] }, o.2)))
    { c with main := o.1 })
  (d.branchOut (d.preset r) r false c.main)

/-- The holdover branch of a slot makes an output: of the selected slot, usable ones enter the second's mean (R470, R493). -/
def Device.holdOut (d : Device) (r : Nat) (c : Chain) : Device :=
  (fun o : Branch × Device =>
    (fun d1 : Device =>
      if c.hold.settle = 0 ∧ d.hearth.sel = some r then
        d1.onHearth (fun h => { h with secSum := h.secSum + o.1.f, secN := h.secN + 1 })
      else d1)
    (o.2.setChain r { c with hold := o.1 }))
  (d.branchOut 2 r true c.hold)

/-- A slot's chain takes one phase sample (R483 to R490). -/
def Device.sample (d : Device) (r : Nat) (x : Int) : Device :=
  (fun (win : List Int) =>
    (fun (v : Int) (rm : Nat) =>
      (fun (m h : Branch) =>
        (fun d1 : Device =>
          (fun d2 : Device =>
            if h.cnt = 800 then d2.holdOut r { d2.chain r with hold := (d2.chain r).hold.decimate 800 } else d2)
          (if rm ≤ m.cnt then d1.mainOut r { d1.chain r with main := (d1.chain r).main.decimate rm } else d1))
        (d.setChain r { d.chain r with win := win, main := m, hold := h }))
      ((((d.chain r).main.preload v rm)).integrate v) ((((d.chain r).hold.preload v 800)).integrate v))
    (medianInt win) (presetR (d.preset r)))
  ((unwrap48 (d.chain r).win x :: (d.chain r).win).take (d.rankW r))

/-- A slot takes phase samples: none while DISABLED or FAILED (R483). -/
def Device.samples (d : Device) (r : Nat) (xs : List Int) : Device :=
  if d.sampling r then xs.foldl (fun d x => d.sample r x) d else d

/-! Registers (R501 to R503). -/

/-- The cause that refuses a write of FILT_CMD and its preset, the lowest cause (R497, R503). -/
def Device.filtCause (d : Device) (v : Word) : Option (Nat × Nat) :=
  match (List.range 3).find? (fun p => bitAt v (8 + p) && (d.fadeOf p).isSome) with
  | some p => some (4, p)
  | none =>
    match (List.range 3).find? (fun p => bitAt v (8 + p) &&
      decide (((List.range 32).map (fun t => d.coef p (1 - d.activeBank p) t)).sum ≠ 65536)) with
    | some p => some (6, p)
    | none => none

/-- FILT_CMD takes effect (R491, R496, R500). -/
def Device.filtCmd (d : Device) (v : Word) : Device :=
  ((List.range 8).filter (fun r => bitAt v r && d.sampling r)).foldl (fun d r => d.resetChain r)
    (((List.range 3).filter (fun p => bitAt v (8 + p))).foldl (fun d p => d.fadeStart p) d)

/-- FILT_CFG of a slot takes effect (R491, R500). -/
def Device.filtCfgWrite (d : Device) (r : Nat) (v : Word) : Device :=
  (fun d1 : Device =>
    if decide (fld v 2 2 ≠ d.get (filtBase r) 2 2) then d1.resetChain r
    else if decide (fld v 0 2 ≠ d.preset r) then d1.resetMain r else d1)
  (d.wr (filtBase r) v)

/-- The cause that refuses a coefficient (R495). -/
def Device.coefCause (d : Device) (p bank : Nat) : Option Nat :=
  if bank = d.activeBank p then some 5 else if (d.fadeOf p).isSome then some 4 else none

/-- FILT_VIEW of a slot (R502). -/
def Device.filtView (d : Device) (r : Nat) : List Word :=
  (fun c : Chain =>
    [wd (unsigned 64 c.main.y), wd (unsigned 64 c.main.y / 2 ^ 32), wd (unsigned 32 c.main.f),
     wd (b2n (decide (0 < c.main.settle)) + 2 * b2n (decide (0 < c.hold.settle)) + 4 * c.main.settle
       + 2 ^ 16 * min c.main.outs 65535)])
  (d.chain r)

end Sys2Proof.Machine
end

