-- ==== Sys2Proof/Machine/Hearth.lean ====
section
/-! DEFINITION. The Hearth: reference states, selection, switch phases, the DPLL, holdover, phase steps and outputs
(R457 to R482). -/

namespace Sys2Proof.Machine
open Sys2Proof

/-! Quality levels (R460 to R462). -/

/-- The codes of a QL option, the best first (R461). -/
def qlCodes (opt : Bool) : List Nat := if opt then [1, 0, 7, 4, 13, 10, 12, 14, 15] else [2, 4, 8, 11, 15]
/-- The rank of a code: 20 for QL-INV. -/
def qlRank (opt : Bool) (code : Nat) : Nat := match (qlCodes opt).idxOf? code with | some i => i + 1 | none => 20

/-- The reference is an E1_SSM input (R458). -/
def Device.refE1 (d : Device) (r : Nat) : Bool := decide (6 ≤ r) && decide (d.get (refBase r) 1 3 = 3)
/-- The lane of a lane reference. -/
def Device.refLane (d : Device) (r : Nat) : Nat := d.get (refBase r) 1 6

/-- A failure cause of the input (R459). -/
def Device.refInputBad (d : Device) (r : Nat) : Bool :=
  if r < 6 then !d.laneEna (d.refLane r) || (d.laneDef (d.refLane r)).ssf
  else !(d.ref r).pin.edges || (d.refE1 r && ((d.ref r).pin.lof || !(d.ref r).pin.crc4))

/-- A failure cause of the reference (R459). -/
def Device.refBad (d : Device) (r : Nat) : Bool :=
  d.refInputBad r || ((d.chain r).disq && !d.hearth.drift) || ((d.chain r).slope && d.bit (refBase r) 21 && !d.hearth.drift)

/-- The received quality level (R460), none while RX_QL_VALID is 0. -/
def Device.refRx (d : Device) (r : Nat) : Option Nat :=
  if d.refBad r then none
  else if r < 6 then (if (d.lane (d.refLane r)).s1Valid then some (d.get (laneBase (d.refLane r) + 0x4028) 0 4) else none)
  else if d.refE1 r then (d.ref r).pin.sa else none

/-- QL_OPTION and QL_ENA. -/
def Device.qlOpt (d : Device) : Bool := d.bit 0x50010 3
/-- QL_ENA. -/
def Device.qlEna (d : Device) : Bool := d.bit 0x50010 2

/-- EFF_QL and QL_INV (R462). -/
def Device.refEff (d : Device) (r : Nat) : Nat × Bool :=
  if d.bit (refBase r) 12 then (d.get (refBase r) 13 4, decide (qlRank d.qlOpt (d.get (refBase r) 13 4) = 20))
  else
    match d.refRx r with
    | some c => (c, decide (qlRank d.qlOpt c = 20))
    | none => (15, true)

/-- The rank of the effective level. -/
def Device.refRank (d : Device) (r : Nat) : Nat := if (d.refEff r).2 then 20 else qlRank d.qlOpt (d.refEff r).1
/-- PRIORITY of a slot. -/
def Device.refPrio (d : Device) (r : Nat) : Nat := d.get (refBase r) 8 4

/-! Eligibility and ranking (R464). -/

/-- The level is neither QL-INV nor the last of the option (QL-DNU, QL-DUS). -/
def Device.qlUsable (d : Device) (r : Nat) : Bool := decide (d.refRank r < (qlCodes d.qlOpt).length)
/-- The reference would be eligible if it were QUALIFIED. -/
def Device.refFit (d : Device) (r : Nat) : Bool := decide (d.refPrio r ≠ 0) && (!d.qlEna || d.qlUsable r)
/-- The reference is eligible. -/
def Device.eligible (d : Device) (r : Nat) : Bool := decide ((d.ref r).st = 3) && d.refFit r
/-- The ranking key, the best lowest. -/
def Device.refKey (d : Device) (r : Nat) : Nat := (if d.qlEna then 1000 * d.refRank r else 0) + 10 * d.refPrio r + r
/-- The best of a list of slots. -/
def Device.bestRef (d : Device) (l : List Nat) : Option Nat :=
  l.foldl (fun b r => match b with | none => some r | some x => if d.refKey r < d.refKey x then some r else some x) none

/-- The candidate on loss, or with none selected (R466). -/
def Device.lossCand (d : Device) : Option Nat :=
  match d.bestRef ((List.range 8).filter d.eligible) with
  | some r => some r
  | none => d.bestRef ((List.range 8).filter (fun r => decide ((d.ref r).st = 2) && decide (d.refPrio r ≠ 0)))

/-- A reference ranks above the selected one so that it is to be taken (R466). -/
def Device.beats (d : Device) (r s : Nat) : Bool :=
  (d.qlEna && decide (d.refRank r < d.refRank s)) ||
  (d.bit 0x50010 4 && decide (d.refPrio r < d.refPrio s) && (!d.qlEna || decide (d.refRank r = d.refRank s)))

/-- MODE and MANUAL_REF (R465). -/
def Device.hMode (d : Device) : Nat := d.get 0x50010 0 2
/-- MANUAL_REF. -/
def Device.manualRef (d : Device) : Nat := d.get 0x50010 5 3

/-- The slot a STANDBY device follows while it is eligible (R538). -/
def Device.mirrorSlot (d : Device) : Option Nat :=
  if d.get 0x70014 0 2 = 1 then d.hearth.mirSlot.filter d.eligible else none

/-- What R466 names in SETTLED: a candidate with its cause (0 loss, 1 better, 2 manual, 3 none selected).
DEDUCED, log entry 41. -/
def Device.nameCand (d : Device) : Option (Nat × Nat) :=
  if d.mirrorSlot.isSome then (if d.hearth.sel = d.mirrorSlot then none else d.mirrorSlot.map (fun r => (r, 2)))
  else if d.hMode = 1 ∧ d.eligible d.manualRef = true then
    if d.hearth.sel = some d.manualRef then none else some (d.manualRef, 2)
  else
    match d.hearth.sel with
    | none => d.lossCand.map (fun c => (c, 3))
    | some s =>
      if d.eligible s then
        (d.bestRef ((List.range 8).filter (fun r => d.eligible r && d.beats r s))).map (fun c => (c, 1))
      else d.lossCand.map (fun c => (c, 0))

/-! The DPLL (R469 to R472). -/

/-- The DPLL changes state. -/
def Device.dpllTo (d : Device) (st : Nat) : Device :=
  if d.hearth.dpll = st then d else (d.onHearth (fun h => { h with dpll := st, inMs := 0 })).ev 0x50018 0

/-- HO_VALID (R470). -/
def Device.hoValid (d : Device) : Bool := decide (300 ≤ d.get 0x50048 0 16)

/-- The holdover frequency (R470): the mean over the counted seconds that ended at least 1 s ago.
DEDUCED, log entry 41. -/
def Device.hoFreq (d : Device) : Word × Device :=
  match d.hearth.mirFreq with
  | some w => (w, d)
  | none =>
    (fun l : List (Int × Nat × Nat) =>
      if (l.map (fun e => e.2.1)).sum = 0 then d.free
      else (wd (unsigned 32 (roundDiv (l.map (fun e => e.1)).sum (l.map (fun e => e.2.1)).sum)), d))
    ((d.hearth.hist.filter (fun e => decide (e.2.2 + 1000 ≤ d.hearth.ticks))).take (d.get 0x50024 16 8))

/-- The DPLL enters LOST (R471). -/
def Device.dpllLost (d : Device) : Device := ((d.dpllTo 4).wr 0x50048 0).ev 0x50018 4

/-- Loss of the selected reference (R469): the DPLL leaves ACQUIRING or LOCKED. -/
def Device.dpllLoss (d : Device) : Device :=
  if d.hearth.dpll = 1 ∨ d.hearth.dpll = 2 then
    if d.hoValid then
      (fun p : Word × Device =>
        (((((p.2.dpllTo 3).wr 0x50040 p.1).wr 0x50044 p.1).wr 0x5004C 0).onHearth (fun h => { h with hoMs := 0 })).ev 0x50018 3)
      d.hoFreq
    else d.dpllLost
  else d

/-- The DPLL goes to FREE_RUN (R469): the history is cleared. -/
def Device.dpllFree (d : Device) : Device :=
  ((d.dpllTo 0).onHearth (fun h => { h with hist := [], secOk := false, secSum := 0, secN := 0, hadFreq := false, mirFreq := none })).wr
    0x50048 0

/-- The output frequency of a DPLL state (R469, R471, R472): the DPLL follows `freq` within 12 ppm. -/
def Device.outFreq (d : Device) (freq : Int) : Word :=
  if d.hearth.dpll = 1 ∨ d.hearth.dpll = 2 then wd (unsigned 32 (max (-12000000) (min 12000000 freq)))
  else if d.hearth.dpll = 3 then d.rd 0x50040
  else if d.hearth.dpll = 4 ∧ d.hearth.hadFreq = true then d.rd 0x50044 else 0

/-! Reference states (R463). -/

/-- A slot enters WAIT: synchronising reset and WTR (R463, R491), in ticks to come. -/
def Device.refWait (d : Device) (r ticks : Nat) : Device :=
  (d.resetChain r).setRef r { (d.resetChain r).ref r with st := 2, wtr := ticks, past := [] }

/-- A slot enters FAILED from WAIT or QUALIFIED. -/
def Device.refFail (d : Device) (r : Nat) : Device :=
  ((d.setRef r { d.ref r with st := 1, wtr := 0 }).inc (refBase r + 0x1C)).refEv r 0

/-- A slot is QUALIFIED. -/
def Device.refQualify (d : Device) (r : Nat) : Device := (d.setRef r { d.ref r with st := 3 }).refEv r 1

/-- WTR in ticks, from an instant between two ticks. -/
def Device.wtrTicks (d : Device) (r : Nat) : Nat :=
  if d.get (refBase r + 4) 0 10 = 0 then 0 else 1000 * d.get (refBase r + 4) 0 10 + 1

/-- ENA written 1 to a DISABLED slot (R463). -/
def Device.refEnable (d : Device) (r : Nat) : Device :=
  if (d.ref r).st ≠ 0 then d
  else if d.refBad r then d.setRef r { d.ref r with st := 1 } else d.refWait r (d.wtrTicks r)

/-- ENA written 0 (R463, R500). -/
def Device.refDisable (d : Device) (r : Nat) : Device :=
  ((d.setRef r { d.ref r with st := 0, wtr := 0 }).fadeLeave r false).fadeLeave r true

/-- A selection tick of one slot: its state, and the clock of its WTR.
DEDUCED, log entry 41. -/
def Device.refTick (d : Device) (r : Nat) : Device :=
  (fun x : RefSt =>
    if x.st = 1 then (if d.refBad r then d else d.refWait r (1000 * d.get (refBase r + 4) 0 10))
    else if x.st = 2 ∨ x.st = 3 then
      if d.refBad r then d.refFail r
      else if x.st = 2 then
        if x.wtr ≤ 1 ∧ (d.chain r).main.settle = 0 then (d.setRef r { x with wtr := 0 }).refQualify r else d.setRef r { x with wtr := x.wtr - 1 }
      else d.setRef r { x with past := ((d.chain r).main.f :: x.past).take (1000 * d.get 0x5002C 0 8) }
    else d)
  (d.ref r)

/-- WTR has elapsed (R463).
DESIGN CHOICE, log entry 7; DEDUCED, log entry 41. -/
def Device.refWtrExpiry (d : Device) (r : Nat) : Device :=
  if (d.ref r).st = 2 ∧ d.refBad r = false then
    (if (d.chain r).main.settle = 0 then Device.refQualify else fun d _ => d) (d.setRef r { d.ref r with wtr := 0 }) r
  else d

/-- The effective level of a slot: a change sets QL_CHANGE (R462). -/
def Device.qlTick (d : Device) (r : Nat) : Device :=
  (fun (e : Nat × Bool) (x : RefSt) =>
    (d.setRef r { x with eff := e.1, inv := e.2, prio := d.refPrio r }).when (decide (e ≠ (x.eff, x.inv))) (·.refEv r 2))
  (d.refEff r) (d.ref r)

/-! Oscillator drift (R473). -/

/-- The change of a reference's frequency over OSC_WINDOW. -/
def Device.freqMove (d : Device) (r : Nat) : Int := (d.chain r).main.f - ((d.ref r).past.getLast?.getD (d.chain r).main.f)
/-- A slot shows WARN, DISQ or SLOPE. -/
def Device.shows (d : Device) (r : Nat) : Bool := (d.chain r).warn || (d.chain r).disq || (d.chain r).slope

/-- OSC_DRIFT at a tick. -/
def Device.driftTick (d : Device) : Device :=
  (fun q : List Nat =>
    if d.hearth.drift then
      (if (List.range 8).any d.shows then d else d.onHearth (fun h => { h with drift := false }))
    else if q.any (fun r => d.shows r && decide (2 ≤ q.length) &&
        q.all (fun x => decide ((d.freqMove x - d.freqMove r).natAbs ≤ 100 * d.get 0x5002C 8 16))) then
      ((d.onHearth (fun h => { h with drift := true })).ev 0x50018 5).raiseSrc 33
    else d)
  ((List.range 8).filter (fun r => decide ((d.ref r).st = 3)))

/-! Switch phases (R466, R467, R478). -/

/-- The references that return above `c` in this tick (R467): they left FAILED, or their PRIORITY or level changed. -/
def Device.returned (d0 d : Device) (c : Nat) : Option Nat :=
  d.bestRef ((List.range 8).filter (fun r =>
    r != c && decide (2 ≤ (d.ref r).st) && d.refFit r && decide (d.refKey r < d.refKey c) &&
      (decide ((d0.ref r).st = 1) || decide ((d0.ref r).prio ≠ (d.ref r).prio) || decide ((d0.ref r).eff ≠ (d.ref r).eff) ||
        decide ((d0.ref r).inv ≠ (d.ref r).inv))))

/-- QUALIFY of a candidate begins. -/
def Device.qualify (d : Device) (c cause : Nat) : Device :=
  d.onHearth (fun h => { h with phase := 1, cand := some c, cause := cause, swFrom := h.sel })

/-- SWITCH begins (R467, R468): the DPLL input moves to c with phase build-out. -/
def Device.switchTo (d : Device) (c : Nat) (diff : Int) : Device :=
  (((d.onHearth (fun h => { h with phase := 2, sel := some c, swMs := 0, offset := diff })).inc 0x50058).dpllTo 1).onHearth
    (fun h => { h with inMs := 0 })

/-- The switch machine at a tick: `d0` is the device before the tick's reference evaluation. -/
def Device.phaseTick (d0 d : Device) (diff : Int) : Device :=
  match d.hearth.phase, d.hearth.cand with
  | 1, some c =>
    match Device.returned d0 d c with
    | some r => (((d.onHearth (fun h => { h with cand := some r })).inc 0x5005C).ev 0x50018 2)
    | none =>
      if (d.ref c).st < 2 then d.onHearth (fun h => { h with phase := 0, cand := none })
      else if (d.ref c).st = 3 ∧ (d0.ref c).st = 3 then d.switchTo c diff else d
  | 2, some c =>
    if (d.ref c).st < 2 then d.onHearth (fun h => { h with phase := 0, cand := none })
    else d.onHearth (fun h => { h with swMs := h.swMs + 1 })
  | _, _ =>
    if d.hMode = 2 then d.dpllLoss.onHearth (fun h => { h with sel := none, phase := 0 })
    else if d.hMode = 3 then
      (if d.hearth.dpll = 0 then d else d.dpllFree).onHearth (fun h => { h with sel := none, phase := 0 })
    else
      match d.nameCand with
      | some (c, cause) => d.qualify c cause
      | none =>
        match d.hearth.sel with
        | some s => if d.eligible s then d else d.onHearth (fun h => { h with sel := none })
        | none => d

/-- The selected reference ceased to be eligible (R466, R469). -/
def Device.lossTick (d : Device) : Device :=
  match d.hearth.sel with
  | some s => if d.eligible s then d else d.dpllLoss
  | none => d

/-! Seconds, holdover time and phase steps (R470, R474). -/

/-- PHASE_REMAIN as a number of picoseconds. -/
def Device.phaseRemain (d : Device) : Int := signed 32 (d.rd 0x5003C).toNat

/-- A millisecond of slewing (R474): PHASE_SLEW ns/s is as many ps per ms. -/
def Device.slewTick (d : Device) : Device :=
  if d.phaseRemain = 0 ∨ d.hearth.phase = 2 then d
  else
    d.wr 0x5003C (wd (unsigned 32 (d.phaseRemain -
      (if 0 < d.phaseRemain then min d.phaseRemain (d.get 0x50034 0 14) else max d.phaseRemain (-(d.get 0x50034 0 14 : Nat))))))

/-- A second of the history counts (R470). -/
def Device.secondTick (d : Device) : Device :=
  (fun ok : Bool =>
    if d.hearth.ticks % 1000 = 0 then
      (fun d1 : Device =>
        (fun d2 : Device =>
          (fun d3 : Device => d3.onHearth (fun h => { h with secOk := true, secSum := 0, secN := 0, hadFreq := h.hadFreq || d2.hoValid }))
          (if d2.hoValid && d2.hearth.dpll != 3 then (fun p : Word × Device => p.2.wr 0x50040 p.1) d2.hoFreq else d2))
        (if ok then
          (d1.onHearth (fun h => { h with hist := ((h.secSum, h.secN, h.ticks) :: h.hist).take 256 })).put 0x50048 0 16
            (min 65535 (d1.get 0x50048 0 16 + 1))
         else d1))
      d
    else d.onHearth (fun h => { h with secOk := ok }))
  (d.hearth.secOk && decide (d.hearth.dpll = 2) && decide (d.hearth.phase = 0) &&
    (match d.hearth.sel with | some s => decide ((d.chain s).main.settle = 0) | none => false))

/-- A millisecond of HOLDOVER (R469).
DEDUCED, log entry 41. -/
def Device.hoTick (d : Device) : Device :=
  if d.hearth.dpll = 3 then (d.onHearth (fun h => { h with hoMs := h.hoMs + 1 })).wr 0x5004C (wd ((d.hearth.hoMs + 1) / 1000)) else d

/-- The selection tick (R463 to R474, R478).
DEDUCED, log entry 41. -/
def Device.hearthTick (d : Device) (o : DpllObs) (a b : XrefObs) : Device :=
  (fun d1 : Device =>
    (fun d2 : Device =>
      (fun d3 : Device =>
        (fun d4 : Device =>
          ((d4.wr 0x50050 (d4.outFreq o.freq)).wr 0x50054 (wd (unsigned 32 o.phase))).secondTick.hoTick.slewTick)
        (Device.phaseTick d1 d3.lossTick o.diff))
      ((List.range 8).foldl Device.qlTick d2))
    ((List.range 8).foldl Device.refTick d1))
  ((((d.setRef 6 { d.ref 6 with pin := a }).setRef 7 { d.ref 7 with pin := b }).onHearth (fun h =>
    { h with ticks := h.ticks + 1, inMs := if o.inBound then h.inMs + 1 else 0 })).driftTick)

/-- The switch settles (R467): 100 ms within LOCK_BOUND, or 1 s. -/
def Device.switchSettle (d : Device) : Device :=
  if d.hearth.phase = 2 then
    ((d.onHearth (fun h => { h with phase := 0, cand := none })).wrs 0x50070
      [wd ((d.hearth.swFrom.getD 0) + 8 * b2n d.hearth.swFrom.isSome + 16 * (d.hearth.cand.getD 0) + 128 * d.hearth.cause),
       wd d.hearth.swMs, wd (unsigned 32 (max (-2147483648) (min 2147483647 d.hearth.offset))), 0]).ev 0x50018 1
  else d

/-- Ten seconds within LOCK_BOUND (R469). -/
def Device.dpllLock (d : Device) : Device := if d.hearth.dpll = 1 then d.dpllTo 2 else d

/-- HO_TIME exceeds HOLDOVER_LIMIT (R469). -/
def Device.holdoverLimit (d : Device) : Device :=
  if d.hearth.dpll = 3 ∧ d.get 0x50024 0 14 ≠ 0 then
    (d.wr 0x5004C (wd (max (60 * d.get 0x50024 0 14 + 1) (d.rd 0x5004C).toNat))).dpllLost
  else d

/-- A phase step has been applied (R474). -/
def Device.stepDone (d : Device) : Device :=
  if d.hearth.stepping ∧ d.phaseRemain = 0 then (d.onHearth (fun h => { h with stepping := false })).ev 0x50018 6 else d

/-! Writes (R480 to R482, R503). -/

/-- A refusal recorded by the Hearth (R482). -/
def Device.hearthRefuse (d : Device) (cause slot : Nat) : Device := ((d.inc 0x50060).wr 0x50064 (wd (cause + 16 * slot))).ev 0x50018 8

/-- A REF_CFG the bridge refuses (R481, R482). -/
def refCfgBad (r : Nat) (v : Word) : Bool :=
  (decide (6 ≤ r) && (decide (4 ≤ fld v 1 3) || decide (fld v 4 3 ≠ 0))) ||
  (if 6 ≤ r ∧ fld v 1 3 = 3 then decide (fld v 17 4 < 4) || decide (8 < fld v 17 4) else decide (fld v 17 4 ≠ 0))

/-- The cause that refuses a REF_CFG in the Hearth domain (R482). -/
def Device.refCfgCause (d : Device) (r : Nat) (v : Word) : Option Nat :=
  if bitAt v 0 && decide (r < 6) &&
      (List.range 6).any (fun q => q != r && d.bit (refBase q) 0 && decide (d.refLane q = fld v 1 6)) then some 1
  else if d.bit (refBase r) 0 && decide (fld v 1 6 ≠ d.get (refBase r) 1 6) then some 2 else none

/-- A REF_CFG takes effect or is refused (R463, R482). -/
def Device.refCfgWrite (d : Device) (r : Nat) (v : Word) : Status × Device :=
  match d.refCfgCause r v with
  | some c => (.range, d.hearthRefuse c r)
  | none => (.ok, (fun d1 : Device => if bitAt v 0 then d1.refEnable r else d1.refDisable r) (d.wr (refBase r) v))

/-- A HEARTH_CFG takes effect (R465, R469, R478); a STANDBY device takes no new MODE (R539).
DEDUCED, log entry 16. -/
def Device.hearthCfgWrite (d : Device) (v : Word) : Device :=
  (fun d1 : Device =>
    if d.hearth.phase ≠ 0 ∨ fld v 0 2 = d.hMode then d1
    else if fld v 0 2 = 2 then d1.dpllLoss.onHearth (fun h => { h with sel := none })
    else if fld v 0 2 = 3 then d1.dpllFree.onHearth (fun h => { h with sel := none }) else d1)
  (d.wr 0x50010 v)

/-- PHASE_STEP (R474, R475). -/
def Device.phaseStep (d : Device) (v : Word) : Status × Device :=
  (fun n : Int =>
    if n < -2147483648 ∨ 2147483647 < n then (.range, d.hearthRefuse 3 0)
    else (.ok, (d.wr 0x5003C (wd (unsigned 32 n))).onHearth (fun h => { h with stepping := true })))
  (d.phaseRemain + signed 32 v.toNat)

/-- FILT_CMD (R491, R496, R497). -/
def Device.filtCmdWrite (d : Device) (v : Word) : Status × Device :=
  match d.filtCause v with
  | some (c, p) => (.range, d.hearthRefuse c p)
  | none => (.ok, d.filtCmd v)

/-- A coefficient (R495). -/
def Device.coefWrite (d : Device) (a : Nat) (v : Word) : Status × Device :=
  (fun (p bank : Nat) =>
    match d.coefCause p bank with
    | some c => (.range, d.hearthRefuse c p)
    | none => (.ok, d.wr a v))
  ((a - 0x51400) / 0x100) ((a - 0x51400) / 0x80 % 2)

/-- CNT_CLR of the Hearth (R479). -/
def Device.hearthCntClr (d : Device) : Device :=
  d.zero ([0x50058, 0x5005C, 0x50060] ++ (List.range 8).map (fun r => refBase r + 0x1C))

/-! Views (R476, R477, R479, R481). -/

/-- OUT_QL: the outgoing SSM (R477). -/
def Device.outQl (d : Device) : Nat :=
  match d.hearth.dpll with
  | 0 => d.get 0x50028 8 4
  | 3 => d.get 0x50028 4 4
  | 4 => 15
  | _ => match d.hearth.sel with | some s => if (d.refEff s).2 then 15 else (d.refEff s).1 | none => 15

/-- The SSM a lane sends (R477): the source lane sends 1111 while DNU_TO_SOURCE is 1. -/
def Device.laneSsm (d : Device) (n : Nat) : Nat :=
  match d.hearth.sel with
  | some s => if d.bit 0x50010 8 && decide (s < 6) && decide (d.refLane s = n) then 15 else d.outQl
  | none => d.outQl

/-- HEARTH_STATUS (R479); OUT_QL shows from the first selection tick on. -/
def Device.hearthStatus (d : Device) : Word :=
  wd (d.hearth.dpll + 8 * d.hearth.sel.getD 0 + 64 * b2n d.hearth.sel.isSome + 128 * d.hearth.phase + 512 * d.hearth.cand.getD 0
    + 2 ^ 12 * b2n d.hoValid + 2 ^ 13 * b2n d.hearth.drift + 2 ^ 14 * b2n (decide (d.phaseRemain ≠ 0))
    + 2 ^ 16 * (if d.hearth.ticks = 0 then 0 else d.outQl))

/-- REF_STATUS of a slot (R481); the level shows from the first selection tick on. -/
def Device.refStatus (d : Device) (r : Nat) : Word :=
  wd ((d.ref r).st + 4 * b2n (decide (0 < (d.chain r).main.settle)) + 8 * b2n (d.chain r).warn + 16 * b2n (d.chain r).disq
    + 32 * b2n (d.chain r).slope + 64 * b2n (decide (d.hearth.cand = some r)) + 128 * b2n (decide (d.hearth.sel = some r))
    + (if d.hearth.ticks = 0 then 0
       else 2 ^ 8 * (d.refRx r).getD 0 + 2 ^ 12 * b2n (d.refRx r).isSome + 2 ^ 13 * (d.refEff r).1 + 2 ^ 17 * b2n (d.eligible r)
         + 2 ^ 18 * b2n (d.refEff r).2))

/-- REF_WTR_REMAIN of a slot, in seconds. -/
def Device.refWtrRemain (d : Device) (r : Nat) : Word := wd (((d.ref r).wtr + 998) / 1000)

/-- The frequency of an XCLK output (R476): OFF while squelched or in SAFE_STATE. -/
def Device.xclk (d : Device) (b : Bool) : Nat :=
  (fun lo : Nat =>
    if d.fc.safe || (d.bit 0x50030 (lo + 3) && decide (qlRank d.qlOpt (d.get 0x50028 12 4) < qlRank d.qlOpt d.outQl)) then 0
    else d.get 0x50030 lo 3)
  (if b then 4 else 0)

end Sys2Proof.Machine
end

