-- ==== Sys2Proof/Machine/Stm.lean ====
section
/-! DEFINITION. The bytes of an STM-N frame: where a lane's bit stream holds them, the frame-synchronous scrambler, the
alignment window, B1 and B2, and the places of the overhead (R95, R98, R124, R125, R134, R135, R140, R141, R143). -/

namespace Sys2Proof.Machine
open Sys2Proof

/-! Bits and parity. -/

/-- Bits of a byte that are 1. -/
def popcount (b : Byte) : Nat := ((List.range 8).filter (fun i => b.toNat / 2 ^ i % 2 = 1)).length

/-- Bits in which two bytes differ. -/
def bitErrors (a b : Byte) : Nat := popcount (a ^^^ b)

/-- BIP-8 over a byte string. -/
def bip8 (l : List Byte) : Byte := l.foldl (· ^^^ ·) 0

/-- Eight bits, the first the most significant. -/
def bitsByte (l : List Bool) : Byte := BitVec.ofNat 8 (l.foldl (fun a b => 2 * a + b2n b) 0)

/-- The byte that begins at bit `i` of a stream of bytes. -/
def byteAtBit (f : Nat → Byte) (i : Nat) : Byte :=
  BitVec.ofNat 8 (((f (i / 8)).toNat * 256 + (f (i / 8 + 1)).toNat) / 2 ^ (8 - i % 8))

/-! Lengths (R95). -/

/-- The frame length of a lane mode in bits: the frame-length counter of the SDH framer counts it (R95, R125). -/
def stmBits (mode : Nat) : Nat := if mode = 0 then 19440 else if mode = 1 then 77760 else if mode = 2 then 311040 else 1244160

/-- The frame length of an OTU2 lane in bits. -/
def otuBits : Nat := 130560

/-- The middle 5 of the 8 samples of a bit decide it by majority (R98): the third to the seventh sample.
DESIGN CHOICE, log entry 85. -/
def sampleBit (b : Byte) : Bool := decide (3 ≤ ((List.range 5).filter (fun i => b.toNat / 2 ^ (i + 1) % 2 = 1)).length)

/-- The bytes of an STM1 line from its samples, one byte of eight samples for each bit (R98). -/
def unsample : List Byte → List Byte
  | a :: b :: c :: d :: e :: f :: g :: h :: t =>
    bitsByte [sampleBit a, sampleBit b, sampleBit c, sampleBit d, sampleBit e, sampleBit f, sampleBit g, sampleBit h] :: unsample t
  | _ => []

/-- The samples an STM1 transmitter sends: each bit 8 times (R98). -/
def oversample (l : List Byte) : List Byte :=
  l.flatMap (fun b => (List.range 8).map (fun i => if b.toNat / 2 ^ (7 - i) % 2 = 1 then 0xFF else 0x00))

/-! The scrambler 1 + x^6 + x^7 (R134). -/

/-- The next state of the seven-stage register: the newest bit is the sum of the two oldest. -/
def scrNext (s : Nat) : Nat := s * 2 % 128 + (s / 64 + s / 32) % 2

/-- The scrambler's bits from all ones, oldest stage first. -/
def scrBits : Nat → Nat → List Bool
  | 0, _ => []
  | n + 1, s => decide (s / 64 % 2 = 1) :: scrBits n (scrNext s)

/-- The period of the sequence: 127 bits. -/
def scrPeriod : List Bool := scrBits 127 127

/-- Byte `i` of the scrambling sequence. -/
def scrByte (i : Nat) : Byte := bitsByte ((List.range 8).map (fun k => scrPeriod.getD ((8 * i + k) % 127) false))

/-- Byte `i` of an STM-`nn` frame scrambled or descrambled, unless `off`: the first 9N bytes are not (R134). -/
def scramble (off : Bool) (nn i : Nat) (b : Byte) : Byte := if off || decide (i < 9 * nn) then b else b ^^^ scrByte (i - 9 * nn)

/-! Places (G.707; rows 1 to 9, columns 1 to 270N). -/

/-- The index of the byte at a row and column of an STM-`nn` frame.
PRESUMED, log entry 26. -/
def stmPos (nn row col : Nat) : Nat := 270 * nn * (row - 1) + (col - 1)

/-- Column of M1. -/
def m1Col (nn : Nat) : Nat := if nn = 1 then 6 else 3 * nn + 3

/-- B1 over a scrambled frame (R135). -/
def b1Of (nn : Nat) (f : Nat → Byte) : Byte := bip8 ((List.range (2430 * nn)).map f)

/-- Byte `j` of B2, BIP-24N over a frame before scrambling without its regenerator section overhead (R135). -/
def b2Byte (nn : Nat) (f : Nat → Byte) (j : Nat) : Byte :=
  bip8 (((List.range (810)).map (fun i => 3 * nn * i + j)).map (fun i =>
    if i < 810 * nn ∧ i % (270 * nn) < 9 * nn then 0 else f i))

/-- B2 of a frame. -/
def b2Of (nn : Nat) (f : Nat → Byte) : List Byte := (List.range (3 * nn)).map (b2Byte nn f)

/-! The window of the SDH framer (R124, R125). -/

/-- A window of `a` A1 bytes before and `b` A2 bytes after bit `at_` of a stream. -/
def windowAt (f : Nat → Byte) (a1 a2 : Byte) (a b at_ : Nat) : Bool :=
  (List.range a).all (fun i => byteAtBit f (at_ - 8 * (i + 1)) == a1) && (List.range b).all (fun i => byteAtBit f (at_ + 8 * i) == a2)

/-- A stream of three counter frames of `len` bytes each: a frame shorter than its length reads as zero behind its end. -/
def stream (len : Nat) (p2 p cur : List Byte) : Nat → Byte :=
  (fun (a b c : Array Byte) (i : Nat) =>
    if i < len then a.getD i 0 else if i < 2 * len then b.getD (i - len) 0 else c.getD (i - 2 * len) 0)
  p2.toArray p.toArray cur.toArray

/-- The offsets of the counter frame in which the window matches: an offset names the bit with which `k` bytes after the
boundary have passed. -/
def windowHits (len : Nat) (f : Nat → Byte) (curLen : Nat) (a1 a2 : Byte) (a b k : Nat) : List Nat :=
  (List.range (min (8 * len) (8 * (curLen + k)))).filter (fun off => windowAt f a1 a2 a b (16 * len + off + 1 - 8 * k))

/-! What a frame shows its framer and section. -/

/-- A counter frame as the SDH framer and the section read it: the offsets at which the window matches, the window at the locked offset,
B1 and B2 bit errors, and the overhead bytes with the relay's in index order. -/
structure SdhObs where
  offs : List Nat := []
  ok : Bool := true
  b1 : Nat := 0
  b2 : Nat := 0
  j0 : Byte := 0
  k1 : Byte := 0
  k2 : Byte := 0
  s1 : Byte := 0
  m0 : Byte := 0
  m1 : Byte := 0
  relay : List Byte := []
  deriving DecidableEq, Repr

/-- A byte of a descrambled frame by row and column. -/
def soh (nn : Nat) (f : Nat → Byte) (row col : Nat) : Byte := f (stmPos nn row col)

/-- The section overhead of a descrambled frame; `sel` are the relay's rows and columns. -/
def sdhRead (nn : Nat) (f : Nat → Byte) (offs : List Nat) (ok : Bool) (b1 : Option Byte) (b2 : Option (List Byte))
    (sel : List (Nat × Nat)) : SdhObs :=
  { offs := offs, ok := ok
    b1 := match b1 with | some p => bitErrors p (soh nn f 2 1) | none => 0
    b2 := match b2 with
      | some l => ((List.range (3 * nn)).map (fun j => bitErrors (l.getD j 0) (soh nn f 5 (j + 1)))).foldl (· + ·) 0
      | none => 0
    j0 := soh nn f 1 (6 * nn + 1), k1 := soh nn f 5 (3 * nn + 1), k2 := soh nn f 5 (6 * nn + 1), s1 := soh nn f 9 1
    m0 := if nn = 64 then soh nn f 9 (3 * nn + 2) else 0, m1 := soh nn f 9 (m1Col nn)
    relay := sel.map (fun rc => soh nn f rc.1 rc.2) }

end Sys2Proof.Machine
end

