-- ==== Sys2Proof/Machine/Otu.lean ====
section
/-! DEFINITION. The bytes of an OTU2 frame: the scrambler, the RS(255,239) code, SM and PM overhead, BIP-8 and the mapping of
the STM-64 (R112, R114 to R123; the places and the code are G.709's). -/

namespace Sys2Proof.Machine
open Sys2Proof

/-- The index of the byte at a row and column of an OTU2 frame of 4 rows of 4,080 bytes.
PRESUMED, log entry 26. -/
def otuPos (row col : Nat) : Nat := 4080 * (row - 1) + (col - 1)

/-! The scrambler 1 + x + x^3 + x^12 + x^16 (R114). -/

/-- The next state of the sixteen-stage register, its newest bit the lowest.
PRESUMED, log entry 26. -/
def otuScrNext (s : Nat) : Nat := s * 2 % 65536 + (s / 32768 + s / 2048 + s / 4 + s) % 2

/-- The state after `n` bits. -/
def otuScrRun : Nat → Nat → Nat
  | 0, s => s
  | n + 1, s => otuScrRun n (otuScrNext s)

/-- `n` bytes of the scrambling sequence from a state: the oldest stage is sent. -/
def otuScrBytes : Nat → Nat → List Byte
  | 0, _ => []
  | n + 1, s => bitsByte ((List.range 8).map (fun i => decide (otuScrRun i s / 32768 % 2 = 1))) :: otuScrBytes n (otuScrRun 8 s)

/-- A frame scrambled or descrambled: the six FAS bytes pass, and the register is all ones behind them. -/
def otuScramble (l : List Byte) : List Byte := l.take 6 ++ List.zipWith (· ^^^ ·) (l.drop 6) (otuScrBytes 16314 0xFFFF)

/-! The field of 256 elements, with x^8 + x^4 + x^3 + x^2 + 1. -/

/-- Multiplication by the primitive element. -/
def gfTwice (a : Nat) : Nat := if a < 128 then 2 * a else (2 * a - 256) ^^^ 0x1D

/-- Multiplication, from the highest bit of `b` down. -/
def gfMul (a b : Nat) : Nat :=
  (List.range 8).foldl (fun p i => gfTwice p ^^^ (if b / 2 ^ (7 - i) % 2 = 1 then a else 0)) 0

/-- The power of an element. -/
def gfPow (a : Nat) : Nat → Nat
  | 0 => 1
  | n + 1 => gfMul a (gfPow a n)

/-- The inverse of an element. -/
def gfInv (a : Nat) : Nat := gfPow a 254

/-- A polynomial, lowest coefficient first, at a point. -/
def gfEval (p : List Nat) (x : Nat) : Nat := p.foldr (fun c r => c ^^^ gfMul x r) 0

/-- The sum of two polynomials. -/
def gfAdd : List Nat → List Nat → List Nat
  | [], q => q
  | p, [] => p
  | a :: p, b :: q => (a ^^^ b) :: gfAdd p q

/-- The product of two polynomials. -/
def gfProd : List Nat → List Nat → List Nat
  | [], _ => []
  | a :: p, q => gfAdd (q.map (gfMul a)) (0 :: gfProd p q)

/-! RS(255,239) (R115, R116). -/

/-- The generator polynomial, with the roots 2^0 to 2^15, lowest coefficient first.
PRESUMED, log entry 26. -/
def rsGen : List Nat := (List.range 16).foldl (fun g i => gfProd g [gfPow 2 i, 1]) [1]

/-- The 16 parity symbols of 239 symbols: the remainder of the division by the generator, highest power first. -/
def rsParity (info : List Nat) : List Nat :=
  info.foldl (fun r c => List.zipWith (· ^^^ ·) (r.drop 1 ++ [0]) ((rsGen.take 16).reverse.map (gfMul (c ^^^ r.headD 0)))) (List.replicate 16 0)

/-- Syndrome `i` of a codeword, whose first symbol is the highest power. -/
def rsSyndrome (cw : List Nat) (i : Nat) : Nat := cw.foldl (fun s c => gfMul s (gfPow 2 i) ^^^ c) 0

/-- The search for the error locator: the locator, the one before its last change of length, the length, the steps since and
the discrepancy then. -/
structure RsLoc where
  c : List Nat := [1]
  b : List Nat := [1]
  len : Nat := 0
  m : Nat := 1
  disc : Nat := 1
  deriving DecidableEq, Repr

/-- One syndrome joins the search. -/
def RsLoc.step (syn : List Nat) (x : RsLoc) (n : Nat) : RsLoc :=
  (fun d : Nat =>
    if d = 0 then { x with m := x.m + 1 }
    else
      (fun c' : List Nat =>
        if 2 * x.len ≤ n then { c := c', b := x.c, len := n + 1 - x.len, m := 1, disc := d }
        else { x with c := c', m := x.m + 1 })
      (gfAdd x.c (List.replicate x.m 0 ++ x.b.map (gfMul (gfMul d (gfInv x.disc))))))
  ((List.range (x.len + 1)).foldl (fun a i => a ^^^ gfMul (x.c.getD i 0) (syn.getD (n - i) 0)) 0)

/-- The error value at power `j`. -/
def rsValue (loc syn : List Nat) (j : Nat) : Nat :=
  (fun xi : Nat =>
    gfMul (gfPow 2 j) (gfMul (gfEval ((gfProd syn loc).take 16) xi)
      (gfInv (gfEval (((List.range loc.length).filter (· % 2 = 1)).map (fun i => loc.getD i 0)) (gfMul xi xi)))))
  (gfInv (gfPow 2 j))

/-- What decoding a codeword gives: the codeword, the bits corrected, and whether it could be decoded. -/
structure RsOut where
  cw : List Nat
  bits : Nat := 0
  ok : Bool := true
  deriving DecidableEq, Repr

/-- Decoding (R115): at most 8 symbols are corrected; an uncorrectable codeword passes as it came. -/
def rsDecode (cw : List Nat) : RsOut :=
  (fun syn : List Nat =>
    if syn.all (· == 0) then { cw := cw }
    else
      (fun x : RsLoc =>
        (fun at_ : List Nat =>
          if x.len ≤ 8 ∧ at_.length = x.len then
            { cw := (List.range 255).map (fun k => cw.getD k 0 ^^^ (if at_.contains (254 - k) then rsValue x.c syn (254 - k) else 0))
              bits := (at_.map (fun j => popcount (BitVec.ofNat 8 (rsValue x.c syn j)))).foldl (· + ·) 0 }
          else { cw := cw, ok := false })
        ((List.range 255).filter (fun j => gfEval x.c (gfInv (gfPow 2 j)) == 0)))
      ((List.range 16).foldl (RsLoc.step syn) {}))
  ((List.range 16).map (rsSyndrome cw))

/-- Codeword `j` of row `r`, counted from 0: every sixteenth byte of the row. -/
def otuCodeword (l : List Byte) (r j : Nat) : List Nat := (List.range 255).map (fun k => (l.getD (4080 * r + 16 * k + j) 0).toNat)

/-- A frame whose codewords, row by row, are the given ones. -/
def otuFromCodewords (cws : List (List Nat)) : List Byte :=
  (List.range 16320).map (fun i => BitVec.ofNat 8 ((cws.getD (16 * (i / 4080) + i % 16) []).getD (i % 4080 / 16) 0))

/-- The 64 codewords of a frame. -/
def otuCodewords (l : List Byte) : List (List Nat) := (List.range 64).map (fun i => otuCodeword l (i / 16) (i % 16))

/-- A frame decoded (R115): the frame, the bits corrected, the uncorrectable codewords. -/
def otuDecode (l : List Byte) : List Byte × Nat × Nat :=
  (fun os : List RsOut =>
    (otuFromCodewords (os.map (·.cw)), (os.map (·.bits)).foldl (· + ·) 0, (os.filter (fun o => !o.ok)).length))
  ((otuCodewords l).map rsDecode)

/-- A frame whose FEC columns carry parity (R116). -/
def otuEncode (l : List Byte) : List Byte :=
  otuFromCodewords ((otuCodewords l).map (fun c => c.take 239 ++ rsParity (c.take 239)))

/-! BIP-8 and the payload. -/

/-- BIP-8 over the OPU2, columns 15 to 3,824, of a frame (R117): SM and PM both carry it two frames later. -/
def otuBip (l : List Byte) : Byte := bip8 ((List.range 4).flatMap (fun r => (l.drop (4080 * r + 14)).take 3810))

/-- The places of the payload of a frame in order (R120, R121): columns 17 to 3,824 without the fixed stuff of columns 1,905 to
1,920, with NJO before row 4's when `njo`, and PJO in it unless `pjo` is false.
PRESUMED, log entry 26. -/
def otuPlaces (njo pjo : Bool) : List Nat :=
  (List.range 4).flatMap (fun r =>
    (if r = 3 ∧ njo then [otuPos 4 16] else []) ++
    (((List.range 3808).filter (fun c => (c < 1888 ∨ 1904 ≤ c) ∧ (r ≠ 3 ∨ c ≠ 0 ∨ pjo))).map (fun c => 4080 * r + 16 + c)))

/-- Majority of bit `i` of the three JC bytes (R120). -/
def jcBit (l : List Byte) (i : Nat) : Bool :=
  decide (2 ≤ ((List.range 3).filter (fun r => (l.getD (otuPos (r + 1) 16) 0).toNat / 2 ^ i % 2 = 1)).length)

/-- The STM-64 bytes a frame carries (R120, R121): with BMP the JC bytes are ignored; 10 is treated as 00. -/
def otuPayload (map : Bool) (l : List Byte) : List Byte :=
  (otuPlaces (!map && !jcBit l 1 && jcBit l 0) (map || !(jcBit l 1 && jcBit l 0))).map (fun i => l.getD i 0)

/-! What a frame shows its framer and the OTU2 overhead. -/

/-- A counter frame as the OTU2 framer and the overhead read it: matches and window, MFAS, FEC results, SM and PM overhead, PT where MFAS
is 0. -/
structure OtuObs where
  offs : List Nat := []
  ok : Bool := true
  mfas : Nat := 0
  corr : Nat := 0
  uncorr : Nat := 0
  smBip : Nat := 0
  pmBip : Nat := 0
  smBei : Nat := 0
  pmBei : Nat := 0
  smBdi : Bool := false
  pmBdi : Bool := false
  iae : Bool := false
  stat : Nat := 1
  smTti : Byte := 0
  pmTti : Byte := 0
  pt : Option Byte := none
  jc : List Nat := []
  deriving DecidableEq, Repr

/-- The overhead of a descrambled and decoded frame; `bip` is the BIP-8 of the frame two before, when that was read. -/
def otuRead (l : List Byte) (corr uncorr : Nat) (bip : Option Byte) (offs : List Nat) (ok : Bool) : OtuObs :=
  (fun b : Nat → Nat → Nat =>
    { offs := offs, ok := ok, mfas := b 1 7, corr := corr, uncorr := uncorr
      smBip := match bip with | some p => bitErrors p (BitVec.ofNat 8 (b 1 9)) | none => 0
      pmBip := match bip with | some p => bitErrors p (BitVec.ofNat 8 (b 3 11)) | none => 0
      smBei := b 1 10 / 16, pmBei := b 3 12 / 16, smBdi := decide (b 1 10 / 8 % 2 = 1), pmBdi := decide (b 3 12 / 8 % 2 = 1)
      iae := decide (b 1 10 / 4 % 2 = 1), stat := b 3 12 % 8
      smTti := BitVec.ofNat 8 (b 1 8), pmTti := BitVec.ofNat 8 (b 3 10)
      pt := if b 1 7 = 0 then some (BitVec.ofNat 8 (b 4 15)) else none
      jc := [b 1 16 % 4, b 2 16 % 4, b 3 16 % 4] })
  (fun row col => (l.getD (otuPos row col) 0).toNat)

end Sys2Proof.Machine
end

