-- ==== Sys2Proof/Machine/ClientCfg.lean ====
section
/-! DEFINITION. When a PDH client monitor runs, its detected and reported defects, and its counters (R241 to R246,
R257 to R259, R268 to R270, R306). -/

namespace Sys2Proof.Machine
open Sys2Proof

/-- The number of a high-order client entry among the monitors. -/
def entryNo (s i : Nat) : Nat := 262144 + 32 * s + i

/-- HO_CLIENTi of slice `s` (R271). -/
def entryAddr (s i : Nat) : Nat := sliceBase s + 0x600 + 4 * i

/-- The LO_TYPE a client needs (R241); none for NONE. -/
def clientType (c : Nat) : Option Nat := if c = 1 then some 1 else if c = 2 then some 0 else if c = 3 ∨ c = 4 then some 3 else none

/-- FRAMING is not reserved for CLIENT (R241). -/
def framingOk (c f : Nat) : Bool := if c = 0 then f == 0 else if c = 1 then decide (f ≤ 2) else if c = 2 then decide (f ≤ 1)
  else if c = 3 then f == 0 else if c = 4 then decide (f ≤ 1) else false

/-- The client monitor `j`. -/
def Device.cli (d : Device) (j : Nat) : Cli := tabGet {} d.clis j
/-- Stores the client monitor `j`. -/
def Device.setCli (d : Device) (j : Nat) (c : Cli) : Device := { d with clis := tabPut {} d.clis j c }
/-- The retimer of TC `k`. -/
def Device.rt (d : Device) (k : Nat) : Retimer := tabGet {} d.rts k
/-- Stores the retimer of TC `k`. -/
def Device.setRt (d : Device) (k : Nat) (r : Retimer) : Device := { d with rts := tabPut {} d.rts k r }

/-- The slice of entry number `j`. -/
def entrySlice (j : Nat) : Nat := (j - 262144) / 32
/-- The word of entry number `j`. -/
def Device.entryWord (d : Device) (j : Nat) : Word := d.rd (entryAddr (entrySlice j) ((j - 262144) % 32))

/-- CLIENT and FRAMING of monitor `j`, of a TC as its receive side uses them (R217). -/
def Device.cliKind (d : Device) (j : Nat) : Nat × Nat :=
  if j < 262144 then (fld (d.tc j).rxCli 0 3, fld (d.tc j).rxCli 3 2) else (fld (d.entryWord j) 15 3, fld (d.entryWord j) 18 2)

/-- CLIENT of TC `k` does not match its LO_TYPE (R241). -/
def Device.cliMismatch (d : Device) (k : Nat) : Bool :=
  match clientType (d.get (tcBase k + 8) 0 3) with
  | some t => d.tcType k != t
  | none => false

/-- TYPE_CONFLICT of TC `k` (R243). -/
def Device.cliConflict (d : Device) (k : Nat) : Bool := (d.tc k).conflict

/-- Monitor `j` runs (R246, R270): a TC is ENABLED while both its sides run. -/
def Device.cliRuns (d : Device) (j : Nat) : Bool :=
  if j < 262144 then
    bitAt (d.tc j).rxCli 5 && !d.cliConflict j && (d.tc j).rx.runs && (d.tc j).tx.runs && decide ((d.tc j).pi.st = .norm)
      && !d.tcFrozen j
  else
    bitAt (d.entryWord j) 0 && d.hoEna (fld (d.entryWord j) 1 14) && decide ((d.ho (fld (d.entryWord j) 1 14)).rx = .on) &&
      decide ((d.ho (fld (d.entryWord j) 1 14)).pi.st = .norm) && d.laneSync (d.rxLane (laneOfHo (fld (d.entryWord j) 1 14)))

/-- The aTSF that suppresses the client defects of monitor `j` (R306). -/
def Device.cliTsf (d : Device) (j : Nat) : Bool :=
  if j < 262144 then (d.tcDef j).tsf else (d.hoDef (fld (d.entryWord j) 1 14)).tsf

/-- The reported client LOF, AIS and RAI of monitor `j` (R257, R306). -/
def Device.cliDef (d : Device) (j : Nat) : Bool × Bool × Bool :=
  if d.cliRuns j && !d.cliTsf j then
    ((d.cli j).lof && !(d.cli j).ais.det, (d.cli j).ais.det, (d.cli j).rai.det && !(d.cli j).ais.det && !(d.cli j).lof)
  else (false, false, false)

/-- LOF, AIS or RAI of monitor `j` is reported (R258, R270). -/
def Device.cliAny (d : Device) (j : Nat) : Bool := (d.cliDef j).1 || (d.cliDef j).2.1 || (d.cliDef j).2.2

/-- TC_STATUS.CLIENT of TC `k` (R258). -/
def Device.tcClientDefect (d : Device) (k : Nat) : Bool := d.cliAny k

/-- The client counters in the order of R427 and R271. -/
inductive CliCnt | frm | blk | febe | pbit | oof | mimic | full | slip
  deriving DecidableEq, Repr

/-- The place of a client counter in its set. -/
def CliCnt.idx : CliCnt → Nat
  | .frm => 0 | .blk => 1 | .febe => 2 | .pbit => 3 | .oof => 4 | .mimic => 5 | .full => 6 | .slip => 7

/-- The stored raw counter `i` of TC `k`: 48 bits and WRAP at bit 48 (R424, R427). -/
def Device.rawGet (d : Device) (k i : Nat) : Nat := tabGet 0 d.raw (32 * k + i)

/-- Stores the raw counter `i` of TC `k`. -/
def Device.rawSet (d : Device) (k i v : Nat) : Device := { d with raw := tabPut 0 d.raw (32 * k + i) v }

/-- A raw counter of TC `k` moves up by `n`, setting WRAP when it passes 2^48 - 1. -/
def Device.rawCount (d : Device) (k i n : Nat) : Device :=
  if n = 0 then d
  else if d.rawGet k i % 2 ^ 48 + n ≥ 2 ^ 48 then d.rawSet k i ((d.rawGet k i % 2 ^ 48 + n) % 2 ^ 48 + 2 ^ 48)
  else d.rawSet k i (d.rawGet k i + n)

/-- A client counter of monitor `j` moves up by `n`. -/
def Device.cliCount (d : Device) (j : Nat) (c : CliCnt) (n : Nat) : Device :=
  if j < 262144 then d.rawCount j (9 + c.idx) n
  else d.count (sliceBase (entrySlice j) + 0x1000 + 0x80 * ((j - 262144) % 32) + 0x10 * c.idx) n

end Sys2Proof.Machine
end

