-- ==== Sys2Proof/Machine/Events.lean ====
section
/-! DEFINITION. What follows a change of the reported defects: the W1C events of R307, the slice event queues of R240,
the FOLLOW_UP events of R626, the ring triggers of R396, the PM defect flags of R406 and the SF and SD windows of R318. -/

namespace Sys2Proof.Machine
open Sys2Proof

/-! Queues. -/

/-- The entries of the event queue of slice `s`. -/
def Device.tcQueue (d : Device) (s : Nat) : List Nat := tabGet [] d.tcQueues s

/-- A TC enters its slice's event queue (R240). -/
def Device.tcQueuePush (d : Device) (s k : Nat) : Device :=
  if (d.tcQueue s).length ≥ 1024 then (d.inc (sliceBase s + 0x41C)).ev (sliceBase s + 0x420) 1
  else
    { (d.when (d.tcQueue s).isEmpty (·.ev (sliceBase s + 0x420) 0)) with
      tcQueues := tabPut [] d.tcQueues s (d.tcQueue s ++ [k]) }

/-- A TC whose TC_EVENT has a bit the mask of its slice enables (R240). -/
def Device.tcMasked (d : Device) (k : Nat) : Bool :=
  decide (d.rd (tcBase k + 0x24) &&& d.rd (sliceBase (sliceOfLane (d.tcLane k)) + 0x40C) ≠ 0)

/-- The indices of the words at offset `o` of the entries of a window whose word is not its reset value. -/
def Device.entriesAt (d : Device) (base size n o : Nat) : List Nat :=
  (tabKeys d.regs).filterMap (fun a =>
    if base ≤ a ∧ a < base + size * n ∧ (a - base) % size = o then some ((a - base) / size) else none)

/-- TCs whose masked events a change made non-zero enter their queues (R240).
DEDUCED, log entry 21. -/
def tcRequeue (d0 d : Device) : Device :=
  (d.entriesAt 0x02000000 0x40 262144 0x24).foldl (fun e k =>
    if !d0.tcMasked k && d.tcMasked k then e.tcQueuePush (sliceOfLane (d.tcLane k)) k else e) d

/-- Sets bits of TC_EVENT (R209) and queues the TC when its masked events become non-zero (R240). -/
def Device.tcEvents (d : Device) (k : Nat) (bits : Word) : Device :=
  (d.wr (tcBase k + 0x24) (d.rd (tcBase k + 0x24) ||| bits)).when
    (decide (d.rd (tcBase k + 0x24) &&& d.rd (sliceBase (sliceOfLane (d.tcLane k)) + 0x40C) = 0) &&
     decide ((d.rd (tcBase k + 0x24) ||| bits) &&& d.rd (sliceBase (sliceOfLane (d.tcLane k)) + 0x40C) ≠ 0))
    (·.tcQueuePush (sliceOfLane (d.tcLane k)) k)

/-- Sets bit `i` of TC_EVENT. -/
def Device.tcEv (d : Device) (k i : Nat) : Device := d.tcEvents k (wd (2 ^ i))

/-- A FOLLOW_UP event is queued or dropped (R626, R627): only bits whose event is enabled count. -/
def Device.followUp (d : Device) (kind idx : Nat) (now changed ena : Word) : Device :=
  if d.bit 0x30010 8 && decide (changed &&& ena ≠ 0) then
    if d.follow.length ≥ 4096 then (d.inc 0x30040).ev 0x30018 6
    else { d with follow := d.follow ++ [⟨kind, idx, now, changed, d.stamp⟩] }
  else d

/-- A trigger defect of a ring (R396). -/
def Device.ringTrigger (d : Device) (r : Nat) : Device :=
  if d.get (ringBase r + 8) 0 3 = 1 then (d.put (ringBase r + 8) 0 3 2).setBit (ringBase r + 8) 4 true
  else if d.get (ringBase r + 8) 0 3 = 0 then d
  else d.incField (ringBase r + 8) 16 16

/-- The declarations of a capturing context meet its ring's RING_TRIG (R396): `sel` is coded as RING_TRIG. -/
def Device.ringDeclared (d : Device) (capture : Word) (sel : Nat) : Device :=
  if bitAt capture 0 && decide (sel &&& d.get (ringBase (fld capture 8 8) + 4) 0 10 ≠ 0) then
    d.ringTrigger (fld capture 8 8)
  else d

/-! Changes of reported defects. -/

/-- Bits that rose from `a` to `b`. -/
def rose (a b : Word) : Word := b &&& ~~~a

/-- A lane's reported word changed (R307, R329, R626): enabling and disabling set no event of bits [27:24]. -/
def Device.laneChange (d0 d : Device) (n : Nat) : Device :=
  (fun w0 w1 : Word =>
    (d.wr (laneBase n + 0x405C) (d.rd (laneBase n + 0x405C) |||
      (rose w0 w1 &&& (if d0.laneEna n = d.laneEna n then 0x0FFFFFFF else 0x003FFFFF)))).followUp 0 n (w1 &&& 0x3FFFFF)
      ((w0 ^^^ w1) &&& 0x3FFFFF) (d.rd (laneBase n + 0x4060)))
  (d0.laneDef n).word (d.laneDef n).word

/-- The RING_TRIG code of HO_STATUS declarations. -/
def hoTrigSel (w : Word) : Nat :=
  b2n (bitAt w 0) + 2 * b2n (bitAt w 1) + 4 * b2n (bitAt w 6) + 8 * b2n (bitAt w 7) + 16 * b2n (bitAt w 8)
  + 32 * b2n (bitAt w 9) + 64 * b2n (bitAt w 10) + 128 * b2n (bitAt w 11) + 256 * b2n (bitAt w 4 || bitAt w 5)

/-- A high-order context's reported word changed (R307, R396, R626). -/
def Device.hoChange (d0 d : Device) (h : Nat) : Device :=
  (fun w0 w1 : Word =>
    ((d.wr (hoBase h + 0x24) (d.rd (hoBase h + 0x24) ||| rose w0 w1)).followUp 1 h w1 (w0 ^^^ w1)
      (d.rd (hoBase h + 0x28))).ringDeclared (d.capUsed (hoCtx h)) (hoTrigSel (rose w0 w1)))
  (wd (d0.hoDef h).word) (wd (d.hoDef h).word)

/-- The RING_TRIG code of TC_STATUS declarations. -/
def tcTrigSel (w : Word) : Nat :=
  b2n (bitAt w 0) + 2 * b2n (bitAt w 1) + 4 * b2n (bitAt w 3) + 8 * b2n (bitAt w 4) + 16 * b2n (bitAt w 5)
  + 32 * b2n (bitAt w 6) + 64 * b2n (bitAt w 8) + 128 * b2n (bitAt w 9) + 256 * b2n (bitAt w 2) + 512 * b2n (bitAt w 10)

/-- The reported defect bits [10:0] of TC_STATUS (R208): the client's own state is added by bit 10. -/
def Device.tcWord (d : Device) (k : Nat) : Word :=
  wd ((d.tcDef k).word + 1024 * b2n (d.tcClientDefect k))

/-- A tributary's reported word changed (R209, R307, R396, R626). -/
def Device.tcChange (d0 d : Device) (k : Nat) : Device :=
  (fun w0 w1 : Word =>
    if w0 = w1 then d
    else
      ((d.when (decide (rose w0 w1 ≠ 0)) (·.tcEvents k (rose w0 w1))).followUp 2 k w1 (w0 ^^^ w1)
        (d.rd (sliceBase (sliceOfLane (d.tcLane k)) + 0x40C))).ringDeclared (d.capUsed k) (tcTrigSel (rose w0 w1)))
  (d0.tcWord k) (d.tcWord k)

end Sys2Proof.Machine
end

