-- ==== Sys2Proof/Machine/PmPoint.lean ====
section
/-! DEFINITION. Monitor points and their accumulators (R403 to R410). -/

namespace Sys2Proof.Machine
open Sys2Proof

/-- What a point index names (R403). -/
inductive PointKind | tc (k : Nat) | ho (h : Nat) | lane (n m : Nat)
  deriving DecidableEq, Repr

/-- The point of an index. -/
def pointKind (p : Nat) : PointKind :=
  if p < 262144 then .tc p else if p < 274432 then .ho (p - 262144) else .lane ((p - 274432) / 4) ((p - 274432) % 4)

/-- The index of high-order context `h`. -/
def hoPoint (h : Nat) : Nat := 262144 + h
/-- The index of layer `m` of lane `n`. -/
def lanePoint (n m : Nat) : Nat := 274432 + 4 * n + m

/-- The point. -/
def Device.point (d : Device) (p : Nat) : PmPoint := tabGet {} d.pm.points p
/-- Stores a point. -/
def Device.setPoint (d : Device) (p : Nat) (x : PmPoint) : Device := { d with pm := { d.pm with points := tabPut {} d.pm.points p x } }

/-- PM_ENA of a point (R403). -/
def Device.pmEna (d : Device) (p : Nat) : Bool :=
  match pointKind p with
  | .tc k => d.bit (tcBase k + 0x10) 0
  | .ho h => d.bit (hoBase h + 0x14) 0
  | .lane n m => d.bit (0xD0400 + 4 * n) m

/-- The lane or context of a point is enabled and not draining, no member, and OTU2 where the layer needs it (R404). -/
def Device.pmCarried (d : Device) (p : Nat) : Bool :=
  match pointKind p with
  | .tc k => d.tcEna k
  | .ho h => d.hoEna h && decide ((d.ho h).claim = none)
  | .lane n m => d.laneEna n && (decide (m < 2) || d.isOtu n)

/-- The lane whose received signal feeds a point, an MSP pair's choice included (R356, R415). -/
def Device.pmLane (d : Device) (p : Nat) : Nat :=
  match pointKind p with | .tc k => d.rxLane (d.tcLane k) | .ho h => d.rxLane (laneOfHo h) | .lane n _ => n

/-- The near-end and far-end defects of the four layers of a lane (R406). -/
def laneLayerDefects (x : LaneDef) (timAct oduAct : Bool) (m : Nat) : Bool × Bool :=
  if m = 0 then (x.los || x.oor || x.lof || x.otuLof || x.otuLom || (x.rsTim && timAct), false)
  else if m = 1 then (x.aisOut, x.msRdi)
  else if m = 2 then (x.los || x.oor || x.otuLof || x.otuLom || (x.smTim && timAct), x.smBdi)
  else
    (x.los || x.oor || x.otuLof || x.otuLom || (x.smTim && timAct) || x.oduAis || (x.pmTim && timAct) ||
      (oduAct && (x.oduOci || x.oduLck || x.oduPlm)), x.pmBdi)

/-- The near-end, far-end and client defects of a point (R406). -/
def Device.pmDefects (d : Device) (p : Nat) : Bool × Bool × Bool :=
  match pointKind p with
  | .tc k => ((d.tcDef k).aAis, (d.tcDef k).rdi, (d.cliDef k).1 || (d.cliDef k).2.1)
  | .ho h => ((d.hoDef h).aAis, (d.hoDef h).rdi, false)
  | .lane n m =>
    ((laneLayerDefects (d.laneDef n) (bitAt (d.lane n).act 1) (bitAt (d.lane n).act 2) m).1,
     (laneLayerDefects (d.laneDef n) (bitAt (d.lane n).act 1) (bitAt (d.lane n).act 2) m).2, false)

/-- A TC carries a monitored client (R407, R414). -/
def Device.pmHasCli (d : Device) (p : Nat) : Bool :=
  decide (p < 262144) && decide (d.get (tcBase p + 8) 0 3 ≠ 0) && d.bit (tcBase p + 8) 5

/-- One evaluated block of a side. -/
def PmSide.block (s : PmSide) (err : Bool) : PmSide := { s with nb := s.nb + 1, eb := s.eb + b2n err }

/-- A block of a point ends (R406): it is evaluated, with its far-end reading, only while the near end has no defect. -/
def Device.pmBlock (d : Device) (p : Nat) (errNe errFe : Bool) : Device :=
  if (d.point p).on && !(d.pmDefects p).1 then
    d.setPoint p { d.point p with ne := (d.point p).ne.block errNe, fe := (d.point p).fe.block errFe }
  else d

/-- A client block of a TC ends (R406). -/
def Device.pmCliBlock (d : Device) (k : Nat) (err : Bool) : Device :=
  if (d.point k).on && !(d.pmDefects k).2.2 then d.setPoint k { d.point k with cli := (d.point k).cli.block err } else d

/-- Received justifications of a point in the second (R414). -/
def Device.pmJust (d : Device) (p : Nat) (pos neg : Bool) : Device :=
  if (d.point p).on then d.setPoint p { d.point p with pos := (d.point p).pos + b2n pos, neg := (d.point p).neg + b2n neg } else d

/-- A side's machine restarts when evaluation starts (R410); its defect of the second is noted. -/
def PmSide.note (s : PmSide) (fresh df : Bool) : PmSide :=
  { s with dfct := s.dfct || df, unavail := s.unavail && !fresh, run := if fresh then 0 else s.run }

/-- The state of a point after the defects or the enables changed (R404, R407, R408, R410, R415, R416). -/
def PmPoint.settle (x : PmPoint) (carried : Bool) (lane : Nat) (df : Bool × Bool × Bool) (cliRuns : Bool) : PmPoint :=
  if x.ena && carried then
    { x with
      on := true, seen := true, part := x.part || !x.on, lane := lane, moved := x.moved || (x.seen && decide (x.lane ≠ lane))
      cliOff := x.cliOff || !cliRuns
      ne := x.ne.note (!x.on) df.1, fe := x.fe.note (!x.on) (df.2.1 && !df.1), cli := x.cli.note (!x.on) df.2.2 }
  else if x.on then { x with on := false, part := true } else x

/-- Settles point `p`. -/
def Device.pmSettle (d : Device) (p : Nat) : Device :=
  d.setPoint p ((d.point p).settle (d.pmCarried p) (d.pmLane p) (d.pmDefects p) (d.cliRuns p))

end Sys2Proof.Machine
end

