-- ==== Sys2Proof/Machine/Lane.lean ====
section
/-! DEFINITION. Lanes: LANE_CTL, enabling and draining, squelch, adaptation, the margin scan, signal presence, the
transmitted overhead and the overhead relay (R95 to R111, R131, R141 to R157, R324). -/

namespace Sys2Proof.Machine
open Sys2Proof

/-! Small readers. -/

/-- LANE_STATUS.DRAINED of lane `n`. -/
def Device.laneDrained (d : Device) (n : Nat) : Bool := d.bit (laneBase n + 0x14) 1
/-- The device acts for the Party Wall (R529). -/
def Device.acting (d : Device) : Bool := d.get 0x70014 0 2 == 2
/-- A fault reaction squelches lane `n` (R156, R560, R561). -/
def Device.faultSquelch (d : Device) (n : Nat) : Bool :=
  d.fc.safe || d.fcHeld (.lane n) || d.sliceHeld (sliceOfLane n)
/-- A squelch cause of R156 holds on lane `n`. -/
def Device.squelched (d : Device) (n : Nat) : Bool := d.bit (laneBase n + 0x10) 11 || d.faultSquelch n || !d.acting
/-- The enabled selections of OH_SEL (R143), in index order. -/
def Device.ohSelected (d : Device) (n : Nat) : List Word :=
  ((d.rds (laneBase n + 0x60) 12)).filter (bitAt · 0)
/-- The pair a lane belongs to, enabled. -/
def Device.pairOf (d : Device) (n : Nat) : Option Pair := d.pairs.find? (fun p => p.ena && (p.work == n || p.prot == n))

/-- A refusal recorded by the Landing (R362): cause, object kind and index; the access is counted by the bridge. -/
def Device.landRefuse (d : Device) (kind idx cause : Nat) : Device :=
  ((d.inc 0xB0044).wr 0xB0048 (wd (idx + 2 ^ 18 * kind + 2 ^ 20 * cause))).ev 0xB0014 3

/-! LANE_CTL (R97, R145, R152 to R154, R167, R218, R354). -/

/-- MODE or SONET differ. -/
def modeDiffers (a b : Word) : Bool := decide (fld a 4 4 ≠ fld b 4 4)

/-- A slot of the lane at or above `top` belongs to an enabled or draining group (R167). -/
def Device.slotUsedFrom (d : Device) (n top : Nat) : Bool :=
  (List.range 192).any (fun k =>
    (d.hoEna (192 * n + k) || !d.hoDrained (192 * n + k)) && decide (top < k + groupSize (d.hoType (192 * n + k))))

/-- An enabled or draining TC of the lane names an HO_SLOT at or above `top` (R218). -/
def Device.tcSlotUsedFrom (d : Device) (n top : Nat) : Bool :=
  d.tcActive.any (fun k => decide (d.tcLane k = n) && decide (top ≤ d.get (tcBase k) 10 8))

/-- Whether a LANE_CTL value is refused with RANGE beside its field ranges. -/
def Device.laneCtlBad (d : Device) (n : Nat) (v : Word) : Bool :=
  (modeDiffers (d.rd (laneBase n + 0x10)) v &&
    (d.laneEna n || !d.laneDrained n || (d.pairOf n).isSome || d.slotUsedFrom n (3 * stmN (fld v 4 3))
      || d.tcSlotUsedFrom n (3 * stmN (fld v 4 3)))) ||
  (bitAt v 0 && (d.ohSelected n).any (fun w => decide (9 * stmN (fld v 4 3) < fld w 5 10)))

/-- A lane starts (R152): the hunt, the presets and the acceptances of R139.
DEDUCED, log entry 24. -/
def Device.laneStart (d : Device) (n : Nat) : Device :=
  (((((d.put (laneBase n + 0x14) 1 1 0).wr (laneBase n + 0x4000) 0).wr (laneBase n + 0x4024) 0).wr (laneBase n + 0x4028) 0).onLane n
    (fun l => { l with
      rxOn := true, sdh := {}, otu := {}, kValid := false, kNoAcc := 0, kRun := {}, s1Valid := false, s1Run := {}, rxb := {}
      act := d.rd (laneBase n + 0x4058) })).pathsFresh n

/-- The equaliser takes settings the spec does not give: presets, settled settings and those between (R100, R102): ADAPT_STATUS, and the
two DFE taps it does not show.
DEDUCED, log entry 24. -/
def Device.adaptFree (d : Device) (n : Nat) : Device :=
  (d.free.2.free.2.wr (laneBase n + 0x4054) (d.free.1 &&& 0xFFFFFF1F)).onLane n (fun l => { l with taps := d.free.2.free.1 &&& 0xFFFF })

/-- LOS or FREQ_OOR is present. -/
def Device.noSignal (d : Device) (n : Nat) : Bool := d.bit (laneBase n + 0x4000) 0 || d.bit (laneBase n + 0x4000) 1

/-- A lane adapts on live data, frame by frame, unless ADAPT_FREEZE is 1 or no signal is present (R100 to R102). -/
def Device.adaptStep (d : Device) (n : Nat) : Device :=
  if d.laneEna n && !d.bit (laneBase n + 0x4050) 0 && !d.noSignal n then d.adaptFree n else d

/-- RX_FREQ of a lane whose offset is in range: a value the line gives, within the limits of R104.
DESIGN CHOICE, log entry 78. -/
def Device.freqStep (d : Device) (n : Nat) : Device :=
  if d.noSignal n then d
  else d.free.2.wr (laneBase n + 0x4030) (wd (unsigned 32 ((d.free.1.toNat % 20001 : Nat) - (10000 : Int))))

/-- A running margin scan ends without a result (R109). -/
def Device.marginStop (d : Device) (n st : Nat) : Device :=
  if (d.lane n).margin.isSome then
    (d.onLane n (fun l => { l with margin := none })).put (laneBase n + 0x4048) 0 3 st
  else d

/-- A lane's detectors and trace, label acceptances start from their cleared states; framing, K, S1 and the multiframe go on (R154, R308,
R312).
DEDUCED, log entry 88. -/
def LaneSt.fresh (l : LaneSt) : LaneSt :=
  { l with msAis := {}, msRdi := {}, smBdi := {}, smIae := {}, smBiae := {}, oduAis := {}, oduOci := {}, oduLck := {}, pmBdi := {}
           rsTim := false, smTim := false, pmTim := false, ptRun := {}, oduPlm := false, msSf := {}, msSd := {}, smSf := {}, smSd := {}
           j0 := { l.j0.brk with accepted := false }, smTti := { l.smTti.brk with accepted := false }
           pmTti := { l.pmTti.brk with accepted := false } }

/-- An accepted write of LANE_CTL (R152, R153, R154): a drain that is cancelled leaves ADAPT_DONE 0 and loads no settings (R102).
DESIGN CHOICE, log entry 82. -/
def Device.laneCtlTake (d : Device) (n : Nat) (v : Word) : Device :=
  if bitAt v 0 && !d.laneEna n then
    if (d.lane n).draining then ((d.wr (laneBase n + 0x10) v).onLane n (fun l => { l.fresh with draining := false })).pathsFresh n
    else ((d.wr (laneBase n + 0x10) v).laneStart n).adaptFree n
  else if !bitAt v 0 && d.laneEna n then
    (((d.wr (laneBase n + 0x10) v).onLane n (fun l => { l with draining := true })).marginStop n 4).setBit
      (laneBase n + 0x4000) 9 false
  else d.wr (laneBase n + 0x10) v

/-- A write of LANE_CTL is judged and taken. -/
def Device.laneCtlWrite (d : Device) (n : Nat) (v : Word) : Status × Device :=
  if d.laneCtlBad n v then
    (.range, d.when (modeDiffers (d.rd (laneBase n + 0x10)) v && (d.pairOf n).isSome) (·.landRefuse 3 n 6))
  else (.ok, d.laneCtlTake n v)

/-- The heads a lane serves lose the TU multiframe when its framer leaves SYNC (R185). -/
def Device.phaseLost (d : Device) (n : Nat) : Device :=
  (tabKeys d.hos).foldl (fun d h =>
    if d.rxLane (laneOfHo h) = n ∧ d.bit (hoBase h) 4 ∧ (d.ho h).rx ≠ .off then
      d.onHo h (fun x => { x with oom := true, inMf := false, h4Good := 0, h4Bad := 0 })
    else d) d

/-- Both framers of a lane leave for HUNT by the last row of R132: an event without a count when they were in SYNC (R158). -/
def Device.framersDrop (d : Device) (n : Nat) : Device :=
  (((d.when (decide ((d.lane n).sdh.st = .sync)) (·.ev (laneBase n + 0x4008) 2)).when
    (decide ((d.lane n).otu.st = .sync)) (·.ev (laneBase n + 0x4008) 4)).onLane n
    (fun l => { l with sdh := l.sdh.drop, otu := l.otu.drop })).phaseLost n

/-- What a lane keeps over a drain: its frame numbers and relay queues; everything else starts cleared (R139, R308).
DEDUCED, log entry 24. -/
def LaneSt.drained (l : LaneSt) : LaneSt :=
  { relayRx := l.relayRx, relayTx := l.relayTx, relayGap := l.relayGap, rxFrame := l.rxFrame, txFrame := l.txFrame
    j0 := { l.j0.brk with accepted := false }, smTti := { l.smTti.brk with accepted := false }
    pmTti := { l.pmTti.brk with accepted := false } }

/-- The draining frame ends (R153, R139, R132).
DEDUCED, log entry 24. -/
def Device.laneDrainDone (d : Device) (n : Nat) : Device :=
  if (d.lane n).draining then
    (((((((d.cellsDrop (· == n)).framersDrop n).onLane n LaneSt.drained).wr (laneBase n + 0x4000) 0).wr (laneBase n + 0x4024) 0).wr
      (laneBase n + 0x4028) 0).put (laneBase n + 0x14) 1 1 1).ev (laneBase n + 0x18) 0
  else d

/-- A lane's transmitter leaves electrical idle at a frame boundary when enabled and not squelched (R152, R156). -/
def Device.laneTxGo (d : Device) (n : Nat) : Device :=
  if d.laneEna n && !d.squelched n then d.onLane n (fun l => { l with txOn := true }) else d

/-- The transmitter in electrical idle: nothing leaves on the line (R156). -/
def LaneSt.idle (l : LaneSt) : LaneSt := { l with txOn := false, txb := { l.txb with line := [] } }

/-- A lane's transmitter completes its frame and goes idle for a software or not-acting cause (R156). -/
def Device.laneTxIdle (d : Device) (n : Nat) : Device :=
  if d.bit (laneBase n + 0x10) 11 || !d.acting then d.onLane n LaneSt.idle else d

/-- A fault-reaction squelch appears: idle at once (R156). -/
def Device.laneFaultIdle (d : Device) (n : Nat) : Device :=
  (d.onLane n LaneSt.idle).ev (laneBase n + 0x18) 4

/-! Adaptation and margin (R100 to R109). -/

/-- A write of SDS_CMD takes effect: ADAPT_RESTART loads settings also while ADAPT_FREEZE is 1 (R101, R102, R132).
DESIGN CHOICE, log entry 79. -/
def Device.adaptRestart (d : Device) (n : Nat) : Device :=
  ((d.adaptFree n).setBit (laneBase n + 0x4000) 9 false).framersDrop n

/-- Adaptation settles (R102): not while disabled, under LOS or FREQ_OOR. -/
def Device.adaptDone (d : Device) (n : Nat) : Device :=
  if d.laneEna n && !d.noSignal n then
    (if d.bit (laneBase n + 0x4050) 0 then d else d.adaptFree n).setBit (laneBase n + 0x4000) 9 true
  else d

/-- MARGIN_START (R106, R109): refused with RANGE while a scan runs; without a signal the scan ends at once.
DEDUCED, log entry 24. -/
def Device.marginStart (d : Device) (n : Nat) : Status × Device :=
  if (d.lane n).margin.isSome then (.range, d)
  else if !d.laneEna n || d.noSignal n then
    (.ok, d.put (laneBase n + 0x4048) 0 3 4)
  else (.ok, (d.onLane n (fun l => { l with margin := some {} })).put (laneBase n + 0x4048) 0 3 1)

/-- The most steps of a direction (R106). -/
def marginTop (dir : Nat) : Nat := if dir < 2 then 32 else 100

/-- A scan after a point (R106, R107): a passing point steps outwards, a failing point or the last step ends a direction. -/
def Margin.point (m : Margin) (pass : Bool) : Margin :=
  if pass && decide (m.steps + 1 < marginTop m.dir) then { m with steps := m.steps + 1 }
  else { dir := m.dir + 1, steps := 0, res := m.res ++ [m.steps + b2n pass] }

/-- A point of the scan is done with `errs` differing decisions (R107, R108). -/
def Device.marginPoint (d : Device) (n errs : Nat) : Device :=
  match (d.lane n).margin with
  | none => d
  | some m =>
    (fun m' : Margin =>
      if m'.dir < 4 then d.onLane n (fun l => { l with margin := some m' })
      else
        (((d.onLane n (fun l => { l with margin := none })).put (laneBase n + 0x4048) 0 3 2).wr (laneBase n + 0x404C)
          (wd (m'.res.getD 0 0 + 2 ^ 8 * m'.res.getD 1 0 + 2 ^ 16 * m'.res.getD 2 0 + 2 ^ 24 * m'.res.getD 3 0))).ev
          (laneBase n + 0x4008) 13)
    (m.point (decide (errs ≤ d.get (laneBase n + 0x4040) 8 8)))

/-- A write of SDS_CMD takes effect, its bits in order; a refused one has no effect (R51, R109). -/
def Device.sdsCmd (d : Device) (n : Nat) (v : Word) : Status × Device :=
  if bitAt v 1 && (d.lane n).margin.isSome then (.range, d)
  else
    (.ok, (((d.when (bitAt v 0) (·.adaptRestart n)).when (bitAt v 1) (fun e => (e.marginStart n).2)).when (bitAt v 2)
      (·.marginStop n 3)))

/-! Signal presence and frequency (R103, R104, R105). -/

/-- The receiver of a lane runs. -/
def Device.rxOn (d : Device) (n : Nat) : Bool := (d.lane n).rxOn

/-- The receiver sees the lane's own transmit data, which the transmitter sends (R111): it has transitions and no offset. -/
def Device.looped (d : Device) (n : Nat) : Bool := d.bit (laneBase n + 0x10) 10 && (d.lane n).txOn

/-- LOS is declared (R102 to R105, R109, R111). -/
def Device.losDeclare (d : Device) (n : Nat) : Device :=
  if d.rxOn n && !d.bit (laneBase n + 0x4000) 0 && !d.looped n then
    ((((((d.setBit (laneBase n + 0x4000) 0 true).setBit (laneBase n + 0x4000) 1 false).setBit (laneBase n + 0x4000) 9 false).wr
      (laneBase n + 0x4030) 0).ev (laneBase n + 0x4008) 0).framersDrop n).marginStop n 4
  else d

/-- LOS clears (R103). -/
def Device.losClear (d : Device) (n : Nat) : Device := d.setBit (laneBase n + 0x4000) 0 false

/-- FREQ_OOR is declared at a measured offset (R102, R104, R105, R109, R111). -/
def Device.oorDeclare (d : Device) (n : Nat) (off : Int) : Device :=
  if d.rxOn n && !d.bit (laneBase n + 0x4000) 0 && !d.looped n && decide (10000 < off.natAbs) then
    (((((d.setBit (laneBase n + 0x4000) 1 true).setBit (laneBase n + 0x4000) 9 false).wr (laneBase n + 0x4030)
      (wd (unsigned 32 off))).ev (laneBase n + 0x4008) 1).framersDrop n).marginStop n 4
  else d

/-- FREQ_OOR clears at a measured offset (R104). -/
def Device.oorClear (d : Device) (n : Nat) (off : Int) : Device :=
  if d.rxOn n && !d.bit (laneBase n + 0x4000) 0 && decide (off.natAbs ≤ 8000) then
    (d.setBit (laneBase n + 0x4000) 1 false).wr (laneBase n + 0x4030) (wd (unsigned 32 off))
  else d

/-- 3 ms of OOF declare dLOF, of the SDH framer or of the OTU2 framer (R131). -/
def Device.lofDeclare (d : Device) (n : Nat) (otu : Bool) : Device :=
  if d.laneEna n && (if otu then d.isOtu n && decide ((d.lane n).otu.st ≠ .sync) else decide ((d.lane n).sdh.st ≠ .sync)) then
    (d.setBit (laneBase n + 0x4000) (if otu then 5 else 3) true).when (!d.bit (laneBase n + 0x4000) (if otu then 5 else 3))
      (·.ev (laneBase n + 0x4008) (if otu then 5 else 3))
  else d

/-- 3 ms of SYNC clear dLOF (R131). -/
def Device.lofClear (d : Device) (n : Nat) (otu : Bool) : Device :=
  if (if otu then decide ((d.lane n).otu.st = .sync) else decide ((d.lane n).sdh.st = .sync)) then
    d.setBit (laneBase n + 0x4000) (if otu then 5 else 3) false
  else d

/-- 3 ms of OOM declare LOM (R113). -/
def Device.otuLomDeclare (d : Device) (n : Nat) : Device :=
  if d.laneEna n && d.isOtu n && d.bit (laneBase n + 0x4000) 6 then
    (d.setBit (laneBase n + 0x4000) 7 true).when (!d.bit (laneBase n + 0x4000) 7) (·.ev (laneBase n + 0x4008) 7)
  else d

/-- 3 ms without OOM clear LOM (R113). -/
def Device.otuLomClear (d : Device) (n : Nat) : Device :=
  if d.bit (laneBase n + 0x4000) 6 then d else d.setBit (laneBase n + 0x4000) 7 false

/-! The overhead relay (R143 to R151). -/

/-- A section overhead byte R144 keeps from the relay: A1, A2, J0, B1, B2, K1, K2, S1, M0, M1 of STM-`N` (G.707 places).
PRESUMED, log entry 26. -/
def ohReserved (nn row col : Nat) : Bool :=
  (row == 1 && decide (col ≤ 6 * nn)) || (row == 1 && col == 6 * nn + 1) || (row == 2 && col == 1)
  || (row == 5 && decide (col ≤ 3 * nn)) || (row == 5 && (col == 3 * nn + 1 || col == 6 * nn + 1)) || (row == 9 && col == 1)
  || (row == 9 && (if nn = 1 then col == 6 else col == 3 * nn + 3 || (decide (nn = 64) && col == 3 * nn + 2)))

/-- An OH_SEL value is refused with RANGE (R144), whether or not its ENA is 1. -/
def ohSelBad (nn : Nat) (v : Word) : Bool :=
  (fld v 1 4 == 0 || fld v 1 4 == 4 || decide (9 < fld v 1 4) || fld v 5 10 == 0 || decide (576 < fld v 5 10)
    || ohReserved nn (fld v 1 4) (fld v 5 10))

/-- The Porch link is UP (R614). -/
def Device.porchUp (d : Device) : Bool := d.get 0x30014 0 2 == 2

/-- The bytes of a receive record (R151). -/
def rxRecord (n seq : Nat) (frames : List (List Byte)) (oof gap : Bool) : List Byte :=
  [0x01, BitVec.ofNat 8 n, 0x00, BitVec.ofNat 8 ((frames.getD 0 []).length)] ++ natBytes 4 seq ++
    [16, BitVec.ofNat 8 (b2n oof + 2 * b2n gap)] ++ List.replicate 6 0 ++ frames.flatMap id

/-- A receive record is built after 16 frames (R146, R147).
DESIGN CHOICE, log entry 84. -/
def Device.relayBuild (d : Device) (n : Nat) : Device :=
  if d.bit (laneBase n + 0x90) 0 && decide (16 ≤ (d.lane n).relayBuf.length) then
    (fun l : LaneSt =>
      (fun rec : List Byte =>
        (fun d1 : Device =>
          if d.porchUp && decide (l.relayRx.length < 4) then
            d1.onLane n (fun x => { x with relayBuf := [], relayOof := false, relayGap := false, relayRx := x.relayRx ++ [rec] })
          else
            ((d1.onLane n (fun x => { x with relayBuf := [], relayOof := false, relayGap := true })).inc
              (laneBase n + 0xA0)).ev (laneBase n + 0x18) 1)
        (d.wrs (laneBase n + 0x3000) (bytesWords (rec ++ List.replicate (208 - rec.length) 0))))
      (rxRecord n l.relaySeq (l.relayBuf.take 16) l.relayOof l.relayGap))
    (d.lane n)
  else d

/-- A transmit record, its bytes as R151 lays them out, is queued or refused (R148, R149).
DESIGN CHOICE, log entry 84. -/
def Device.relayPush (d : Device) (n : Nat) (rec : List Byte) : Status × Device :=
  (fun bpf nfr : Nat =>
    if (d.lane n).relayTx.length ≥ 4 ∨ bpf ≠ (d.ohSelected n).length ∨ nfr = 0 ∨ 16 < nfr ∨ rec.getD 0 0 ≠ 0x01 then
      (.range, (d.inc (laneBase n + 0xA8)).ev (laneBase n + 0x18) 3)
    else
      (.ok, d.onLane n (fun l => { l with relayTx := l.relayTx ++
        [(List.range nfr).map (fun f => (List.range bpf).map (fun b => rec.getD (16 + f * bpf + b) 0))] })))
  (rec.getD 3 0).toNat (rec.getD 8 0).toNat

/-- A write of 1 to OH_TX_PUSH (R148): without TX_ENA no record is queued. -/
def Device.ohTxPush (d : Device) (n : Nat) : Status × Device :=
  if d.bit (laneBase n + 0x90) 1 then d.relayPush n ((d.rds (laneBase n + 0x3100) 52).flatMap wordBytes) else (.ok, d)

/-- The relay counters clear (R158). -/
def Device.ohCntClr (d : Device) (n : Nat) : Device := d.zero [laneBase n + 0xA0, laneBase n + 0xA4, laneBase n + 0xA8]

/-! The transmitted overhead (R122, R123, R141, R142, R150, R324, R357, R477). -/

/-- K1 and K2 the Landing sends for an enabled pair (R357): K2 [8:5] of a bidirectional pair is the channel of the received K1 as it
is accepted now. -/
def Device.pairK (d : Device) (p : Pair) : Nat :=
  (fun k : Nat =>
    if d.bit (mspBase p.idx) 13 then 256 * (k / 256) + 16 * (d.get (laneBase p.prot + 0x4024) 8 4) + k % 16 else k)
  (d.get (mspBase p.idx + 0x10) 0 16)

/-- K1 and K2 of the Landing for a lane (R357). -/
def Device.landingK (d : Device) (n : Nat) : Nat :=
  match d.pairOf n with | some p => d.pairK p | none => 0

/-- The valid range of MS-REI (R140). -/
def reiTop (mode : Nat) (m0m1 : Bool) : Nat :=
  if mode = 0 then 24 else if mode = 1 then 96 else if mode = 2 then 255 else if m0m1 then 1536 else 255

/-- The MS-REI value of the next frame (R324). -/
def Device.msReiOut (d : Device) (n : Nat) : Nat :=
  if (d.laneDef n).aisOut then 0 else min (d.lane n).reiB2 (reiTop (d.laneMode n) (d.bit (laneBase n + 0x24) 2))

/-- K1 and K2 of the next frame: the source of R141, with K2 bits [3:1] under R142 and R324. -/
def Device.kOut (d : Device) (n : Nat) : Nat :=
  (fun k : Nat =>
    if d.bit (laneBase n + 0x30) 1 || (d.bit (laneBase n + 0x4058) 3 && (d.laneDef n).aisOut) then k / 8 * 8 + 6 else k)
  (if d.bit (laneBase n + 0x24) 0 then d.landingK n else d.get (laneBase n + 0x28) 0 16)

/-- The trace byte of a frame in the format of a J0 mode (R136, R141): the stored bytes as they are, whatever LANE_CTL.SONET holds (R96).
DESIGN CHOICE, log entry 80; DESIGN CHOICE, log entry 81. -/
def Device.traceByte (d : Device) (a mode frame : Nat) : Byte :=
  (d.traceBytes a 64).getD (if mode = 0 then 0 else if mode = 1 then frame % 16 else frame % 64) 0

/-- Any cause of SM BDI (R324). -/
def smBdiCause (x : LaneDef) (timAct : Bool) : Bool := x.los || x.oor || x.otuLof || x.otuLom || (x.smTim && timAct)

/-- Any cause of PM BDI (R324). -/
def pmBdiCause (x : LaneDef) (timAct oduAct : Bool) : Bool :=
  smBdiCause x timAct || x.oduAis || (oduAct && (x.oduOci || x.oduLck)) || (x.pmTim && timAct)

/-- The overhead of the next transmitted frame of a lane, without the relay bytes. -/
def Device.txOverhead (d : Device) (n : Nat) : TxOh :=
  (fun (x : LaneDef) (rdi timAct oduAct m0m1 : Bool) (l : LaneSt) =>
    { sent := true
      msAis := d.bit (laneBase n + 0x30) 0
      j0 := d.traceByte (laneBase n + 0x100) (d.get (laneBase n + 0x401C) 0 2) l.txFrame
      k1 := BitVec.ofNat 8 (d.kOut n / 256), k2 := BitVec.ofNat 8 (d.kOut n)
      s1 := BitVec.ofNat 8 (if d.bit (laneBase n + 0x24) 1 then d.laneSsm n else d.get (laneBase n + 0x2C) 0 8)
      m0 := BitVec.ofNat 8 (if d.laneMode n ≥ 3 && m0m1 then d.msReiOut n / 256 else 0)
      m1 := BitVec.ofNat 8 (d.msReiOut n)
      invB1 := d.bit (laneBase n + 0x30) 2, invB2 := d.bit (laneBase n + 0x30) 3
      smTti := d.traceByte (laneBase n + 0x140) 2 l.txb.mfas, pmTti := d.traceByte (laneBase n + 0x180) 2 l.txb.mfas
      smBiae := rdi && x.smIae
      smBei := if x.otuLof || x.otuLom || (rdi && x.smIae) then 0 else l.beiSm
      pmBei := if pmBdiCause x timAct oduAct then 0 else l.beiPm
      smBdi := rdi && smBdiCause x timAct, pmBdi := rdi && pmBdiCause x timAct oduAct
      iae := false, stat := 1, pt := if d.bit (laneBase n + 0x4020) 2 then 3 else 2, jc := 0
      invSm := d.bit (laneBase n + 0x30) 4, fecZero := !d.bit (laneBase n + 0x4020) 1 })
  (d.laneDef n) (d.bit (laneBase n + 0x4058) 3) (d.bit (laneBase n + 0x4058) 1) (d.bit (laneBase n + 0x4058) 2)
  (d.bit (laneBase n + 0x24) 2) (d.lane n)

end Sys2Proof.Machine
end

