-- ==== Sys2Proof/Machine/Vc.lean ====
section
/-! DEFINITION. Containers in a frame: which bytes of an STM-N belong to an AU, which bytes of a container to a tributary, and how a
container is cut out of, and laid into, its pointer's payload area (R17, R164, R175, R178, R187 to R192, R201, R223,
R234 to R238; the places are G.707's). -/

namespace Sys2Proof.Machine
open Sys2Proof

/-! The bytes of an AU (R164, R175). -/

/-- The place of slot `s` = 3a + b among the 3N byte-interleaved AU-3s.
PRESUMED, log entry 26. -/
def slotTime (nn s : Nat) : Nat := nn * (s % 3) + s / 3

/-- The slot at a place. -/
def timeSlot (nn t : Nat) : Nat := 3 * (t % nn) + t / nn

/-- The places of a group of `size` slots from slot `s` on, in the order of transmission: one justification unit. -/
def groupTimes (nn s size : Nat) : List Nat :=
  if size = 1 then [slotTime nn s]
  else (List.range 3).flatMap (fun b => (List.range (size / 3)).map (fun a => nn * b + s / 3 + a))

/-- The row of unit `p` of the 783: unit 0 follows H3 in row 4, unit 522 begins row 1 of the next frame.
PRESUMED, log entry 26. -/
def unitRow (p : Nat) : Nat := if p < 522 then 4 + p / 87 else 1 + (p - 522) / 87

/-- Unit `p` of the payload area of a group. -/
def auUnit (nn : Nat) (ts : List Nat) (f : Nat → Byte) (p : Nat) : List Byte :=
  ts.map (fun t => f (stmPos nn (unitRow p) (9 * nn + 3 * nn * (p % 87) + t + 1)))

/-- The H3 bytes of a group. -/
def auH3 (nn : Nat) (ts : List Nat) (f : Nat → Byte) : List Byte := ts.map (fun t => f (stmPos nn 4 (6 * nn + t + 1)))

/-- H1 and H2 of a slot. -/
def auWord (nn s : Nat) (f : Nat → Byte) : Nat :=
  (f (stmPos nn 4 (slotTime nn s + 1))).toNat * 256 + (f (stmPos nn 4 (3 * nn + slotTime nn s + 1))).toNat

/-! Cutting containers out. -/

/-- One unit arrives: the last unit of a container that was followed from its beginning completes it. -/
def Demux.unit (m : Nat) (x : Demux × List (List Byte)) (u : List Byte) : Demux × List (List Byte) :=
  if m ≤ x.1.pos + 1 then ({ pos := 0, whole := true, buf := [] }, x.2 ++ (if x.1.whole then [x.1.buf ++ u] else []))
  else ({ x.1 with pos := x.1.pos + 1, buf := x.1.buf ++ u }, x.2)

/-- Units arrive: the containers they complete, oldest first. -/
def Demux.units (m : Nat) (x : Demux) (us : List (List Byte)) : Demux × List (List Byte) := us.foldl (Demux.unit m) (x, [])

/-- The unit at offset `q` of a period is next, and the container begins at offset `v` of `m`: a container in progress that does not
agree is broken off. -/
def Demux.align (m v : Nat) (q : Int) (x : Demux) : Demux :=
  (fun pos : Nat => if x.pos = pos then { x with whole := x.whole || pos == 0 } else { pos := pos, whole := pos == 0, buf := [] })
  ((q - v) % (m : Int)).toNat

/-- What a pointer period's justification does to its units: 0 none, 1 positive, 2 negative. -/
abbrev Just := Nat

/-- The offset of the first unit of a period. -/
def justFirst (j : Just) : Int := if j = 1 then 1 else if j = 2 then -1 else 0

/-- The units of a period: without the stuff behind the opportunity, or with the opportunity's data. -/
def justUnits (j : Just) (opp : List Byte) (us : List (List Byte)) : List (List Byte) :=
  if j = 1 then us.drop 1 else if j = 2 then opp :: us else us

/-- The two fixed-stuff columns of an AU-3 carry no container byte (R175). -/
def unstuff (c : List Byte) : List Byte := ((List.range 783).filter (fun i => i % 87 ≠ 29 ∧ i % 87 ≠ 58)).map (fun i => c.getD i 0)

/-- A VC-3 with the two fixed-stuff columns of its AU-3, zero. -/
def stuffed (c : List Byte) : List Byte :=
  (List.range 9).flatMap (fun r => (fun row : List Byte =>
    row.take 29 ++ [0] ++ (row.drop 29).take 28 ++ [0] ++ row.drop 57) ((List.range 85).map (fun i => c.getD (85 * r + i) 0)))

/-- Byte `r` of the path overhead, the first column of a container: J1, B3, C2, G1, F2, H4, F3, K3, N1. -/
def pohAt (c : List Byte) (r : Nat) : Byte := c.getD (r * (c.length / 9)) 0

/-- Replaces path overhead byte `r`. -/
def setPoh (c : List Byte) (r : Nat) (b : Byte) : List Byte := c.set (r * (c.length / 9)) b

/-! Laying containers in. -/

/-- The last `n` bytes, zeros before them when there are fewer. -/
def lastBytes (n : Nat) (l : List Byte) : List Byte := List.replicate (n - l.length) 0 ++ l.drop (l.length - n)

/-- A period's bytes: what stands in the opportunity, the payload area, and what of the container remains for the next period.
`s` is what remained before and the container, `size` the payload area's bytes, `unit` those of a justification, `opp` the place of the
opportunity in the area. -/
def layIn (size unit opp : Nat) (j : Just) (s : List Byte) : List Byte × List Byte × List Byte :=
  if j = 1 then
    (List.replicate unit 0, s.take opp ++ List.replicate unit 0 ++ (s.drop opp).take (size - unit - opp), s.drop (size - unit))
  else if j = 2 then ((s.drop opp).take unit, s.take opp ++ (s.drop (opp + unit)).take (size - opp), s.drop (unit + size))
  else (List.replicate unit 0, s.take size, s.drop size)

/-- The bytes of a generator's period: AIS is all ones; a new pointer finds the container at its place, and what the store held before
it gives way (R190, R192, R236, R238). `size` bytes of payload area, `unit` those of a justification, its opportunity at `opp`. -/
def Regen.lay (old g : Regen) (ss size unit opp : Nat) (cont : List Byte) : Regen :=
  if g.ais then
    { g with word := 0xFFFF, opp := List.replicate unit 0xFF, pay := List.replicate size 0xFF, last := old.pay, rest := [] }
  else
    (fun x : List Byte × List Byte × List Byte =>
      { g with word := old.wordOf g ss, opp := x.1, pay := x.2.1, rest := x.2.2, last := old.pay })
    (layIn size unit opp g.just ((if g.ndf then lastBytes (unit * g.value) old.rest else old.rest) ++ cont))

/-! The test pattern (R286): 2^15 - 1 of O.150, sent inverted. -/

/-- The next state of the fifteen-stage register.
PRESUMED, log entry 87. -/
def prbsNext (s : Nat) : Nat := s * 2 % 32768 + (s / 16384 + s / 8192) % 2

/-- The state after `n` bits. -/
def prbsRun : Nat → Nat → Nat
  | 0, s => s
  | n + 1, s => prbsRun n (prbsNext s)

/-- The next byte of the pattern. -/
def prbsByte (s : Nat) : Byte := bitsByte ((List.range 8).map (fun i => decide (prbsRun i s / 16384 % 2 = 0)))

/-- A container whose payload carries the pattern from state `s` on (0: from all ones), its path overhead zero: the state after it. -/
def prbsFill (poh : Nat → Bool) (len s : Nat) : List Byte × Nat :=
  (fun x : List Byte × Nat => (x.1.reverse, x.2))
  ((List.range len).foldl (fun x i => if poh i then (0 :: x.1, x.2) else (prbsByte x.2 :: x.1, prbsRun 8 x.2))
    ([], if s = 0 then 32767 else s))

/-! The bytes of a tributary in its carrier's container (R201, R202). -/

/-- Tributaries of a type in one TUG-2. -/
def tuPer (t : Nat) : Nat := if t = 0 then 4 else if t = 1 then 3 else 1

/-- Columns of a tributary's type: TU-11 3, TU-12 4, TU-2 12, TU-3 86. -/
def tuWidth (t : Nat) : Nat := if t = 0 then 3 else if t = 1 then 4 else if t = 2 then 12 else 86

/-- Columns of a carrier's container, from 0, that a tributary fills.
PRESUMED, log entry 26. -/
def tuCols (au4 : Bool) (t tug3 tug2 tu : Nat) : List Nat :=
  if t = 3 then (List.range 86).map (fun j => 3 + tug3 + 3 * j)
  else (List.range (tuWidth t)).map (fun q =>
    if au4 then 3 + tug3 + 3 * (2 + tug2 + 7 * (tu + tuPer t * q)) else 1 + tug2 + 7 * (tu + tuPer t * q))

/-- The bytes of a tributary in a container, row by row. -/
def tuBytes (cols : List Nat) (c : List Byte) : List Byte :=
  (List.range 9).flatMap (fun r => cols.map (fun i => c.getD (r * (c.length / 9) + i) 0))

/-- The payload of a TU-3 in its TUG-3: rows from `lo` on, `n` of them, without the first column. -/
def tu3Rows (b : List Byte) (lo n : Nat) : List Byte := (List.range n).flatMap (fun r => (b.drop (86 * (lo + r) + 1)).take 85)

/-! What a container shows. -/

/-- The path overhead of a received container (R179 to R185, R228): B3 errors against the previous container and the
bytes that are read. -/
structure PohObs where
  b3 : Nat := 0
  j1 : Byte := 0
  c2 : Byte := 0
  g1 : Byte := 0
  f2 : Byte := 0
  h4 : Byte := 0
  f3 : Byte := 0
  k3 : Byte := 0
  n1 : Byte := 0
  deriving DecidableEq, Repr

/-- The path overhead of a high-order container; `prev` is B3 of the container before, when it was followed. -/
def pohRead (prev : Option Byte) (c : List Byte) : PohObs :=
  { b3 := match prev with | some p => bitErrors p (pohAt c 1) | none => 0
    j1 := pohAt c 0, c2 := pohAt c 2, g1 := pohAt c 3, f2 := pohAt c 4, h4 := pohAt c 5, f3 := pohAt c 6, k3 := pohAt c 7
    n1 := pohAt c 8 }

/-- The path overhead of a received low-order VC (R224 to R230): BIP errors, V5, K4, J2, N2; of a TU3 also C2 and G1, with
J1 and N1 in place of J2 and N2. -/
structure LoPohObs where
  bip : Nat := 0
  v5 : Byte := 0
  k4 : Byte := 0
  j2 : Byte := 0
  n2 : Byte := 0
  c2 : Byte := 0
  g1 : Byte := 0
  deriving DecidableEq, Repr

/-- BIP-2 of a VC-11, VC-12 or VC-2 in the two highest bits: odd and even bits (R224).
PRESUMED, log entry 26. -/
def bip2 (c : List Byte) : Byte :=
  (fun p : Nat =>
    BitVec.ofNat 8 (128 * ((p / 128 + p / 32 + p / 8 + p / 2) % 2) + 64 * ((p / 64 + p / 16 + p / 4 + p) % 2)))
  (bip8 c).toNat

/-- The path overhead of a low-order VC; `prev` is BIP of the VC before, when it was followed. -/
def loPohRead (tu3 : Bool) (prev : Option Byte) (c : List Byte) : LoPohObs :=
  if tu3 then
    { bip := (pohRead prev c).b3, j2 := pohAt c 0, c2 := pohAt c 2, g1 := pohAt c 3, n2 := pohAt c 8 }
  else
    { bip := match prev with | some p => bitErrors p (c.getD 0 0 &&& 0xC0) | none => 0
      v5 := c.getD 0 0, j2 := c.getD (c.length / 4) 0, n2 := c.getD (c.length / 2) 0, k4 := c.getD (3 * c.length / 4) 0 }

/-- A container period as the Cellar sees it: the hash of its container bytes (R381), a record's data bytes, and the container
as the Hall receives it. -/
structure PeriodObs where
  hash : Nat := 0
  bad : Option Nat := none
  skew : Int := 0
  data : List Byte := []
  cell : Cell := {}
  deriving DecidableEq, Repr

end Sys2Proof.Machine
end

