-- ==== Sys2Proof/Machine/Pdh.lean ====
section
/-! DEFINITION. The asynchronous mappings of E1, DS1, E3 and DS3: which bits of a container are client bits, justification
control and justification opportunities, and how the control bits decide (R244, R260, R262; the places are G.707's). -/

namespace Sys2Proof.Machine
open Sys2Proof

/-- What a bit of a container is to its client: stuff or overhead, an information bit, a control bit or an opportunity. -/
inductive MapBit | pad | info | c1 | c2 | s1 | s2
  deriving DecidableEq, Repr

/-- `n` bytes of one kind. -/
def mapBytes (n : Nat) (k : MapBit) : List MapBit := List.replicate (8 * n) k

/-- An E1 in its VC-12.
PRESUMED, log entry 87. -/
def mapE1 : List MapBit :=
  (fun ctl : List MapBit =>
    mapBytes 2 .pad ++ mapBytes 32 .info ++ mapBytes 2 .pad ++ ctl ++ mapBytes 32 .info ++ mapBytes 2 .pad ++ ctl ++
      mapBytes 32 .info ++ mapBytes 2 .pad ++ [.c1, .c2, .pad, .pad, .pad, .pad, .pad, .s1, .s2] ++ List.replicate 7 .info ++
      mapBytes 31 .info ++ mapBytes 1 .pad)
  ([.c1, .c2] ++ List.replicate 6 .pad)

/-- A DS1 in its VC-11.
PRESUMED, log entry 87. -/
def mapDS1 : List MapBit :=
  (fun ctl : List MapBit =>
    mapBytes 1 .pad ++ List.replicate 6 .pad ++ [.info, .pad] ++ mapBytes 24 .info ++ mapBytes 1 .pad ++ ctl ++ mapBytes 24 .info ++
      mapBytes 1 .pad ++ ctl ++ mapBytes 24 .info ++ mapBytes 1 .pad ++ [.c1, .c2, .pad, .pad, .pad, .s1, .s2, .pad] ++
      mapBytes 24 .info)
  ([.c1, .c2, .pad, .pad, .pad, .pad, .info, .pad])

/-- A DS3 in its VC-3: nine rows alike.
PRESUMED, log entry 87. -/
def mapDS3 : List MapBit :=
  (List.range 9).flatMap (fun _ =>
    mapBytes 3 .pad ++ [.pad, .pad, .c1] ++ List.replicate 5 .info ++ mapBytes 25 .info ++ mapBytes 1 .pad ++ [.c1, .c1] ++
      List.replicate 6 .pad ++ mapBytes 26 .info ++ mapBytes 1 .pad ++ [.c1, .c1, .pad, .pad, .pad, .pad, .pad, .s1] ++
      mapBytes 26 .info)

/-- The kind of bit a number of `Config.e3Map` names. -/
def mapKind (n : Nat) : MapBit :=
  match n with | 1 => .info | 2 => .c1 | 3 => .c2 | 4 => .s1 | 5 => .s2 | _ => .pad

/-- The mapping of a client (R241, R244): 1 E1, 2 DS1, 3 E3, 4 DS3.
PRESUMED, log entry 87. -/
def mapOf (client : Nat) : List MapBit :=
  if client = 1 then mapE1 else if client = 2 then mapDS1 else if client = 3 then (List.range 6120).map (fun i => mapKind (Config.e3Map i))
  else if client = 4 then mapDS3 else []

/-- The bits of a byte string, the most significant first. -/
def byteBits (l : List Byte) : List Bool := l.flatMap (fun b => (List.range 8).map (fun i => decide (b.toNat / 2 ^ (7 - i) % 2 = 1)))

/-- The bytes of a bit string. -/
def bitBytes (n : Nat) (l : List Bool) : List Byte := (List.range n).map (fun i => bitsByte ((List.range 8).map (fun k => l.getD (8 * i + k) false)))

/-- A majority of control bits reads 1 (R260): 2 of 3 copies, 3 of 5. -/
def ctlStuff (l : List Bool) : Bool := decide (l.length < 2 * (l.filter id).length)

/-- The reading of a container: the control bits since the last opportunity of each kind, and the client bits, none where an
opportunity carries stuff. -/
structure Demap where
  c1 : List Bool := []
  c2 : List Bool := []
  out : List (Option Bool) := []
  deriving DecidableEq, Repr

/-- One bit of a container (R260). -/
def Demap.bit (x : Demap) (kb : MapBit × Bool) : Demap :=
  match kb.1 with
  | .pad => x
  | .info => { x with out := some kb.2 :: x.out }
  | .c1 => { x with c1 := kb.2 :: x.c1 }
  | .c2 => { x with c2 := kb.2 :: x.c2 }
  | .s1 => { x with c1 := [], out := (if ctlStuff x.c1 then none else some kb.2) :: x.out }
  | .s2 => { x with c2 := [], out := (if ctlStuff x.c2 then none else some kb.2) :: x.out }

/-- The client bits of a container in order, none at an opportunity that carries stuff. -/
def demap (client : Nat) (c : List Byte) : List (Option Bool) :=
  (((mapOf client).zip (byteBits c)).foldl Demap.bit {}).out.reverse

/-- The client bits of a container. -/
def clientBits (client : Nat) (c : List Byte) : List Bool := (demap client c).filterMap id

/-! Laying a client in (R262). -/

/-- A container being written: the client bits still to come, the decisions at the opportunities of each kind still to come, true for
data, and the bits written, newest first. -/
structure Remap where
  bits : List Bool
  d1 : List Bool
  d2 : List Bool
  out : List Bool := []
  deriving DecidableEq, Repr

/-- One bit of the container: the control bits read 0 for data and 1 for stuff. -/
def Remap.bit (x : Remap) (k : MapBit) : Remap :=
  match k with
  | .pad => { x with out := false :: x.out }
  | .info => { x with bits := x.bits.drop 1, out := x.bits.headD true :: x.out }
  | .c1 => { x with out := (!(x.d1.headD false)) :: x.out }
  | .c2 => { x with out := (!(x.d2.headD false)) :: x.out }
  | .s1 => { x with bits := x.bits.drop 1, d1 := x.d1.drop 1, out := x.bits.headD true :: x.out }
  | .s2 => { x with bits := x.bits.drop 1, d2 := x.d2.drop 1, out := x.bits.headD true :: x.out }

/-- The container of client bits and decisions: `sent` holds a bit for every information bit and opportunity, `d1` and `d2` the
decisions. -/
def remap (client : Nat) (sent d1 d2 : List Bool) : List Byte :=
  bitBytes ((mapOf client).length / 8) ((mapOf client).foldl Remap.bit { bits := sent, d1 := d1, d2 := d2 }).out.reverse

/-- A retimed container as the digest takes it (R542): its client bits, control bits and opportunities read 0.
DESIGN CHOICE, log entry 92. -/
def withoutClient (client : Nat) (c : List Byte) : List Byte :=
  bitBytes c.length (((mapOf client).zip (byteBits c)).map (fun kb => decide (kb.1 = .pad) && kb.2))

/-- The information bits and opportunities of a container in order: 0 information, 1 and 2 opportunities. -/
def mapSlots (client : Nat) : List Nat :=
  (mapOf client).filterMap (fun k => match k with | .info => some 0 | .s1 => some 1 | .s2 => some 2 | _ => none)

end Sys2Proof.Machine
end

