-- ==== Sys2Proof/Machine/Ho.lean ====
section
/-! DEFINITION. High-order contexts: HO_CFG, the start and stop of their sides, and the transmit side with its pointer
generator and generated path overhead (R164 to R169, R177, R186 to R196, R218, R325). -/

namespace Sys2Proof.Machine
open Sys2Proof

/-! HO_CFG (R165 to R169, R218, R354). -/

/-- The group of head `h` by type `t` meets slots of another enabled or draining group of its lane (R165). -/
def Device.groupTaken (d : Device) (h t : Nat) : Bool :=
  (List.range 192).any (fun k =>
    decide (192 * laneOfHo h + k ≠ h) && (d.hoEna (192 * laneOfHo h + k) || !d.hoDrained (192 * laneOfHo h + k)) &&
    decide (192 * laneOfHo h + k < h + groupSize t) &&
    decide (h < 192 * laneOfHo h + k + groupSize (d.hoType (192 * laneOfHo h + k))))

/-- An enabled or draining TC names head `h` (R218). -/
def Device.headNamed (d : Device) (h : Nat) : Bool :=
  d.tcActive.any (fun k => decide (d.tcCarrier k = h))

/-- The lane of context `h` is the protect lane of an enabled pair (R354). -/
def Device.hoProtect (d : Device) (h : Nat) : Bool := d.pairs.any (fun p => p.ena && p.prot == laneOfHo h)

/-- A write setting ENABLE to 1 meets a condition of R165. -/
def Device.hoGroupBad (d : Device) (h : Nat) (v : Word) : Bool :=
  decide ((h % 192) % groupSize (fld v 1 3) ≠ 0) ||
  decide (3 * stmN (d.laneMode (laneOfHo h)) < h % 192 + groupSize (fld v 1 3)) || d.groupTaken h (fld v 1 3)

/-- Whether an HO_CFG value is refused with RANGE beside its field ranges. -/
def Device.hoCfgBad (d : Device) (h : Nat) (v : Word) : Bool :=
  (d.ho h).claim.isSome ||
  (decide (fld v 1 5 ≠ d.get (hoBase h) 1 5) && (d.hoEna h || !d.hoDrained h)) ||
  (decide (1 < fld v 1 3) && decide (fld v 4 2 ≠ 0)) ||
  ((decide (fld v 4 2 ≠ 3) || decide (1 < fld v 1 3)) && d.headNamed h) ||
  (bitAt v 0 && (d.hoGroupBad h v || d.hoProtect h))

/-- A side after ENABLE rises: a side that has not stopped goes on (R193, R194). -/
def Side.rise : Side → Side | .off => .starting | .stopping => .on | .starting => .starting | .on => .on
/-- A side after ENABLE falls (R194). -/
def Side.fall : Side → Side | .on => .stopping | .starting => .off | .stopping => .stopping | .off => .off

/-- An accepted write of HO_CFG (R193, R194). -/
def Device.hoCfgTake (d : Device) (h : Nat) (v : Word) : Device :=
  if bitAt v 0 && !d.hoEna h then
    (d.wr (hoBase h) ((v &&& 0x7F))).onHo h (fun x => { x.fresh with rx := x.rx.rise, tx := x.tx.rise })
  else if !bitAt v 0 && d.hoEna h then
    (d.wr (hoBase h) ((v &&& 0x7F))).onHo h (fun x => { x with rx := x.rx.fall, tx := x.tx.fall })
  else d.wr (hoBase h) ((v &&& 0x7F) ||| (d.rd (hoBase h) &&& 0x80))

/-- A write of HO_CFG is judged and taken.
DEDUCED, log entry 23. -/
def Device.hoCfgWrite (d : Device) (h : Nat) (v : Word) : Status × Device :=
  if d.hoCfgBad h v then (.range, d.when (bitAt v 0 && d.hoProtect h) (·.landRefuse 1 h 6))
  else (.ok, d.hoCfgTake h v)

/-! Starting and stopping. -/

/-- The words of a head its receive side uses from a frame boundary on (R195, R327): a comparison that is switched off ends its mismatch
(R311), a new SF/SD profile its windows (R318). -/
def Device.hoLoadRx (d : Device) (h : Nat) : Device :=
  (fun old new : Word =>
    ((d.onHo h (fun x => { x with
      rxMon := new, capt := d.rd (hoBase h + 0x18), ca := d.caHo (laneOfHo h)
      tim := x.tim && bitAt new 2 && decide (fld new 0 2 ≠ 2) })).protTake (hoCtx h)).when (decide (fld old 16 4 ≠ fld new 16 4))
      (·.sfRestart (.ho h) true))
  (d.ho h).rxMon (d.rd (hoBase h + 4))
/-- The transmit side's words (R195). -/
def Device.hoLoadTx (d : Device) (h : Nat) : Device :=
  d.onHo h (fun x => { x with txMon := d.rd (hoBase h + 4), tx1 := d.rd (hoBase h + 8), tx2 := d.rd (hoBase h + 0xC) })

/-- The receive side of a head starts (R166, R177): NORM with active 0, its members claimed in CONC. -/
def Device.hoRxStart (d : Device) (h : Nat) : Device :=
  if d.hoEna h && decide ((d.ho h).rx = .starting) then
    ((d.groupOf h).drop 1).foldl (fun d m => d.setHo m { prot := (d.ho m).prot, claim := some h, pi := { st := .conc }, shadow := { st := .conc } })
      ((d.setHo h { rx := .on, oom := d.bit (hoBase h) 4 && !d.laneSync (d.rxLane (laneOfHo h)), tx := (d.ho h).tx, txMon := (d.ho h).txMon, tx1 := (d.ho h).tx1, tx2 := (d.ho h).tx2
                    gen := (d.ho h).gen, out := (d.ho h).out, prot := (d.ho h).prot, txPos := (d.ho h).txPos }).hoLoadRx h)
    |>.aisLatch (hoCtx h)
  else d

/-- The transmit side of a head starts (R190). -/
def Device.hoTxStart (d : Device) (h : Nat) : Device :=
  if d.hoEna h && decide ((d.ho h).tx = .starting) then
    (d.onHo h (fun x => { x with tx := .on, gen := { newPtr := true, ais := false } })).hoLoadTx h
  else d

/-- A frame boundary of the receive side: a group that stops has stopped, and its containers are AIS from here on (R194). -/
def Device.hoRxStop (d : Device) (h : Nat) : Device :=
  if (d.ho h).rx = .stopping then
    { (d.onHo h (fun x => { x with rx := .off })) with hall := { d.hall with wr := tabDel d.hall.wr (hoCtx h) } }
  else d

/-- A frame boundary of the transmit side: a group that stops sends AU-AIS from here on (R194). -/
def Device.hoTxStop (d : Device) (h : Nat) : Device :=
  if (d.ho h).tx = .stopping then d.onHo h (fun x => { x with tx := .off }) else d

/-- Both sides of a head have stopped (R194): the members are released. -/
def Device.hoDrainDone (d : Device) (h : Nat) : Device :=
  if !d.hoEna h && !d.hoDrained h then
    (((d.groupOf h).foldl (fun d m => (d.setHo m { prot := (d.ho m).prot }).protTake (hoCtx m)) (d.hoRxStop h)).setBit (hoBase h) 7 true).ev (hoBase h + 0x24) 19
  else d

/-! Multiframe timing (R185). -/

/-- 1 ms of persistent OOM declares LOM (R185). -/
def Device.hoLomDeclare (d : Device) (h : Nat) : Device :=
  if (d.ho h).oom then d.onHo h (fun x => { x with lom := true }) else d
/-- 1 ms in multiframe clears LOM (R185). -/
def Device.hoLomClear (d : Device) (h : Nat) : Device :=
  if (d.ho h).oom then d else d.onHo h (fun x => { x with lom := false })

/-! Transmit side. -/

/-- HO_CFG.STRUCT_TX and POH_GEN. -/
def Device.structTx (d : Device) (h : Nat) : Bool := d.bit (hoBase h) 5
/-- The path overhead of the head is generated (R186, R282): a test source's always, an unequipped container's never. -/
def Device.hoPohGen (d : Device) (h : Nat) : Bool :=
  d.structTx h || decide ((d.ho h).out.content = .test) || (d.bit (hoBase h) 6 && decide ((d.ho h).out.content ≠ .unequipped))

/-- The generator sends AU-AIS for the head (R192). -/
def Device.hoTxAis (d : Device) (h : Nat) : Bool :=
  decide ((d.ho h).tx ≠ .on) && decide ((d.ho h).tx ≠ .stopping) || (!d.structTx h && decide ((d.ho h).out.content = .ais))

/-- The first byte of a generated 16-byte trace carries its CRC-7 (R187, R232). -/
def trace16Tx (tr : List Byte) : List Byte := (0x80 ||| (Config.traceCrc7 (tr.drop 1)).setWidth 8) :: tr.drop 1

/-- The J1 byte sent in frame `pos` (R180, R187). -/
def Device.j1Tx (d : Device) (mode profile pos : Nat) : Byte :=
  if mode = 0 then (trace16Tx (d.traceBytes (0x05980000 + 0x40 * profile) 16)).getD (pos % 16) 0
  else if mode = 1 then (d.traceBytes (0x05980000 + 0x40 * profile) 64).getD (pos % 64) 0 else 0

/-- REI a context sends (R325). -/
def reiSend (ena aAis : Bool) (errs : Nat) : Nat := if ena && !aAis then min errs 8 else 0

/-- The RDI code of a head (R325): `ca` is its half of DEF_CA. -/
def hoRdiOut (x : HoDef) (erdi : Bool) (ca : Nat) : Nat :=
  rdiSend erdi (ca / 8 % 2 == 1) x.aAis (x.ssf || x.lop || x.ais || x.lopc || x.aisc)
    ((x.tim && ca % 2 == 1) || (x.uneq && ca / 2 % 2 == 1)) (x.plm && ca / 4 % 2 == 1)

/-- The generated path overhead of a head (R187, R325). -/
def Device.hoPoh (d : Device) (h : Nat) : PohTx :=
  (fun (x : HoSt) (e : HoDef) (ca : Nat) =>
    { trace := d.j1Tx (fld x.txMon 0 2) (fld x.tx2 8 8) x.txPos
      bip := x.gen.bip
      label := BitVec.ofNat 8 (fld x.tx1 0 8)
      rdi := hoRdiOut e (bitAt x.txMon 4) ca
      rei := reiSend (ca / 16 % 2 == 1) e.aAis x.b3Last
      f2 := BitVec.ofNat 8 (fld x.tx1 8 8), k3 := BitVec.ofNat 8 (fld x.tx1 16 8), n1 := BitVec.ofNat 8 (fld x.tx1 24 8)
      f3 := BitVec.ofNat 8 (fld x.tx2 0 8)
      h4 := BitVec.ofNat 8 (if d.structTx h then 0xFC + (d.rd 0xC001C).toNat % 4 else 0) })
  (d.ho h) (d.hoDef h) (d.caHo (laneOfHo h))

/-- The nine path overhead bytes in their places: J1, B3, C2, G1, F2, H4, F3, K3, N1 (R187). -/
def PohTx.inHo (p : PohTx) (c : List Byte) : List Byte :=
  ([p.trace, p.bip, p.label, BitVec.ofNat 8 (16 * p.rei + 2 * p.rdi), p.f2, p.h4, p.f3, p.k3, p.n1].zipIdx).foldl
    (fun c x => setPoh c x.2 x.1) c

/-! The container of a head with STRUCT_TX (R186). -/

/-- A tributary's bytes in one of the four frames of its outgoing multiframe (R234, R238): V1 to V4 and the payload area in its places; a TU3's
three pointer bytes and its rows. -/
def Device.tuTx (d : Device) (k phase : Nat) : List Byte :=
  (fun (g : Regen) (t : Nat) =>
    if ((d.tc k).tx ≠ .on ∧ (d.tc k).tx ≠ .stopping) ∨ (d.tc k).out.content = .ais then List.replicate (9 * tuWidth t) 0xFF
    else if t = 3 then
      (List.range 9).flatMap (fun r =>
        (if r = 0 then BitVec.ofNat 8 (g.word / 256) else if r = 1 then BitVec.ofNat 8 g.word else if r = 2 then g.opp.getD 0 0 else 0) ::
          (List.range 85).map (fun i => if r < 2 then g.last.getD (595 + 85 * r + i) 0 else g.pay.getD (85 * (r - 2) + i) 0))
    else
      (fun p : Nat =>
        (if phase = 0 then BitVec.ofNat 8 (g.word / 256) else if phase = 1 then BitVec.ofNat 8 g.word
         else if phase = 2 then g.opp.getD 0 0 else if g.ais then 0xFF else 0) ::
          (List.range p).map (fun i => if phase = 0 then g.last.getD (3 * p + i) 0 else g.pay.getD ((phase - 1) * p + i) 0))
      (9 * tuWidth t - 1))
  (d.tc k).gen (d.tcType k)

/-- The columns of a tributary in its carrier. -/
def Device.tuColsOf (d : Device) (k : Nat) : List Nat :=
  tuCols (decide (d.hoType (d.tcCarrier k) = 1)) (d.tcType k) (d.get (tcBase k) 18 2) (d.get (tcBase k) 20 3) (d.get (tcBase k) 23 2)

/-- A column of the structure that no tributary ever fills: the path overhead, and the fixed stuff of a VC-4 and of a TUG-3 whose
TUG-2 lie behind it. -/
def stuffCol (au4 : Bool) (c : Nat) : Bool := c == 0 || (au4 && decide (c < 9))

/-- The container a head with STRUCT_TX assembles; a position no enabled tributary holds carries TU-AIS (R186, R238). -/
def Device.structBytes (d : Device) (h phase : Nat) : List Byte :=
  (fun (au4 : Bool) (tus : List (List Nat × List Byte)) =>
    (List.range (9 * (if au4 then 261 else 85))).map (fun i =>
      (fun (r c : Nat) =>
        match tus.find? (fun t => t.1.contains c) with
        | some t => t.2.getD (r * t.1.length + t.1.idxOf c) 0
        | none => if stuffCol au4 c then 0 else 0xFF)
      (i / (if au4 then 261 else 85)) (i % (if au4 then 261 else 85))))
  (decide (d.hoType h = 1)) ((d.tcActive.filter (fun k => d.tcCarrier k == h)).map (fun k => (d.tuColsOf k, d.tuTx k phase)))

/-- The multiframe's frame an outgoing container carries: H4 names the frame of the next container (R187). -/
def Device.txPhase (d : Device) : Nat := ((d.rd 0xC001C).toNat + 3) % 4

/-- The outgoing container of a head (R186, R187, R282). -/
def Device.hoOutBytes (d : Device) (h : Nat) : List Byte :=
  (fun c : List Byte =>
    if d.hoPohGen h then (d.hoPoh h).inHo c
    else if (d.ho h).out.content = .unequipped then setPoh c 1 (d.ho h).gen.bip else c)
  (if d.structTx h then d.structBytes h d.txPhase else (d.ho h).out.bytes)

/-- Output `c` is used (R281). -/
def Device.outUsed (d : Device) (c : Nat) : Bool :=
  if c < 262144 then d.tcEna c && d.structTx (d.tcCarrier c)
  else d.hoEna (c - 262144) && decide ((d.ho (c - 262144)).claim = none) && !d.structTx (c - 262144)

/-- The transmission of a container of output `c` begins: its bytes wait for the digest of the cycle, those of a test entry are left
out (R542). -/
def Device.begins (d : Device) (c : Nat) (content : Content) (bytes : List Byte) : Device :=
  if d.outUsed c && decide (content ≠ .test) then
    { d with pw := { d.pw with begun := tabPut [] d.pw.begun c (tabGet [] d.pw.begun c ++ bytes) } }
  else d

/-- A transmit frame of a head (R187 to R192): `delta` units gained by the store since the last frame.
DESIGN CHOICE, log entry 28. -/
def Device.hoRegenFrame (d : Device) (h : Nat) (delta : Int) : Device :=
  (fun (f : Word) (d1 : Device) =>
    (fun (g : Regen × GenCount) (c : List Byte) =>
      (((((d1.onHo h (fun x => { x with
          gen := { (x.gen.lay g.1 (if d.bit (laneBase (laneOfHo h) + 0x10) 7 then 0 else 2) (783 * groupSize (d.hoType h))
            (groupSize (d.hoType h)) 0 (if d.hoType h = 0 then stuffed c else c)) with bip := bip8 c }
          txPos := x.txPos + 1, poh := if d.hoPohGen h && !g.1.ais then d1.hoPoh h else {} })).count (hoBase h + 0x80)
        (b2n g.2.pos)).count (hoBase h + 0x90) (b2n g.2.neg)).count (hoBase h + 0xC0) (b2n g.2.slip)).when g.2.slip
        (·.ev (hoBase h + 0x24) 18)).when (!g.1.ais) (·.begins (hoCtx h) (d.ho h).out.content c))
    ((d.ho h).gen.period 782 (d.hoTxAis h) delta f.toNat) (d1.hoOutBytes h))
  d.free.1 (d.free.2.hoLoadTx h)

end Sys2Proof.Machine
end

