-- ==== Sys2Proof/Machine/Lo.lean ====
section
/-! DEFINITION. Tributaries: TC_CFG and its refusals, the start and stop of their sides, the event queue, the transmit
side with its pointer generator, generated path overhead and retimer (R201 to R207, R212 to R219, R221, R233 to R240,
R241 to R245, R260 to R267). -/

namespace Sys2Proof.Machine
open Sys2Proof

/-! TC_CFG (R202, R203, R212, R213). -/

/-- The position word of a TC_CFG value: LANE, HO_SLOT, TUG3, TUG2, TU. -/
def tcPos (v : Word) : Nat := fld v 4 21

/-- The position is valid for its carrier (R202); `au4` tells an AU4 carrier from an AU3 carrier. -/
def tcPosOk (au4 : Bool) (v : Word) : Bool :=
  (fun (t tug3 tug2 tu : Nat) =>
    (if au4 then true else tug3 == 0 && t != 3) && decide (tug3 ≤ 2) &&
    (if t = 3 then tug2 == 0 && tu == 0
     else decide (tug2 ≤ 6) && (if t = 0 then decide (tu ≤ 3) else if t = 1 then decide (tu ≤ 2) else tu == 0)))
  (fld v 1 3) (fld v 18 2) (fld v 20 3) (fld v 23 2)

/-- The carrier meets row 2 of R212. -/
def Device.carrierOk (d : Device) (v : Word) : Bool :=
  (fun h : Nat => d.hoEna h && decide ((d.ho h).claim = none) && decide (d.hoType h ≤ 1) && decide (d.get (hoBase h) 4 2 = 3))
  (192 * fld v 4 6 + fld v 10 8)

/-- The other TCs that are enabled or draining. -/
def Device.tcHeld (d : Device) (k : Nat) : List Word :=
  (d.tcActive.filter (· != k)).map (fun j => d.rd (tcBase j))

/-- Two tributaries of one TUG-3 break R203. -/
def tcMix (v w : Word) : Bool :=
  decide (fld v 4 16 = fld w 4 16) &&
  ((decide (fld v 1 3 = 3) != decide (fld w 1 3 = 3)) || (decide (fld v 20 3 = fld w 20 3) && decide (fld v 1 3 ≠ fld w 1 3)))

/-- The cause of R212 that refuses a TC_CFG write, the lowest that applies.
DEDUCED, log entry 29. -/
def Device.tcCfgCause (d : Device) (k : Nat) (v : Word) : Option Nat :=
  if bitAt v 0 && !d.tcEna k && d.carrierOk v && !tcPosOk (decide (d.hoType (192 * fld v 4 6 + fld v 10 8) = 1)) v then some 1
  else if bitAt v 0 && !d.tcEna k && !d.carrierOk v then some 2
  else if bitAt v 0 && !d.tcEna k && (d.tcHeld k).any (tcMix v) then some 3
  else if bitAt v 0 && !d.tcEna k && (d.tcHeld k).any (fun w => decide (tcPos v = tcPos w)) then some 4
  else if decide (fld v 1 24 ≠ d.get (tcBase k) 1 24) && (d.tcEna k || !d.tcDrained k) then some 5
  else none

/-- A refusal recorded under R213.
DEDUCED, log entry 29. -/
def Device.tcRefuse (d : Device) (s k cause : Nat) : Device :=
  ((d.inc (sliceBase s + 0x404)).wr (sliceBase s + 0x408) (wd (k + 2 ^ 20 * cause))).ev (sliceBase s + 0x420) 2

/-- TC_CFG takes a value, which may leave CLIENT without its LO_TYPE (R243). -/
def Device.tcCfgSet (d : Device) (k : Nat) (v : Word) : Device :=
  (fun d1 : Device => d1.onTc k (fun x => { x with conflict := x.conflict || d1.cliMismatch k })) (d.wr (tcBase k) v)

/-- An accepted write of TC_CFG (R215, R216). -/
def Device.tcCfgTake (d : Device) (k : Nat) (v : Word) : Device :=
  if bitAt v 0 && !d.tcEna k then
    ((d.tcCfgSet k v).setBit (tcBase k + 0x20) 17 false).onTc k (fun x => { x.fresh with rx := x.rx.rise, tx := x.tx.rise })
  else if !bitAt v 0 && d.tcEna k then
    (d.tcCfgSet k v).onTc k (fun x => { x with rx := x.rx.fall, tx := x.tx.fall })
  else d.tcCfgSet k v

/-- A write of TC_CFG is judged and taken. -/
def Device.tcCfgWrite (d : Device) (k : Nat) (v : Word) : Status × Device :=
  match d.tcCfgCause k v with
  | some c => (.range, d.tcRefuse (sliceOfLane (fld v 4 6)) k c)
  | none => (.ok, d.tcCfgTake k v)

/-- TC_MON is refused with RANGE where its fields disagree (R206, R231): a label above three bits, TEXT without TRACE_16. -/
def Device.tcMonBad (d : Device) (k : Nat) (v : Word) : Bool :=
  (d.tcType k != 3 && decide (fld v 7 5 ≠ 0)) || (fld v 2 2 == 2 && fld v 0 2 != 1)

/-- A write of TC_MON is judged and taken (R213). -/
def Device.tcMonWrite (d : Device) (k : Nat) (v : Word) : Status × Device :=
  if d.tcMonBad k v then (.range, d.tcRefuse (sliceOfLane (d.tcLane k)) k 0)
  else (.ok, d.wr (tcBase k + 4) v)

/-! Client configuration (R242, R243, R264, R269). -/

/-- A client refusal (R242). -/
def Device.clientRefuse (d : Device) (s i cause : Nat) : Device :=
  ((d.inc (sliceBase s + 0x538)).wr (sliceBase s + 0x53C) (wd (i + 2 ^ 20 * cause))).ev (sliceBase s + 0x52C) 1

/-- The cause of R242 that refuses a TC_CLIENT write. -/
def Device.clientCause (d : Device) (k : Nat) (v : Word) : Option Nat :=
  if decide (4 < fld v 0 3) || !framingOk (fld v 0 3) (fld v 3 2) then some 1
  else if (match clientType (fld v 0 3) with | some t => d.tcType k != t | none => false) then some 2
  else if decide (fld v 0 3 = 0) && decide (fld v 5 2 ≠ 0) then some 3
  else none

/-- RETIME_ENA, CLIENT and FRAMING as the transmit side of TC `k` uses them, and RETIME_ENA without a conflict (R217, R243). -/
def Device.rtEna (d : Device) (k : Nat) : Bool := bitAt (d.tc k).txCli 6 && !d.cliConflict k

/-- An output the retimer bypasses: an unequipped or a test entry (R267). -/
def bypassed (c : Content) : Bool := c == .unequipped || c == .test

/-- A retimer restarts (R264, R267): the store empties and fills again, or is bypassed. -/
def Device.rtRestart (d : Device) (k : Nat) : Device :=
  if d.rtEna k && decide ((d.tc k).tx = .on ∨ (d.tc k).tx = .stopping) then
    d.setRt k { st := if bypassed (d.tc k).out.content then 3 else 1 }
  else d.setRt k {}

/-- A write of TC_CLIENT is judged and taken (R242); each side uses it from its own pointer-period boundary on (R217, R245, R264). -/
def Device.clientWrite (d : Device) (k : Nat) (v : Word) : Status × Device :=
  match d.clientCause k v with
  | some c => (.range, d.clientRefuse (sliceOfLane (d.tcLane k)) k c)
  | none => (.ok, (d.wr (tcBase k + 8) v).onTc k (fun x => { x with conflict := false }))

/-- Whether a HO_CLIENTi value is refused: a head, CLIENT or FRAMING outside its range (R271), and what R269 names. -/
def Device.hoClientBad (d : Device) (s i : Nat) (v : Word) : Bool :=
  decide (12287 < fld v 1 14) || decide (4 < fld v 15 3) || (fld v 15 3 != 0 && !framingOk (fld v 15 3) (fld v 18 2)) ||
  bitAt v 0 &&
    (decide (sliceOfLane (laneOfHo (fld v 1 14)) ≠ s) || !d.hoEna (fld v 1 14) || decide (d.hoType (fld v 1 14) ≠ 0) ||
     d.bit (hoBase (fld v 1 14)) 4 ||
     (List.range 32).any (fun j => j != i && bitAt (d.rd (entryAddr s j)) 0 && fld (d.rd (entryAddr s j)) 1 14 == fld v 1 14) ||
     (fld v 15 3 != 3 && fld v 15 3 != 4) || !framingOk (fld v 15 3) (fld v 18 2))

/-- A write of HO_CLIENTi is judged and taken (R269). -/
def Device.hoClientWrite (d : Device) (s i : Nat) (v : Word) : Status × Device :=
  if d.hoClientBad s i v then (.range, d.clientRefuse s i 4)
  else (.ok, (d.wr (entryAddr s i) v).when (decide (d.rd (entryAddr s i) ≠ v)) (·.setCli (entryNo s i) {}))

/-! Starting and stopping (R215, R216). -/

/-- The carrier is in multiframe, which a TU3 does not need (R215). -/
def Device.tcPhase (d : Device) (k : Nat) : Bool := d.tcType k == 3 || (d.ho (d.tcCarrier k)).inMf

/-- The words of a TC its receive side uses from a pointer-period boundary on (R217, R327): a client word that is new to it restarts the
monitor in HUNT (R245), a comparison that is switched off ends its mismatch (R311), a new SF/SD profile its windows (R318). -/
def Device.tcLoadRx (d : Device) (k : Nat) : Device :=
  (fun old new : Word =>
    ((((d.when (decide (fld (d.tc k).rxCli 0 5 ≠ d.get (tcBase k + 8) 0 5) || (!bitAt (d.tc k).rxCli 5 && d.bit (tcBase k + 8) 5))
      (·.setCli k {})).onTc k (fun x => { x with
        rxCfg := d.rd (tcBase k), rxMon := new, rxCli := d.rd (tcBase k + 8), capt := d.rd (tcBase k + 0x14), ca := d.caLo (d.tcLane k)
        tim := x.tim && decide (fld new 2 2 ≠ 0) && decide (fld new 0 2 ≠ 0) }))).protTake k).when (decide (fld old 20 4 ≠ fld new 20 4))
      (·.sfRestart (.tc k) true))
  (d.tc k).rxMon (d.rd (tcBase k + 4))

/-- The words of a TC its transmit side uses (R217): a change of RETIME_ENA is a change of source, and it or a new client restarts
the retimer (R264, R265). -/
def Device.tcLoadTx (d : Device) (k : Nat) : Device :=
  (fun (old new : Word) =>
    (d.onTc k (fun x => { x with
      txCfg := d.rd (tcBase k), txMon := d.rd (tcBase k + 4), txCli := new
      gen := if bitAt old 6 = bitAt new 6 then x.gen else { x.gen with newPtr := true } })).when
      (bitAt old 6 != bitAt new 6 || (bitAt new 6 && decide (fld old 0 5 ≠ fld new 0 5))) (·.rtRestart k))
  (d.tc k).txCli (d.rd (tcBase k + 8))

/-- The K4 multiframe and the extended label are lost (R211, R226). -/
def Device.tcExtOff (d : Device) (k : Nat) : Device := d.put (tcBase k + 0x2C) 16 1 0

/-- The receive side of a TC starts (R215, R221): NORM with ACTIVE 0 and every run at 0. -/
def Device.tcRxStart (d : Device) (k : Nat) : Device :=
  if d.tcEna k && decide ((d.tc k).rx = .starting) && d.tcPhase k then
    ((d.setTc k { conflict := (d.tc k).conflict, rx := .on, tx := (d.tc k).tx, txCfg := (d.tc k).txCfg, txMon := (d.tc k).txMon, gen := (d.tc k).gen
                  txCli := (d.tc k).txCli, rxCli := (d.tc k).rxCli
                  out := (d.tc k).out, prot := (d.tc k).prot, poh := (d.tc k).poh, txPos := (d.tc k).txPos }).tcExtOff k).tcLoadRx k
    |>.aisLatch k
  else d

/-- The transmit side of a TC starts with a new pointer (R215, R236); a retimer restarts (R264). -/
def Device.tcTxStart (d : Device) (k : Nat) : Device :=
  if d.tcEna k && decide ((d.tc k).tx = .starting) then
    ((d.onTc k (fun x => { x with tx := .on, gen := { newPtr := true, ais := false } })).tcLoadTx k).rtRestart k
  else d

/-- A boundary of the receive side: a TC that stops has stopped, and the Hall receives AIS for it from here on (R216). -/
def Device.tcRxStop (d : Device) (k : Nat) : Device :=
  if (d.tc k).rx = .stopping then
    { (d.onTc k (fun x => { x with rx := .off })) with hall := { d.hall with wr := tabDel d.hall.wr k } }
  else d

/-- A boundary of the transmit side: a TC that stops sends TU-AIS from here on (R216, R238). -/
def Device.tcTxStop (d : Device) (k : Nat) : Device :=
  if (d.tc k).tx = .stopping then (d.onTc k (fun x => { x with tx := .off })).setRt k {} else d

/-- Both sides of a TC have stopped (R216). -/
def Device.tcDrainDone (d : Device) (k : Nat) : Device :=
  if !d.tcEna k && !d.tcDrained k then
    ((((((d.tcRxStop k).setTc k { conflict := (d.tc k).conflict, prot := (d.tc k).prot }).protTake k).setRt k {}).setCli k {}).tcExtOff
      k).setBit (tcBase k + 0x20) 17 true |>.tcEv k 20
  else d

/-- TC_EVENT_POP (R240). -/
def Device.tcEventPop (d : Device) (s : Nat) : Device := { d with tcQueues := tabPut [] d.tcQueues s ((d.tcQueue s).drop 1) }

/-! Transmit side (R233 to R238, R325). -/

/-- The top of the pointer range of a type (R201). -/
def tcTop (t : Nat) : Nat := if t = 0 then 103 else if t = 1 then 139 else if t = 2 then 427 else 764
/-- The expected SS bits of a type (R201). -/
def tcSs (t : Nat) : Nat := if t = 0 then 3 else if t = 1 then 2 else if t = 2 then 0 else 2

/-- The generator sends TU-AIS for TC `k` (R238, R560). -/
def Device.tcTxAis (d : Device) (k : Nat) : Bool :=
  (decide ((d.tc k).tx ≠ .on) && decide ((d.tc k).tx ≠ .stopping)) || decide ((d.tc k).out.content = .ais)
    || d.fcHeld (.tc k)

/-- The trace byte of period `pos` (R229, R232). -/
def Device.j2Tx (d : Device) (mode profile pos : Nat) : Byte :=
  if mode = 1 then (trace16Tx (d.traceBytes (0x05984000 + 0x10 * profile) 16)).getD (pos % 16) 0
  else if mode = 2 then (d.traceBytes (0x05984000 + 0x10 * profile) 16).getD 0 0 else 0

/-- K4 bit 1 in period `pos` (R226, R233): the MFAS 0111 1111 110 and the extended label. -/
def k4Tx (lbl ext pos : Nat) : Bool :=
  lbl % 8 == 5 &&
    (if pos % 32 < 11 then [false, true, true, true, true, true, true, true, true, true, false].getD (pos % 32) false
     else if pos % 32 < 19 then ext / 2 ^ (18 - pos % 32) % 2 == 1 else false)

/-- The generated path overhead of a TC (R233, R325). -/
def Device.tcPoh (d : Device) (k : Nat) : PohTx :=
  (fun (x : TcSt) (e : TcDef) (ca : Nat) (tu3 : Bool) =>
    { trace := d.j2Tx (fld x.txMon 0 2) (fld x.txMon 24 8) x.txPos
      bip := x.gen.bip
      label := BitVec.ofNat 8 (fld x.txMon 4 8)
      rdi := rdiSend (bitAt x.txCfg 27) (ca / 8 % 2 == 1) e.aAis (e.ssf || e.lop || e.ais)
        ((e.tim && ca % 2 == 1) || (e.uneq && ca / 2 % 2 == 1)) (e.plm && ca / 4 % 2 == 1)
      rei := if tu3 then reiSend (ca / 16 % 2 == 1) e.aAis x.bipLast else min 1 (reiSend (ca / 16 % 2 == 1) e.aAis x.bipLast)
      k4bit := !tu3 && k4Tx (fld x.txMon 4 8) (fld x.txMon 12 8) x.txPos })
  (d.tc k) (d.tcDef k) (d.caLo (d.tcLane k)) (d.tcType k == 3)

/-- V5, J2, N2 and K4 in their places (R233): V5 bit 4 and N2 are 0; K4 bits 5 to 7 carry enhanced RDI. -/
def PohTx.inLo (p : PohTx) (erdi : Bool) (c : List Byte) : List Byte :=
  (((c.set 0 (BitVec.ofNat 8 (p.bip.toNat + 32 * p.rei + 2 * (p.label.toNat % 8) + p.rdi / 4))).set (c.length / 4) p.trace).set
    (c.length / 2) 0).set (3 * c.length / 4) (BitVec.ofNat 8 (128 * b2n p.k4bit + (if erdi then 2 * (p.rdi % 8) else 0)))

/-! The retimer (R260 to R267). -/

/-- The leak offset takes a justification of the source (R261): 1 positive, 2 negative. -/
def leakStep (p : Int) (mark : Nat) : Int := if mark = 1 then max (-40) (p - 8) else if mark = 2 then min 40 (p + 8) else p

/-- What a retimer's period counts: a slip, and whether it was an overflow. -/
abbrev RtSlip := Option Bool

/-- A period of a retimer in progress: the retimer, a slip, the bits sent and the decisions at both kinds of opportunity, newest
first. -/
structure RtRun where
  r : Retimer
  slip : RtSlip := none
  sent : List Bool := []
  d1 : List Bool := []
  d2 : List Bool := []
  deriving DecidableEq, Repr

/-- The store re-centres by repeating or dropping client bits, with P at 0 (R266). -/
def Retimer.centre (r : Retimer) : Retimer :=
  { r with fill := 48, p := 0, bits := List.replicate (48 - r.bits.length) (r.bits.headD true) ++ r.bits.drop (r.bits.length - 48) }

/-- FILL reaches 0 or 96: the store slips (R266). -/
def RtRun.check (x : RtRun) : RtRun :=
  if x.r.st = 2 ∧ x.r.fill = 0 then { x with r := x.r.centre, slip := some false }
  else if x.r.st = 2 ∧ 96 ≤ x.r.fill then { x with r := x.r.centre, slip := some true }
  else x

/-- A client bit arrives from the source's container. -/
def RtRun.arrive (x : RtRun) (b : Option Bool) : RtRun :=
  match b with
  | some v => { x with r := { x.r with bits := x.r.bits ++ [v], fill := x.r.fill + 1, st := if x.r.st = 1 ∧ 48 ≤ x.r.fill + 1 then 2 else x.r.st } }
  | none => x

/-- The outgoing container takes a client bit: ones while the store fills (R264). -/
def RtRun.take (x : RtRun) : RtRun :=
  if x.r.st = 2 then
    { x with r := { x.r with bits := x.r.bits.drop 1, fill := x.r.fill - 1 }, sent := x.r.bits.headD true :: x.sent }
  else { x with sent := true :: x.sent }

/-- A decision at an opportunity: data when d = FILL - 48 - P is at least 1 (R262). -/
def RtRun.decide_ (x : RtRun) (kind : Nat) (data : Bool) : RtRun :=
  (fun y : RtRun =>
    { y with r := { y.r with sent := y.r.sent ++ [data] }
             d1 := if kind = 1 then data :: y.d1 else y.d1, d2 := if kind = 2 then data :: y.d2 else y.d2 })
  (if data then x.take.check else { x with sent := false :: x.sent })

/-- A place of the container in both directions: 0 an information bit, else an opportunity (R262, R264, R266). -/
def RtRun.slot (x : RtRun) (kb : Nat × Option Bool) : RtRun :=
  if kb.1 = 0 then
    (if x.r.st = 2 then (x.arrive kb.2).take else { x.arrive kb.2 with sent := true :: x.sent })
  else
    (fun y : RtRun => y.decide_ kb.1 (decide (y.r.st = 2) && decide (1 ≤ (y.r.fill : Int) - 48 - y.r.p))) (x.arrive kb.2).check

/-- The source's justification moves FILL and P (R261). -/
def RtRun.justify (x : RtRun) (mark : Nat) : RtRun :=
  RtRun.check { x with r := { x.r with
    p := leakStep x.r.p mark, fill := if mark = 1 then x.r.fill - 8 else if mark = 2 then x.r.fill + 8 else x.r.fill } }

/-- One period of a retimer over the client places of its container and of the source's. -/
def Retimer.period (r : Retimer) (mark : Nat) (slots : List Nat) (src : List (Option Bool)) : RtRun :=
  (slots.zip src).foldl RtRun.slot (({ r := { r with sent := [], leak := r.leak + 1 } } : RtRun).justify mark)

/-- A slip is counted and recorded (R266). -/
def Device.rtSlip (d : Device) (k : Nat) (x : RtSlip) : Device :=
  match x with
  | none => d
  | some ovf =>
    (fun s : Nat =>
      (((d.cliCount k .slip 1).inc (sliceBase s + 0x524)).wr (sliceBase s + 0x528) (wd (k + 2 ^ 20 * b2n ovf))).ev
        (sliceBase s + 0x52C) 0)
    (sliceOfLane (d.tcLane k))

/-- The retimer of TC `k` takes part in the period (R265, R267). -/
def Device.rtActs (d : Device) (k : Nat) : Bool := d.rtEna k && decide ((d.rt k).st ≠ 0)

/-- The retimer's period: what it becomes, and the container it builds; TU-AIS empties the store (R267). -/
def Device.rtRun (d : Device) (k : Nat) : RtRun :=
  (d.rt k).period (d.tc k).out.mark
    (mapSlots (fld (d.tc k).txCli 0 3)) (demap (fld (d.tc k).txCli 0 3) (d.tc k).out.bytes)

/-- The retimer's share of a period: a bypassed one stands still. -/
def Device.rtPeriod (d : Device) (k : Nat) : Device :=
  if d.rtActs k then
    if d.tcTxAis k then d.setRt k { st := if bypassed (d.tc k).out.content then 3 else 1 }
    else if (d.rt k).st = 3 then d
    else (d.setRt k (d.rtRun k).r).rtSlip k (d.rtRun k).slip
  else d

/-- The retimer lays the client into the outgoing container of TC `k` anew (R265). -/
def Device.retimed (d : Device) (k : Nat) : Bool := d.rtActs k && decide ((d.rt k).st ≠ 3)

/-- The path overhead of a TC is generated (R233, R265, R282). -/
def Device.tcPohGen (d : Device) (k : Nat) : Bool :=
  decide ((d.tc k).out.content = .test) ||
    (decide ((d.tc k).out.content ≠ .unequipped) && (bitAt (d.tc k).txCfg 25 || d.retimed k))

/-- The bytes of a container with the BIP over the one before (R233, R282). -/
def tcBip (tu3 : Bool) (b : Byte) (c : List Byte) : List Byte :=
  if tu3 then setPoh c 1 b else c.set 0 (BitVec.ofNat 8 (b.toNat + (c.getD 0 0).toNat % 64))

/-- The outgoing container of a TC (R233, R262, R265, R282). -/
def Device.tcOutBytes (d : Device) (k : Nat) : List Byte :=
  (fun c : List Byte =>
    if d.tcPohGen k then (if d.tcType k = 3 then (d.tcPoh k).inHo c else (d.tcPoh k).inLo (bitAt (d.tc k).txCfg 27) c)
    else if (d.tc k).out.content = .unequipped then tcBip (d.tcType k == 3) (d.tc k).gen.bip c else c)
  (if d.retimed k then
    remap (fld (d.tc k).txCli 0 3) (d.rtRun k).sent.reverse (d.rtRun k).d1.reverse (d.rtRun k).d2.reverse
   else (d.tc k).out.bytes)

/-- The bytes of the outgoing container that enter the digest (R542). -/
def Device.tcDigestBytes (d : Device) (k : Nat) : List Byte :=
  if d.retimed k then withoutClient (fld (d.tc k).txCli 0 3) (d.tcOutBytes k) else d.tcOutBytes k

/-- BIP over an outgoing container: B3 of a TU3's VC-3, BIP-2 of the others (R224, R228). -/
def loBip (tu3 : Bool) (c : List Byte) : Byte := if tu3 then bip8 c else bip2 c

/-- The bytes of the generator's period of a TC. -/
def Device.tcLay (d : Device) (k : Nat) (g : Regen) (c : List Byte) : Regen :=
  { ((d.tc k).gen.lay g (tcSs (d.tcType k)) (tcTop (d.tcType k) + 1) 1 (if d.tcType k = 3 then 0 else (tcTop (d.tcType k) + 1) / 4) c) with
    bip := loBip (d.tcType k == 3) c }

/-- An outgoing pointer period of a TC (R233 to R238, R262): a retimed TC's store neither gains nor loses.
DESIGN CHOICE, log entry 28. -/
def Device.tcRegenPeriod (d : Device) (k : Nat) (delta : Int) : Device :=
  (fun (f : Word) (d1 : Device) =>
    (fun (g : Regen × GenCount) =>
      ((((((d1.onTc k (fun x => { x with
          gen := d1.tcLay k g.1 (d1.tcOutBytes k), txPos := x.txPos + 1
          poh := if d1.tcPohGen k && !g.1.ais then d1.tcPoh k else {} })).rawCount k 4 (b2n g.2.pos)).rawCount k 5
        (b2n g.2.neg)).rawCount k 8 (b2n g.2.slip)).when g.2.slip (·.tcEv k 19)).rtPeriod k).when (!g.1.ais)
          (·.begins k (d1.tc k).out.content (d1.tcDigestBytes k)))
    ((d1.tc k).gen.period (tcTop (d1.tcType k)) (d1.tcTxAis k) (if d1.rtActs k then 0 else delta) f.toNat))
  d.free.1 (d.free.2.tcLoadTx k)

/-- The periods after which P leaks (R263): LEAK_LO multiframes, of a TU3 LEAK_HO frames. -/
def Device.leakEvery (d : Device) (k : Nat) : Nat :=
  d.get (sliceBase (sliceOfLane (d.tcLane k)) + 0x520) (if d.tcType k = 3 then 8 else 0) 8

/-- RETIME_LEAK (R263): when its periods have passed, P moves one bit towards 0. -/
def Device.retimeLeak (d : Device) (k : Nat) : Device :=
  if d.leakEvery k ≤ (d.rt k).leak then
    d.setRt k { d.rt k with leak := 0, p := if (d.rt k).p > 0 then (d.rt k).p - 1 else if (d.rt k).p < 0 then (d.rt k).p + 1 else 0 }
  else d

end Sys2Proof.Machine
end

