-- ==== Sys2Proof/Machine/Landing.lean ====
section
/-! DEFINITION. The Landing: selectors, MSP pairs, external and group commands (R332 to R370). -/

namespace Sys2Proof.Machine
open Sys2Proof

/-! Events (R351, R368). -/

/-- A selector enters the Landing event queue (R240, R368). -/
def Device.selQueuePush (d : Device) (i : Nat) : Device :=
  if d.land.queue.length ≥ 1024 then (d.inc 0xB0040).ev 0xB0014 1
  else
    (fun d1 : Device => { d1 with land := { d1.land with queue := d1.land.queue ++ [i] } })
    (d.when d.land.queue.isEmpty (·.ev 0xB0014 0))

/-- Selectors whose masked events a change made non-zero enter the Landing queue (R368).
DEDUCED, log entry 21. -/
def selRequeue (d0 d : Device) : Device :=
  (d.entriesAt 0x06000000 0x20 137216 0x18).foldl (fun e i =>
    if decide (d0.rd (selBase i + 0x18) &&& d0.rd 0xB0030 = 0) && decide (d.rd (selBase i + 0x18) &&& d.rd 0xB0030 ≠ 0)
    then e.selQueuePush i else e) d

/-- Sets bit `b` of SEL_EVENT and queues the selector when its masked events become non-zero. -/
def Device.selEv (d : Device) (i b : Nat) : Device :=
  (d.ev (selBase i + 0x18) b).when
    (decide (d.rd (selBase i + 0x18) &&& d.rd 0xB0030 = 0) &&
     decide ((d.ev (selBase i + 0x18) b).rd (selBase i + 0x18) &&& d.rd 0xB0030 ≠ 0)) (·.selQueuePush i)

/-- Sets bit `b` of MSP_EVENT, and LAND_EVENT.MSP when it is enabled (R369, R370). -/
def Device.mspEv (d : Device) (i b : Nat) : Device :=
  (d.ev (mspBase i + 0x1C) b).when (d.bit 0xB0058 b) (·.ev 0xB0014 4)

/-- A Party Wall refusal (R551). -/
def Device.pwRefuse (d : Device) (cause : Nat) : Device := ((d.inc 0x7005C).wr 0x70060 (wd cause)).ev 0x70018 9

/-- A completion with BUSY of a Porch transaction because a core is away (R24). -/
def Device.porchBusy (d : Device) (master : Nat) : Device := d.when (master == 0) (·.inc 0x30020)

/-! Selectors. -/

/-- SEL_CFG of a selector as the request machine reads it (R367). -/
def Device.selCfg (d : Device) (i : Nat) : ChooseCfg :=
  ⟨d.bit (selBase i) 2, d.bit (selBase i) 3, d.get (selBase i) 4 7, d.get (selBase i) 11 10⟩

/-- Signal fail and degrade of a member (R334, R335): SNC/N reads aTSF and aTSD, SNC/I aSSF. -/
def Device.memberSig (d : Device) (sncN : Bool) (m : Option Nat) : Bool × Bool :=
  match m with
  | none => (true, false)
  | some c => if sncN then ((d.ctxSig c).2.1, (d.ctxSig c).2.2.1) else ((d.ctxSig c).1, false)

/-- The signals of a selector (R334). -/
def Device.selSig (d : Device) (i : Nat) : Sig :=
  { sfW := (d.memberSig (d.bit (selBase i) 1) (d.sel i).used.w).1, sdW := (d.memberSig (d.bit (selBase i) 1) (d.sel i).used.w).2
    sfP := (d.memberSig (d.bit (selBase i) 1) (d.sel i).used.p).1, sdP := (d.memberSig (d.bit (selBase i) 1) (d.sel i).used.p).2 }

/-- Stores the request machine of a selector. -/
def Device.setSelC (d : Device) (i : Nat) (c : Chooser) : Device := d.setSel i { d.sel i with c := c }

/-- A scan of one selector (R349). -/
def Device.selScan (d : Device) (i : Nat) : Device :=
  if (d.sel i).st = 1 then
    (d.setSelC i ((d.sel i).c.scan (d.selCfg i) (d.selSig i) {})).when ((d.sel i).c.wtrDue (d.selCfg i) (d.selSig i) {}) (·.selEv i 3)
  else d

/-- The hold-off timer of a selector expires (R336).
DESIGN CHOICE, log entry 7. -/
def Device.selHoldExpire (d : Device) (i : Nat) : Device :=
  if (d.sel i).st = 1 then d.setSelC i ((d.sel i).c.holdExpire (d.selCfg i) (d.selSig i) {}) else d

/-- The WTR timer of a selector expires (R337).
DESIGN CHOICE, log entry 7. -/
def Device.selWtrExpire (d : Device) (i : Nat) : Device :=
  if (d.sel i).st = 1 && (d.sel i).c.wtr.isSome then
    (d.setSelC i ((d.sel i).c.wtrExpire (d.selCfg i) {})).selEv i 3
  else d

/-- The context whose container a selector delivers: none in OFF, or when the member is absent (R346). -/
def Device.selMember (d : Device) (i : Nat) : Option Nat :=
  if (d.sel i).st = 0 then none else (d.sel i).used.side (d.sel i).c.applied

/-- A conventional switch restarts the retimers fed by the selector (R264, R352). -/
def Device.convSwitch (d : Device) (i : Nat) : Device :=
  if i < 131072 then
    (tabKeys d.tcs).foldl (fun d k => if d.tcEna k && decide ((d.tc k).out.entry = wd (3 + 8 * i)) then d.rtRestart k else d) d
  else d

/-- A new choice of a selector takes effect (R350 to R352, R392). -/
def Device.selApply (d : Device) (i : Nat) : Device :=
  if decide ((d.sel i).st ≠ 0) && decide ((d.sel i).c.choice ≠ (d.sel i).c.applied) then
    (fun (hit : Bool) (c : Chooser) =>
      (((((d.setSelC i { c with applied := c.choice }).inc (selBase i + 0x14)).inc 0xB0050).wr (selBase i + 0x1C)
        (wd (c.req + 16 * (c.ch % 2) + 32 * b2n c.choice + 64 * b2n hit + 256 * d.get 0xC001C 0 24))).selEv i 0).when (!hit)
        (·.convSwitch i))
    (d.selHitless i) (d.sel i).c
  else d

/-- An accepted SEL_CFG write (R346, R347). -/
def Device.selCfgTake (d : Device) (i : Nat) (v : Word) : Device :=
  (fun (s : Sel) (old : Word) =>
    (d.wr (selBase i) v).setSel i
      (if bitAt v 0 && s.st == 0 then { s with st := 1, c := { lastRes := s.c.lastRes } }
       else if bitAt v 0 && s.st == 2 then { s with st := 1, c := s.c.resume (bitAt v 2) }
       else if !bitAt v 0 && s.st == 1 then { s with st := 2, c := s.c.stop }
       else if decide (fld old 1 20 ≠ fld v 1 20) then { s with c := { s.c with reeval := true } } else s))
  (d.sel i) (d.rd (selBase i))

/-- A write of SEL_CFG is judged and taken: SD_TRIG = 1 with SNC_I is refused (R334, R362).
DEDUCED, log entry 34. -/
def Device.selCfgWrite (d : Device) (i : Nat) (v : Word) : Status × Device :=
  if bitAt v 3 && !bitAt v 1 then (.range, d.landRefuse 2 i 5) else (.ok, d.selCfgTake i v)

/-- A write of a protection word is judged and taken (R344): a role already held by another context is refused. -/
def Device.protWrite (d : Device) (c : Nat) (v : Word) : Status × Device :=
  (fun old : Word =>
    if protEna c v && !protSame c old v &&
        (match (d.sel (protSel c v)).named.side (protRole c v) with | some m => m != c | none => false) then
      (.range, d.landRefuse (if c < 262144 then 0 else 1) (if c < 262144 then c else c - 262144) 1)
    else
      (.ok,
        (fun d1 : Device =>
          (fun d2 : Device =>
            if decide ((if c < 262144 then (d.tc c).rx else (d.ho (c - 262144)).rx) = Side.off) then d2.protTake c else d2)
          (if protEna c v then
            d1.setSel (protSel c v) { d1.sel (protSel c v) with named := enname c v (d1.sel (protSel c v)).named } else d1))
        (if protEna c old then
          (d.wr (protAddr c) v).setSel (protSel c old)
            { d.sel (protSel c old) with named := unname c old (d.sel (protSel c old)).named }
         else d.wr (protAddr c) v)))
  (d.rd (protAddr c))

/-- An external command on a selector (R340 to R342). Answers its result. -/
def Device.selCommand (d : Device) (i cmd : Nat) : Nat × Device :=
  if (d.sel i).st ≠ 1 then (2, (d.setSelC i { (d.sel i).c with lastRes := 2 }).selEv i 2)
  else if cmd = 6 then (3, (d.setSelC i { (d.sel i).c with lastRes := 3 }).selEv i 2)
  else
    (fun x : Nat × Chooser => (x.1, (d.setSelC i x.2).selEv i (if x.1 = 0 then 1 else 2)))
    ((d.sel i).c.command (d.selCfg i) {} cmd)

/-! MSP pairs. -/

/-- The pair of index `i`. -/
def Device.msp (d : Device) (i : Nat) : Msp := tabGet {} d.land.msps i
/-- Stores a pair. -/
def Device.setMsp (d : Device) (i : Nat) (m : Msp) : Device := { d with land := { d.land with msps := tabPut {} d.land.msps i m } }
/-- The lanes of pair `i` in force. -/
def Device.pair (d : Device) (i : Nat) : Option Pair := d.pairs.find? (fun p => p.idx == i)
/-- Pair `i` is enabled. -/
def Device.mspEna (d : Device) (i : Nat) : Bool := match d.pair i with | some p => p.ena | none => false
/-- MSP_CFG and MSP_CFG2 as the request machine reads them (R370). -/
def Device.mspCfg (d : Device) (i : Nat) : ChooseCfg :=
  ⟨d.bit (mspBase i) 14, d.bit (mspBase i) 15, d.get (mspBase i) 16 7, d.get (mspBase i + 4) 0 10⟩
/-- BIDIR. -/
def Device.mspBidir (d : Device) (i : Nat) : Bool := d.bit (mspBase i) 13

/-- The signals of a pair (R334): MS_TSF and MS_TSD of its lanes. -/
def Device.mspSig (d : Device) (p : Pair) : Sig :=
  { sfW := (d.laneDef p.work).tsf, sfP := (d.laneDef p.prot).tsf, sdW := (d.laneDef p.work).tsd, sdP := (d.laneDef p.prot).tsd }

/-- Accepted K1 and K2 of the protect lane (R358). -/
def Device.mspRxK (d : Device) (p : Pair) : Nat := d.get (laneBase p.prot + 0x4024) 0 16

/-- What the far end of a pair says: nothing to a unidirectional pair or under FOP (R358, R359). -/
def Device.mspFar (d : Device) (p : Pair) : FarEnd :=
  if d.mspBidir p.idx && !(d.msp p.idx).fop then
    { req := if (d.lane p.prot).kValid then remoteReq (d.mspRxK p / 4096) (min 1 (d.mspRxK p / 256 % 16)) else none
      gate := some (d.mspRxK p / 16 % 16) }
  else {}

/-- K1 and K2 the Landing sends for a pair (R357). -/
def Device.mspTxK (d : Device) (p : Pair) (c : Chooser) : Nat :=
  256 * (16 * c.req + c.ch) +
    (if d.mspBidir p.idx then 16 * (d.mspRxK p / 256 % 16) + 5 else 16 * c.ch + 4)

/-- Stores the request machine of a pair, ends an exercise it aborted, and sets the K bytes sent (R357, R361). -/
def Device.mspTake (d : Device) (p : Pair) (c : Chooser) : Device :=
  (fun d1 : Device =>
    (fun d2 : Device => d2.wr (mspBase p.idx + 0x10) (wd (d2.mspTxK p c)))
    (if (d.msp p.idx).c.exer && !c.exer then
      (d1.setMsp p.idx { d1.msp p.idx with exerRes := 3 }).mspEv p.idx 5
     else d1))
  (d.setMsp p.idx { d.msp p.idx with c := c })

/-- An exercise answered with channel 1 has passed (R361). -/
def Device.mspExerPass (d : Device) (p : Pair) : Device :=
  if (d.msp p.idx).c.exer && decide ((d.msp p.idx).c.req = 4) && decide (d.mspRxK p / 16 % 16 = 1) then
    (d.setMsp p.idx { d.msp p.idx with exerRes := 1, c := { (d.msp p.idx).c with exer := false } }).mspEv p.idx 5
  else d

/-- A scan of one pair (R349, R361).
DEDUCED, log entry 34. -/
def Device.mspScan (d : Device) (i : Nat) : Device :=
  match d.pair i with
  | some p =>
    if p.ena then
      (fun d1 : Device =>
        (d1.mspTake p ((d1.msp i).c.scan (d1.mspCfg i) (d1.mspSig p) (d1.mspFar p))).when
          ((d1.msp i).c.wtrDue (d1.mspCfg i) (d1.mspSig p) (d1.mspFar p)) (·.mspEv i 4))
      (d.mspExerPass p)
    else d
  | none => d

/-- The hold-off timer of a pair expires (R336). -/
def Device.mspHoldExpire (d : Device) (i : Nat) : Device :=
  match d.pair i with
  | some p => if p.ena then d.mspTake p ((d.msp i).c.holdExpire (d.mspCfg i) (d.mspSig p) (d.mspFar p)) else d
  | none => d

/-- The WTR timer of a pair expires (R337). -/
def Device.mspWtrExpire (d : Device) (i : Nat) : Device :=
  match d.pair i with
  | some p =>
    if p.ena && (d.msp i).c.wtr.isSome then
      (d.mspTake p ((d.msp i).c.wtrExpire (d.mspCfg i) (d.mspFar p))).mspEv i 4
    else d
  | none => d

/-- The heads of a lane take over the interpreter of the lane now selected (R356). -/
def Device.swapShadows (d : Device) (n : Nat) : Device :=
  (tabKeys d.hos).foldl (fun d h =>
    if laneOfHo h = n then d.onHo h (fun x => { x with pi := x.shadow, shadow := x.pi }) else d) d

/-- A new choice of a pair takes effect (R350, R351, R356). -/
def Device.mspApply (d : Device) (i : Nat) : Device :=
  match d.pair i with
  | some p =>
    if p.ena && decide ((d.msp i).c.choice ≠ (d.msp i).c.applied) then
      ((((({ d with pairs := d.pairs.map (fun q => if q.idx == i then { q with sel := (d.msp i).c.choice } else q) } : Device).setMsp i
        { d.msp i with c := { (d.msp i).c with applied := (d.msp i).c.choice } }).swapShadows p.work).inc (mspBase i + 0x18)).inc
        0xB0050).mspEv i 0
    else d
  | none => d

/-- Any high-order context of a lane is enabled or draining. -/
def Device.laneCtxUsed (d : Device) (n : Nat) : Bool :=
  (List.range 192).any (fun k => d.hoEna (192 * n + k) || !d.hoDrained (192 * n + k))

/-- The cause of R353 that refuses the pair, the lowest that applies. -/
def Device.mspCause (d : Device) (i w p : Nat) : Option Nat :=
  if decide (w = p) || modeDiffers (d.rd (laneBase w + 0x10)) (d.rd (laneBase p + 0x10)) then some 2
  else if d.pairs.any (fun q => q.idx != i && q.ena && (q.work == w || q.prot == w || q.work == p || q.prot == p)) then some 3
  else if d.laneCtxUsed p then some 4 else none

/-- The lanes an MSP_CFG word names. -/
def mspLanes (v : Word) : Nat × Nat := (fld v 1 6, fld v 7 6)

/-- An accepted MSP_CFG write (R347, R353, R366): a held pair of the same lanes resumes its held choice. -/
def Device.mspCfgTake (d : Device) (i : Nat) (v : Word) : Device :=
  (fun (d1 : Device) (same : Bool) =>
    if bitAt v 0 && !(d.mspEna i && same) then
      (({ d1 with pairs := d1.pairs.filter (fun q => q.idx != i) ++
          [⟨i, (mspLanes v).1, (mspLanes v).2, true, same && (d.msp i).c.applied⟩] } : Device).setMsp i
        { c := if same then (d.msp i).c.resume (bitAt v 14) else { lastRes := (d.msp i).c.lastRes } })
    else if !bitAt v 0 && d.mspEna i then
      (({ d1 with pairs := d1.pairs.map (fun q => if q.idx == i then { q with ena := false } else q) } : Device).setMsp i
        { d.msp i with c := { (d.msp i).c.stop with choice := (d.msp i).c.applied } }).wr (mspBase i + 0x10) 0
    else if decide (fld (d.rd (mspBase i)) 13 10 ≠ fld v 13 10) then
      d1.setMsp i { d.msp i with c := { (d.msp i).c with reeval := true } }
    else d1)
  (d.wr (mspBase i) v) (match d.pair i with | some p => p.work == (mspLanes v).1 && p.prot == (mspLanes v).2 | none => false)

/-- A write of MSP_CFG is judged and taken (R353). -/
def Device.mspCfgWrite (d : Device) (i : Nat) (v : Word) : Status × Device :=
  match (if bitAt v 0 && !(d.mspEna i && (match d.pair i with
      | some p => p.work == (mspLanes v).1 && p.prot == (mspLanes v).2 | none => false))
    then d.mspCause i (mspLanes v).1 (mspLanes v).2 else none) with
  | some c => (.range, d.landRefuse 3 i c)
  | none => (.ok, d.mspCfgTake i v)

/-- A write of MSP_CFG2 (R347, R370). -/
def Device.mspCfg2Write (d : Device) (i : Nat) (v : Word) : Device :=
  (d.wr (mspBase i + 4) v).when (decide (d.rd (mspBase i + 4) ≠ v)) (fun e => e.setMsp i { e.msp i with c := { (e.msp i).c with reeval := true } })

/-- An external command on a pair (R340 to R342, R361). Answers its result. -/
def Device.mspCommand (d : Device) (i cmd : Nat) : Nat × Device :=
  match d.pair i with
  | some p =>
    if !p.ena then (2, (d.setMsp i { d.msp i with c := { (d.msp i).c with lastRes := 2 } }).mspEv i 3)
    else if cmd = 6 ∧ !d.mspBidir i then (3, (d.setMsp i { d.msp i with c := { (d.msp i).c with lastRes := 3 } }).mspEv i 3)
    else
      (fun x : Nat × Chooser =>
        (x.1, ((d.mspTake p x.2).when (decide (cmd = 6) && decide (x.1 = 0))
          (fun e => e.setMsp i { e.msp i with exerRes := 0 })).mspEv i (if x.1 = 0 then 2 else 3)))
      ((d.msp i).c.command (d.mspCfg i) (d.mspFar p) cmd)
  | none => (2, (d.setMsp i { d.msp i with c := { (d.msp i).c with lastRes := 2 } }).mspEv i 3)

/-- 100 ms without an answer end an exercise with FAIL (R361). -/
def Device.exerTimeout (d : Device) (i : Nat) : Device :=
  if (d.msp i).c.exer then
    (d.setMsp i { d.msp i with exerRes := 2, c := { (d.msp i).c with exer := false } }).mspEv i 5
  else d

/-- The causes of FOP a pair shows now (R360). -/
def Device.fopCauses (d : Device) (i : Nat) : List Nat :=
  match d.pair i with
  | some p =>
    if p.ena then
      (fun k : Nat =>
        (if d.bit (laneBase p.prot + 0x4000) 8 || [3, 5, 7, 9].contains (k / 4096) then [1] else []) ++
        (if d.mspBidir i && decide (k / 16 % 16 ≠ d.get (mspBase i + 0x10) 8 4) then [2] else []) ++
        (if decide (k / 8 % 2 = 1) || decide (k % 8 = if d.mspBidir i then 4 else 5) then [3] else []))
      (d.mspRxK p)
    else []
  | none => []

/-- A pair whose FOP changes decides anew: with FOP its own request alone (R359, R360). -/
def Device.mspResolve (d : Device) (i : Nat) : Device :=
  match d.pair i with
  | some p => if p.ena && !d.standby then d.mspTake p ((d.msp i).c.resolve (d.mspCfg i) (d.mspFar p)) else d
  | none => d

/-- FOP is declared for a cause present (R360).
DEDUCED, log entry 34. -/
def Device.fopDeclare (d : Device) (i cause : Nat) : Device :=
  if (d.fopCauses i).contains cause && !(d.msp i).fop then
    ((d.setMsp i { d.msp i with fop := true, cause := cause }).mspResolve i).mspEv i 1
  else d

/-- 50 ms without any cause clear FOP (R360). -/
def Device.fopClear (d : Device) (i : Nat) : Device :=
  if (d.fopCauses i).isEmpty && (d.msp i).fop then
    ((d.setMsp i { d.msp i with fop := false, cause := 0 }).mspResolve i).mspEv i 1
  else d

/-! The scan, and the commands served by MC0 (R343). -/

/-- A scan of the Landing (R348, R349, R539): every enabled pair and every ACTIVE selector. -/
def Device.landScan (d : Device) : Device :=
  (fun d1 : Device =>
    if d1.standby then d1
    else (d1.pairs.map (·.idx)).foldl Device.mspScan ((tabKeys d1.land.sels).foldl Device.selScan d1))
  ((tabKeys d.land.sels).foldl Device.selJoin d)

/-- A write served by MC0 is refused on a STANDBY device or while MC0 is away (R343, R539). -/
def Device.landServed (d : Device) (master : Nat) : Option (Status × Device) :=
  if d.standby then some (.unsupported, d.pwRefuse 4)
  else if d.cores.mc0Away then some (.busy, (d.inc 0xB004C).porchBusy master)
  else none

/-- A write of SEL_CMD (R340, R343). -/
def Device.selCmdWrite (d : Device) (master i v : Nat) : Status × Device :=
  match d.landServed master with
  | some r => r
  | none => if v = 7 then (.range, d) else (.ok, (d.selCommand i v).2)

/-- A write of MSP_CMD (R340, R343). -/
def Device.mspCmdWrite (d : Device) (master i v : Nat) : Status × Device :=
  match d.landServed master with
  | some r => r
  | none => if v = 7 then (.range, d) else (.ok, (d.mspCommand i v).2)

/-- A write of GROUP_CMD (R343, R364, R365): what R364 refuses is refused whether or not GO is 1.
DEDUCED, log entry 35. -/
def Device.groupGo (d : Device) (master : Nat) (v : Word) : Status × Device :=
  match d.landServed master with
  | some r => r
  | none =>
    if decide (fld v 4 11 = 0) || decide (1024 < fld v 4 11) || fld v 1 3 == 7 || d.land.group.isSome then (.range, d.landRefuse 2 0 0)
    else if !bitAt v 0 then (.ok, d)
    else
      match d.opOpen 2 master (fld v 4 11) with
      | (some k, d1) =>
        (.ok, ({ d1 with land := { d1.land with group := some (k, fld v 1 3, fld v 4 11) } } : Device).wr 0xB010C (d1.opId k))
      | (none, d1) => (.busy, d1)

/-- The window index a list entry names (R363); none for a malformed entry. -/
def groupEntry (e : Word) : Option Nat :=
  if decide (fld e 18 14 ≠ 0) then none
  else if bitAt e 17 then (if 6143 < fld e 0 17 then none else some (131072 + fld e 0 17)) else some (fld e 0 17)

/-- The entries of a group judged in list order (R365): results so far, selectors named so far.
DEDUCED, log entry 35. -/
def Device.groupJudge (d : Device) (cmd : Nat) : List Word → List Nat → List Nat → List Nat × Device
  | [], _, res => (res, d)
  | e :: t, seen, res =>
    match groupEntry e with
    | none => d.groupJudge cmd t seen (res ++ [4])
    | some i =>
      if seen.contains i then d.groupJudge cmd t seen (res ++ [5])
      else (d.selCommand i cmd).2.groupJudge cmd t (i :: seen) (res ++ [(d.selCommand i cmd).1])

/-- A list of nibbles or bits packed into words, the first at the low end. -/
def packWords (w per : Nat) : Nat → List Nat → List Word
  | 0, _ => []
  | n + 1, l => wd ((l.take per).foldr (fun x a => x % 2 ^ w + 2 ^ w * a) 0) :: packWords w per n (l.drop per)

/-- The index of the first entry that is not accepted. -/
def firstBad : Nat → List Nat → Option Nat
  | _, [] => none
  | i, r :: t => if r = 0 then firstBad (i + 1) t else some i

/-- The group's results are stored and its record closed (R365).
DEDUCED, log entry 35. -/
def Device.groupFinish (d : Device) (k : Nat) (res : List Nat) : Device :=
  (fun (ok : Nat) (st : Status) =>
    (fun d1 : Device =>
      (fun d2 : Device => ({ d2 with land := { d2.land with group := none } } : Device).ev 0xB0014 2)
      ((((match firstBad 0 res with | some i => d1.opFail k i | none => d1).opDetail k ok).opSteps k res.length).opClose k st |>.wr 0xB0108
        (wd (ok + 2 ^ 11 + 2 ^ 12 * st.code))))
    ((d.wrs 0xB3000 (packWords 1 32 32 (res.map (fun r => b2n (r == 0))))).wrs 0xB3100 (packWords 4 8 128 res)))
  (res.filter (· == 0)).length
  (if res.all (· == 0) then .ok else if res.any (· == 0) then .partly else .abandoned)

/-- MC0 serves the group (R365). -/
def Device.groupDone (d : Device) : Device :=
  match d.land.group with
  | some (k, cmd, n) => (fun x : List Nat × Device => x.2.groupFinish k x.1) (d.groupJudge cmd (d.rds 0xB2000 n) [] [])
  | none => d

/-- SEL_EVENT_POP (R368). -/
def Device.selEventPop (d : Device) : Device := { d with land := { d.land with queue := d.land.queue.drop 1 } }

/-- The Landing counters clear (R369). -/
def Device.landCntClr (d : Device) : Device := d.zero [0xB0040, 0xB0044, 0xB0048, 0xB004C, 0xB0050]

/-! Register views (R367, R369, R370). -/

/-- The members of a selector, by the words as accepted (R344), differ in type (R345). -/
def Device.selTypeDiff (d : Device) (i : Nat) : Bool :=
  match (d.sel i).named.w, (d.sel i).named.p with
  | some w, some p => d.ctxType w != d.ctxType p
  | _, _ => false

/-- SEL_STATUS (R367). -/
def Device.selStatus (d : Device) (i : Nat) : Word :=
  (fun (s : Sel) =>
    wd (s.c.req + 2 ^ 4 * (s.c.ch % 2) + 2 ^ 5 * b2n s.c.applied + 2 ^ 6 * s.st + 2 ^ 8 * b2n s.named.w.isSome
      + 2 ^ 9 * b2n s.named.p.isSome + 2 ^ 10 * b2n (d.selHitless i) + 2 ^ 11 * s.c.standing + 2 ^ 14 * s.c.lastRes
      + 2 ^ 18 * b2n s.c.hold.isSome + 2 ^ 19 * b2n s.c.wtr.isSome + 2 ^ 20 * b2n (d.selTypeDiff i) + 2 ^ 21 * s.c.under))
  (d.sel i)

/-- MSP_STATUS (R370).
DEDUCED, log entry 34. -/
def Device.mspStatus (d : Device) (i : Nat) : Word :=
  (fun (m : Msp) =>
    wd (m.c.req + 2 ^ 4 * (m.c.ch % 2) + 2 ^ 5 * b2n m.c.applied + 2 ^ 6 * b2n m.fop + 2 ^ 7 * m.cause
      + 2 ^ 9 * b2n (m.fop && d.mspBidir i) + 2 ^ 10 * b2n m.c.remote + 2 ^ 11 * m.c.standing + 2 ^ 14 * m.c.lastRes
      + 2 ^ 18 * m.exerRes + 2 ^ 20 * b2n m.c.hold.isSome + 2 ^ 21 * b2n m.c.wtr.isSome + 2 ^ 22 * b2n (d.mspEna i)
      + 2 ^ 23 * b2n ((d.pair i).isSome && !d.mspEna i) + 2 ^ 24 * m.c.under))
  (d.msp i)

/-- MSP_K (R370): sent bytes, and the accepted bytes of the protect lane. -/
def Device.mspK (d : Device) (i : Nat) : Word :=
  wd (match d.pair i with
    | some p => (if p.ena then d.pairK p else d.get (mspBase i + 0x10) 0 16) + 2 ^ 16 * d.mspRxK p
    | none => d.get (mspBase i + 0x10) 0 16)

/-- Counts of selectors for SEL_ACTIVE_LO, SEL_ACTIVE_HO and SEL_ON_PROT (R369). -/
def Device.selCount (d : Device) (f : Nat → Sel → Bool) : Word := wd (d.land.sels.filter (fun e => f e.1 e.2)).length

end Sys2Proof.Machine
end

