-- ==== Sys2Proof/Machine/Cellar.lean ====
section
/-! DEFINITION. The Cellar: training, hitless pairs, hashes, alignment and re-homing, capture rings (R371 to R402). -/

namespace Sys2Proof.Machine
open Sys2Proof

/-! Training and recalibration (R374, R375). -/

/-- CEL_STATUS.READY. -/
def Device.celReady (d : Device) : Bool := d.bit 0x90010 0

/-- The address of channel `c`. -/
def celChan (c : Nat) : Nat := 0x90100 + 0x10 * c

/-- Training starts: no channel is trained. -/
def Device.celTrain (d : Device) : Device :=
  (List.range 12).foldl (fun d c => d.wr (celChan c) 0) (d.wr 0x90010 2)

/-- The channels that pass training, all but the failing ones. -/
def passedMask (failed : List Nat) : Nat := ((List.range 12).filter (fun c => !failed.contains c)).foldl (fun a c => a + 2 ^ c) 0

/-- Training ends (R374): READY when every channel passed. -/
def Device.celTrained (d : Device) (failed : List Nat) : Device :=
  if d.bit 0x90010 1 then
    (List.range 12).foldl (fun d c => d.setBit (celChan c) 0 (!failed.contains c))
      (d.wr 0x90010 (wd (b2n (passedMask failed == 0xFFF) + 2 ^ 16 * passedMask failed)))
  else d

/-- RETRAIN (R374): refused while READY is 1. -/
def Device.celRetrain (d : Device) : Status × Device := if d.celReady then (.range, d) else (.ok, d.celTrain)

/-- A recalibration of channel `c` (R375): one that does not settle keeps the settings and is counted. -/
def Device.celRecal (d : Device) (c : Nat) (settles : Bool) : Device :=
  if d.celReady && !settles && decide (c < 12) then
    (((d.inc (celChan c + 0xC)).ev 0x90014 6).raise { src := 21, syndrome := c })
  else d

/-- An uncorrectable read on channel `c` (R372): counted, an event of the Cellar and of source CEL_ECC. -/
def Device.celUncorr (d : Device) (c : Nat) : Device :=
  if c < 12 then ((d.inc (celChan c + 8)).ev 0x90014 7).raise { src := 20, syndrome := c } else d

/-- Corrected reads on channels (R372). -/
def Device.celCorr (d : Device) (cs : List Nat) : Device :=
  (cs.filter (fun c => decide (c < 12))).foldl (fun d c => d.inc (celChan c + 4)) d

/-- The Cellar counters clear (R399). -/
def Device.celCntClr (d : Device) : Device :=
  d.zero [0x90060, 0x90064, 0x90068, 0x9006C, 0x90070, 0x90074, 0x90078, 0x9007C, 0x90080]

/-- A refusal recorded by the Cellar (R378, R394): kind 0 pair, 1 ring, 2 TC, 3 high-order context. -/
def Device.celRefuse (d : Device) (kind idx cause : Nat) : Device :=
  ((d.inc 0x90050).wr 0x90054 (wd (idx % 2 ^ 18 + 2 ^ 18 * kind + 2 ^ 20 * cause))).ev 0x90014 0

/-! Reservations (R376, R377). -/

/-- Container bytes per period of a CTYPE (R376). -/
def ctypeBytes (t : Nat) : Nat := [104, 140, 428, 765, 765, 2349, 9396, 37584, 150336].getD t 0
/-- Periods per millisecond of a CTYPE (R376). -/
def ctypePpm (t : Nat) : Nat := if t ≤ 2 then 2 else 8
/-- The CTYPE of a context's type. -/
def Device.ctxCtype (d : Device) (c : Nat) : Nat := if c < 262144 then d.tcType c else 4 + d.hoType (c - 262144)

/-- D of a pair (R377). -/
def pairD (m t : Nat) : Nat := m * ctypePpm t
/-- Allocation units of a pair's line (R377). -/
def pairUnits (m t : Nat) : Nat := ((pairD m t + 1) * ctypeBytes t + 4095) / 4096
/-- Hashes of one history (R377). -/
def pairHist (m t : Nat) : Nat := 16 * ((pairD m t + 31) / 16)
/-- Line rate in bit/s (R377). -/
def pairRate (t : Nat) : Nat := ctypeBytes t * 8000 * ctypePpm t

/-- The pairs that exist. -/
def Device.hpairs (d : Device) : List (Nat × HPair) := d.cel.pairs.filterMap (fun e => e.2.map (fun p => (e.1, p)))

/-- A quantity of a pair's reservation, with an accepted change the larger of old and new (R379). -/
def HPair.need (f : Nat → Nat → Nat) (p : HPair) : Nat :=
  match p.next with | some x => if x.1 = 0 then f p.maxDelay p.ctype else max (f p.maxDelay p.ctype) (f x.1 x.2) | none => f p.maxDelay p.ctype

/-- The sum of a quantity over the pairs but `i`. -/
def Device.needOthers (d : Device) (i : Nat) (f : Nat → Nat → Nat) : Nat :=
  ((d.hpairs.filter (fun e => e.1 != i)).map (fun e => e.2.need f)).sum

/-- Units held by the builds in progress of some pairs (R389). -/
def buildUnitsOf (l : List (Nat × HPair)) : Nat := (l.map (fun e => if e.2.build.isSome then pairUnits e.2.maxDelay e.2.ctype else 0)).sum
/-- Units held by builds in progress. -/
def Device.buildUnits (d : Device) : Nat := buildUnitsOf d.hpairs
/-- Line rate of the builds in progress in bit/s (R391). -/
def Device.buildRate (d : Device) : Nat := (d.hpairs.map (fun e => if e.2.build.isSome then pairRate e.2.ctype else 0)).sum
/-- LINE_UNITS_USED (R399). -/
def Device.unitsUsed (d : Device) : Nat := (d.hpairs.map (fun e => pairUnits e.2.maxDelay e.2.ctype)).sum + d.buildUnits
/-- HIST_UNITS_USED in units of 64 bytes (R399). -/
def Device.histUsed (d : Device) : Nat := (d.hpairs.map (fun e => pairHist e.2.maxDelay e.2.ctype / 8)).sum
/-- The line rates reserved, in bit/s (R399). -/
def Device.rateUsed (d : Device) : Nat := (d.hpairs.map (fun e => pairRate e.2.ctype)).sum

/-- CTYPE fits the order of a window index (R376). -/
def ctypeFits (i t : Nat) : Bool := if i < 131072 then decide (t ≤ 3) else decide (4 ≤ t) && decide (t ≤ 8)

/-- The cause that refuses a PAIR_SET, the lowest that applies (R378, R701).
DESIGN CHOICE, log entry 76. -/
def Device.pairCause (d : Device) (i m t : Nat) (resv : Bool) : Option Nat :=
  if decide (0 < m) && decide (m ≤ 128) && decide (1250000 < d.needOthers i pairUnits + buildUnitsOf (d.hpairs.filter (fun e => e.1 != i)) + pairUnits m t) then some 1
  else if decide (0 < m) && decide (m ≤ 128) && decide (320000000000 < d.needOthers i (fun _ u => pairRate u) + pairRate t) then some 2
  else if decide (0 < m) && decide (m ≤ 128) && decide (41418752 < d.needOthers i pairHist + pairHist m t) then some 3
  else if decide (0 < m) && !d.celReady then some 6
  else if decide (0 < m) && decide (m ≤ 128) && !ctypeFits i t then some 7
  else if decide (137215 < i) || decide (128 < m) || resv then some 9
  else none

/-- An accepted PAIR_SET (R379, R388, R398): a FREE descriptor is made at once, any other change waits for the boundary. -/
def Device.pairTake (d : Device) (i m t : Nat) : Device :=
  match d.hpair i with
  | none => if m = 0 then d else d.setHpair i (some { maxDelay := m, ctype := t })
  | some p =>
    d.setHpair i (some { p with
      next := if decide (m = p.maxDelay) && decide (t = p.ctype) && p.next.isNone then none else some (m, t)
      build := none, waiting := none })

/-- A write of word 3 of PAIR_SET (R378, R379, R400). -/
def Device.pairSet (d : Device) (w0 w1 w2 w3 : Word) : Status × Device :=
  match d.pairCause (fld w0 0 18) (fld w1 0 8) (fld w1 8 4)
      (decide (fld w0 18 14 ≠ 0) || decide (fld w1 12 20 ≠ 0) || decide (w2 ≠ 0) || decide (w3 ≠ 0)) with
  | some c => (if c = 6 then .busy else .range, d.celRefuse 0 (fld w0 0 18) c)
  | none => (.ok, d.pairTake (fld w0 0 18) (fld w1 0 8) (fld w1 8 4))

/-! Delay steps (R390). -/

/-- The delay a member has under an alignment in service. -/
def alignDelay (a : Option Align) (role : Bool) : Nat :=
  match a with | some x => if x.locked && x.leader == role then x.delta else 0 | none => 0

/-- The delivered member's delay changes: a conventional switch at the outputs (R390). -/
def Device.delayStep (d : Device) (i : Nat) (old new : Option Align) : Device :=
  if decide ((d.sel i).st ≠ 0) && decide (alignDelay old (d.sel i).c.applied ≠ alignDelay new (d.sel i).c.applied) then
    (d.inc 0x90074).convSwitch i
  else d

/-- A pair falls back to WAIT (R388): the line is dropped and the given histories are reset. -/
def Device.pairDrop (d : Device) (i : Nat) (p : HPair) (w pr : Bool) : Device :=
  (d.setHpair i (some { p with
    st := 1, al := none, build := none, waiting := none, retry := false
    w := if w then {} else p.w, p := if pr then {} else p.p })).delayStep i p.al none

/-- The accepted PAIR_SET takes effect at the period boundary (R379). -/
def Device.pairApply (d : Device) (i : Nat) : Device :=
  match d.hpair i with
  | some p =>
    match p.next with
    | some (m, t) =>
      (d.setHpair i (if m = 0 then none else some { p with
        st := 1, maxDelay := m, ctype := t, next := none, w := {}, p := {}, al := none, build := none, waiting := none
        retry := false })).delayStep i p.al none
    | none => d
  | none => d

/-- READY is lost (R374, R388): every pair waits again. -/
def Device.celReadyLost (d : Device) : Device :=
  d.hpairs.foldl (fun d e => d.pairDrop e.1 e.2 true true) ((d.setBit 0x90010 0 false).when d.celReady (·.ev 0x90014 1))

/-! Alignment (R383 to R391). -/

/-- The member of a side meets what a search needs of it (R383). -/
def Device.memberOk (d : Device) (i : Nat) (p : HPair) (role : Bool) : Bool :=
  match (d.sel i).used.side role with
  | some c => protHitless c (d.protUsed c) && d.ctxEna c && d.ctxCtype c == p.ctype
  | none => false

/-- A history is full (R382). -/
def HPair.full (p : HPair) (h : Hist) : Bool := decide (pairHist p.maxDelay p.ctype ≤ h.seq)

/-- A pair is due for a search (R383). -/
def Device.pairDue (d : Device) (i : Nat) (p : HPair) : Bool :=
  d.celReady && !p.retry && d.memberOk i p false && d.memberOk i p true && p.full p.w && p.full p.p && p.w.clean == 16 && p.p.clean == 16

/-- A waiting pair that is due queues for the engine (R388). -/
def Device.pairQueue (d : Device) (i : Nat) : Device :=
  match d.hpair i with
  | some p => if p.st == 1 && d.pairDue i p then d.setHpair i (some { p with st := 2 }) else d
  | none => d

/-- A build may start (R391). -/
def Device.canBuild (d : Device) (p : HPair) : Bool :=
  decide (d.unitsUsed + pairUnits p.maxDelay p.ctype ≤ 1250000) &&
    decide (d.buildRate + pairRate p.ctype ≤ 1000000 * d.get 0x90024 0 15)

/-- A pair in REHOME that the engine may serve now. -/
def Device.rehomeDue (d : Device) (i : Nat) (p : HPair) : Bool :=
  p.st == 6 && p.build.isNone && p.waiting.isNone && d.pairDue i p

/-- The pair the engine serves in a slot (R383): REHOME first, else ascending after the last served.
DESIGN CHOICE, log entry 36. -/
def Device.searchPick (d : Device) : Option (Nat × HPair) :=
  match d.hpairs.find? (fun e => d.rehomeDue e.1 e.2) with
  | some e => some e
  | none =>
    match d.hpairs.find? (fun e => e.2.st == 2 && decide (d.cel.served < e.1)) with
    | some e => some e
    | none => d.hpairs.find? (fun e => e.2.st == 2)

/-- The hashes of a history from age `a`, 16 of them. -/
def Hist.sig (h : Hist) (a : Nat) : List Nat := ((h.ents.drop a).take 16).map (·.hash)

/-- All 16 hashes of a signature are equal. -/
def flat (s : List Nat) : Bool := match s with | [] => true | x :: t => t.all (· == x)

/-- The matches of a search: leader (true is protect) and offset (R384). -/
def searchHits (dmax : Nat) (w p : Hist) : List (Bool × Nat) :=
  ((List.range (dmax + 1)).filter (fun a => p.sig a == w.sig 0)).map (fun a => (decide (0 < a), a)) ++
  ((List.range (dmax + 1)).filter (fun a => decide (0 < a) && w.sig a == p.sig 0)).map (fun a => (false, a))

/-- The outcome of a search (R384). -/
inductive Found | ambiguous | noMatch | found (leader : Bool) (off : Nat)
  deriving DecidableEq, Repr

/-- The comparison of both signatures with both histories (R384): `ecc` when a hash read met an uncorrectable error. -/
def searchFind (dmax : Nat) (w p : Hist) (ecc : Bool) : Found :=
  if ecc then .noMatch
  else if flat (w.sig 0) || flat (p.sig 0) then .ambiguous
  else match searchHits dmax w p with
    | [] => .noMatch
    | [x] => .found x.1 x.2
    | _ => .ambiguous

/-- The leader's and the lagging member's history. -/
def HPair.lead (p : HPair) (leader : Bool) : Hist := if leader then p.p else p.w
/-- The history of the member that is not the leader. -/
def HPair.lag (p : HPair) (leader : Bool) : Hist := if leader then p.w else p.p

/-- A time in core clock periods of 5 ns as microseconds, rounded to the nearest (R385). -/
def toMicros (t : Int) : Int := (t + 100) / 200

/-- The alignment a match makes (R384, R385): at d = 0 the lagging member's period can be the earlier one, and the delay that is
shown then is the free value `v`.
DESIGN CHOICE, log entry 36. -/
def HPair.align (p : HPair) (leader : Bool) (off : Nat) (v : Word) : Align :=
  (fun delta : Int =>
    { leader := leader, d := off, lead0 := (p.lead leader).seq, lag0 := (p.lag leader).seq
      delta := if delta < 0 then fld v 0 17 else delta.toNat })
  (toMicros (((p.lag leader).ents.head?.map (·.time)).getD 0 - (((p.lead leader).ents[off]?).map (·.time)).getD 0))

/-- The line of a match made earlier is written from the leader's next period (R386, R391). -/
def HPair.alignFrom (p : HPair) (a : Align) : Align :=
  { a with lead0 := (p.lead a.leader).seq, lag0 := a.lag0 + ((p.lead a.leader).seq - a.lead0) }

/-- A failed search (R384): the pair waits for RETRY_MS, one in REHOME stays there. -/
def Device.searchFail (d : Device) (i : Nat) (p : HPair) (ambiguous : Bool) : Device :=
  (fun d1 : Device => if ambiguous then (d1.inc 0x90064).ev 0x90014 2 else d1.inc 0x90068)
  (d.setHpair i (some { p with
    st := if p.st = 6 then 6 else 1, retry := true, outcome := if ambiguous then 3 else 2, searches := satAdd 8 p.searches 1 }))

/-- A successful search (R384, R386, R389, R391). -/
def Device.searchMatch (d : Device) (i : Nat) (p : HPair) (leader : Bool) (off : Nat) : Device :=
  (fun (q : HPair) (a : Align) (d1 : Device) =>
    if p.st = 6 then
      if d.canBuild p then d1.setHpair i (some { q with build := some a })
      else (d1.setHpair i (some { q with waiting := some a })).inc 0x90078
    else d1.setHpair i (some { q with st := 3, al := some a }))
  { p with outcome := 1, searches := satAdd 8 p.searches 1 } (p.align leader off d.free.1) d.free.2

/-- A build that waited starts when its units and its rate are free (R391). -/
def Device.buildWaiting (d : Device) (i : Nat) : Device :=
  match d.hpair i with
  | some p =>
    match p.waiting with
    | some a => if d.canBuild p then d.setHpair i (some { p with build := some (p.alignFrom a), waiting := none }) else d
    | none => d
  | none => d

/-- What a search slot begins with (R391): every build that waited and may start starts. -/
def Device.buildsStart (d : Device) : Device := (d.hpairs.map (·.1)).foldl Device.buildWaiting d

/-- One search slot (R383, R384, R391): `ecc` is the channel on which a hash read met an uncorrectable error (R372).
DESIGN CHOICE, log entry 36. -/
def Device.searchSlot (d : Device) (ecc : Option Nat) : Device :=
  (fun d0 : Device =>
    match d0.searchPick with
    | none => d0
    | some (i, p) =>
      (fun d1 : Device =>
        match searchFind (pairD p.maxDelay p.ctype) p.w p.p ecc.isSome with
        | .ambiguous => d1.searchFail i p true
        | .noMatch => d1.searchFail i p false
        | .found l o => d1.searchMatch i p l o)
      ({ (match ecc with | some c => (d0.inc 0x90060).celUncorr c | none => d0.inc 0x90060) with cel := { d0.cel with served := i } }))
  d.buildsStart

/-- RETRY_MS after a failed search (R384). -/
def Device.pairRetry (d : Device) (i : Nat) : Device :=
  match d.hpair i with
  | some p => (d.setHpair i (some { p with retry := false })).pairQueue i
  | none => d

/-- What a compared period found (R387). -/
inductive Cmp | none_ | same | differs | lost (channel : Nat)
  deriving DecidableEq, Repr

/-- Whether a period is compared, and how (R387, R398). -/
def cmpEnts (l g : Option HashEnt) : Cmp :=
  match l, g with
  | some a, some b =>
    match a.bad with
    | some c => .lost c
    | none => if a.tsf || b.tsf then .none_ else if a.hash = b.hash then .same else .differs
  | _, _ => .none_

/-- The comparison that the newest period of a member brings under an alignment (R386 to R388): `role` names the member. -/
def HPair.compare (p : HPair) (a : Align) (role : Bool) : Cmp :=
  (fun (l g : Hist) =>
    if l.seq < a.lead0 + a.d + 1 then .none_
    else if role != a.leader then
      (fun f : Nat =>
        if f ≤ a.lead0 ∨ l.seq < f then .none_ else cmpEnts l.ents[l.seq - f]? g.ents[0]?)
      (a.lead0 + (g.seq - a.lag0) - a.d)
    else
      (fun k : Nat => if g.seq < k then .none_ else cmpEnts l.ents[0]? g.ents[g.seq - k]?)
      (a.lag0 + (l.seq - a.lead0) + a.d))
  (p.lead a.leader) (p.lag a.leader)

/-- Runs of compared periods. -/
def Align.note (a : Align) (c : Cmp) : Align :=
  match c with
  | .same => { a with good := a.good + 1, bad := 0 }
  | .differs => { a with good := 0, bad := a.bad + 1 }
  | _ => a

/-- Counts of a comparison: MISMATCH of the pair, LINE_ECC_AIS_CNT with the uncorrectable read (R372, R387, R398). -/
def Device.cmpCount (d : Device) (i : Nat) (c : Cmp) : Device :=
  match c, d.hpair i with
  | .differs, some p => d.setHpair i (some { p with mismatch := satAdd 16 p.mismatch 1 })
  | .lost c, _ => (d.inc 0x9007C).celUncorr c
  | _, _ => d

/-- SEARCH_CFG.LOSS_COUNT. -/
def Device.lossCount (d : Device) : Nat := d.get 0x90020 16 5

/-- The alignment in service after a comparison (R388). -/
def Device.alignNote (d : Device) (i : Nat) (c : Cmp) : Device :=
  match d.hpair i with
  | some p =>
    match p.al with
    | some a =>
      (fun b : Align =>
        if p.st = 3 then
          if c = .differs then (d.setHpair i (some { p with st := 1, al := none })).pairQueue i
          else if 16 ≤ b.good then
            (d.setHpair i (some { p with st := 4, al := some { b with locked := true } })).delayStep i none (some { b with locked := true })
          else d.setHpair i (some { p with al := some b })
        else if (p.st = 4 ∨ p.st = 5) ∧ d.lossCount ≤ b.bad then
          (d.setHpair i (some { p with st := 6, al := some b, retry := false, waiting := none })).ev 0x90014 3
        else if p.st = 5 ∧ 16 ≤ b.good then d.setHpair i (some { p with st := 4, al := some b })
        else d.setHpair i (some { p with al := some b }))
      (a.note c)
    | none => d
  | none => d

/-- The build after a comparison (R389). -/
def Device.buildNote (d : Device) (i : Nat) (c : Cmp) : Device :=
  match d.hpair i with
  | some p =>
    match p.build with
    | some b =>
      if c = .differs then d.setHpair i (some { p with build := none })
      else d.setHpair i (some { p with build := some { b.note c with locked := b.locked || decide (16 ≤ (b.note c).good) } })
    | none => d
  | none => d

/-- A period of one member enters its history (R381, R382). -/
def Hist.push (h : Hist) (len : Nat) (e : HashEnt) : Hist :=
  { ents := (e :: h.ents).take len, seq := h.seq + 1, clean := if e.tsf then 0 else min 16 (h.clean + 1), tsf := e.tsf }

/-- The period's comparisons, of the alignment in service and of a build. -/
def Device.pairCompare (d : Device) (i : Nat) (role : Bool) : Device :=
  match d.hpair i with
  | some p =>
    (fun (c b : Option Cmp) =>
      (fun d1 : Device =>
        (match b with | some x => (d1.cmpCount i x).buildNote i x | none => d1).pairQueue i)
      (match c with | some x => (d.cmpCount i x).alignNote i x | none => d))
    (p.al.map (fun a => p.compare a role)) (p.build.map (fun a => p.compare a role))
  | none => d

/-- A period of context `c`, member of a hitless pair (R381 to R388).
DESIGN CHOICE, log entry 36. -/
def Device.celHash (d : Device) (c : Nat) (o : PeriodObs) : Device :=
  (fun (w : Word) =>
    if protEna c w then
      match d.hpair (protSel c w) with
      | some p =>
        (fun (e : HashEnt) (role : Bool) =>
          (d.setHpair (protSel c w) (some
            (if role then { p with p := p.p.push (pairHist p.maxDelay p.ctype) e }
             else { p with w := p.w.push (pairHist p.maxDelay p.ctype) e }))).pairCompare (protSel c w) role)
        ⟨o.hash, (d.uptime : Int) + 200 * o.skew, (d.ctxSig c).2.1, o.bad, o.cell⟩ (protRole c w)
      | none => d
    else d)
  (d.protUsed c)

/-- The place of a selector's line in the frame store. -/
def lineKey (i : Nat) : Nat := 524288 + i

/-- What the line of an alignment delivers with the lagging member's newest period (R386): AIS where its read meets an
uncorrectable error (R398). -/
def HPair.lineCell (p : HPair) (a : Align) : Cell :=
  (fun f : Nat =>
    match (p.lead a.leader).ents[(p.lead a.leader).seq - f]? with
    | some e => if e.bad.isSome || decide (f ≤ a.lead0) || decide ((p.lead a.leader).seq < f) then {} else e.cell
    | none => {})
  (a.lead0 + ((p.lag a.leader).seq - a.lag0) - a.d)

/-- The frame store receives what the line of context `c`'s pair delivers (R274, R386). -/
def Device.lineWrite (d : Device) (c : Nat) : Device :=
  if protEna c (d.protUsed c) then
    match (d.hpair (protSel c (d.protUsed c))).bind (fun p => p.al.map p.lineCell) with
    | some x => { d with hall := { d.hall with wr := tabPut {} d.hall.wr (lineKey (protSel c (d.protUsed c))) x } }
    | none => d
  else d

/-- The selector is served from its pair's line: it delivers the leader of a locked alignment (R386, R388, R389). -/
def Device.lineServes (d : Device) (i : Nat) : Bool :=
  match (d.hpair i).bind (·.al) with
  | some a => a.locked && (d.sel i).c.applied == a.leader
  | none => false

/-- The changeover to a new line that has locked (R389, R390): `late` periods of the old line are discarded. -/
def Device.changeover (d : Device) (i late : Nat) : Device :=
  match d.hpair i with
  | some p =>
    match p.build with
    | some b =>
      if b.locked && p.st == 6 then
        (((d.setHpair i (some { p with st := 4, al := some b, build := none, rehomes := satAdd 8 p.rehomes 1 })).inc 0x9006C).add
          0x90070 late).delayStep i p.al (some b)
      else d
    | none => d
  | none => d

/-- What a member's identity is for its history: the context, whether it is enabled, its type. -/
def Device.memberKey (d : Device) (i : Nat) (role : Bool) : Option Nat × Bool × Nat :=
  match (d.sel i).used.side role with
  | some c => (some c, d.ctxEna c, d.ctxCtype c)
  | none => (none, false, 0)

/-- A member's aTSF. -/
def Device.memberTsf (d : Device) (i : Nat) (role : Bool) : Bool :=
  match (d.sel i).used.side role with
  | some c => (d.ctxSig c).2.1
  | none => false

/-- A member's aTSF returned to 0 while ALIGNED: the pair verifies (R388, R398). -/
def HPair.verify (p : HPair) (back : Bool) : HPair :=
  if back && p.st == 4 then { p with st := 5, al := p.al.map (fun a => { a with good := 0, bad := 0 }) } else p

/-- A pair after a command that may change its members or their signals (R382, R388). -/
def celSettle (d0 d : Device) (i : Nat) : Device :=
  match d.hpair i with
  | some p =>
    (fun (cw cp : Bool) =>
      if cw || cp then d.pairDrop i p cw cp
      else if (d0.memberTsf i false && !d.memberTsf i false) || (d0.memberTsf i true && !d.memberTsf i true) then
        d.setHpair i (some (p.verify true))
      else d)
    (decide (d0.memberKey i false ≠ d.memberKey i false) || (d0.memberOk i p false && !d.memberOk i p false))
    (decide (d0.memberKey i true ≠ d.memberKey i true) || (d0.memberOk i p true && !d.memberOk i p true))
  | none => d

/-- HITLESS of a selector changed from 1 to 0 (R367). -/
def hitlessSettle (d0 d : Device) (i : Nat) : Device := d.when (d0.selHitless i && !d.selHitless i) (·.selEv i 4)

/-- PAIR_VIEW (R401). -/
def Device.pairView (d : Device) : List Word :=
  match d.hpair d.cel.sel with
  | none => [wd d.cel.sel, 0, 0, 0]
  | some p =>
    [wd (d.cel.sel + 2 ^ 18 * p.st + 2 ^ 21 * b2n (match p.al with | some a => a.leader | none => false) + 2 ^ 22 * b2n p.build.isSome),
     wd (match p.al with | some a => a.delta % 2 ^ 17 + 2 ^ 17 * a.d | none => 0),
     wd (p.maxDelay + 2 ^ 8 * p.ctype + 2 ^ 12 * p.outcome + 2 ^ 16 * pairUnits p.maxDelay p.ctype),
     wd (p.searches + 2 ^ 8 * p.rehomes + 2 ^ 16 * p.mismatch)]

/-! Capture rings (R393 to R397). -/

/-- The ring. -/
def Device.ring (d : Device) (r : Nat) : Ring := tabGet {} d.cel.rings r
/-- Stores a ring. -/
def Device.setRing (d : Device) (r : Nat) (x : Ring) : Device := { d with cel := { d.cel with rings := tabPut {} d.cel.rings r x } }
/-- The state of a ring (R402). -/
def Device.ringSt (d : Device) (r : Nat) : Nat := d.get (ringBase r + 8) 0 3
/-- SIZE_MIB of a ring. -/
def Device.ringMib (d : Device) (r : Nat) : Nat := d.get (ringBase r) 1 10

/-- The capture word of a context. -/
def capAddr (c : Nat) : Nat := if c < 262144 then tcBase c + 0x14 else hoBase (c - 262144) + 0x18

/-- The contexts with CAPTURE_ENA = 1 and their rings. -/
def Device.capCtxs (d : Device) : List (Nat × Nat) :=
  d.regs.filterMap (fun e =>
    if bitAt e.2 0 then
      match locOf e.1 with
      | some ⟨.tc, k, 0x14⟩ => some (k, fld e.2 8 8)
      | some ⟨.ho, h, 0x18⟩ => some (hoCtx h, fld e.2 8 8)
      | _ => none
    else none)

/-- Bytes of a record of a CTYPE (R393). -/
def recBytes (t : Nat) : Nat := 16 * ((16 + ctypeBytes t + 15) / 16)
/-- The capture rate of a context in bit/s (R393). -/
def Device.capRate (d : Device) (c : Nat) : Nat := recBytes (d.ctxCtype c) * 8000 * ctypePpm (d.ctxCtype c)
/-- The rate of all capturing contexts in enabled rings in bit/s, ring `r` taken as enabled as well.
DESIGN CHOICE, log entry 36. -/
def Device.capTotal (d : Device) (r : Option Nat) : Nat :=
  ((d.capCtxs.filter (fun e => d.bit (ringBase e.2) 0 || r == some e.2)).map (fun e => d.capRate e.1)).sum
/-- MiB of the rings that hold space. -/
def Device.ringUsed (d : Device) : Nat := (((List.range 256).filter (fun r => d.ringSt r != 0)).map d.ringMib).sum

/-- The cause that refuses a RING_CFG write, the lowest that applies (R394, R402). -/
def Device.ringCause (d : Device) (r : Nat) (v : Word) : Option Nat :=
  if bitAt v 0 && !d.bit (ringBase r) 0 && decide (768 < d.ringUsed - (if d.ringSt r = 0 then 0 else d.ringMib r) + fld v 1 10) then some 4
  else if bitAt v 0 && !d.bit (ringBase r) 0 && decide (40000000000 < d.capTotal (some r)) then some 5
  else if d.bit (ringBase r) 0 && decide (fld v 1 10 ≠ d.ringMib r) then some 8
  else if (bitAt v 0 && decide (fld v 1 10 = 0)) || decide (1000 < fld v 16 10) || decide (768 < fld v 1 10) then some 9
  else none

/-- Stores the state of a ring. -/
def Device.ringTo (d : Device) (r st : Nat) : Device := d.put (ringBase r + 8) 0 3 st

/-- A ring is emptied and records.
DEDUCED, log entry 37. -/
def Device.ringRun (d : Device) (r : Nat) : Device := ((d.ringTo r 1).put (ringBase r + 8) 3 2 0).setRing r {}

/-- A write of RING_CFG is judged and taken (R394, R396). -/
def Device.ringCfgWrite (d : Device) (r : Nat) (v : Word) : Status × Device :=
  match d.ringCause r v with
  | some c => (.range, d.celRefuse 1 r c)
  | none =>
    (.ok,
      (fun d1 : Device =>
        if bitAt v 0 && d.ringSt r == 0 then d1.ringRun r
        else if d.ringSt r = 4 then d1.setRing r { d1.ring r with offAtEnd := !bitAt v 0 }
        else if !bitAt v 0 then ((d1.ringTo r 0).put (ringBase r + 8) 3 2 0).setRing r {} else d1)
      (d.wr (ringBase r) v))

/-- A write of TC_CAPTURE or HO_CAPTURE is judged and taken (R394). -/
def Device.captureWrite (d : Device) (c : Nat) (v : Word) : Status × Device :=
  if bitAt v 0 && (!d.bit (capAddr c) 0 || decide (fld v 8 8 ≠ d.get (capAddr c) 8 8)) &&
      d.bit (ringBase (fld v 8 8)) 0 && decide (40000000000 < (d.wr (capAddr c) v).capTotal none) then
    (.range, d.celRefuse (if c < 262144 then 2 else 3) (if c < 262144 then c else c - 262144) 5)
  else (.ok, d.wr (capAddr c) v)

/-- An export starts: MC1 opens its record (R396, R397).
DEDUCED, log entry 37. -/
def Device.exportStart (d : Device) (r master : Nat) : Status × Device :=
  match d.opOpen 9 master (16 * d.ringMib r) with
  | (some k, d1) => (.ok, (d1.ringTo r 4).setRing r { d1.ring r with op := some k, offAtEnd := false })
  | (none, d1) => (.busy, d1)

/-- A ring freezes; with AUTO_EXPORT its export starts (R396). -/
def Device.ringFreeze (d : Device) (r : Nat) : Device :=
  (fun d1 : Device =>
    (fun d2 : Device => if d.bit (ringBase r) 11 && !d.cores.mc1Away then (d2.exportStart r 2).2 else d2)
    (d1.setRing r { d1.ring r with epoch := d.tod.epoch, sec := d.tod.sec, frozen := d1.rd (ringBase r + 8) }))
  (d.ringTo r 3)

/-- A write of RING_CMD (R396, R397). -/
def Device.ringCmd (d : Device) (master r : Nat) (v : Word) : Status × Device :=
  if v = 1 then (.ok, d.when (d.ringSt r == 1 || d.ringSt r == 2) (·.ringFreeze r))
  else if v = 2 then
    if d.cores.mc1Away then (.busy, d.porchBusy master)
    else if d.ringSt r = 3 then d.exportStart r master else (.ok, d)
  else if v = 4 then (.ok, d.when (d.ringSt r == 3) (·.ringRun r))
  else if v = 0 then (.ok, d) else (.range, d)

/-- POST_MS elapsed (R396).
DEDUCED, log entry 37. -/
def Device.ringPostEnd (d : Device) (r : Nat) : Device :=
  if d.ringSt r = 2 then (d.ev 0x90014 4).ringFreeze r else d

/-- An export ends (R396, R397): `ok` when every block reached the drive. -/
def Device.exportEnd (d : Device) (r : Nat) (ok : Bool) (steps : Nat) : Device :=
  match d.ringSt r, (d.ring r).op with
  | 4, some k =>
    (fun d1 : Device =>
      (fun d2 : Device =>
        if (d.ring r).offAtEnd then (d2.ringTo r 0).setRing r {}
        else if ok && d.bit (ringBase r) 12 then d2.ringRun r
        else (d2.ringTo r 3).setRing r { d2.ring r with op := none })
      ((d1.put (ringBase r + 8) 8 4 (if ok then 0 else 9)).ev 0x90014 5))
    (((if ok then d.opSteps k (16 * d.ringMib r) else (d.opSteps k steps).opFail k steps)).opClose k (if ok then .ok else .abandoned))
  | _, _ => d

/-- The header of a record (R393), its words little-endian. -/
def capHeader (c t seq ns sec ptr just : Nat) (tsf ais dropped : Bool) : List Byte :=
  [wd ((if c < 262144 then c else c - 262144) + 2 ^ 18 * b2n (decide (262144 ≤ c)) + 2 ^ 19 * t), wd seq,
   wd (ns + 2 ^ 30 * (sec % 4)),
   wd (ptr + 2 ^ 10 * just + 2 ^ 12 * b2n tsf + 2 ^ 13 * b2n ais + 2 ^ 14 * b2n dropped + 2 ^ 16 * (sec / 4 % 2 ^ 16))].flatMap
    wordBytesLE

/-- A record of exactly the bytes of R393. -/
def capRecord (t : Nat) (hdr data : List Byte) : List Byte :=
  (hdr ++ data.take (ctypeBytes t) ++ List.replicate (recBytes t) 0).take (recBytes t)

/-- The ring holds the newest records that fit its size (R396); answers whether it wrapped. -/
def ringFit (cap : Nat) : List (List Byte) → List (List Byte) × Bool
  | [] => ([], false)
  | r :: t => if cap < ((r :: t).map List.length).sum then ((ringFit cap t).1, true) else (r :: t, false)

/-- The pointer interpreter of a context. -/
def Device.ctxPi (d : Device) (c : Nat) : Pi := if c < 262144 then (d.tc c).pi else (d.ho (c - 262144)).pi

/-- The record of a capturing context's period (R393, R395): above the hardware cap some records are not written.
DESIGN CHOICE, log entry 36. -/
def Device.capture (d : Device) (c : Nat) (o : PeriodObs) : Device :=
  if bitAt (d.capUsed c) 0 then
    (fun (r seq : Nat) (dropped : Bool) (d1 : Device) =>
      if d.bit (ringBase r) 0 && (d.ringSt r == 1 || d.ringSt r == 2) then
        if decide (40000000000 < d.capTotal none) && bitAt d.free.1 0 then
          { d1.free.2.inc 0x90080 with cel := { d1.cel with capDrop := tabPut false d1.cel.capDrop c true } }
        else
          (fun x : List (List Byte) × Bool =>
            ({ (d1.free.2.setRing r { d1.ring r with recs := x.1 }) with
                cel := { (d1.free.2.setRing r { d1.ring r with recs := x.1 }).cel with
                  capDrop := tabPut false d1.cel.capDrop c false } } : Device).when x.2 (·.setBit (ringBase r + 8) 3 true))
          (ringFit (d.ringMib r * 2 ^ 20) ((d.ring r).recs ++
            [capRecord (d.ctxCtype c) (capHeader c (d.ctxCtype c) seq d.tod.ns d.tod.sec (d.ctxPi c).active (d.ctxPi c).just
              (d.ctxSig c).2.1 (d.ctxSig c).2.2.2 dropped) o.data]))
      else d1)
    (fld (d.capUsed c) 8 8) (tabGet 0 d.cel.capSeq c) (tabGet false d.cel.capDrop c)
    { d with cel := { d.cel with capSeq := tabPut 0 d.cel.capSeq c ((tabGet 0 d.cel.capSeq c + 1) % 2 ^ 32) } }
  else d

/-- A container period of context `c` in the Cellar (R381, R393). -/
def Device.celPeriod (d : Device) (c : Nat) (o : PeriodObs) : Device := if d.ctxEna c then (d.celHash c o).capture c o else d

end Sys2Proof.Machine
end

