-- ==== Sys2Proof/Machine/Settle.lean ====
section
/-! DEFINITION. The settling of everything that follows the reported defects after a command: events, FOLLOW_UP, ring
triggers, PM flags, held monitors, hitless pairs (R240, R246, R307, R318, R352, R388, R396, R404 to R416, R626). -/

namespace Sys2Proof.Machine
open Sys2Proof

/-- The keys two tables list. -/
def bothKeys (a b : Tab α) : List Nat := toRising (tabKeys a ++ tabKeys b)

/-- The layers whose SF and SD windows a change may end. -/
def Device.sfLayers (d : Device) : List SfLayer :=
  (tabKeys d.lanes).flatMap (fun n => [.ms n, .sm n]) ++ (tabKeys d.hos).map .ho ++ (tabKeys d.tcs).map .tc

/-- A change of client monitors' reported state: HO_CLIENT of CLIENT_EVENT (R271). -/
def Device.entryChange (d0 d : Device) (j : Nat) : Device :=
  d.when (decide (262144 ≤ j) && !d0.cliAny j && d.cliAny j) (·.ev (sliceBase (entrySlice j) + 0x52C) 2)

/-- A monitor that may not run is held in HUNT with its candidates cleared (R246, R270). -/
def Device.cliHold (d : Device) (j : Nat) : Device := if d.cliRuns j then d else d.setCli j {}

/-- The hitless pairs and the HITLESS of selectors after a command (R352, R388). -/
def celSettleAll (d0 d : Device) : Device :=
  (bothKeys d0.cel.pairs d.cel.pairs).foldl (hitlessSettle d0) ((tabKeys d.cel.pairs).foldl (celSettle d0) d)

/-- Everything that follows the reported defects, from the device before a command to the device after it.
DEDUCED, log entry 11. -/
def Device.settle (d0 d1 : Device) : Device :=
  (fun d2 : Device =>
    celSettleAll d0
      ((tabKeys d2.pm.points).foldl Device.pmSettle
        ((bothKeys d0.clis d2.clis).foldl (entryChange d0)
          ((bothKeys d0.tcs d2.tcs).foldl (tcChange d0)
            ((bothKeys d0.hos d2.hos).foldl (hoChange d0)
              ((bothKeys d0.lanes d2.lanes).foldl (laneChange d0) d2))))))
  ((tabKeys d1.clis).foldl Device.cliHold (d1.sfLayers.foldl Device.sfClose d1))

/-- A command whose effect may change reported defects: its effect, then what follows. -/
def Device.settled (d : Device) (f : Device → Device) : Device := Device.settle d (f d)

end Sys2Proof.Machine
end

