-- ==== Sys2Proof/Machine/Pm.lean ====
section
/-! DEFINITION. The PM second, its lagged commit, the bins, threshold crossings and counter presets (R404 to R433). -/

namespace Sys2Proof.Machine
open Sys2Proof

/-! The second ends (R405 to R412, R416, R417, R419). -/

/-- A side of an ended second is an errored second, and a severely errored one (R407). -/
def PmSide.ses (s : PmSide) : Bool := s.dfct || (decide (1 ≤ s.nb) && decide (3 * s.nb ≤ 10 * s.eb))
/-- A side is errored (R407). -/
def PmSide.es (s : PmSide) : Bool := s.dfct || decide (1 ≤ s.eb)

/-- The availability machine after a second (R409): its state, its run, and whether ten seconds of the run change. -/
def availStep (unavail ses : Bool) (run : Nat) : Bool × Nat × Bool :=
  if ses = unavail then (unavail, 0, false)
  else if run < 9 then (unavail, run + 1, false) else (!unavail, 0, true)

/-- The machine of a side after a second: a skipped side stays as it is (R408). -/
def PmSide.advance (s : PmSide) (on skip : Bool) : PmSide × Bool :=
  if !on then ({}, false)
  else if skip then ({ unavail := s.unavail, run := s.run }, false)
  else
    ({ unavail := (availStep s.unavail s.ses s.run).1, run := (availStep s.unavail s.ses s.run).2.1 },
     (availStep s.unavail s.ses s.run).2.2)

/-- The result of a side (R407, R408, R411): `uas` is the machine's state after the second. -/
def PmSide.result (s : PmSide) (skip uas : Bool) : PmRes :=
  if skip then { skip := true, uas := uas } else { eb := s.eb, es := s.es, ses := s.ses, dfct := s.dfct, uas := uas }

/-- A client side is skipped: its monitor did not run throughout the second (R408). -/
def PmPoint.cliSkip (x : PmPoint) : Bool := x.cliOff

/-- The result of a point for the second that ends (R407 to R410, R414 to R417). -/
def PmPoint.endResult (x : PmPoint) (p : Nat) (hasCli step : Bool) : PmResult :=
  { point := p
    ne := x.ne.result false (if x.on then (x.ne.advance true false).1.unavail else x.ne.unavail)
    fe := x.fe.result x.ne.dfct (if x.on then (x.fe.advance true x.ne.dfct).1.unavail else x.fe.unavail)
    cli := if hasCli then x.cli.result x.cliSkip (if x.on then (x.cli.advance true x.cliSkip).1.unavail else x.cli.unavail) else {}
    hasCli := hasCli, moved := x.moved, step := step, part := x.part, pos := x.pos, neg := x.neg }

/-- The ten seconds of a run change to unavailable or available (R409): the newest results of the side that are not skipped. -/
def markRun (p : Nat) (side : PmResult → PmRes) (put : PmResult → PmRes → PmResult) (uas : Bool) :
    Nat → List PmSecond → List PmSecond
  | 0, l => l
  | _, [] => []
  | n + 1, s :: t =>
    match s.results.find? (fun r => r.point == p) with
    | some r =>
      if (side r).skip then s :: markRun p side put uas (n + 1) t
      else
        { s with results := s.results.map (fun q => if q.point == p then put q { side q with uas := uas } else q) } ::
          markRun p side put uas n t
    | none => s :: markRun p side put uas (n + 1) t

/-- Applies the three machines' changes of one point to the seconds not yet committed, newest first. -/
def markPoint (p : Nat) (x : PmPoint) (l : List PmSecond) : List PmSecond :=
  (fun (skipC : Bool) =>
    (fun l1 => (fun l2 =>
      if (x.cli.advance x.on skipC).2 then
        markRun p (·.cli) (fun r v => { r with cli := v }) (x.cli.advance x.on skipC).1.unavail 10 l2 else l2)
      (if (x.fe.advance x.on x.ne.dfct).2 then
        markRun p (·.fe) (fun r v => { r with fe := v }) (x.fe.advance x.on x.ne.dfct).1.unavail 10 l1 else l1))
    (if (x.ne.advance x.on false).2 then
      markRun p (·.ne) (fun r v => { r with ne := v }) (x.ne.advance x.on false).1.unavail 10 l else l))
  x.cliSkip

/-- The points whose PM_ENA is set (R403, R404). -/
def Device.pmEnaPoints (d : Device) : List Nat :=
  d.regs.flatMap (fun e =>
    match locOf e.1 with
    | some ⟨.tc, k, 0x10⟩ => if bitAt e.2 0 then [k] else []
    | some ⟨.ho, h, 0x14⟩ => if bitAt e.2 0 then [hoPoint h] else []
    | some ⟨.pm, _, off⟩ =>
      if 0x400 ≤ off ∧ off < 0x500 then
        ((List.range 4).filter (bitAt e.2 ·)).map (fun m => lanePoint ((off - 0x400) / 4) m)
      else []
    | _ => [])

/-- A point at the start of a second (R404, R410): its machines go on while it is evaluated. -/
def Device.pmBegin (d : Device) (p : Nat) : Device :=
  (fun (x : PmPoint) (ena : Bool) =>
    (fun on : Bool =>
      d.setPoint p { ena := ena, on := on, seen := on, lane := d.pmLane p, cliOff := on && !d.cliRuns p
                     ne := (x.ne.advance (x.on && on) false).1, fe := (x.fe.advance (x.on && on) x.ne.dfct).1
                     cli := (x.cli.advance (x.on && on && d.pmHasCli p) x.cliSkip).1 })
    (ena && d.pmCarried p))
  (d.point p) (d.bit 0xD001C 0 && d.pmEna p)

/-- The results of the second in progress. -/
def Device.pmResults (d : Device) (step : Bool) : List PmResult :=
  (d.pm.points.filter (fun e => e.2.seen)).map (fun e => e.2.endResult e.1 (d.pmHasCli e.1) step)

/-- Whether a word stands in a PM_LAST. -/
def isPmLast (a : Nat) : Bool :=
  match locOf a with | some l => decide (l.blk = .pmStore) && decide (l.off < 0x00862000) && decide (0x10 ≤ l.off % 0x20) | none => false

/-- The words of a side of a result: EB in `w` bits, then ES, SES, UAS, DEF, SKIP (R411, R414). -/
def PmRes.word (r : PmRes) (w : Nat) : Nat :=
  min r.eb (2 ^ w - 1) + 2 ^ w * (b2n (r.es && !r.uas) + 2 * b2n (r.ses && !r.uas) + 4 * b2n r.uas + 8 * b2n r.dfct)

/-- The 128 bits of a second result (R414). -/
def PmResult.words (r : PmResult) : List Word :=
  [wd (r.ne.word 17 + 2 ^ 21 * b2n r.moved + 2 ^ 22 * b2n r.step + 2 ^ 23 * b2n r.part),
   wd (r.fe.word 17 + 2 ^ 21 * b2n r.fe.skip),
   if r.point < 274432 then wd (min r.pos 2047 + 2 ^ 11 * min r.neg 2047) else 0,
   if r.hasCli then wd (r.cli.word 15 + 2 ^ 19 * b2n r.cli.skip) else 0]

/-- A queued result whose read met an uncorrectable error: every count 0 and INCOMPLETE (R419). -/
def PmResult.unread (r : PmResult) : PmResult := { point := r.point, part := true }

/-- A second that the bins miss. -/
def PmSecond.asMissed (s : PmSecond) : Nat × List Nat := (s.sec, s.results.map (·.point))

/-- The oldest waiting second is dropped: the next one carries that it is missed (R422).
DEDUCED, log entry 38. -/
def skipOldest : List PmSecond → List PmSecond
  | o :: n :: t => { n with missed := o.missed ++ o.asMissed :: n.missed } :: t
  | _ => []

/-- A second is committed (R411, R412, R422): `ecc` lists the points whose queued result could not be read, with the Cellar's
channel (R372, R419).
DEDUCED, log entry 38. -/
def Device.pmCommit (d : Device) (s : PmSecond) (ecc : List (Nat × Nat)) : Device :=
  if s.lost then { d with pm := { d.pm with missed := d.pm.missed ++ [s.asMissed] } }
  else
    (fun t : PmSecond =>
      (fun d1 : Device =>
        (fun d2 : Device =>
          if 2 < d2.pm.waiting.length then
            ({ d2 with pm := { d2.pm with waiting := skipOldest d2.pm.waiting } }.inc 0xD0044).ev 0xD0014 6
          else d2)
        ((({ d1 with pm := { d1.pm with
            missed := [], waiting := d1.pm.waiting ++ [{ t with seq := (d1.rd 0xD0040 + 1).toNat, missed := d1.pm.missed }] } }.incWrap
          0xD0040).wrs 0xD0030 t.ts).ev 0xD0014 0))
      (t.results.foldl (fun d r => d.wrs (pmBase r.point + 0x10) r.words)
          ((ecc.filter (fun e => s.results.any (fun r => r.point == e.1))).foldl (fun d e => d.celUncorr e.2)
            { d with regs := d.regs.filter (fun e => !isPmLast e.1) })))
    { s with results := s.results.map (fun r => if ecc.any (fun e => e.1 == r.point) then r.unread else r) }

/-- The ended second enters the queue; the one that ended ten seconds earlier is committed (R411, R419). -/
def Device.pmEnd (d : Device) (s : PmSecond) (ecc : List (Nat × Nat)) : Device :=
  (fun (q : List PmSecond) (d1 : Device) =>
    if q.length ≤ 10 then { d1 with pm := { d1.pm with queue := q } }
    else
      match q with
      | [] => d1
      | o :: t => ({ d1 with pm := { d1.pm with queue := t } } : Device).pmCommit o ecc)
  ((d.pm.points.foldl (fun l e => markPoint e.1 e.2 l) (s :: d.pm.queue.reverse)).reverse)
  (if s.lost then (d.inc 0xD0048).ev 0xD0014 8 else d)

/-- The points whose Attic enable is set (R444), rising. -/
def Device.atticPoints (d : Device) : List Nat :=
  toRising (d.regs.flatMap (fun e =>
    match locOf e.1 with
    | some ⟨.tc, k, 0x10⟩ => if bitAt e.2 1 then [k] else []
    | some ⟨.ho, h, 0x14⟩ => if bitAt e.2 1 then [hoPoint h] else []
    | some ⟨.pm, _, off⟩ =>
      if 0x400 ≤ off ∧ off < 0x500 then
        ((List.range 4).filter (fun m => bitAt e.2 (4 + m))).map (fun m => lanePoint ((off - 0x400) / 4) m)
      else []
    | _ => []))

/-- The Attic takes frames: ADOPTING, RUNNING or LOST (R449, R450), and the device is not STANDBY (R541). -/
def Device.atticTakes (d : Device) : Bool :=
  decide (1 ≤ d.get 0x80018 0 3) && decide (d.get 0x80018 0 3 ≤ 3) && !d.standby

/-- The next second opens, named by the time of day now (R405). -/
def Device.pmOpen (d : Device) (step : Bool) : Device :=
  (fun d1 : Device =>
    { d1 with pm := { d1.pm with
        cur := some { sec := d1.tod.sec, epoch := d1.tod.epoch, step := step, ts := d1.stamp, attic := d1.atticPoints }, running := d1.bit 0xD001C 0 } })
  ((toRising (tabKeys d.pm.points ++ d.pmEnaPoints)).foldl Device.pmBegin d)

/-- A PM second ends and the next begins (R405, R417).
DEDUCED, log entry 38. -/
def Device.pmBoundary (d : Device) (step : Bool) (ecc : List (Nat × Nat)) : Device :=
  (match d.pm.cur with
   | some s =>
     d.pmEnd { s with step := s.step || step, lost := !d.celReady, results := d.pmResults (s.step || step) } ecc
   | none => d).pmOpen step

/-- The time of day is stepped (R417): the second in progress closes and a new one opens, both with TIME_STEP. -/
def Device.pmStep (d : Device) : Device := if d.pm.cur.isSome then (d.pmBoundary true []).ev 0xD0014 3 else d.ev 0xD0014 3

/-! Bins (R418 to R423). -/

/-- The bins of a point. -/
def Device.bins (d : Device) (p : Nat) : PmBins := tabGet {} d.pm.bins p
/-- Stores the bins of a point. -/
def Device.setBins (d : Device) (p : Nat) (b : PmBins) : Device := { d with pm := { d.pm with bins := tabPut {} d.pm.bins p b } }

/-- DAY_OFFSET (R430). -/
def Device.dayOffset (d : Device) : Int := signed 18 (d.get 0xD0020 0 18)

/-- The start of the interval of a second (R420): it may lie before second 0. -/
def binStart (len : Nat) (off : Int) (sec : Nat) : Int := (sec + off) / len * len - off

/-- An empty current bin for a second (R420).
DESIGN CHOICE, log entry 2. -/
def PmBin.opened (len : Nat) (off : Int) (sec epoch : Nat) : PmBin :=
  { start := if binStart len off sec < 0 then Config.earlyStart sec else (binStart len off sec).toNat
    fin := (binStart len off sec + len).toNat, epoch := epoch, valid := true }

/-- A current bin misses a second of its point (R419, R421, R422).
DEDUCED, log entry 38. -/
def PmBin.missing (b : PmBin) (p : Nat) (l : List (Nat × List Nat)) : PmBin :=
  if b.valid && l.any (fun e => e.2.contains p && decide (e.1 < b.fin)) then { b with part := true } else b

/-- A bin opened by a second misses one before it. -/
def PmBin.missingFrom (b : PmBin) (len p : Nat) (l : List (Nat × List Nat)) : PmBin :=
  b.missing p (l.filter (fun e => decide (b.fin ≤ e.1 + len)))

/-- The four additions of a side: ES, SES, UAS, BBE (R411, R418). -/
def PmRes.adds (r : PmRes) : List Nat :=
  [b2n (r.es && !r.uas), b2n (r.ses && !r.uas), b2n r.uas, if r.uas || r.ses then 0 else r.eb]

/-- A second enters a bin (R418, R421). -/
def PmBin.add (b : PmBin) (r : PmResult) (bad : Bool) : PmBin :=
  { b with
    secs := b.secs + 1, suspect := b.suspect || r.step, part := b.part || r.part || bad, moved := b.moved || r.moved
    cnt := List.zipWith (fun a c => satAdd 32 a c) b.cnt (r.ne.adds ++ r.fe.adds ++ r.cli.adds) }

/-- A current bin that has ended by a second of start `sec` (R420). -/
def PmBin.ended (b : PmBin) (sec : Nat) : Bool := b.valid && decide (b.fin ≤ sec)

/-- Current and previous bin after a second, and whether a bin closed: `len` and `most` are the interval and the limit. -/
def binStep (len most : Nat) (off : Int) (sec epoch : Nat) (bad : Bool) (cur prev : PmBin) (r : Option PmResult) :
    PmBin × PmBin × Bool :=
  (fun x : PmBin × PmBin × Bool =>
    match r with
    | none => x
    | some v =>
      (fun b : PmBin => if most ≤ b.secs then ({}, b, true) else (b, x.2.1, x.2.2))
      ((if x.1.valid then x.1 else PmBin.opened len off sec epoch).add v bad))
  (if cur.ended sec then ({}, cur, true) else (cur, prev, false))

/-- The TCA profile of a point (R403, R432): its base address. -/
def Device.tcaProfile (d : Device) (p : Nat) : Nat :=
  0xD0100 + 0x20 * (match pointKind p with
    | .tc k => d.get (tcBase k + 0x10) 4 4 | .ho h => d.get (hoBase h + 0x14) 4 4 | .lane n _ => d.get (0xD0400 + 4 * n) 8 4)

/-- The threshold of counter `c` (ES, SES, UAS, BBE), of the 15-minute or the 24-hour bin (R432). -/
def Device.tcaThreshold (d : Device) (a c : Nat) (day : Bool) : Nat :=
  if day then (d.rd (a + 0xC + 4 * c)).toNat
  else if c = 0 then d.get a 0 16 else if c = 1 then d.get a 16 16 else if c = 2 then d.get (a + 4) 0 16 else (d.rd (a + 8)).toNat

/-- A TCA entry joins the queue (R423, R430). -/
def Device.tcaPush (d : Device) (w : Word) : Device :=
  if 1024 ≤ d.pm.tca.length then (d.inc 0xD008C).ev 0xD0014 2
  else
    (fun d1 : Device => { d1 with pm := { d1.pm with tca := d1.pm.tca ++ [w] } }) (d.when d.pm.tca.isEmpty (·.ev 0xD0014 1))

/-- The counters of a bin that now reach their threshold for the first time (R423): index 4 side + counter. -/
def Device.tcaNew (d : Device) (p : Nat) (day : Bool) (b : PmBin) : List Nat :=
  (List.range 12).filter (fun i =>
    !b.raised.contains i && decide (0 < d.tcaThreshold (d.tcaProfile p) (i % 4) day) &&
      decide (d.tcaThreshold (d.tcaProfile p) (i % 4) day ≤ b.cnt.getD i 0))

/-- Raises the alerts of a bin. -/
def Device.tcaRaise (d : Device) (p : Nat) (day : Bool) (l : List Nat) : Device :=
  l.foldl (fun d i => d.tcaPush (wd (p + 2 ^ 19 * (i / 4) + 2 ^ 21 * (i % 4) + 2 ^ 23 * b2n day + 2 ^ 31))) d

/-- The bin a second is judged in: the current one, or the one it just closed. -/
def PmBin.noteRaised (b : PmBin) (l : List Nat) : PmBin := { b with raised := b.raised ++ l }

/-- One point's bins take a committed second (R418 to R423): `ecc` names the current bins whose read failed, 15-minute or 24-hour,
with the Cellar's channel (R372, R419). -/
def Device.binPoint (d : Device) (s : PmSecond) (ecc : List (Nat × Bool × Nat)) (p : Nat) : Device :=
  (fun (r : Option PmResult) (d : Device) (b : PmBins) =>
    (fun (x y : PmBin × PmBin × Bool) =>
      (fun (a15 a24 : List Nat) =>
        (((((d.setBins p { cur15 := (x.1.missingFrom 900 p s.missed).noteRaised (if x.1.valid then a15 else []), prev15 := x.2.1
                           cur24 := (y.1.missingFrom 86400 p s.missed).noteRaised (if y.1.valid then a24 else []), prev24 := y.2.1 }).tcaRaise p false a15).tcaRaise
          p true a24).when x.2.2 (·.ev 0xD0014 4)).when y.2.2 (·.ev 0xD0014 5)))
      (if r.isSome then d.tcaNew p false (if x.1.valid then x.1 else x.2.1) else [])
      (if r.isSome then d.tcaNew p true (if y.1.valid then y.1 else y.2.1) else []))
    (binStep 900 1800 0 s.sec s.epoch (ecc.any (fun e => e.1 == p && !e.2.1)) (b.cur15.missing p s.missed) b.prev15 r)
    (binStep 86400 90000 d.dayOffset s.sec s.epoch (ecc.any (fun e => e.1 == p && e.2.1)) (b.cur24.missing p s.missed) b.prev24 r))
  (s.results.find? (fun r => r.point == p)) ((ecc.filter (fun e => e.1 == p)).foldl (fun d e => d.celUncorr e.2.2) d) (d.bins p)

/-- MC1 takes the oldest waiting second into the bins (R418), and its frame becomes due where the Attic takes frames (R449, R450): `ecc`
names the current bins whose read failed (R419). -/
def Device.binUpdate (d : Device) (ecc : List (Nat × Bool × Nat)) : Device :=
  match d.pm.waiting with
  | [] => d
  | s :: t =>
    if d.cores.mc1Away then d
    else
      (fun d1 : Device => { d1 with pm := { d1.pm with
        waiting := t, toFrame := if d.atticTakes then d1.pm.toFrame ++ [s] else d1.pm.toFrame } })
      ((toRising (tabKeys d.pm.bins ++ s.results.map (·.point))).foldl (fun d p => d.binPoint s ecc p) d)

/-- Bins of a point whose read met an uncorrectable error (R372, R419): 0 the current and 1 the previous 15-minute bin, 2 and 3 the
24-hour bins, each with the Cellar's channel. -/
def Device.binsUnread (d : Device) (p : Nat) (ecc : List (Nat × Nat)) : Device :=
  (fun f : Nat → PmBin → PmBin =>
    if ecc = [] then d
    else (ecc.foldl (fun d e => d.celUncorr e.2) d).setBins p
      { cur15 := f 0 (d.bins p).cur15, prev15 := f 1 (d.bins p).prev15, cur24 := f 2 (d.bins p).cur24, prev24 := f 3 (d.bins p).prev24 })
    (fun i b => if b.valid && ecc.any (fun e => e.1 == i) then { b with part := true } else b)

/-- TCA_POP (R423). -/
def Device.tcaPop (d : Device) : Device := { d with pm := { d.pm with tca := d.pm.tca.drop 1 } }

/-- The words of a bin in BIN_VIEW (R431). -/
def PmBin.words (b : PmBin) (p : Nat) : List Word :=
  [wd (p + 2 ^ 19 * b2n b.valid + 2 ^ 20 * b2n b.suspect + 2 ^ 21 * b2n b.part + 2 ^ 22 * b2n b.moved), wd b.secs, wd b.start,
   wd (b.start / 2 ^ 32 % 2 ^ 16 + 2 ^ 16 * b.epoch)] ++ b.cnt.map wd

/-! Writes (R426, R427, R431, R433). -/

/-- A refusal recorded by PM (R433). -/
def Device.pmRefuse (d : Device) (idx cause : Nat) : Device :=
  ((d.inc 0xD0070).wr 0xD0074 (wd (idx % 2 ^ 19 + 2 ^ 20 * cause))).ev 0xD0014 7

/-- A write of VIEW_SEL (R431, R433).
DEDUCED, log entry 38. -/
def Device.viewSel (d : Device) (v : Word) : Status × Device :=
  if 274687 < v.toNat then (.range, d.pmRefuse v.toNat 1)
  else
    (.ok, d.wrs 0xD0300 (((d.bins v.toNat).cur15.words v.toNat) ++ ((d.bins v.toNat).prev15.words v.toNat) ++
      ((d.bins v.toNat).cur24.words v.toNat) ++ ((d.bins v.toNat).prev24.words v.toNat)))

/-- A write of RAW_SEL (R427, R433).
DEDUCED, log entry 38. -/
def Device.rawSel (d : Device) (v : Word) : Status × Device :=
  if 262143 < v.toNat then (.range, d.pmRefuse v.toNat 1) else (.ok, d.wr 0xD0054 v)

/-- The address is word 0 of a wrapping counter at a fixed address (R424, R426). -/
def isWrapCounter (a : Nat) : Bool :=
  match locOf a with
  | some l =>
    decide (l.off % 16 = 0) &&
      (match l.blk with
       | .lane => decide (0x4400 ≤ l.off) && decide (l.off < 0x4520)
       | .ho => decide (0x40 ≤ l.off) && decide (l.off < 0xD0)
       | .slice => decide (0x1000 ≤ l.off) && decide (l.off < 0x2000)
       | _ => false)
  | none => false

/-- The address is word 0 of a counter of the raw view (R427). -/
def rawCounter (a : Nat) : Option Nat :=
  if 0x03F00000 ≤ a ∧ a < 0x03F00110 ∧ a % 16 = 0 then some ((a - 0x03F00000) / 16) else none

/-- A counter is loaded (R426): the words are those of CNT_PRESET.
DEDUCED, log entry 16. -/
def Device.cntPreset (d : Device) (w0 w1 w2 w3 : Word) : Status × Device :=
  if decide (fld w2 16 16 ≠ 0) || decide (fld w3 18 14 ≠ 0) then (.range, d.pmRefuse w0.toNat 2)
  else
    match rawCounter w0.toNat with
    | some i => (.ok, d.rawSet (fld w3 0 18) i (w1.toNat + 2 ^ 32 * fld w2 0 16))
    | none =>
      if isWrapCounter w0.toNat && w3 == 0 then (.ok, (d.wr w0.toNat w1).wr (w0.toNat + 4) (wd (fld w2 0 16)))
      else (.range, d.pmRefuse w0.toNat 2)

/-! Register views (R427, R429, R430). -/

/-- PM_NOW of a point (R413, R429): the second in progress, and while the point is evaluated the state of its machines. -/
def Device.pmNow (d : Device) (p : Nat) : Word :=
  (fun (x : PmPoint) =>
    wd (b2n (decide (0 < x.ne.eb)) + 2 * b2n x.ne.dfct + 4 * b2n (decide (0 < x.fe.eb)) + 8 * b2n x.fe.dfct
      + 16 * b2n (decide (0 < x.cli.eb)) + 32 * b2n x.cli.dfct
      + (if x.on then
          64 + 2 ^ 8 * b2n x.ne.unavail + 2 ^ 9 * b2n x.fe.unavail + 2 ^ 10 * b2n x.cli.unavail + 2 ^ 12 * x.ne.run
            + 2 ^ 16 * x.fe.run + 2 ^ 20 * x.cli.run
        else 0)))
  (d.point p)

/-- The four words of raw counter `i` of the selected TC (R424, R427). -/
def Device.rawView (d : Device) (i : Nat) : List Word :=
  (fun k : Nat =>
    [wd (d.rawGet k i), wd (d.rawGet k i / 2 ^ 32 % 2 ^ 16 + 2 ^ 16 * (d.rawGet k i / 2 ^ 48 % 2)), wd k, 0])
  (d.rd 0xD0054).toNat

end Sys2Proof.Machine
end

