-- ==== Sys2Proof/Machine/Attic.lean ====
section
/-! DEFINITION. The Attic: the on-disk layout, the ring, writing and durability, its states and adoption (R434 to R456). -/

namespace Sys2Proof.Machine
open Sys2Proof

/-! The bytes on the drive (R438 to R446). -/

/-- `n` little-endian bytes of a number. -/
def leBytes (n v : Nat) : List Byte := (natBytes n v).reverse

/-- A bitmap over the points (R443, R444). -/
def bitmapBytes (points : List Nat) : List Byte :=
  (List.range 34336).map (fun j =>
    BitVec.ofNat 8 (((List.range 8).map (fun i => if points.contains (8 * j + i) then 2 ^ i else 0)).sum))

/-- ENMAP_CRC (R444). -/
def enmapCrc (points : List Nat) : Nat := crc32c (bitmapBytes points)

end Sys2Proof.Machine

namespace Sys2Proof
open Sys2Proof.Machine

/-- The header of an object (R441) with a CRC. -/
def AtticObj.header (o : AtticObj) (crc : Nat) : List Byte :=
  [0x41, 0x54, 0x54, 0x43, BitVec.ofNat 8 o.kind, 0x01] ++ leBytes 2 o.flags ++ leBytes 8 o.seq ++ leBytes 2 o.epoch ++
    leBytes 6 o.sec ++ (o.info.take 3).flatMap (leBytes 4) ++ leBytes 4 o.len ++ (o.info.drop 3).flatMap (leBytes 4) ++
    leBytes 4 0 ++ leBytes 4 crc

/-- What follows the header (R443 to R446). -/
def AtticObj.body (o : AtticObj) : List Byte :=
  if o.kind = 1 then bitmapBytes o.points ++ o.recs.flatMap (fun r => r.flatMap wordBytesLE)
  else if o.kind = 3 then bitmapBytes o.points else o.data

/-- The CRC of an object (R441). -/
def AtticObj.crc (o : AtticObj) : Nat := crc32c (o.header 0 ++ if o.kind = 4 then [] else o.body)

/-- The whole object as it lies on the drive. -/
def AtticObj.bytes (o : AtticObj) : List Byte :=
  (o.header o.crc ++ o.body ++ List.replicate o.len 0).take o.len

/-- The 128 bytes a superblock begins with (R439). -/
def SuperBlk.bytes (s : SuperBlk) : List Byte :=
  (fun b : List Byte => b ++ leBytes 4 (crc32c b))
  ([0x41, 0x53, 0x42, 0x4B, 0x01, 0, 0, 0] ++ leBytes 8 s.gen ++ leBytes 4 s.serialLo.toNat ++ leBytes 4 s.serialHi.toNat ++
    leBytes 4 s.lba ++ leBytes 4 16 ++ leBytes 4 s.ringEnd ++ leBytes 4 s.head ++ leBytes 4 s.tail ++ leBytes 4 s.lastIndex ++
    leBytes 8 s.nextSeq ++ leBytes 2 s.durEpoch ++ leBytes 6 s.durSec ++ s.formatted.flatMap wordBytesLE ++ leBytes 44 0)

/-- The units of an object. -/
def AtticObj.units (o : AtticObj) : Nat := o.len / 4096

end Sys2Proof

namespace Sys2Proof.Machine
open Sys2Proof

/-- OBJECT_LEN of so many bytes. -/
def objLen (n : Nat) : Nat := 4096 * ((n + 4095) / 4096)

/-- The frame of a committed second (R443): one record per enabled point whose result is not clean. -/
def frameObj (s : PmSecond) (dropped : Nat) : AtticObj :=
  (fun rs : List PmResult =>
    { kind := 1, flags := b2n s.step + 2 * b2n (decide (0 < dropped)), epoch := s.epoch, sec := s.sec
      len := objLen (34400 + 16 * rs.length)
      info := [274688, 34336, rs.length, enmapCrc s.attic, dropped, s.seq, 0]
      points := rs.map (·.point), recs := rs.map (·.words) })
  (s.results.filter (fun r => s.attic.contains r.point && decide (r.words ≠ [0, 0, 0, 0])))

/-- The enable map before a frame (R444). -/
def mapObj (points : List Nat) (epoch sec : Nat) : AtticObj :=
  { kind := 3, epoch := epoch, sec := sec, len := 36864, info := [274688, 34336, points.length, enmapCrc points, 0, 0, 0]
    points := points }

/-- An index entry (R445). -/
def indexEntry (o : AtticObj) : List Byte :=
  leBytes 4 o.unit ++ [BitVec.ofNat 8 o.kind, BitVec.ofNat 8 o.flags] ++ leBytes 2 o.epoch ++ leBytes 6 o.sec ++ leBytes 2 0

/-- The index block of the objects written since the last one (R445).
DESIGN CHOICE, log entry 39. -/
def indexObj (l : List AtticObj) (prev : Nat) : AtticObj :=
  (fun last : AtticObj =>
    { kind := 2, epoch := last.epoch, sec := last.sec, info := [l.length, 0, 0, 0, 0, 0, prev], data := l.flatMap indexEntry })
  ((l.filter (fun o => o.kind == 1)).getLastD { kind := 1 })

/-! State and registers. -/

/-- ATTIC_STATUS.STATE: 0 OFF, 1 ADOPTING, 2 RUNNING, 3 LOST, 4 DRAINING. -/
def Device.atticState (d : Device) : Nat := d.get 0x80018 0 3
/-- Stores STATE; DRAINED is 1 in OFF only (R450). -/
def Device.atticTo (d : Device) (st : Nat) : Device := (d.put 0x80018 0 3 st).setBit 0x80018 3 (st == 0)
/-- Updates the hidden state of the Attic. -/
def Device.onAttic (d : Device) (f : AtticSt → AtticSt) : Device := { d with attic := f d.attic }
/-- HEAD, TAIL, LAST_INDEX and RING_END of POSITION. -/
def Device.atticHead (d : Device) : Nat := (d.rd 0x80040).toNat
/-- RING_END. -/
def Device.ringEnd (d : Device) : Nat := (d.rd 0x8004C).toNat

/-- A refusal with a cause (R453, R456). -/
def Device.atticRefuse (d : Device) (cause : Nat) : Device := ((d.inc 0x80078).wr 0x8007C (wd cause)).ev 0x8001C 7

/-- Bytes held in staging. -/
def AtticSt.held (a : AtticSt) : Nat := (a.staging.map (fun s => s.staged - s.freed)).sum
/-- STAGED_BYTES follows the staging. -/
def Device.atticSync (d : Device) : Device := d.wr 0x80074 (wd d.attic.held)

/-- A frame is dropped (R449). -/
def Device.atticDrop (d : Device) : Device :=
  (((d.onAttic (fun a => { a with dropped := a.dropped + 1 })).inc 0x80064).ev 0x8001C 1).raiseSrc 31

/-- Staged frames are discarded and counted (R450).
DESIGN CHOICE, log entry 39. -/
def Device.atticDiscard (d : Device) : Device :=
  (fun n : Nat =>
    ({ (d.onAttic (fun a => { a with staging := [], cmds := [], sinceFlush := 0, reading := false, superWait := false })) with
        pm := { d.pm with toFrame := [] } } : Device).add 0x80064 n |>.atticSync)
  (d.attic.staging.filter (fun s => s.obj.kind == 1)).length

/-! Placement in the ring (R447). -/

/-- The commands R447 asks for before an object is written: the rest of the ring before RING_END is deallocated at a wrap, the header of
each object that is written over is read. -/
def placeCmds (wrap : Bool) (head end_ : Nat) (gone : List AtticObj) : List NvmeCmd :=
  (if wrap && decide (head < end_) then [{ kind := .dealloc head end_ }] else []) ++ gone.map (fun y => { kind := .header y.unit })

/-- The I/O queue is in use (R450). -/
def Device.nvmeRuns (d : Device) : Bool := d.atticState == 2 || d.atticState == 4

/-- An object takes its unit and SEQ at HEAD; older objects make way.
DESIGN CHOICE, log entry 39. -/
def Device.atticPlace (d : Device) (o : AtticObj) : AtticObj × Device :=
  (fun (wrap : Bool) =>
    (fun (start : Nat) (ring : List AtticObj) =>
      (fun x : AtticObj =>
        (fun kept : List AtticObj =>
          (x,
            (((d.onAttic (fun a =>
                { a with
                    ring := kept ++ [x], nextSeq := a.nextSeq + 1, restart := false
                    cmds := a.cmds ++ (if d.nvmeRuns then
                      placeCmds wrap d.atticHead d.ringEnd (ring.filter (fun y => !kept.contains y)) else [])
                    toIndex := if x.kind = 2 then a.toIndex.drop 252 else a.toIndex ++ [x]
                    framesSince := if x.kind = 2 then 0 else a.framesSince + b2n (x.kind == 1)
                    lastMap := if x.kind = 3 then some x.points else a.lastMap })).wr 0x80040 (wd (start + x.units))).wr 0x80044
              (wd ((kept ++ [x]).headD x).unit)).when wrap (·.ev 0x8001C 6)))
        (ring.filter (fun y => !(decide (y.unit < start + o.units) && decide (start < y.unit + y.units)))))
      { o with unit := start, seq := d.attic.nextSeq, flags := o.flags + 4 * b2n d.attic.restart })
    (if wrap then 16 else d.atticHead)
    (if wrap then d.attic.ring.filter (fun y => decide (y.unit < d.atticHead)) else d.attic.ring))
  (decide (d.ringEnd < d.atticHead + o.units))

/-- A placed object as a staging entry, wholly staged unless it is a frame still being built. -/
def placedAs (s : Staged) (x : AtticObj) : Staged := { s with obj := x, placed := true }

/-- Places an index block when one is due (R445). -/
def Device.placeIndex (d : Device) : List Staged × Device :=
  if 60 ≤ d.attic.framesSince ∨ 252 ≤ d.attic.toIndex.length then
    (fun p : AtticObj × Device => ([{ obj := p.1, placed := true }], p.2.wr 0x80048 (wd p.1.unit)))
    (d.atticPlace (indexObj (d.attic.toIndex.take 252) (d.rd 0x80048).toNat))
  else ([], d)

/-- Places the enable map a frame needs (R444), and the index block that it makes due. -/
def Device.placeMap (d : Device) (s : Staged) : List Staged × Device :=
  if d.attic.lastMap = some s.ena then ([], d)
  else
    (fun p : AtticObj × Device =>
      (fun i : List Staged × Device => ({ obj := p.1, ena := s.ena, placed := true } :: i.1, i.2)) p.2.placeIndex)
    (d.atticPlace (mapObj s.ena s.obj.epoch s.obj.sec))

/-- Places every staged frame not yet placed, with the maps and index blocks due. -/
def Device.placeStaged (d : Device) : List Staged → List Staged × Device
  | [] => ([], d)
  | s :: t =>
    if s.placed then (s :: (d.placeStaged t).1, (d.placeStaged t).2)
    else
      (fun m : List Staged × Device =>
        (fun p : AtticObj × Device =>
          (fun i : List Staged × Device =>
            (m.1 ++ [placedAs s p.1] ++ i.1 ++ (i.2.placeStaged t).1, (i.2.placeStaged t).2))
          p.2.placeIndex)
        (m.2.atticPlace s.obj))
      (d.placeMap s)

/-- A deallocation or a header read that must come before the Writes is outstanding (R447). -/
def AtticSt.makingWay (a : AtticSt) : Bool :=
  a.cmds.any (fun c => match c.kind with | .dealloc _ _ => true | .header _ => true | _ => false)

/-- One Write of at most 128 KiB is issued while the queue has room (R436, R447, R448). -/
def AtticSt.issueOne (a : AtticSt) : AtticSt :=
  if 64 ≤ a.cmds.length ∨ a.makingWay = true then a
  else
    match a.staging.find? (fun s => s.placed && decide (s.sent < s.staged)) with
    | none => a
    | some s =>
      { a with
          cmds := a.cmds ++ [{ kind := .write s.obj.seq (min 131072 (s.staged - s.sent)) }]
          staging := a.staging.map (fun x =>
            if x.placed && x.obj.seq == s.obj.seq then { x with sent := x.sent + min 131072 (s.staged - s.sent) } else x) }

/-- MC1 fills the staged objects in their order while the pool has room: a byte queue (R449). -/
def fillStaged : Nat → List Staged → List Staged
  | _, [] => []
  | r, s :: t => { s with staged := s.staged + min r (s.obj.len - s.staged) } :: fillStaged (r - min r (s.obj.len - s.staged)) t

/-- The objects being built take the space that is free in the pool of 2,048 KiB (R31, R449). -/
def Device.frameGrow (d : Device) : Device :=
  if d.cores.mc1Away then d else d.onAttic (fun a => { a with staging := fillStaged (2097152 - a.held) a.staging })

/-- Placement and Writes of what is staged, in RUNNING and DRAINING. -/
def Device.atticIssue (d : Device) : Device :=
  if d.nvmeRuns then
    (fun p : List Staged × Device =>
      (((p.2.onAttic (fun a => { a with staging := p.1 })).frameGrow).onAttic (fun a =>
        (List.range 64).foldl (fun a _ => a.issueOne) a)).atticSync)
    (d.placeStaged d.attic.staging)
  else d.atticSync

/-! Writing and durability (R448, R449). -/

/-- MC1 starts the frame of the next second (R449). -/
def Device.frameBuild (d : Device) : Device :=
  match d.pm.toFrame with
  | [] => d
  | s :: t =>
    if d.cores.mc1Away || !d.atticTakes then d
    else
      (fun (o : AtticObj) (room : Nat) =>
        if (if d.atticState = 2 then decide (1048576 ≤ room) else decide (o.len ≤ room)) then
          (({ d with pm := { d.pm with toFrame := t } } : Device).onAttic (fun a =>
            { a with
                staging := a.staging ++ [{ obj := o, ena := s.attic, staged := if d.atticState = 2 then 0 else o.len }]
                dropped := 0 })).atticIssue
        else d)
      (frameObj s d.attic.dropped) (2097152 - d.attic.held)

/-- A frame not started within 1 s of its commit is dropped (R449). -/
def Device.frameDrop (d : Device) : Device :=
  match d.pm.toFrame with
  | [] => d
  | _ :: t => if d.atticTakes then ({ d with pm := { d.pm with toFrame := t } } : Device).atticDrop else d

/-- The superblock now (R439). -/
def Device.superNow (d : Device) (gen : Nat) : SuperBlk :=
  { gen := gen, serialHi := match d.attic.superA with | some s => s.serialHi | none => Config.serialHi
    serialLo := match d.attic.superA with | some s => s.serialLo | none => Config.serialLo
    lba := if d.bit 0x80018 6 then 4096 else 512, ringEnd := d.ringEnd, head := d.atticHead, tail := (d.rd 0x80044).toNat
    lastIndex := (d.rd 0x80048).toNat, nextSeq := d.attic.nextSeq, durEpoch := d.attic.durEpoch, durSec := d.attic.durSec
    formatted := d.attic.formatted }

/-- A copy of the superblock is on the drive: copies alternate (R440). -/
def AtticSt.putSuper (a : AtticSt) (s : SuperBlk) : AtticSt :=
  match a.superA, a.superB with
  | some x, some y => if x.gen < y.gen then { a with superA := some s } else { a with superB := some s }
  | some _, none => { a with superB := some s }
  | none, _ => { a with superA := some s }

/-- A superblock is on its way to the drive. -/
def AtticSt.superDue (a : AtticSt) : Bool := a.cmds.any (fun c => match c.kind with | .super _ => true | .superFlush => true | _ => false)

/-- GENERATION of the current superblock on the drive (R440, R452). -/
def AtticSt.diskGen (a : AtticSt) : Nat := if a.superDue then (a.kept.map (·.gen)).getD (a.gen - 1) else a.gen

/-- The superblock on its way is durable (R440). -/
def AtticSt.superDone (a : AtticSt) : AtticSt := { a with kept := a.kept.map (fun k => { k with gen := a.diskGen }) }

/-- MC1 builds a superblock, and its Write is issued (R21, R439, R440). -/
def Device.superBuild (d : Device) : Device :=
  d.onAttic (fun a =>
    { a with gen := a.gen + 1, superWait := false, cmds := a.cmds ++ [{ kind := .super (d.superNow (a.gen + 1)) }] })

/-- MC1 is back: the superblock that waited is built (R21, R24). -/
def Device.superLate (d : Device) : Device := if d.attic.superWait && d.nvmeRuns then d.superBuild else d

/-- An object is durable (R448, R452): a frame writes DURABLE; an index block is followed by a superblock, which waits while MC1 is
away. -/
def Device.objDurable (d : Device) (o : AtticObj) : Device :=
  (fun d1 : Device =>
    (fun d2 : Device =>
      if o.kind = 2 then
        if d.cores.mc1Away then d2.onAttic (fun a => { a with superWait := true }) else d2.superBuild
      else if o.kind = 1 then
        ((d2.onAttic (fun a => { a with durEpoch := o.epoch, durSec := o.sec })).wrs 0x80030
          [wd o.sec, wd (o.sec / 2 ^ 32 % 2 ^ 16 + 2 ^ 16 * o.epoch), wd o.seq, 1]).ev 0x8001C 0
      else d2)
    (d1.onAttic (fun a =>
      { a with
          warm := false
          kept := some ⟨o.unit + o.units, (d1.rd 0x80044).toNat, o.seq + 1, a.diskGen, (d1.superNow 0).serialHi,
            (d1.superNow 0).serialLo⟩ })))
  (d.incWrap 0x80060)

/-- A Flush that covers objects up to a byte each has completed. -/
def Device.flushed (d : Device) (covers : List (Nat × Nat)) : Device :=
  (fun l : List Staged =>
    (l.filter (fun s => s.placed && decide (s.obj.len ≤ s.freed))).foldl (fun d s => d.objDurable s.obj)
      (d.onAttic (fun a => { a with staging := l.filter (fun s => !(s.placed && decide (s.obj.len ≤ s.freed))) })))
  (d.attic.staging.map (fun s =>
    match covers.find? (fun c => s.placed && c.1 == s.obj.seq) with
    | some c => { s with freed := max s.freed c.2 }
    | none => s))

/-- A drain has ended when nothing is staged (R450). -/
def Device.drainCheck (d : Device) : Device :=
  if d.atticState = 4 ∧ d.attic.staging = [] then (d.atticTo 0).ev 0x8001C 5 else d

/-- The Flush at a place of the queue, or the Flush of a superblock, completes (R448). -/
def Device.flushAt (d : Device) (i : Nat) : Device :=
  (fun d1 : Device =>
    match d.attic.cmds[i]? with
    | some ⟨.flush covers, _⟩ => (((d1.flushed covers).frameGrow).atticIssue).drainCheck
    | some ⟨.superFlush, _⟩ => d1.onAttic (·.superDone)
    | _ => d1)
  (d.onAttic (fun a => { a with cmds := a.cmds.eraseIdx i }))

/-- The oldest Flush completes. -/
def Device.flushComplete (d : Device) : Device :=
  match d.attic.cmds.findIdx? (fun c => match c.kind with | .flush _ => true | .superFlush => true | _ => false) with
  | none => d
  | some i => d.flushAt i

/-- Bytes of an object are written; a Flush follows each MiB and the end of each object (R448). -/
def AtticSt.written (a : AtticSt) (seq n : Nat) : AtticSt :=
  (fun l : List Staged =>
    if 1048576 ≤ a.sinceFlush + n ∨ l.any (fun s => s.placed && s.obj.seq == seq && decide (s.obj.len ≤ s.done)) then
      { a with
          staging := l, sinceFlush := 0
          cmds := a.cmds ++ [{ kind := .flush ((l.filter (·.placed)).map (fun s => (s.obj.seq, s.done))) }] }
    else { a with staging := l, sinceFlush := a.sinceFlush + n })
  (a.staging.map (fun s => if s.placed && s.obj.seq == seq then { s with done := s.done + n } else s))

/-! Loss (R450). -/

/-- The exports that run end ABANDONED (R397, R454): a reservation nothing was placed behind is returned.
DESIGN CHOICE, log entry 39. -/
def Device.exportLost (d : Device) (r : Nat) : Device :=
  (fun d1 : Device =>
    match d.attic.reserved.find? (fun e => e.1 == r) with
    | none => d1
    | some e =>
      if d1.atticHead = e.2.unit + e.2.units ∧ d1.attic.nextSeq = e.2.seq + 1 then
        (d1.onAttic (fun a =>
          { a with
              nextSeq := e.2.seq, reserved := a.reserved.filter (fun x => x.1 != r)
              ring := a.ring.filter (fun x => x.seq != e.2.seq), toIndex := a.toIndex.filter (fun x => x.seq != e.2.seq) })).wr
          0x80040 (wd e.2.unit)
      else
        d1.onAttic (fun a =>
          { a with
              reserved := a.reserved.filter (fun x => x.1 != r)
              ring := a.ring.map (fun x => if x.seq = e.2.seq then { x with bad := true, data := [] } else x) }))
  (d.free.2.exportEnd r false (d.free.1.toNat % (16 * d.ringMib r + 1)))

/-- Every running export ends ABANDONED. -/
def Device.exportsLost (d : Device) : Device :=
  ((List.range 256).filter (fun r => d.ringSt r == 4)).foldl (fun d r => d.exportLost r) d

/-- The drive is lost: in RUNNING the frames not durable stay staged; in DRAINING they are discarded. -/
def Device.atticLoss (d : Device) (linkDown : Bool) : Device :=
  (fun d1 : Device =>
    if d.atticState = 2 then
      (((((d1.onAttic (fun a =>
        { a with
            cmds := [], sinceFlush := 0, reading := false, superWait := false
            staging := (a.staging.filter (fun s => s.obj.kind == 1)).map (fun s =>
              { s with placed := false, sent := 0, done := 0 }) })).atticTo 3).inc 0x8006C).ev 0x8001C 2).raiseSrc 30).exportsLost.atticSync
    else if d.atticState = 4 then ((d1.atticDiscard).atticTo 0).exportsLost
    else d)
  (d.when linkDown (·.setBit 0x80018 4 false))

/-! SMART (R437). -/

/-- A command leaves the I/O queue. -/
def Device.nvmeTake (d : Device) (i : Nat) : Device := d.onAttic (fun a => { a with cmds := a.cmds.eraseIdx i })

/-- The SMART/health log is read (R437, R455).
DESIGN CHOICE, log entry 39. -/
def Device.smartRead (d : Device) (ws : List Word) : Device :=
  if d.atticState = 2 then
    (fun bad : Bool => ((((d.wrs 0x80050 ws).setBit 0x80018 7 bad).when bad (·.ev 0x8001C 4)).when bad (·.raiseSrc 32)))
    (decide (fld (ws.headD 0) 0 8 ≠ 0))
  else d

/-- A read whose words the drive gives: nothing fixes them.
DESIGN CHOICE, log entry 39. -/
def Device.smartFree (d : Device) : Device :=
  (fun a : Word × Device => (fun b : Word × Device => (fun c : Word × Device => (fun e : Word × Device =>
    e.2.smartRead [a.1 &&& 0xFFFF, b.1, c.1, e.1]) c.2.free) b.2.free) a.2.free) d.free

/-- SMART_NOW, and every 60 s (R437): Get Log Page is issued in RUNNING while the queue has room. -/
def Device.smartAsk (d : Device) : Device :=
  if d.atticState = 2 ∧ d.attic.cmds.length < 64 ∧ d.attic.cmds.all (fun c => c.kind != .log) then
    d.onAttic (fun a => { a with cmds := a.cmds ++ [{ kind := .log }] })
  else d

/-- The log an outstanding Get Log Page brought (R437). -/
def Device.smartPoll (d : Device) (ws : List Word) : Device :=
  match ws with
  | [] => d.smartAsk
  | _ => (d.onAttic (fun a => { a with cmds := a.cmds.filter (fun c => c.kind != .log) })).smartRead ws

/-! The Read of an ATTIC_READ (R453). -/

/-- The Read of an ATTIC_READ that MC0 serves is issued while fewer than 56 commands are outstanding. -/
def Device.readIssue (d : Device) (unit n : Nat) : Device :=
  if d.nvmeRuns && !d.attic.reading && decide (d.attic.cmds.length < 56) && !d.cores.mc0Away then
    d.onAttic (fun a => { a with cmds := a.cmds ++ [{ kind := .read unit n }], reading := true })
  else d

/-- The oldest ATTIC_READ that waits is the one served. -/
def Device.readNext (d : Device) : Device :=
  match d.porch.reads with
  | (_, unit, n, true) :: _ => d.readIssue unit n
  | _ => d

/-- An ATTIC_READ has been answered: its Read has left the queue. -/
def Device.readGone (d : Device) : Device :=
  d.onAttic (fun a => { a with reading := false, cmds := a.cmds.filter (fun c => match c.kind with | .read _ _ => false | _ => true) })

/-- A command of the I/O queue completes (R448), one of the 64 at its front (R436): an error is retried once; the second error loses
the drive. -/
def Device.nvmeComplete (d : Device) (i : Nat) (ok : Bool) : Device :=
  match (d.attic.cmds.take 64)[i]? with
  | none => d
  | some c =>
    if !ok then
      (fun d1 : Device =>
        if c.retried then d1.atticLoss false
        else d1.onAttic (fun a => { a with cmds := a.cmds.set i { c with retried := true } }))
      (d.inc 0x80068)
    else
      match c.kind with
      | .write seq n => ((d.onAttic (fun a => ({ a with cmds := a.cmds.eraseIdx i } : AtticSt).written seq n)).atticIssue).readNext
      | .super s =>
        d.onAttic (fun a => ({ a with cmds := a.cmds.eraseIdx i ++ [{ kind := .superFlush }] } : AtticSt).putSuper s)
      | .flush _ => d.flushAt i
      | .superFlush => d.flushAt i
      | .log => (d.nvmeTake i).smartFree.readNext
      | _ => (d.nvmeTake i).atticIssue.readNext


/-! States and adoption (R450, R451). -/

/-- An adoption starts: MC1 opens its record (R24, R84, R451).
DESIGN CHOICE, log entry 75. -/
def Device.adoptStart (d : Device) (master : Nat) : Status × Device :=
  if d.cores.mc1Away then (.busy, d.porchBusy master)
  else
    match d.opOpen 8 master 6 with
    | (some k, d1) =>
      (.ok, ((d1.onAttic (fun a => { a with op := some k, mode := d1.get 0x80010 1 2, perst := true })).atticTo 1).wr 0x80084 (d1.opId k))
    | (none, d1) => (.busy, d1)

/-- The staged frames and the frames due are given up and the Attic is OFF (R450). -/
def Device.atticOff (d : Device) : Device := d.atticDiscard.atticTo 0

/-- The adoption in progress is abandoned at its next step (R450). -/
def Device.adoptAbandon (d : Device) : Device :=
  match d.attic.op with
  | some k =>
    ((((d.free.2.opSteps k (d.free.1.toNat % 6)).opFail k (d.free.1.toNat % 6)).opClose k .abandoned).onAttic
      (fun a => { a with op := none })).atticOff
  | none => d.atticOff

/-- A write of ATTIC_CFG takes effect (R450, R456).
DEDUCED, log entry 40; DESIGN CHOICE, log entry 75. -/
def Device.atticCfgWrite (d : Device) (master : Nat) (v : Word) : Status × Device :=
  if bitAt v 0 && d.cores.mc1Away then (.busy, d.porchBusy master)
  else if bitAt v 0 && d.atticState == 0 then
    match (d.wr 0x80010 v).adoptStart master with
    | (.ok, d1) => (.ok, d1)
    | (st, d1) => (st, d1.wr 0x80010 (d.rd 0x80010))
  else
    (.ok, (fun d1 : Device =>
      if bitAt v 0 then if d.atticState = 4 then d1.atticTo 2 else d1
      else if d.atticState = 1 then d1.adoptAbandon
      else if d.atticState = 3 then d1.atticOff
      else if d.atticState = 2 then ((({ d1 with pm := { d1.pm with toFrame := [] } } : Device).atticTo 4).exportsLost).drainCheck
      else d1)
    (d.wr 0x80010 v))

/-- A write of ATTIC_CMD takes effect (R437, R454, R456): `smart` is what an immediate SMART read brings. -/
def Device.atticCmd (d : Device) (master : Nat) (v : Word) (smart : Device → Device) : Status × Device :=
  if v = 3 then (.range, d.atticRefuse 2)
  else if v = 1 then if d.atticState = 3 then d.adoptStart master else (.range, d.atticRefuse 1)
  else if v = 2 then (.ok, smart d)
  else (.ok, d)

/-- The objects a forward scan accepts: the next SEQ each, a correct CRC (R451). -/
def scanObjs : Nat → List AtticObj → List AtticObj
  | _, [] => []
  | n, o :: t => if o.seq = n ∧ o.bad = false then o :: scanObjs (n + 1) t else []

/-- The current superblock of a drive (R440). -/
def currentSuper (units : Nat) (l : List SuperBlk) : Option SuperBlk :=
  (l.filter (fun s => decide (s.ringEnd ≤ units))).foldl (fun b s =>
    match b with | none => some s | some x => if x.gen < s.gen then some s else some x) none

/-- The objects of a drive that its current superblock names, oldest first, and those that a scan from its HEAD accepts (R451): what
those were written over is gone. -/
def resumeObjs (s : SuperBlk) (o : DriveObs) : List AtticObj :=
  (fun new : List AtticObj =>
    (fun old : List AtticObj =>
      (if old.any (·.unit == s.tail) then old.dropWhile (fun x => x.unit != s.tail) else old) ++ new)
    (o.objs.filter (fun x =>
      decide (x.seq < s.nextSeq) && !new.any (fun y => decide (y.unit < x.unit + x.units) && decide (x.unit < y.unit + y.units)))))
  (scanObjs s.nextSeq (o.objs.filter (fun x => decide (s.nextSeq ≤ x.seq))))

/-- The position that a warm reset kept, when the current superblock is the one it was kept with (R452). -/
def AtticSt.keptFor (a : AtticSt) (s : SuperBlk) : Option AtticKept :=
  a.kept.filter (fun k => a.warm && k.gen == s.gen && k.serialHi == s.serialHi && k.serialLo == s.serialLo)

/-- The position of a ring resumed: the one kept, or what the scan finds after the superblock's. -/
def resumeAt (s : SuperBlk) (ring : List AtticObj) : AtticKept :=
  match ring.getLast? with
  | some x =>
    if s.nextSeq ≤ x.seq then ⟨x.unit + x.units, (ring.headD x).unit, x.seq + 1, s.gen, s.serialHi, s.serialLo⟩
    else ⟨s.head, s.tail, s.nextSeq, s.gen, s.serialHi, s.serialLo⟩
  | none => ⟨s.head, s.tail, s.nextSeq, s.gen, s.serialHi, s.serialLo⟩

/-- The ring of a drive resumed (R451, R452): the position kept over a warm reset, or the scan. -/
def Device.adoptResume (d : Device) (s : SuperBlk) (o : DriveObs) : Device :=
  (fun (ring : List AtticObj) (k : AtticKept) =>
    ((((((d.onAttic (fun a =>
      { a with
          ring := ring, nextSeq := k.next, gen := s.gen, superA := some s, formatted := s.formatted
          superB := o.copies.find? (fun c => c.gen != s.gen)
          durEpoch := ((ring.filter (·.kind == 1)).getLast?.map (·.epoch)).getD s.durEpoch
          durSec := ((ring.filter (·.kind == 1)).getLast?.map (·.sec)).getD s.durSec
          toIndex := (ring.reverse.takeWhile (fun x => x.kind != 2)).reverse
          framesSince := ((ring.reverse.takeWhile (fun x => x.kind != 2)).filter (fun x => x.kind == 1)).length })).wr 0x80040
      (wd k.head)).wr 0x80044 (wd k.tail)).wr 0x80048
      (wd (((ring.filter (·.kind == 2)).getLast?.map (·.unit)).getD s.lastIndex))).wr 0x8004C (wd s.ringEnd)).setBit 0x80018 8
      (decide (s.serialHi ≠ Config.serialHi) || decide (s.serialLo ≠ Config.serialLo))))
  (match d.attic.keptFor s with
   | some k => o.objs.filter (fun x => decide (x.seq < k.next))
   | none => resumeObjs s o)
  ((d.attic.keptFor s).getD (resumeAt s (resumeObjs s o)))

/-- The ring of a drive formatted (R447, R451).
DESIGN CHOICE, log entry 39. -/
def Device.adoptFormat (d : Device) (units : Nat) : Device :=
  (fun d1 : Device =>
    d1.onAttic (fun a => { a with gen := 2, superB := some (d1.superNow 1), superA := some (d1.superNow 2) }))
  (((((((d.onAttic (fun a =>
      { a with
          ring := [], toIndex := [], framesSince := 0, nextSeq := 0, formatted := d.stamp, superA := none, superB := none
          kept := none })).wr 0x80040 16).wr 0x80044 16).wr 0x80048 0xFFFFFFFF).wr 0x8004C (wd units)).setBit 0x80018 8 false))

/-- Staged frames whose earlier bytes were released are gone: the next frame names them, and what they named, in DROPPED (R449,
R451). Answers those that stay and the count that no frame names yet. -/
def dropGaps : Nat → List Staged → List Staged × Nat
  | g, [] => ([], g)
  | g, s :: t =>
    if 0 < s.freed then dropGaps (g + 1 + s.obj.info.getD 4 0) t
    else
      ((if g = 0 then s
        else { s with obj := { s.obj with flags := s.obj.flags ||| 2, info := s.obj.info.set 4 (s.obj.info.getD 4 0 + g) } }) ::
        (dropGaps 0 t).1, (dropGaps 0 t).2)

/-- Step 4 drops the staged frames that are not whole (R451). -/
def Device.dropBroken (d : Device) : Device :=
  ((d.attic.staging.filter (fun s => decide (0 < s.freed))).foldl (fun d _ => ((d.inc 0x80064).ev 0x8001C 1).raiseSrc 31) d).onAttic
    (fun a => { a with staging := (dropGaps 0 a.staging).1, dropped := a.dropped + (dropGaps 0 a.staging).2 })

/-- A staged frame is complete: MC1 has no more of it to add (R449). -/
def Staged.whole (s : Staged) : Bool := s.staged == s.obj.len

/-- Steps 4 and 5 (R451): the map with RESTART, then the whole staged frames, durable after the Flush. -/
def Device.adoptWrite (d : Device) : Device :=
  (fun d1 : Device =>
    (fun m : List Staged × Device =>
      (fun p : List Staged × Device =>
        ((m.1 ++ p.1).foldl (fun d s => d.objDurable s.obj) (p.2.onAttic (fun a =>
          { a with staging := a.staging.dropWhile Staged.whole }))))
      (m.2.placeStaged (m.2.attic.staging.takeWhile Staged.whole)))
    (d1.placeMap (d1.attic.staging.headD { obj := mapObj [] d1.tod.epoch d1.tod.sec, ena := d1.atticPoints })))
  (d.dropBroken.onAttic (fun a => { a with lastMap := none, restart := true }))

/-- The step at which an adoption fails (R451). -/
def Device.adoptFail (d : Device) (o : DriveObs) (cur : Option SuperBlk) : Option Nat :=
  if !o.link then some 0
  else if !o.meets || decide (o.units < 2097152) then some 1
  else if !o.queues then some 2
  else if d.attic.mode = 0 ∧ cur = none then some 3
  else if !o.writes then some 4
  else if !o.flush then some 5 else none

/-- The steps of an adoption end (R450, R451).
DESIGN CHOICE, log entry 39. -/
def Device.adoptionEnd (d : Device) (o : DriveObs) : Device :=
  match d.attic.op with
  | none => d
  | some k =>
    if d.atticState ≠ 1 then d
    else
      (fun (units : Nat) =>
        (fun (cur : Option SuperBlk) (d1 : Device) =>
          (fun (fail : Option Nat) =>
            (fun d2 : Device =>
              match fail with
              | some i => (((((if 4 ≤ i then d2.dropBroken else d2).opSteps k i).opFail k i).opClose k .abandoned).onAttic (fun a => { a with op := none })).atticTo 3
              | none =>
                ((((((d2.adoptWrite.opSteps k 6).opClose k .ok).onAttic (fun a => { a with op := none })).atticTo 2).ev 0x8001C 3).frameGrow).atticIssue)
            (match fail with
             | some 0 => d1
             | some 1 => d1
             | some 2 => d1
             | some 3 => d1
             | _ =>
               match d.attic.mode, cur with
               | 2, _ => d1.adoptFormat units
               | _, some s => d1.adoptResume s o
               | _, none => d1.adoptFormat units))
          (d.adoptFail o cur))
        ((currentSuper units o.copies).bind (fun s => if s.lba = (if o.lba4k then 4096 else 512) then some s else none))
        (d.when o.link (fun d =>
          ((((d.setBit 0x80018 4 true).put 0x80018 9 2 o.linkGen).put 0x80018 11 2 o.width).setBit 0x80018 6 o.lba4k).setBit
            0x80018 5 (decide (2 ^ 30 < o.units)))))
      (min o.units (2 ^ 30))

/-! Captures and read-back (R397, R446, R453). -/

/-- The capture object of a ring (R441, R446). -/
def Device.captureObj (d : Device) (r k : Nat) : AtticObj :=
  (fun bs : List Byte =>
    { kind := 4, epoch := (d.ring r).epoch, sec := (d.ring r).sec, len := objLen (64 + bs.length), data := bs
      flags := 8 * b2n ((d.ring r).recs.any (fun b => decide (128 ≤ (b.getD 13 0).toNat)))
      info := [r, bs.length, (d.ring r).recs.length, (d.ring r).frozen.toNat, 0, (d.opId k).toNat, crc32c bs] })
  (d.ring r).recs.flatten

/-- A started export reserves its object, or ends ABANDONED (R397, R446).
DESIGN CHOICE, log entry 39. -/
def Device.exportReserve (d : Device) (r : Nat) : Device :=
  match (d.ring r).op with
  | none => d
  | some k =>
    if d.ringSt r ≠ 4 ∨ d.attic.reserved.any (fun e => e.1 == r) = true then d
    else if d.atticState ≠ 2 ∨ (d.ringEnd - 16) * 4096 < 4 * (d.captureObj r k).len then d.exportEnd r false 0
    else
      (fun p : AtticObj × Device =>
        (fun i : List Staged × Device =>
          i.2.onAttic (fun a => { a with reserved := a.reserved ++ [(r, p.1)], staging := a.staging ++ i.1 }))
        p.2.placeIndex)
      (d.atticPlace (d.captureObj r k))

/-- Started exports take their place.
DEDUCED, log entry 37. -/
def Device.exportsReserve (d : Device) : Device := (tabKeys d.cel.rings).foldl (fun d r => d.exportReserve r) d

/-- A record read with an uncorrectable error: header bit [15] set (R393, R398). -/
def recEcc (b : List Byte) : List Byte := b.set 13 (b.getD 13 0 ||| 0x80)

/-- The records of a ring, those read with an uncorrectable error marked (R398). -/
def eccRecs (recs : List (List Byte)) (ecc : List (Nat × Nat)) : List (List Byte) :=
  (recs.zip (List.range recs.length)).map (fun e => if ecc.any (fun x => x.1 == e.2) then recEcc e.1 else e.1)

/-- The reads of an export met uncorrectable errors (R372, R398): each is a record of the ring, oldest first, and its channel; the
object that is exported carries the marked records. -/
def Device.exportEcc (d : Device) (r : Nat) (ecc : List (Nat × Nat)) : Device :=
  if ecc = [] then d
  else
    (fun (o : AtticObj) (d1 : Device) =>
      (fun f : AtticObj → AtticObj =>
        d1.onAttic (fun a => { a with
          ring := a.ring.map f, toIndex := a.toIndex.map f, staging := a.staging.map (fun s => { s with obj := f s.obj }) }))
        (fun x =>
          if d.attic.reserved.any (fun e => e.1 == r && e.2.seq == x.seq) then
            { x with data := o.data, info := o.info, flags := x.flags % 8 + o.flags } else x))
      (((d.setRing r { d.ring r with recs := eccRecs (d.ring r).recs ecc }).captureObj r (((d.ring r).op).getD 0)))
      (ecc.foldl (fun d x => d.celUncorr x.2) d)

/-- A capture object is durable: one that newer durable objects follow moves no position back (R448, R452). -/
def Device.captureDurable (d : Device) (o : AtticObj) : Device :=
  if (d.attic.kept.map (·.next)).getD 0 ≤ o.seq then d.objDurable o else d.incWrap 0x80060

/-- A capture export ends (R397, R446): the object is durable, or the reservation is dealt with under R454. -/
def Device.captureEnd (d : Device) (r : Nat) (ok : Bool) (steps : Nat) : Device :=
  if ok && d.atticState == 2 then
    (fun d1 : Device => match d.attic.reserved.find? (fun e => e.1 == r) with | some e => d1.captureDurable e.2 | none => d1)
      ((d.exportEnd r true steps).onAttic (fun a => { a with reserved := a.reserved.filter (fun x => x.1 != r) }))
  else (d.exportEnd r false steps).onAttic (fun a =>
    { a with
        reserved := a.reserved.filter (fun x => x.1 != r)
        ring := a.ring.map (fun x =>
          if d.attic.reserved.any (fun e => e.1 == r && e.2.seq == x.seq) then { x with bad := true, data := [] } else x) })

/-- The refusal of an ATTIC_READ (R453). -/
def Device.readCause (d : Device) (unit n : Nat) : Option (Status × Nat) :=
  if n = 0 ∨ 64 < n ∨ d.ringEnd < unit + n then some (.range, 3)
  else if d.atticState ≠ 2 then some (.busy, 4) else none

/-- CNT_CLR of the Attic (R455). -/
def Device.atticCntClr (d : Device) : Device := d.zero [0x80064, 0x80068, 0x8006C, 0x80070, 0x80078]

end Sys2Proof.Machine
end

