-- ==== Sys2Proof/Machine/Hall.lean ====
section
/-! DEFINITION. The Hall: connection pages, what an entry delivers, and the page switch (R273 to R304). -/

namespace Sys2Proof.Machine
open Sys2Proof

/-! Page entries (R276 to R280). -/

/-- The active page. -/
def Device.activePage (d : Device) : Nat := d.get 0xC0010 0 1
/-- The base of a page (R276). -/
def pageBase (p : Nat) : Nat := 0x04000000 + 0x00200000 * p
/-- The address of the entry of output `c` (a context number) in a page. -/
def entryAddrOf (p c : Nat) : Nat := if c < 262144 then pageBase p + 4 * c else pageBase p + 0x00100000 + 4 * (c - 262144)
/-- The output an offset inside a page stands for. -/
def entryCtx (off : Nat) : Nat := if off < 0x00100000 then off / 4 else 262144 + (off - 0x00100000) / 4

/-- KIND and SOURCE of an entry (R278). -/
def entryKind (w : Word) : Nat := fld w 0 3
/-- SOURCE of an entry. -/
def entrySource (w : Word) : Nat := fld w 3 18

/-- SOURCE breaks R279 for the KIND and the entry's order. -/
def sourceBad (ho : Bool) (w : Word) : Bool :=
  if entryKind w = 2 then ho && (decide (191 < entrySource w % 256) || decide (2 ^ 14 ≤ entrySource w))
  else if entryKind w = 3 then decide ((if ho then 6143 else 131071) < entrySource w)
  else decide (entrySource w ≠ 0)

/-- The cause that refuses a page entry write, the lowest that applies (R280, R701). -/
def Device.pageCause (d : Device) (p c : Nat) (w : Word) : Option Nat :=
  if decide (4 < entryKind w) || decide (fld w 21 11 ≠ 0) then some 1
  else if sourceBad (decide (262144 ≤ c)) w then some 2
  else if p = d.activePage then some 3
  else if d.hall.sw.isSome then some 4 else none

/-- A write of a page entry is judged and taken (R280, R301). -/
def Device.pageWrite (d : Device) (p off : Nat) (v : Word) : Status × Device :=
  (fun c : Nat =>
    match d.pageCause p c v with
    | some k =>
      (.range, ((d.inc 0xC007C).wr 0xC0080 (wd (k + 2 ^ 4 * (if c < 262144 then c else c - 262144) + 2 ^ 24 * b2n (decide (262144 ≤ c))
        + 2 ^ 25 * p))).ev 0xC0014 2)
    | none => (.ok, (d.wr (pageBase p + off) v).setBit 0xC0068 p false))
  (entryCtx off)

/-! What an entry delivers (R281 to R286). -/

/-- The source context of a DIRECT entry (R279). -/
def directCtx (ho : Bool) (w : Word) : Nat :=
  if ho then hoCtx (192 * (entrySource w / 256) + entrySource w % 256) else entrySource w

/-- The source context of a DIRECT or SELECTOR entry; none while the selector is off or has no such member. -/
def Device.entryFrom (d : Device) (ho : Bool) (w : Word) : Option Nat :=
  if entryKind w = 2 then some (directCtx ho w) else d.selMember (if ho then 131072 + entrySource w else entrySource w)

/-- The context is named as a source while its group or tributary is enabled and not draining (R284): a member's head counts. -/
def Device.srcCompared (d : Device) (c : Nat) : Bool :=
  if c < 262144 then d.tcEna c
  else match (d.ho (c - 262144)).claim with | some g => d.hoEna g | none => d.hoEna (c - 262144)

/-- The source's type differs from the output's, or it is a claimed member (R284); a source disabled or draining is not compared. -/
def Device.srcMismatch (d : Device) (out src : Nat) : Bool :=
  d.srcCompared src &&
    ((decide (262144 ≤ src) && (d.ho (src - 262144)).claim.isSome) || decide (d.ctxType src ≠ d.ctxType out))

/-- The place in the frame store that an entry with source `s` reads: of a selector served from its pair's line, the line's (R386). -/
def Device.sourceKey (d : Device) (ho : Bool) (w : Word) (s : Nat) : Nat :=
  if entryKind w = 3 && d.lineServes (if ho then 131072 + entrySource w else entrySource w) then
    lineKey (if ho then 131072 + entrySource w else entrySource w)
  else s

/-- The container an entry with source `s` reads from the half that the outputs read: AIS when no bytes stand there (R273, R283). -/
def Device.sourceCell (d : Device) (ho : Bool) (w : Word) (s : Nat) : Cell := tabGet {} d.hall.rd (d.sourceKey ho w s)

/-- What an output receives, and whether its entry mismatches (R282 to R284, R323). -/
def Device.deliver (d : Device) (out : Nat) (w : Word) : Content × Bool :=
  if entryKind w = 0 then (.unequipped, false)
  else if entryKind w = 1 then (.ais, false)
  else if entryKind w = 4 then (.test, false)
  else
    match d.entryFrom (decide (262144 ≤ out)) w with
    | none => (.ais, false)
    | some s =>
      if d.srcMismatch out s then (.ais, true)
      else if (d.sourceCell (decide (262144 ≤ out)) w s).bytes = [] then (.ais, false) else (.source s, false)

/-- The slice that owns an entry (R277). -/
def Device.entryOwner (d : Device) (c : Nat) : Nat := if c < 262144 then sliceOfLane (d.tcLane c) else (c - 262144) / 768

/-- Byte `i` of a container of output `c` is path overhead (R286). -/
def Device.pohByte (d : Device) (c i : Nat) : Bool :=
  if c < 262144 ∧ d.tcType c ≠ 3 then decide (i % (ctypeBytes (d.ctxCtype c) / 4) = 0) else decide (i % (ctypeBytes (d.ctxCtype c) / 9) = 0)

/-- The test pattern's container of an output, and the state behind it (R286). -/
def Device.testFill (d : Device) (c prbs : Nat) : List Byte × Nat := prbsFill (d.pohByte c) (ctypeBytes (d.ctxCtype c)) prbs

/-- The bytes an output receives for a pointer period (R282, R286). -/
def Device.outBytes (d : Device) (c : Nat) (w : Word) (ct : Content) (prbs : Nat) : List Byte :=
  match ct with
  | .unequipped => List.replicate (ctypeBytes (d.ctxCtype c)) 0
  | .test => (d.testFill c prbs).1
  | .source s => (d.sourceCell (decide (262144 ≤ c)) w s).bytes
  | _ => []

/-- AIS in place of what an output receives, while a read of the page or of the frame store fails (R275, R287). -/
def aisWhen (bad : Bool) (c : Content) : Content := if bad then .ais else c

/-- Uncorrectable errors that reads for the outputs meet at a boundary: of the frame store, of the active page (R275, R287). -/
structure HallErr where
  store : List Nat := []
  page : List Nat := []
  deriving DecidableEq, Repr

/-- The content of a source is what the frame store holds. -/
def fromStore : Content → Bool | .source _ => true | _ => false

/-- An output at the beginning of a pointer period (R282, R286, R295, R296): a changed word restarts the test pattern.
DESIGN CHOICE, log entry 31. -/
def Device.outNext (d : Device) (e : HallErr) (c : Nat) (o : OutSt) : OutSt :=
  (fun (w : Word) (x : Content × Bool) (prbs : Nat) =>
    if d.outUsed c then
      { entry := w, mis := x.2, bad := e.page.contains c
        content := aisWhen (e.page.contains c || (fromStore x.1 && e.store.contains c)) x.1
        prbs := if x.1 = .test then (d.testFill c prbs).2 else prbs
        bytes := d.outBytes c w x.1 prbs
        mark := match x.1 with | .source s => (d.sourceCell (decide (262144 ≤ c)) w s).mark | _ => 0 }
    else { entry := w })
  (d.rd (entryAddrOf d.activePage c)) (d.deliver c (d.rd (entryAddrOf d.activePage c)))
  (if o.entry = d.rd (entryAddrOf d.activePage c) then o.prbs else 0)

/-- An output inside a pointer period of several frames: a source that stops, or a read that fails, gives AIS at once (R275, R300). -/
def Device.outGoesOn (d : Device) (e : HallErr) (c : Nat) (o : OutSt) : OutSt :=
  if d.outUsed c then
    (fun x : Content =>
      { o with content := aisWhen (o.bad || (fromStore x && (o.bytes.isEmpty || e.store.contains c))) x })
    (d.deliver c o.entry).1
  else o

/-- A high-order output at a system frame boundary; a change of source brings a new pointer (R190, R296). -/
def Device.hoOut (e : HallErr) (d : Device) (h : Nat) : Device :=
  if d.sliceHeld (d.entryOwner (hoCtx h)) then d
  else
    (fun o : OutSt =>
      (d.hoTxStop h).onHo h (fun x => { x with
        out := o, gen := if x.out.entry = o.entry then x.gen else { x.gen with newPtr := true } }))
    (d.outNext e (hoCtx h) (d.ho h).out)

/-- A pointer period of a low-order output begins at this boundary: of a TU3 at every one, of the other types at a phase-0 one (R295). -/
def Device.tcBegins (d : Device) (k : Nat) : Bool := d.tcType k == 3 || decide ((d.rd 0xC001C).toNat % 4 = 0)

/-- A low-order output at a system frame boundary (R236, R264, R295, R296). -/
def Device.tcOut (e : HallErr) (d : Device) (k : Nat) : Device :=
  if d.sliceHeld (d.entryOwner k) then d
  else if d.tcBegins k then
    (fun (o : OutSt) (old : Word) =>
      ((d.tcTxStop k).onTc k (fun x => { x with
        out := o, gen := if x.out.entry = o.entry then x.gen else { x.gen with newPtr := true } })).when
        (decide (old ≠ o.entry)) (·.rtRestart k))
    (d.outNext e k (d.tc k).out) (d.tc k).out.entry
  else d.onTc k (fun x => { x with out := d.outGoesOn e k x.out })

/-- The used owned entries of slice `s` that mismatch now, in entry order (R304). -/
def Device.misList (d : Device) (s : Nat) : List Nat :=
  ((d.tcs.filter (fun e => e.2.out.mis)).map (·.1) ++ (d.hos.filter (fun e => e.2.out.mis)).map (fun e => hoCtx e.1)).filter
    (fun c => d.entryOwner c == s)

/-- Every output at a system frame boundary; a slice whose mismatch count rises from 0 sets MISMATCH (R284). -/
def Device.outputs (d : Device) (e : HallErr) : Device :=
  (fun d1 : Device =>
    d1.when ((List.range 16).any (fun s => (d.misList s).isEmpty && !(d1.misList s).isEmpty)) (·.ev 0xC0014 4))
  ((tabKeys d.tcs).foldl (Device.tcOut e) ((tabKeys d.hos).foldl (Device.hoOut e) d))

/-- The halves of the frame store exchange (R20, R274): what this frame wrote is read in the next; a container that spans several frames
stays readable until its successor. -/
def Device.storeTurn (d : Device) : Device := { d with hall := { d.hall with rd := d.hall.wr } }

/-- The uncorrectable errors of the reads are counted, each found in an evaluation slot of its own (R275, R287, R556).
DESIGN CHOICE, log entry 91. -/
def Device.hallErrors (d : Device) (e : HallErr) : Device :=
  (d.raiseSlots (e.store.map (fun _ => [{ src := 10 }]))).raiseSlots
    (e.page.map (fun c => [{ src := 14, addr := entryAddrOf d.activePage c }]))

/-! The page CRC (R291). -/

/-- The entries of a page in the order of R291, as bytes. -/
def Device.pageBytes (d : Device) (p : Nat) : List Byte :=
  (List.range 274432).flatMap (fun c => wordBytesLE (d.rd (entryAddrOf p c)))

/-- The page CRC. -/
def Device.pageCrc (d : Device) (p : Nat) : Word := wd (crc32c (d.pageBytes p))

/-! Outcomes (R290, R297, R303). -/

/-- The slices that are ready (R293). -/
def Device.readyMask (d : Device) : Nat :=
  ((List.range 16).filter (fun s => d.hall.passed.contains s && !d.sliceHeld s)).foldl (fun a s => a + 2 ^ s) 0

/-- Stores the pending switch. -/
def Device.setSw (d : Device) (w : Option HallSw) : Device := { d with hall := { d.hall with sw := w } }

/-- DETAIL of a switch (R290): the ready bitmap, its flags, the active page, the boundaries waited. -/
def hallDetail (ready flags page waited : Nat) : Word := wd (ready + flags + 2 ^ 21 * page + 2 ^ 24 * min 255 waited)

/-- SWITCH_LAST and SWITCH_TS are written (R303); `frame` is the system frame of the outcome. -/
def Device.switchLast (d : Device) (op : Nat) (st : Status) (ready waited : Nat) (detail frame : Word) : Device :=
  (d.wrs 0xC0040 [wd (st.code + 16 + 2 ^ 8 * min 255 waited + 2 ^ 16 * ready), detail, d.opId op, frame]).wrStamp 0xC0050

/-- An outcome waits for MC0 to write the record. -/
def Device.hallOutcome (d : Device) (o : HallOut) : Device := { d with hall := { d.hall with outcomes := d.hall.outcomes ++ [o] } }

/-- A switch is abandoned (R297). -/
def Device.hallAbandon (d : Device) (w : HallSw) (flags fail ready waited : Nat) (frame : Word) : Device :=
  (fun detail : Word =>
    ((((d.setSw none).inc 0xC0074).ev 0xC0014 1).switchLast w.op .abandoned ready waited detail frame).hallOutcome
      ⟨w.op, true, some fail, detail⟩)
  (hallDetail ready flags d.activePage waited)

/-- The boundary kind of a switch counts this system frame (R288). -/
def kindCounts (cfg frame : Word) : Bool :=
  if fld cfg 0 2 = 1 || (fld cfg 0 2 = 2 && bitAt cfg 2) then decide (frame.toNat % 4 = 0) else true

/-- The committed switch is complete (R295, R297). -/
def Device.hallComplete (d : Device) (w : HallSw) (detail : Word) : Device :=
  ((((d.setSw none).opSteps w.op 2).inc 0xC0070).ev 0xC0014 0).hallOutcome ⟨w.op, false, none, detail⟩

/-- The pages are exchanged at the committing boundary (R294, R295). -/
def Device.hallCommit (d : Device) (w : HallSw) : Device :=
  (fun (d1 : Device) (phase0 : Bool) =>
    (fun detail : Word =>
      (fun d2 : Device =>
        if phase0 then d2.hallComplete w detail else d2.setSw (some { w with committing := false, deferred := true, detail := detail }))
      (d1.switchLast w.op .ok w.ready w.waited detail (d1.rd 0xC001C)))
    (hallDetail w.ready (if phase0 then 0 else 2 ^ 20) w.page w.waited))
  ({ d.put 0xC0010 0 1 w.page with hall := { d.hall with lastCommit := (d.rd 0xC001C).toNat } } : Device)
  (decide ((d.rd 0xC001C).toNat % 4 = 0))

/-- The pending switch at a system frame boundary: the last one that R288 allows ends it when no sample came before.
DESIGN CHOICE, log entry 31. -/
def Device.hallBoundary (d : Device) : Device :=
  match d.hall.sw with
  | none => d
  | some w =>
    (fun w1 : HallSw =>
      if w1.committing then d.hallCommit w1
      else if w1.deferred then
        (if (d.rd 0xC001C).toNat % 4 = 0 then d.hallComplete w1 w1.detail else d.setSw (some w1))
      else if fld w1.cfg 0 2 ≠ 2 ∧ fld w1.cfg 8 5 ≤ w1.waited then
        d.hallAbandon w1 (2 ^ 18) 1 w1.ready w1.waited (d.rd 0xC001C)
      else d.setSw (some w1))
    (if kindCounts w.cfg (d.rd 0xC001C) && !w.deferred then { w with waited := w.waited + 1 } else w)

/-- The Hall at a system frame boundary (R274).
DESIGN CHOICE, log entry 31. -/
def Device.sysFrame (d : Device) (e : HallErr) : Device := (((d.incWrap 0xC001C).hallBoundary.storeTurn).outputs e).hallErrors e

/-! GO and CANCEL (R289, R290, R298). -/

/-- A refused GO (R289). -/
def Device.goRefuse (d : Device) (cause : Nat) : Device := ((d.inc 0xC0078).wr 0xC0080 (wd cause)).ev 0xC0014 3

/-- SWITCH_TIME minus the time of day, in nanoseconds (R289). -/
def Device.switchAhead (d : Device) : Int :=
  timeDiff ((d.rd 0xC0034).toNat + 2 ^ 32 * d.get 0xC0038 0 16) (d.get 0xC0030 0 30) d.tod.sec d.tod.ns

/-- BOUNDARY is TOD and SWITCH_TIME lies out of range (R289). -/
def Device.todRange (d : Device) : Bool :=
  d.get 0xC0020 0 2 == 2 && (decide (d.switchAhead < 1000000) || decide (3600000000000 < d.switchAhead))

/-- An accepted GO (R290 to R293). -/
def Device.goTake (d : Device) (k : Nat) : Device :=
  (List.range 16).foldl (fun d s => d.wr (sliceBase s + 0x700) 0)
    ({ (d.put 0xC0010 2 2 0) with hall := { d.hall with
        sw := some { cfg := d.rd 0xC0020, sec := (d.rd 0xC0034).toNat + 2 ^ 32 * d.get 0xC0038 0 16, ns := d.get 0xC0030 0 30
                     crc := d.rd 0xC0028, op := k, page := 1 - d.activePage
                     missed := (List.range 16).filter d.sliceHeld }
        passed := [] } } : Device)

/-- A write of GO (R289, R290, R539). -/
def Device.hallGo (d : Device) (master : Nat) : Status × Device :=
  if d.hall.sw.isSome then (.range, d.goRefuse 5)
  else if d.todRange then (.range, d.goRefuse 6)
  else if d.cores.mc0Away then (.busy, (d.goRefuse 7).porchBusy master)
  else
    match d.opOpen 1 master 2 with
    | (some k, d1) => (.ok, d1.goTake k)
    | (none, d1) => (.busy, d1.goRefuse 7)

/-- A write of CANCEL (R298): no effect after the sample that commits. -/
def Device.hallCancel (d : Device) : Device :=
  match d.hall.sw with
  | none => d
  | some w =>
    if w.committing || w.deferred then d
    else d.hallAbandon w (2 ^ 19) (min 1 (d.rd (oprecBase w.op + 0xC)).toNat) w.ready w.waited (d.rd 0xC001C)

/-- A write of SWITCH_CMD (R289, R298, R301, R539). -/
def Device.switchCmd (d : Device) (master : Nat) (v : Word) : Status × Device :=
  if v = 3 then (.range, d)
  else if v = 0 then (.ok, d)
  else if d.standby then (.unsupported, d.pwRefuse 4)
  else if v = 1 then d.hallGo master
  else if v = 2 then (.ok, d.hallCancel)
  else (.range, d)

/-! Prepare pass (R291 to R293). -/

/-- The uncorrectable entries, in entry order, that slice `s` owns. -/
def Device.eccOwned (d : Device) (s : Nat) (ecc : List Nat) : List Nat := ecc.filter (fun c => d.entryOwner c == s)

/-- One slice ends its pass with CRC `crc` (R292, R304). -/
def Device.slicePass (d : Device) (s : Nat) (crc expct : Word) (ecc : List Nat) : Device :=
  (fun (bad : List Nat) (d1 : Device) =>
    if crc = expct ∧ bad = [] then { d1 with hall := { d1.hall with passed := d1.hall.passed ++ [s] } } else d1)
  (d.eccOwned s ecc)
  (((d.wr (sliceBase s + 0x700) (wd (1 + 2 * b2n (crc == expct && (d.eccOwned s ecc).isEmpty) + 4 * b2n (!(d.eccOwned s ecc).isEmpty)
      + 8 * b2n (crc != expct)))).wr (sliceBase s + 0x704) crc).wr (sliceBase s + 0x708)
    (match d.eccOwned s ecc with
     | [] => 0
     | c :: _ => wd ((if c < 262144 then c else c - 262144) + 2 ^ 18 * b2n (decide (262144 ≤ c)) + 2 ^ 31)))

/-- The entries of a pass by the evaluation slot that reads them: four entries in a core clock, 18 core clocks in a slot of 40 ns, the
first slot with the pass (R291, R556).
DESIGN CHOICE, log entry 91. -/
def passSlots (ecc : List Nat) : List (List Nat) := ecc.splitBy (fun a b => a / 72 == b / 72)

/-- A pass of the given slices ends (R292, R293): any failure abandons the switch at once, and each uncorrectable error is counted. -/
def Device.passEnd (d : Device) (w : HallSw) (slices ecc : List Nat) : Device :=
  (fun (crc : Word) =>
    (fun d1 : Device =>
      (fun (crcBad eccBad : Bool) =>
        if crcBad || eccBad then
          (d1.setBit 0xC0010 3 true).hallAbandon w (2 ^ 16 * b2n crcBad + 2 ^ 17 * b2n eccBad) 0 d1.readyMask w.waited (d1.rd 0xC001C)
        else if (List.range 16).all (fun s => d1.hall.passed.contains s) then d1.opSteps w.op 1 else d1)
      (crc != w.crc) (slices.any (fun s => !(d.eccOwned s ecc).isEmpty)))
    (Device.raiseSlots (slices.foldl (fun d s => d.slicePass s crc w.crc ecc)
        ((((d.setBit 0xC0010 2 true).wr (0xC0060 + 4 * w.page) crc).setBit 0xC0068 w.page true)))
      ((passSlots ecc).map (·.map (fun c => { src := 14, addr := entryAddrOf w.page c })))))
  (d.pageCrc w.page)

/-- The entries among `ecc` that slices of the pass own: each slice checks its own (R277, R291). -/
def Device.eccSeen (d : Device) (slices ecc : List Nat) : List Nat := ecc.filter (fun c => slices.contains (d.entryOwner c))

/-- The prepare pass ends (R291, R292) for every slice no reset took out of it; `ecc` lists the entries that met an uncorrectable
error, in entry order. -/
def Device.prepareEnd (d : Device) (ecc : List Nat) : Device :=
  match d.hall.sw with
  | some w =>
    if d.bit 0xC0010 2 then d
    else
      (fun slices : List Nat => d.passEnd w slices (d.eccSeen slices ecc))
      ((List.range 16).filter (fun s => !w.missed.contains s && !d.sliceHeld s))
  | none => d

/-- A slice that left an ISOLATE reset ends its own pass (R293). -/
def Device.slicePrepareEnd (d : Device) (s : Nat) (ecc : List Nat) : Device :=
  match d.hall.sw with
  | some w =>
    if w.committing || w.deferred || d.sliceHeld s || d.hall.passed.contains s || !w.missed.contains s then d
    else d.passEnd w [s] (d.eccOwned s ecc)
  | none => d

/-- A slice held in reset has lost its pass, and runs one of its own (R293). -/
def Device.hallSliceLost (d : Device) (s : Nat) : Device :=
  { (d.setBit (sliceBase s + 0x700) 1 false) with hall := { d.hall with
      passed := d.hall.passed.filter (· != s)
      sw := d.hall.sw.map (fun w => { w with missed := if w.missed.contains s then w.missed else w.missed ++ [s] }) } }

/-! The sample (R294). -/

/-- R288 allows the next system frame boundary. -/
def Device.boundaryAllowed (d : Device) (w : HallSw) : Bool :=
  kindCounts w.cfg (d.rd 0xC001C + 1) &&
    (fld w.cfg 0 2 != 2 || decide (0 ≤ timeDiff d.tod.sec (d.tod.ns + 142) w.sec w.ns))

/-- The sample 64 core clocks before a boundary: commit, wait or abandon.
DESIGN CHOICE, log entry 31. -/
def Device.readySample (d : Device) : Device :=
  match d.hall.sw with
  | none => d
  | some w =>
    if w.committing || w.deferred || !d.boundaryAllowed w then d
    else if d.readyMask = 0xFFFF then d.setSw (some { w with committing := true, ready := 0xFFFF })
    else if fld w.cfg 0 2 = 2 ∨ fld w.cfg 8 5 ≤ w.waited + 1 then
      d.hallAbandon w (2 ^ 18) 1 d.readyMask (w.waited + 1) (d.rd 0xC001C + 1)
    else d.setSw (some { w with ready := d.readyMask })

/-- MC0 writes the oldest waiting outcome into its record (R290). -/
def Device.hallOprec (d : Device) : Device :=
  match d.hall.outcomes with
  | [] => d
  | o :: t =>
    if d.cores.mc0Away then d
    else
      (fun d1 : Device => ((match o.fail with | some i => d1.opFail o.op i | none => d1).opDetail o.op o.detail.toNat).opClose o.op
        (if o.abandoned then .abandoned else .ok))
      { d with hall := { d.hall with outcomes := t } }

/-- The Hall counters clear (R301). -/
def Device.hallCntClr (d : Device) : Device := d.zero [0xC0070, 0xC0074, 0xC0078, 0xC007C]

/-! Register views (R301, R304). -/

/-- HALL_STATUS. -/
def Device.hallStatus (d : Device) : Word :=
  wd (d.get 0xC0010 0 1 + 2 * b2n d.hall.sw.isSome + 4 * d.get 0xC0010 2 2
    + 16 * b2n (match d.hall.sw with | some w => w.deferred | none => false) + 2 ^ 16 * d.readyMask)

/-- HALL_OWNED of slice `s`. -/
def Device.hallOwned (d : Device) (s : Nat) : Nat :=
  (fun moved : List Word =>
    768 + (if s = 0 then 262144 - moved.length else 0) + (moved.filter (fun w => fld w 4 6 / 4 == s)).length)
  ((d.regs.filter (fun e => match locOf e.1 with | some ⟨.tc, _, 0⟩ => true | _ => false)).map (·.2))

/-- HALL_MISMATCH_FIRST of slice `s`. -/
def Device.misFirst (d : Device) (s : Nat) : Word :=
  match d.misList s with
  | [] => 0
  | c :: _ => wd ((if c < 262144 then c else c - 262144) + 2 ^ 18 * b2n (decide (262144 ≤ c)) + 2 ^ 31)

end Sys2Proof.Machine
end

