-- ==== Sys2Proof/Machine/PartyWall.lean ====
section
/-! DEFINITION. The Party Wall: the link, the role and the lease, mirroring, digests, fitness, the bulk resync and the
handover (R523 to R551). -/

namespace Sys2Proof.Machine
open Sys2Proof

/-! Basics. -/

/-- Updates the hidden state of the Party Wall. -/
def Device.onPw (d : Device) (f : PwSt → PwSt) : Device := { d with pw := f d.pw }
/-- ROLE (R529): 0 STANDBY_PENDING, 1 STANDBY, 2 ACTIVE. -/
def Device.pwRole (d : Device) : Nat := d.get 0x70014 0 2
/-- Stores a new role (R530). -/
def Device.pwTo (d : Device) (role : Nat) : Device := (d.put 0x70014 0 2 role).ev 0x70018 0
/-- STRAP_SIDE: true for side B. -/
def Device.pwSide (d : Device) : Bool := d.bit 0x1C 0
/-- PW_CFG.AUTO_RESYNC. -/
def Device.autoResync (d : Device) : Bool := d.bit 0x70010 8
/-- The management cycle: SYSFRAME / 16 (R526). -/
def Device.pwCycle (d : Device) : Nat := (d.rd 0xC001C).toNat / 16
/-- Milliseconds in Hearth clocks. -/
def ms (n : Nat) : Nat := n * clocksPerMs

/-- The messages that carry a SEQ (R526). -/
def pwCounted : PwBody → Bool
  | .delta _ => true
  | .pmSnap _ _ => true
  | .bulkData _ _ _ => true
  | _ => false

/-- The messages of a bulk transfer (R545). -/
def pwBulkPart : PwBody → Bool
  | .bulkData _ _ _ => true
  | .bulkEnd _ _ => true
  | _ => false

/-- Sends a message (R526). -/
def Device.pwSend (d : Device) (last : Bool) (b : PwBody) : Device :=
  (fun seq : Nat =>
    d.onPw (fun p =>
      { p with
          txSeq := if pwCounted b then seq else p.txSeq
          out := p.out ++ [⟨last, d.pwSide, d.acting, if pwCounted b then seq else 0, d.pwCycle, b⟩] }))
  ((d.pw.txSeq + 1) % 2 ^ 32)

/-- A command of the Party Wall begins: what earlier ones sent is gone. -/
def Device.pwBegin (d : Device) : Device := d.onPw (fun p => { p with out := [] })

/-! Fitness and the bulk request (R544, R546). -/

/-- A STANDBY device becomes UNFIT for a cause (R544). -/
def Device.pwUnfit (d : Device) (cause : Nat) : Device :=
  if d.pwRole = 1 then (d.onPw (fun p => { p with fit := false, unfit := cause, spoiled := true })).when d.pw.fit (·.ev 0x70018 5)
  else d

/-- A transfer in progress ends ABANDONED (R546). -/
def Device.pwBulkDrop (d : Device) : Device :=
  if d.pw.bulk then
    (match d.pw.op with | some k => d.opClose k .abandoned | none => d).onPw (fun p =>
      { p with
          bulk := false, op := none, image := [], carried := [], queued := [], spoiled := true
          held := p.held.filter (fun e => !pwBulkPart e.2.body) })
  else d

/-- Sends BULK_REQ under a new record (R546, R550).
DEDUCED, log entry 47. -/
def Device.pwBulkReq (d : Device) (origin : Nat) : Status × Device :=
  match d.pwBulkDrop.opOpen 7 origin 389 with
  | (some k, d1) =>
    (.ok, (((d1.wr 0x70068 (d1.opId k)).onPw (fun p =>
      { p with bulk := true, op := some k, image := [], carried := [], queued := [], reqDue := false })).pwUnfit 3).pwSend false .bulkReq)
  | (none, d1) => (.busy, d1)

/-- A transfer is asked for by the device itself when AUTO_RESYNC is 1: with the link down, once it is up. -/
def Device.pwAuto (d : Device) : Device :=
  if d.autoResync && d.pwRole == 1 then
    (if d.pw.up then (d.pwBulkReq 5).2 else d.onPw (fun p => { p with reqDue := true }))
  else d

/-! The link (R525 to R528). -/

/-- Valid messages arrive: after 16 in succession the link is up.
DEDUCED, log entry 47. -/
def Device.pwHear (d : Device) (n : Nat) : Device :=
  (fun d1 : Device =>
    if !d1.pw.up && decide (16 ≤ d1.pw.good) then
      (fun d2 : Device => if d2.pw.reqDue then d2.pwAuto else d2) (d1.onPw (fun p => { p with up := true }))
    else d1)
  (d.onPw (fun p => { p with good := min 16 (p.good + n) }))

/-- The SEQ of a counted message: a gap is counted (R528, R544, R546). -/
def Device.pwSeq (d : Device) (seq : Nat) : Device :=
  (fun d1 : Device =>
    match d.pw.rxSeq with
    | some s =>
      if seq = (s + 1) % 2 ^ 32 then d1
      else (((((d1.inc 0x70054).raiseSrc 28).onPw (fun p => { p with snapGap := true })).pwBulkDrop).pwUnfit 2).pwAuto
    | none => d1)
  (d.onPw (fun p => { p with rxSeq := some seq }))

/-- 1 ms without a valid message: the link goes down (R525, R536, R544, R546). -/
def Device.pwLinkDown (d : Device) : Device :=
  if d.pw.up then
    (fun d1 : Device =>
      (((if d.pw.aligned then d1.pwUnfit 4 else d1).pwBulkDrop).pwUnfit 2).pwAuto)
    (((d.onPw (fun p => { p with up := false, good := 0, aligned := false, alignRun := 0, mateStandby := false })).ev 0x70018 6).raiseSrc 28)
  else d

/-- An IDLE message after 100 us of silence (R525). -/
def Device.pwIdle (d : Device) : Device := d.pwBegin.pwSend false .idle

/-! Claim and stop (R530, R533, R534, R540). -/

/-- A mirrored pending TOD switch starts afresh with its own record (R540).
DEDUCED, log entry 49. -/
def Device.hallRestart (d : Device) (cfg : Word) (sec ns : Nat) (crc : Word) : Device :=
  (fun ahead : Int =>
    if d.hall.sw.isSome then d.goRefuse 5
    else if ahead < 1000000 ∨ 3600000000000 < ahead then d.goRefuse 6
    else if d.cores.mc0Away then d.goRefuse 7
    else
      match d.opOpen 1 5 2 with
      | (some k, d1) =>
        (d1.goTake k).setSw (some {
          cfg := cfg, sec := sec, ns := ns, crc := crc, op := k, page := 1 - d1.activePage
          missed := (List.range 16).filter d1.sliceHeld })
      | (none, d1) => d1.goRefuse 7)
  (timeDiff sec ns d.tod.sec d.tod.ns)

/-- The Hall of a device that claims (R540).
DEDUCED, log entry 49. -/
def Device.hallClaim (d : Device) : Device :=
  match d.pw.mirHall with
  | some ⟨_, _, .hall page pending cfg sec ns crc _⟩ =>
    (fun d1 : Device =>
      if !pending then d1
      else if fld cfg 0 2 = 2 then d1.hallRestart cfg sec ns crc
      else d1.ev 0x70018 10)
    (d.put 0xC0010 0 1 page)
  | _ => d

/-- Microseconds since the last LEASE (R550): open when none has been received. -/
def Device.sinceLease (d : Device) : Word × Device :=
  if d.pw.leased then (wd ((d.uptime - d.pw.rxAt) / 200), d) else d.free

/-- A claim (R533): cause 0 lease expired, 1 RELEASE, 2 start-up.
DEDUCED, log entry 46. -/
def Device.pwClaim (d : Device) (cause : Nat) : Device :=
  (fun p : Word × Device =>
    (((((p.2.pwTo 2).ev 0x70018 2).inc 0x70038).wrs 0x70070 [wd cause, p.2.pw.rxNum, p.1, 0]).wrStamp 0x70080
      |>.onPw (fun x =>
        { x with
            actOut := true, stopping := none, established := false, sent := [], snap := [], snapGap := false, held := [], released := false
            fit := false, unfit := 0, mateStandby := false, follow := false, aligned := false, alignRun := 0
            lowAt := none, reqDue := false })).hallClaim)
  d.pwBulkDrop.sinceLease

/-- The device may claim (R530, R561).
DEDUCED, log entry 46. -/
def Device.pwTry (d : Device) : Device :=
  if d.pwRole = 2 ∨ d.pw.actIn = true ∨ d.fc.safe = true then d
  else if d.pwRole = 1 ∧ d.pw.released = true then d.pwClaim 1
  else if d.pw.guardDone then d.pwClaim (if d.pwRole = 0 then 2 else 0)
  else d

/-- The device stops acting (R534): its lanes end their frames; `release` sends RELEASE when they are idle.
DEDUCED, log entry 46. -/
def Device.pwStop (d : Device) (release : Bool) : Device :=
  if d.pwRole = 2 then
    (d.pwTo 1).onPw (fun p =>
      { p with
          stopping := some release, established := false, fit := false, unfit := 0, spoiled := true, expired := none
          guardDone := false, released := false, leaseAt := d.uptime, mirHall := none, lowAt := none })
  else d

/-- Every lane is in electrical idle: ACT_OUT is released (R534, R548). -/
def Device.pwStopDone (d : Device) : Device :=
  match d.pw.stopping with
  | some r =>
    if d.lanes.any (fun e => e.2.txOn) then d
    else
      (d.pwBegin.onPw (fun p => { p with actOut := false, stopping := none })).when r (·.pwSend false .release)
  | none => d

/-- LEASE_TIME of the lease that counts (R530). -/
def Device.leaseTime (d : Device) : Nat := if d.pw.leased then d.pw.leaseMs else d.get 0x70010 0 7

/-- The lease expires and the guard starts (R530). -/
def Device.leaseExpiry (d : Device) : Device :=
  if d.pwRole ≠ 2 ∧ d.pw.expired = none then
    (fun d1 : Device => d1.onPw (fun p => { p with expired := some d1.uptime })) (d.reach (max d.pw.leaseAt d.boot.since + ms d.leaseTime))
  else d

/-- The guard of 2 ms passes (R530). -/
def Device.guardExpiry (d : Device) : Device :=
  match d.pw.expired with
  | some t => if d.pwRole ≠ 2 then ((d.reach (t + ms 2)).onPw (fun p => { p with guardDone := true })).pwTry else d
  | none => d

/-- An established lease is unacknowledged for LEASE_TIME with the mate present (R530, R532). -/
def Device.leaseUnacked (d : Device) : Device :=
  if d.pwRole = 2 ∧ d.pw.established = true ∧ d.pw.mate = true then
    ((((d.reach (d.pw.ackedAt + ms (d.get 0x70010 0 7))).pwStop false).inc 0x70040).ev 0x70018 1).raiseSrc 34
  else d

/-- ACT_IN takes a filtered level (R524, R530, R549). -/
def Device.actInChange (d : Device) (low : Bool) : Device :=
  (fun d1 : Device =>
    if low then
      (if d1.pwRole = 2 ∧ d1.pwSide = true then ((d1.pwStop false).inc 0x7003C).ev 0x70018 3 else d1)
    else d1.pwTry)
  (d.onPw (fun p => { p with actIn := low, lowAt := if low then some d.uptime else none }))

/-- MATE_PRESENT_IN takes a filtered level (R524). -/
def Device.matePresent (d : Device) (low : Bool) : Device := d.onPw (fun p => { p with mate := low })

/-- Both devices seem to act or to have one side (R549). -/
def Device.dualAct (d : Device) : Device := (d.ev 0x70018 8).raiseSrc 36

/-- ACT_IN has been low for more than 2 ms while side A acts (R549). -/
def Device.dualTick (d : Device) : Device :=
  match d.pw.lowAt with
  | some t =>
    if d.pwRole = 2 ∧ d.pwSide = false then ((d.reach (t + ms 2 + 1)).onPw (fun p => { p with lowAt := none })).dualAct else d
  | none => d

/-! Leases (R530 to R532, R536). -/

/-- A LEASE (R530, R531, R536): `inBound` says that this device's frame boundary lies within 100 ns of the sender's.
DEDUCED, log entry 46. -/
def Device.leaseReceived (d : Device) (num time : Nat) (side : Bool) (cycle : Nat) (inBound : Bool) : Device :=
  (fun d0 : Device =>
    if d0.pwRole = 2 then d0
    else
      (fun d1 : Device =>
        (fun d2 : Device =>
          (fun d3 : Device => d3.pwSend false (.leaseAck num d3.pw.fit d3.pw.aligned))
          (if d2.pw.up then
            (fun d3 : Device =>
              if inBound then
                d3.onPw (fun p => { p with alignRun := min 16 (p.alignRun + 1), aligned := p.aligned || decide (16 ≤ p.alignRun + 1) })
              else (d3.onPw (fun p => { p with alignRun := 0, aligned := false })).when d3.pw.aligned (·.pwUnfit 4))
            (d2.wr 0xC001C (wd (16 * cycle)))
           else d2))
        (if d0.pwRole = 0 then ((d1.pwTo 1).onPw (fun p => { p with spoiled := true })).pwAuto else d1))
      ((d0.onPw (fun p =>
        { p with
            leased := true, leaseMs := time, leaseAt := d.uptime, rxNum := wd num, rxAt := d.uptime, expired := none, guardDone := false
            released := false, mateSide := side })).wr 0x70034 (wd num)))
  ((d.pwBegin.pwHear 1).when (side == d.pwSide) (·.dualAct))

/-- A LEASE_ACK (R531, R532, R544, R549).
DEDUCED, log entry 46. -/
def Device.leaseAck (d : Device) (num : Nat) (fit side : Bool) : Device :=
  (fun d0 : Device =>
    if d0.pwRole = 2 then
      match d0.pw.sent.find? (fun e => e.1 == num) with
      | some e =>
        (d0.onPw (fun p =>
          { p with
              established := true, ackedAt := e.2, sent := p.sent.takeWhile (fun x => x.1 != num), fit := fit, mateStandby := true
              mateSide := side })).wr 0x70030 (wd (min 65535 ((d.uptime - e.2) * 5 / 2)))
      | none => d0
    else d0)
  ((d.pwBegin.pwHear 1).when (side == d.pwSide) (·.dualAct))

/-- A RELEASE (R530, R549).
DEDUCED, log entry 46. -/
def Device.releaseReceived (d : Device) : Device :=
  (fun d0 : Device => if d0.pwRole = 1 then (d0.onPw (fun p => { p with released := true })).pwTry else d0) (d.pwBegin.pwHear 1)

/-! Mirror records (R537, R538). -/

/-- The key of an object. -/
def mirKey (kind idx : Nat) : Nat := kind * 2 ^ 20 + idx

/-- The mirrored state of a request machine. -/
def Chooser.mir (c : Chooser) : MirSel :=
  { choice := c.choice, req := c.req, ch := c.ch, remote := c.remote, lo := c.lo, fs := c.fs, ms := c.ms, exer := c.exer, hold := c.hold
    wtr := c.wtr }

/-- A request machine with the mirrored state. -/
def Chooser.take (c : Chooser) (m : MirSel) : Chooser :=
  { c with choice := m.choice, req := m.req, ch := m.ch, remote := m.remote, lo := m.lo, fs := m.fs, ms := m.ms, exer := m.exer
           hold := m.hold, wtr := m.wtr }

/-- The data of an object (R537). -/
def Device.mirData (d : Device) (kind idx : Nat) : MirData :=
  match kind with
  | 1 => .sel (d.sel idx).c.mir
  | 2 => .msp (d.msp idx).c.mir (BitVec.ofNat 8 (d.get (mspBase idx + 0x10) 8 8)) (BitVec.ofNat 8 (d.get (mspBase idx + 0x10) 0 8))
  | 3 => .defects (d.tcWord idx)
  | 4 => .defects (wd (d.hoDef idx).word)
  | 5 => .defects (d.laneDef idx).word
  | 6 =>
    match d.hall.sw with
    | some w => .hall d.activePage true w.cfg w.sec w.ns w.crc d.hall.lastCommit
    | none =>
      .hall d.activePage false (d.rd 0xC0020) ((d.rd 0xC0034).toNat + 2 ^ 32 * d.get 0xC0038 0 16) (d.get 0xC0030 0 30) (d.rd 0xC0028)
        d.hall.lastCommit
  | 7 => .hearth d.hearth.sel d.hearth.dpll (d.rd 0x50044) d.hoValid
  | _ => .pair ((d.hpair idx).map (fun p => (p.maxDelay, p.ctype)))

/-- Every object that stands in the state.
DEDUCED, log entry 47. -/
def Device.mirObjects (d : Device) : List Nat :=
  (tabKeys d.land.sels).map (mirKey 1) ++ (tabKeys d.land.msps).map (mirKey 2) ++ (tabKeys d.tcs).map (mirKey 3) ++
    (tabKeys d.hos).map (mirKey 4) ++ (tabKeys d.lanes).map (mirKey 5) ++ (tabKeys d.cel.pairs).map (mirKey 8)

/-- The record of the object with a key. -/
def Device.mirRec (d : Device) (key : Nat) : MirRec := ⟨key / 2 ^ 20, key % 2 ^ 20, d.mirData (key / 2 ^ 20) (key % 2 ^ 20)⟩

/-- The records of a cycle: what changed, and HALL and HEARTH. -/
def Device.mirDelta (d : Device) : List MirRec :=
  (toRising (d.mirObjects ++ tabKeys d.pw.mirrored)).filterMap (fun k =>
    if tabGet none d.pw.mirrored k = some (d.mirRec k).data then none else some (d.mirRec k)) ++ [d.mirRec (mirKey 6 0), d.mirRec (mirKey 7 0)]

/-- The objects are remembered as sent. -/
def Device.mirNote (d : Device) : Device :=
  d.onPw (fun p => { p with mirrored := d.mirObjects.foldl (fun t k => tabPut none t k (some (d.mirRec k).data)) [] })

/-- An absent number on the link reads as all ones. -/
def natOr (n : Nat) (x : Option Nat) : List Byte := natBytes n (x.getD (256 ^ n - 1))

/-- The 16 bytes of a request machine, K1 and K2 of a pair among them.
DESIGN CHOICE, log entry 92. -/
def mirSelBytes (m : MirSel) (k1 k2 : Byte) : List Byte :=
  natBytes 1 (b2n m.choice + 2 * b2n m.lo + 4 * b2n m.exer + 8 * b2n m.remote) ++ natBytes 1 (16 * m.req + m.ch) ++
    natBytes 1 (b2n m.fs.isSome + 2 * b2n (m.fs.getD false) + 4 * b2n m.ms.isSome + 8 * b2n (m.ms.getD false)) ++ [0, k1, k2, 0, 0] ++
    natOr 4 m.hold ++ natOr 4 m.wtr

/-- The bytes of a record's data (R537); where R537 names the fields and no places, the places are the model's.
DESIGN CHOICE, log entry 92. -/
def mirDataBytes (x : MirData) : List Byte :=
  match x with
  | .sel m => mirSelBytes m 0 0
  | .msp m k1 k2 => mirSelBytes m k1 k2
  | .defects w => wordBytes w
  | .hall page pending cfg sec ns crc frame =>
    natBytes 4 (page + 2 * b2n pending) ++ wordBytes cfg ++ natBytes 4 ns ++ natBytes 8 sec ++ wordBytes crc ++ natBytes 4 frame
  | .hearth slot dpll freq valid => natOr 1 slot ++ natBytes 1 dpll ++ natBytes 2 (b2n valid) ++ wordBytes freq
  | .pair y => natBytes 4 (b2n y.isSome) ++ natBytes 4 (match y with | some z => z.1 + 256 * z.2 | none => 0)

/-- A record on the link (R537): KIND, the data's words, zero, INDEX, the data. -/
def mirRecBytes (r : MirRec) : List Byte :=
  natBytes 1 r.kind ++ natBytes 1 ((mirDataBytes r.data).length / 4) ++ [0, 0] ++ natBytes 4 r.idx ++ mirDataBytes r.data

/-- The number of bytes of a record. -/
def mirRecLen (r : MirRec) : Nat := 8 + (mirDataBytes r.data).length

/-! The bytes of a message (R526, R527, R644). -/

/-- TYPE (R527). -/
def pwType (b : PwBody) : Nat :=
  match b with
  | .idle => 0 | .lease _ _ => 1 | .leaseAck _ _ _ => 2 | .release => 3 | .delta _ => 4 | .pmSnap _ _ => 5 | .bulkData _ _ _ => 6
  | .bulkReq => 7 | .bulkEnd _ _ => 8 | .digest _ _ _ => 9 | .attestReq _ _ _ => 10 | .attestRsp _ _ _ => 11

/-- The payload (R527, R644). The records beside a BULK_DATA stand for the parts of the image whose layout is open. -/
def pwPayload (b : PwBody) : List Byte :=
  match b with
  | .idle | .release | .bulkReq => []
  | .lease num ms => natBytes 4 num ++ natBytes 1 ms ++ [0, 0, 0]
  | .leaseAck num fit aligned => natBytes 4 num ++ natBytes 1 (b2n fit + 2 * b2n aligned) ++ [0, 0, 0]
  | .delta recs => recs.flatMap mirRecBytes
  | .pmSnap off data => natBytes 4 off ++ data.flatMap wordBytes
  | .bulkData off data _ => natBytes 4 off ++ data.flatMap wordBytes
  | .bulkEnd len crc => natBytes 4 len ++ wordBytes crc
  | .digest cycle mask sums => natBytes 4 cycle ++ natBytes 2 mask ++ [0, 0] ++ sums.flatMap wordBytes
  | .attestReq id nonceLen nonce => natBytes 4 id ++ natBytes 2 nonceLen ++ [0, 0] ++ nonce
  | .attestRsp id status report => natBytes 4 id ++ natBytes 1 status ++ [0, 0, 0] ++ report

/-- Header and payload (R526). -/
def pwHead (m : PwMsg) : List Byte :=
  natBytes 1 (pwType m.body) ++ natBytes 1 (b2n m.last + 2 * b2n m.side + 4 * b2n m.acting) ++
    natBytes 2 (pwPayload m.body).length ++ natBytes 4 m.seq ++ natBytes 4 m.cycle ++ natBytes 4 0 ++ pwPayload m.body

/-- A message on the link: header, payload, CRC-32C (R526).
PRESUMED, log entry 64. -/
def pwBytes (m : PwMsg) : List Byte := pwHead m ++ natBytes 4 (crc32c (pwHead m))

/-- A LENGTH that TYPE allows (R527, R644). -/
def pwLengthOk (ty len : Nat) : Bool :=
  decide (len ≤ 4096) && decide (len % 4 = 0) &&
    match ty with
    | 0 | 3 | 7 => decide (len = 0)
    | 1 | 2 | 8 => decide (len = 8)
    | 4 => true
    | 5 | 6 => decide (4 ≤ len)
    | 9 => decide (len = 72)
    | 10 => decide (len = 40)
    | 11 => decide (len = 520)
    | _ => false

/-- A received message is valid: TYPE, LENGTH and CRC (R526, R527).
PRESUMED, log entry 64. -/
def pwValid (l : List Byte) : Bool :=
  decide (20 ≤ l.length) && pwLengthOk (l.getD 0 0).toNat (l.length - 20) && decide (bytesNat ((l.drop 2).take 2) = l.length - 20) &&
    decide (bytesNat (l.drop (l.length - 4)) = crc32c (l.take (l.length - 4)))

/-- Records in messages of at most 4,096 bytes. -/
def mirChunks : List MirRec → List MirRec → Nat → List (List MirRec)
  | [], cur, _ => [cur.reverse]
  | r :: t, cur, n =>
    if n + mirRecLen r ≤ 4096 then mirChunks t (r :: cur) (n + mirRecLen r)
    else cur.reverse :: mirChunks t [r] (mirRecLen r)

/-- A message arrives and is judged: one that is not valid is discarded (R527); the effect of a valid one is that of its own row.
PRESUMED, log entry 64. -/
def Device.pwBad (d : Device) (l : List Byte) : Device :=
  if pwValid l then d else ((d.onPw (fun p => { p with good := 0 })).inc 0x70050).raiseSrc 28

/-- Sends a list of messages, the last marked LAST. -/
def Device.pwSendAll (d : Device) : List PwBody → Device
  | [] => d
  | b :: t => (d.pwSend t.isEmpty b).pwSendAll t

/-- The slices with an output fed by a context that meets `f`. -/
def Device.slicesFed (d : Device) (f : Nat → Bool) : Nat :=
  (fun hit : OutSt → Bool =>
    ((List.range 16).filter (fun s =>
      d.tcs.any (fun e => hit e.2.out && d.entryOwner e.1 == s) || d.hos.any (fun e => hit e.2.out && d.entryOwner (hoCtx e.1) == s))).foldl
      (fun a s => a + 2 ^ s) 0)
  (fun o => match o.content with | .source c => f c | _ => false)

/-- A mirrored record changed the outputs of slices (R543). -/
def Device.pwMoved (d : Device) (mask : Nat) : Device := d.onPw (fun p => { p with moved := p.moved ||| mask })

/-- A defect record is compared (R538). -/
def Device.defectDiff (d : Device) (own told : Word) : Device := if own = told then d else d.inc 0x7004C

/-- A record is used by the standby (R538, R540). -/
def Device.mirApply (d : Device) (r : MirRec) : Device :=
  match r.data with
  | .sel m =>
    ((d.setSelC r.idx ((d.sel r.idx).c.take m)).when (m.choice != (d.sel r.idx).c.choice) (fun d1 =>
      d1.pwMoved (d1.slicesFed (fun c => some c == (d1.sel r.idx).used.w || some c == (d1.sel r.idx).used.p))))
  | .msp m k1 k2 =>
    (((d.setMsp r.idx { d.msp r.idx with c := (d.msp r.idx).c.take m }).wr (mspBase r.idx + 0x10)
      (wd (256 * k1.toNat + k2.toNat))).when (m.choice != (d.msp r.idx).c.choice) (fun d1 =>
        d1.pwMoved (d1.slicesFed (fun c =>
          match d1.pair r.idx with
          | some p => (fun n : Nat => n == p.work || n == p.prot) (if c < 262144 then d1.tcLane c else laneOfHo (c - 262144))
          | none => false))))
  | .defects w =>
    d.defectDiff (if r.kind = 3 then d.tcWord r.idx else if r.kind = 4 then wd (d.hoDef r.idx).word else (d.laneDef r.idx).word) w
  | .hall page _ _ _ _ _ _ => d.onPw (fun p => { p with mirHall := some r, follow := decide (page ≠ d.activePage) })
  | .hearth slot _ freq valid => d.onHearth (fun h => { h with mirSlot := slot, mirFreq := if valid then some freq else none })
  | .pair x => (d.pairSet (wd r.idx) (match x with | some y => wd (y.1 + 256 * y.2) | none => 0) 0 0).2

/-- A mirrored commit is followed at a boundary of its kind (R540): called after SYSFRAME has advanced. -/
def Device.pwFollow (d : Device) : Device :=
  match d.pw.follow, d.pw.mirHall with
  | true, some ⟨_, _, .hall page _ cfg _ _ crc _⟩ =>
    if d.pwRole = 1 ∧ kindCounts cfg (d.rd 0xC001C) = true then
      (fun d1 : Device =>
        if d1.pageCrc page = crc then (d1.put 0xC0010 0 1 page).pwMoved 0xFFFF else d1.pwUnfit 5)
      (d.onPw (fun p => { p with follow := false }))
    else d
  | _, _ => d

/-- A message for MC1 has arrived on a standby: MC1 uses it with `f`, and while MC1 is away it waits for its return (R21, R23).
DEDUCED, log entry 89. -/
def Device.pwTake (d : Device) (m : PwMsg) (f : Device → Device) : Device :=
  if d.pwRole ≠ 1 then d
  else if d.cores.mc1Away then d.onPw (fun p => { p with held := p.held ++ [(p.snapGap, m)], snapGap := false })
  else f d

/-- MC1 uses a MIRROR_DELTA (R538, R546). -/
def Device.mirUse (d : Device) (m : PwMsg) (recs : List MirRec) : Device :=
  if d.pw.bulk then d.onPw (fun p => { p with queued := p.queued ++ [m] }) else recs.foldl Device.mirApply d

/-- A MIRROR_DELTA (R528, R538, R546). -/
def Device.mirrorDelta (d : Device) (seq cycle : Nat) (last : Bool) (recs : List MirRec) : Device :=
  (fun m : PwMsg => ((d.pwBegin.pwHear 1).pwSeq seq).pwTake m (·.mirUse m recs)) ⟨last, d.pw.mateSide, true, seq, cycle, .delta recs⟩

/-! The PM store (R31, R541). -/

/-- The words of the accumulators and machines of a point: the model's own layout (DESIGN CHOICE, log entry 48).
DESIGN CHOICE, log entry 48. -/
def Device.pmAccWord (d : Device) (p i : Nat) : Word :=
  match i with
  | 0 => d.pmNow p
  | 1 => wd (d.point p).ne.eb
  | 2 => wd (d.point p).fe.eb
  | _ => wd (d.point p).cli.eb

/-- Takes a word of the accumulators and machines.
DESIGN CHOICE, log entry 48. -/
def Device.pmAccTake (d : Device) (p i : Nat) (v : Word) : Device :=
  (fun x : PmPoint =>
    d.setPoint p
      (match i with
       | 0 =>
         { x with
             ne := { x.ne with dfct := bitAt v 1, unavail := bitAt v 8, run := fld v 12 4 }
             fe := { x.fe with dfct := bitAt v 3, unavail := bitAt v 9, run := fld v 16 4 }
             cli := { x.cli with dfct := bitAt v 5, unavail := bitAt v 10, run := fld v 20 4 } }
       | 1 => { x with ne := { x.ne with eb := v.toNat } }
       | 2 => { x with fe := { x.fe with eb := v.toNat } }
       | _ => { x with cli := { x.cli with eb := v.toNat } }))
  (d.point p)

/-- A word of the PM store by byte offset: 32 bytes a point.
DESIGN CHOICE, log entry 48. -/
def Device.pmStoreWord (d : Device) (o : Nat) : Word :=
  if 274688 ≤ o / 32 then 0
  else if o % 32 / 4 < 4 then d.pmAccWord (o / 32) (o % 32 / 4) else d.rd (0x03000000 + o)

/-- Takes a word of the PM store.
DESIGN CHOICE, log entry 48. -/
def Device.pmStoreTake (d : Device) (o : Nat) (v : Word) : Device :=
  if 274688 ≤ o / 32 then d
  else if o % 32 / 4 < 4 then d.pmAccTake (o / 32) (o % 32 / 4) v else d.wr (0x03000000 + o) v

/-- Consecutive words from a byte offset. -/
def wordsAt (f : Nat → Word) (o n : Nat) : List Word := (List.range n).map (fun i => f (o + 4 * i))

/-- An image of `len` bytes in pieces of 1,023 words. -/
def pieces (len : Nat) : List (Nat × Nat) :=
  (List.range ((len + 4091) / 4092)).map (fun i => (4092 * i, min 1023 ((len - 4092 * i) / 4)))

/-- The snapshot of the PM store (R541). -/
def Device.pmSnapSend (d : Device) : Device :=
  d.pwSendAll ((pieces 8912896).map (fun x => .pmSnap x.1 (wordsAt d.pmStoreWord x.1 x.2)))

/-- Applies words at rising offsets. -/
def Device.takeWords (d : Device) (f : Device → Nat → Word → Device) (o : Nat) : List Word → Device
  | [] => d
  | v :: t => (f d o v).takeWords f (o + 4) t

/-- MC1 uses a PM_SNAP (R541): at LAST the PM store is replaced when no gap fell in the snapshot. -/
def Device.snapUse (d : Device) (last : Bool) (off : Nat) (data : List Word) : Device :=
  (fun d1 : Device =>
    if last then
      ((if d1.pw.snapGap then d1 else d1.pw.snap.foldl (fun d e => d.takeWords Device.pmStoreTake e.1 e.2) d1).onPw
        (fun p => { p with snap := [], snapGap := false }))
    else d1)
  (d.onPw (fun p =>
    if off = 0 then { p with snap := [(0, data)], snapGap := false } else { p with snap := p.snap ++ [(off, data)] }))

/-- A PM_SNAP (R541). -/
def Device.pmSnap (d : Device) (seq : Nat) (last : Bool) (off : Nat) (data : List Word) : Device :=
  ((d.pwBegin.pwHear 1).pwSeq seq).pwTake ⟨last, d.pw.mateSide, true, seq, d.pwCycle, .pmSnap off data⟩ (·.snapUse last off data)

/-! The bulk image (R545, R546). -/

/-- The bytes of the image. -/
def imageLen : Nat := 25477120

/-- A word of the image by byte offset; `view` reads a register. The parts whose layout the spec does not give are open: the
objects travel beside them as records. -/
def Device.imageWord (d : Device) (view : Nat → Word) (o : Nat) : Word :=
  if o < 2195456 then Config.freeValue (d.fresh + o)
  else if o < 11108352 then d.pmStoreWord (o - 2195456)
  else if o < 15302656 then view (0x02000020 + (o - 11108352) / 16 * 0x40 + o % 16)
  else if o < 16089088 then view (0x01000020 + (o - 15302656) / 64 * 0x100 + o % 64)
  else if o < 20283392 then view (0x05000010 + (o - 16089088) / 16 * 0x20 + o % 16)
  else if o < 21069824 then view (0x05800040 + (o - 20283392) / 64 * 0x80 + o % 64)
  else Config.freeValue (d.fresh + o)

/-- Where an object of a kind stands in the image. -/
def imagePos (kind idx : Nat) : Option Nat :=
  match kind with
  | 1 => some (16 * idx)
  | 3 => some (11108352 + 16 * idx)
  | 4 => some (15302656 + 64 * idx)
  | 8 => some (21069824 + 32 * idx)
  | 5 => none
  | _ => some 25460736

/-- The records of the objects whose layout is open, with their place. -/
def Device.imageRecs (d : Device) : List (Nat × MirRec) :=
  ((d.mirObjects ++ [mirKey 6 0, mirKey 7 0]).map d.mirRec).filterMap (fun r =>
    if r.kind = 3 ∨ r.kind = 4 then none else (imagePos r.kind r.idx).map (fun p => (p, r)))

/-- A BULK_REQ (R545, R546): the acting device sends the image and BULK_END; a core away sends none (R650).
DEDUCED, log entry 47. -/
def Device.bulkReq (d : Device) (view : Nat → Word) : Device :=
  (fun d0 : Device =>
    if d0.pwRole ≠ 2 ∨ d0.cores.mc1Away = true then d0
    else
      (fun (recs : List (Nat × MirRec)) (w : Nat → Word) =>
        (fun d1 : Device =>
          { d1.pwSend false (.bulkEnd imageLen (wd (crc32c ((wordsAt w 0 (imageLen / 4)).flatMap wordBytes)))) with fresh := d.fresh + imageLen })
        (d0.pwSendAll ((pieces imageLen).map (fun x =>
          .bulkData x.1 (wordsAt w x.1 x.2)
            ((recs.filter (fun e => decide (x.1 ≤ e.1) && decide (e.1 < x.1 + 4 * x.2))).map (·.2))))))
      d0.imageRecs (d0.imageWord view))
  (d.pwBegin.pwHear 1)

/-- MC1 uses a BULK_DATA (R546). -/
def Device.bulkUse (d : Device) (cycle off : Nat) (data : List Word) (recs : List MirRec) : Device :=
  if d.pw.bulk then
    (fun d1 : Device =>
      match d1.pw.op with
      | some k => d1.opSteps k (min 389 ((off + 4 * data.length) / 65536))
      | none => d1)
    (d.onPw (fun p =>
      if off = 0 then { p with image := [(0, cycle, data)], carried := recs }
      else { p with image := p.image ++ [(off, cycle, data)], carried := p.carried ++ recs }))
  else d

/-- A BULK_DATA (R546): one whose own SEQ gap ends the transfer is no part of the next.
DEDUCED, log entry 47. -/
def Device.bulkData (d : Device) (seq cycle off : Nat) (data : List Word) (recs : List MirRec) : Device :=
  (fun d0 : Device =>
    if d0.pw.bulk && d.pw.bulk && decide (d0.pw.op = d.pw.op) then
      d0.pwTake ⟨false, d.pw.mateSide, true, seq, cycle, .bulkData off data recs⟩ (·.bulkUse cycle off data recs)
    else d0)
  ((d.pwBegin.pwHear 1).pwSeq seq)

/-- The image is whole: every piece follows the one before. -/
def imageWhole : Nat → List (Nat × Nat × List Word) → Bool
  | o, [] => decide (o = imageLen)
  | o, e :: t => decide (e.1 = o) && imageWhole (o + 4 * e.2.2.length) t

/-- A word of the received image is taken: the parts the spec lays out.
DEDUCED, log entry 47. -/
def Device.imageTake (d : Device) (o : Nat) (v : Word) : Device :=
  if o < 2195456 then d
  else if o < 11108352 then d.pmStoreTake (o - 2195456) v
  else if o < 15302656 then d.wr (0x02000020 + (o - 11108352) / 16 * 0x40 + o % 16) v
  else if o < 16089088 then d.wr (0x01000020 + (o - 15302656) / 64 * 0x100 + o % 64) v
  else if o < 20283392 then d.wr (0x05000010 + (o - 16089088) / 16 * 0x20 + o % 16) v
  else if o < 21069824 then d.wr (0x05800040 + (o - 20283392) / 64 * 0x80 + o % 64) v
  else d

/-- The empty record of an object the image does not carry. -/
def emptyRec (kind idx : Nat) : MirRec := ⟨kind, idx, if kind = 8 then .pair none else .sel {}⟩

/-- The objects of the image replace the standby's. -/
def Device.imageObjects (d : Device) : Device :=
  (fun missing : List Nat =>
    d.pw.carried.foldl Device.mirApply (missing.foldl (fun d k => d.mirApply (emptyRec (k / 2 ^ 20) (k % 2 ^ 20))) d))
  (((tabKeys d.land.sels).map (mirKey 1) ++ (tabKeys d.cel.pairs).map (mirKey 8)).filter (fun k =>
    !d.pw.carried.any (fun r => mirKey r.kind r.idx == k)))

/-- A queued record is applied when it is later than the message that carried its object (R546). -/
def laterThan (img : List (Nat × Nat × List Word)) (cycle : Nat) (r : MirRec) : Bool :=
  match imagePos r.kind r.idx with
  | none => true
  | some p =>
    match img.find? (fun e => decide (e.1 ≤ p) && decide (p < e.1 + 4 * e.2.2.length)) with
    | some e => decide (0 < (cycle + 2 ^ 28 - e.2.1) % 2 ^ 28) && decide ((cycle + 2 ^ 28 - e.2.1) % 2 ^ 28 < 2 ^ 27)
    | none => true

/-- The records of a message. -/
def pwRecs : PwBody → List MirRec
  | .delta l => l
  | _ => []

/-- MC1 uses a BULK_END (R546). -/
def Device.bulkClose (d : Device) (len : Nat) (crc : Word) : Device :=
  if d.pw.bulk then
    if len = imageLen ∧ imageWhole 0 d.pw.image = true ∧ wd (crc32c (d.pw.image.flatMap (fun e => e.2.2.flatMap wordBytes))) = crc then
      (fun d1 : Device =>
        (fun d2 : Device =>
          (((match d.pw.op with | some k => (d2.opSteps k 389).opClose k .ok | none => d2).onPw (fun p =>
            { p with bulk := false, op := none, image := [], carried := [], queued := [] })).inc 0x70058).ev 0x70018 7)
        (d.pw.queued.foldl (fun d m => ((pwRecs m.body).filter (laterThan d.pw.image m.cycle)).foldl Device.mirApply d) d1))
      ((tcRequeue d (d.pw.image.foldl (fun d e => d.takeWords Device.imageTake e.1 e.2.2) d)).imageObjects)
    else d.pwBulkDrop.pwAuto
  else d

/-- A BULK_END (R546). -/
def Device.bulkEnd (d : Device) (len : Nat) (crc : Word) : Device :=
  (d.pwBegin.pwHear 1).pwTake ⟨true, d.pw.mateSide, true, 0, d.pwCycle, .bulkEnd len crc⟩ (·.bulkClose len crc)

/-- MC1 uses a message that waited.
DEDUCED, log entry 89. -/
def Device.pwLate (d : Device) (e : Bool × PwMsg) : Device :=
  (fun d1 : Device =>
    match e.2.body with
    | .delta recs => d1.mirUse e.2 recs
    | .pmSnap off data => d1.snapUse e.2.last off data
    | .bulkData off data recs => d1.bulkUse e.2.cycle off data recs
    | .bulkEnd len crc => d1.bulkClose len crc
    | _ => d1)
  (d.onPw (fun p => { p with snapGap := p.snapGap || e.1 }))

/-- MC1 is back: it takes up what waited, in the order in which it came (R21, R23, R24). -/
def Device.mc1Back (d : Device) : Device :=
  (d.pw.held.foldl Device.pwLate (d.onPw (fun p => { p with held := [] }))).superLate

/-! Digests (R542 to R544). -/

/-- The slices held in an ISOLATE reset. -/
def Device.heldMask (d : Device) : Nat := ((List.range 16).filter d.sliceHeld).foldl (fun a s => a + 2 ^ s) 0

/-- A DIGEST (R543): `mask` names the slices the sender could compute.
DEDUCED, log entry 49. -/
def Device.digestReceived (d : Device) (cycle mask : Nat) (sums : List Word) : Device :=
  (fun d0 : Device =>
    match d0.pw.own with
    | some (c, held, own) =>
      if d0.pwRole ≠ 1 ∨ c ≠ cycle then d0
      else
        (fun (cmp : List Nat) =>
          (fun (bad : List Nat) (d1 : Device) =>
            if bad = [] then d1
            else
              (fun d2 : Device =>
                if d2.get 0x70024 16 8 ≤ d2.pw.mismatches.length then d2.pwUnfit 1 else d2)
              (((((d1.add 0x70044 bad.length).wr 0x70064 (wd (bad.foldl (fun a s => a + 2 ^ s) 0 + 2 ^ 16 * (cycle % 2 ^ 16)))).ev 0x70018 11).raiseSrc
                35).onPw (fun p =>
                  { p with mismatches :=
                      ((bad.map (fun _ => d.uptime)) ++ p.mismatches).filter (fun t => decide (d.uptime - t ≤ ms (d1.get 0x70028 0 22))) })))
          (cmp.filter (fun s => own.getD s 0 ≠ sums.getD s 0))
          ((d0.add 0x70048 (16 - cmp.length)).onPw (fun p =>
            { p with compared := p.compared ||| cmp.foldl (fun a s => a + 2 ^ s) 0 })))
        ((List.range 16).filter (fun s =>
          d0.bit 0x70024 s && d0.pw.aligned && !(held / 2 ^ s % 2 == 1) && mask / 2 ^ s % 2 == 1))
    | none => d0)
  (d.pwBegin.pwHear 1)

/-- A PM second ends (R541, R544): the acting device owes a snapshot; a STANDBY device becomes FIT after a clean second.
DEDUCED, log entry 49. -/
def Device.pwSecond (d : Device) : Device :=
  (fun d1 : Device => d1.onPw (fun p => { p with spoiled := p.bulk || !p.up, compared := 0 }))
  (if d.pwRole = 2 then d.onPw (fun p => { p with snapDue := true })
   else if d.pwRole = 1 ∧ d.pw.spoiled = false ∧ d.pw.bulk = false ∧ d.pw.fit = false ∧
      (d.pw.compared &&& d.get 0x70024 0 16) = d.get 0x70024 0 16 then
    (d.onPw (fun p => { p with fit := true, unfit := 0 })).ev 0x70018 4
   else d)

/-- The digests of the ended cycle (R542): one for each slice, over the outputs it owns in rising order. -/
def Device.digests (d : Device) : List Word :=
  (List.range 16).map (fun s => wd (crc32c ((d.pw.begun.filter (fun e => decide (d.entryOwner e.1 = s))).flatMap (·.2))))

/-- A management cycle begins (R531, R537, R541 to R543): `idles` IDLE messages arrived in the ended cycle; `held` names the slices
that met an uncorrectable error or were isolated in it.
DEDUCED, log entry 49. -/
def Device.cycleBoundary (d : Device) (idles held : Nat) : Device :=
  if (d.rd 0xC001C).toNat % 16 ≠ 0 then d
  else
    (fun d0 : Device =>
      (fun d1 : Device =>
        if d1.pwRole = 2 then
          (fun d2 : Device =>
            (fun d3 : Device =>
              (fun num : Nat =>
                ((d3.pwSend false (.lease num (d3.get 0x70010 0 7))).wr 0x70034 (wd num)).onPw (fun p =>
                  { p with sent := ((num, d.uptime) :: p.sent).take 64 }))
              (((d3.rd 0x70034).toNat + 1) % 2 ^ 32))
            (d2.pwSend true (.digest ((d.pwCycle + 2 ^ 28 - 1) % 2 ^ 28) (0xFFFF - (held ||| d.heldMask) % 2 ^ 16) d.digests)))
          (if d1.cores.mc1Away then d1
           else
            (fun d2 : Device => (if d2.pw.snapDue then d2.pmSnapSend.onPw (fun p => { p with snapDue := false }) else d2).mirNote)
            (d1.pwSendAll ((mirChunks d1.mirDelta [] 0).map .delta)))
        else d1.mirNote)
      (d0.onPw (fun p =>
        { p with own := some ((d.pwCycle + 2 ^ 28 - 1) % 2 ^ 28, held ||| d.heldMask ||| p.moved, d.digests), moved := 0, begun := [] })))
    (d.pwBegin.pwHear idles)

/-! Commands and configuration (R548, R550, R551). -/

/-- The mate is STANDBY with the link up. -/
def Device.mateStands (d : Device) : Bool := d.pw.mateStandby && d.pw.up

/-- A HANDOVER (R548). -/
def Device.handover (d : Device) : Status × Device :=
  if d.pwRole ≠ 2 then (.range, d.pwRefuse 1)
  else if d.pw.fit = false ∨ d.pw.up = false then (.range, d.pwRefuse 2)
  else (.ok, d.pwBegin.pwStop true)

/-- A RESYNC (R550). -/
def Device.resync (d : Device) (master : Nat) : Status × Device :=
  if d.pwRole ≠ 1 then (.range, d.pwRefuse 3) else d.pwBegin.pwBulkReq master

/-- A write of PW_CMD. -/
def Device.pwCmd (d : Device) (master : Nat) (v : Word) : Status × Device :=
  if v = 0 then (.ok, d) else if v = 1 then d.handover else if v = 2 then d.resync master else (.range, d.pwRefuse 0)

/-- A RELEASE_LEASE reaction (R548): none when it is not performed. -/
def Device.releaseLease (d : Device) : Option Device :=
  if d.pwRole = 2 ∧ d.mateStands = true then some (d.pwStop true) else none

/-- CNT_CLR (R550). -/
def Device.pwCntClr (d : Device) : Device := d.zero ((List.range 10).map (fun i => 0x70038 + 4 * i))

/-- PW_STATUS (R550). -/
def Device.pwStatus (d : Device) : Word :=
  wd (d.pwRole + 4 * b2n d.pwSide + 8 * b2n d.pw.actIn + 16 * b2n d.pw.mate + 32 * b2n d.pw.up + 64 * b2n d.pw.fit
    + 128 * b2n d.pw.bulk + 256 * b2n d.pw.aligned + 512 * b2n d.pw.established + 2 ^ 12 * d.pw.unfit)

end Sys2Proof.Machine
end

