-- ==== Sys2Proof/Machine/Reset.lean ====
section
/-! DEFINITION. What a reset leaves: cold and warm reset (R44, R93, R505, R571, R580 to R584, R631). -/

namespace Sys2Proof.Machine
open Sys2Proof

/-- PHASE of BOOT_STATUS (R594): 0 RESET, 1 ROM, 2 FW_LOAD, 3 CORE_START, 4 CFG_VERIFY, 5 CFG_APPLY, 6 CFG_CLEAR, 7 RUNNING, 8 HALT. -/
def Device.bootPhase (d : Device) : Nat := d.get 0x20010 0 4
/-- Stores PHASE. -/
def Device.phaseTo (d : Device) (p : Nat) : Device := d.put 0x20010 0 4 p

/-- The pins of the Party Wall keep their level over a reset; everything else of it starts anew.
DEDUCED, log entry 51. -/
def PwSt.resetKeep (p : PwSt) : PwSt := { actIn := p.actIn, mate := p.mate }

/-- A cold reset (R580, R584): only the one-time-programmable storage and the pins survive. -/
def Device.coldReset (d : Device) : Device :=
  { uptime := d.uptime, fresh := d.fresh, pw := d.pw.resetKeep
    boot := { power := d.boot.power, rstLow := d.boot.rstLow, held := true, otp := d.boot.otp } }

/-- The registers that survive a warm reset (R93, R452, R571, R584).
DEDUCED, log entry 51. -/
def keptReg (a : Nat) : Bool :=
  decide (a = 0x1C) || (decide (0x10800 ≤ a) && decide (a < 0x11000)) || decide (a = 0x10070) || decide (a = 0x30014) || decide (a = 0x10074)
    || (decide (0x80030 ≤ a) && decide (a < 0x80040))

/-- What survives a warm reset of the time of day (R505).
DEDUCED, log entry 51. -/
def Tod.resetKeep (t : Tod) : Tod := { sec := t.sec, ns := t.ns, frac := t.frac, epoch := t.epoch, valid := t.valid, rem := t.rem }

/-- TTYPE of a register transaction (R620). -/
def ptxnCode : PTxn → Nat
  | .rd _ _ _ _ => 1 | .wr _ _ _ => 2 | .rmw _ _ _ => 3 | .bulk _ => 4

/-- What survives a warm reset of the Porch (R583, R631): the link layer; ATTIC_READ and ATTEST in progress end; register
transactions that wait for a target domain are answered with BUSY after the hold.
DEDUCED, log entry 51. -/
def PorchSt.resetKeep (p : PorchSt) : PorchSt :=
  { p with
      reads := [], atts := [], summary := none, i2c := .ok, ptr := 0, ptrSet := false, rmw := none, waiting := []
      busy := p.busy ++ (match p.rmw with | some t => [(3, t)] | none => []) ++ p.waiting.map (fun x => (ptxnCode x.2, x.1)) }

/-- A warm reset begins (R583, R584): `cause` is 2 for RESET_CTL and 4 for a reaction, whose mask opens when the reset ends.
DEDUCED, log entry 51. -/
def Device.warmReset (d : Device) (cause : Nat) (mask : Option (Nat × Nat)) : Device :=
  ({ regs := d.regs.filter (fun e => keptReg e.1), uptime := d.uptime, fresh := d.fresh, pw := d.pw.resetKeep
     tod := d.tod.resetKeep, fc := { warmMask := mask }, porch := d.porch.resetKeep, attic := { kept := d.attic.kept, warm := d.attic.kept.isSome }
     boot := { power := d.boot.power, rstLow := d.boot.rstLow, held := true, warm := true, since := d.uptime, otp := d.boot.otp } } : Device).wr
    0x24 (wd cause)

end Sys2Proof.Machine
end

