-- ==== Sys2Proof/Machine/Tracer.lean ====
section
/-! DEFINITION. Slot accounting (R655 to R658), the tracer (R659 to R664) and the test access port (R680 to R682). -/

namespace Sys2Proof.Machine
open Sys2Proof

/-! Slot accounting. -/

/-- The live slot counters of slice `s`. -/
def Device.slot (d : Device) (s : Nat) : SlotSt := tabGet {} d.slots s

/-- The classes of 18 word slots by the free draw `k`: CARRIED, OVERHEAD, STARVED_FRONT, BLOCKED_BACK.
DESIGN CHOICE, log entry 58. -/
def slotClasses (k : Nat) : List Nat :=
  (fun c : Nat => (fun o : Nat => (fun b : Nat => [c, o, 18 - c - o - b, b])
    (Config.slotSplit k 2 % (19 - c - o))) (Config.slotSplit k 1 % (19 - c))) (Config.slotSplit k 0 % 19)

/-- A slice offers no word: it is held in an ISOLATE reset, or each of its lanes is drained (R656). -/
def Device.sliceIdle (d : Device) (s : Nat) : Bool :=
  d.sliceHeld s || (List.range 4).all (fun j => d.bit (laneBase (4 * s + j) + 0x14) 1)

/-- A slice's counters after one HK period of 18 core clocks (R655 to R657). -/
def SlotSt.tick (x : SlotSt) (idle : Bool) (k : Nat) : SlotSt :=
  { cnt := x.cnt.zipWith (fun a b => (a + b) % 2 ^ 64)
      (if idle then [0, 0, 18, 0, 0, 0, 18, 0, 0, 0, 18, 0] else slotClasses k ++ slotClasses (k + 1) ++ slotClasses (k + 2))
    total := (x.total + 18) % 2 ^ 64 }

/-- Slice `s` counts the slots of one HK period. -/
def Device.slotTick (d : Device) (s : Nat) : Device :=
  { d with slots := tabPut {} d.slots s ((d.slot s).tick (d.sliceIdle s) d.fresh)
           fresh := if d.sliceIdle s then d.fresh else d.fresh + 3 }

/-- All slices count. -/
def Device.slotTicks (d : Device) : Device := (List.range 16).foldl Device.slotTick d

/-- The low and high word of a 64-bit counter. -/
def words64 (n : Nat) : List Word := [wd n, wd (n / 2 ^ 32)]

/-- The 30 snapshot words of a slice (R665). -/
def SlotSt.words (x : SlotSt) : List Word :=
  (List.range 3).flatMap (fun p => (List.range 4).flatMap (fun c => words64 (x.cnt.getD (4 * p + c) 0)) ++ words64 x.total)

/-- A slice's counters are copied (R658). -/
def Device.snapSlice (d : Device) (s : Nat) : Device :=
  (d.incWrap (sliceBase s + 0xA04)).wrs (sliceBase s + 0xA10) (d.slot s).words

/-- SLOT_SNAP of a slice (R658). -/
def Device.slotSnap (d : Device) (s : Nat) : Device := (d.snapSlice s).ev 0xA0018 3

/-- SLOT_SNAP_ALL (R658). -/
def Device.slotSnapAll (d : Device) : Device := ((List.range 16).foldl Device.snapSlice d).ev 0xA0018 3

/-! The tracer. -/

/-- Updates the hidden state of the tracer. -/
def Device.onTracer (d : Device) (f : TracerSt → TracerSt) : Device := { d with tracer := f d.tracer }

/-- TRC_CFG.ENA. -/
def Device.trcEna (d : Device) : Bool := d.bit 0xA0010 0

/-- A word leaving a framer is chosen (R659): tagged while a tag slot is free, else counted as skipped. -/
def Device.tagOne (d : Device) (n : Nat) : Device :=
  if d.tracer.flying.length < 256 then
    (d.onTracer (fun t => { t with flying := t.flying ++ [(t.next, sliceOfLane n, n)], next := (t.next + 1) % 65536 })).inc 0xA0030
  else d.inc 0xA0034

/-- Chosen words, one after the other. -/
def Device.tagMany (d : Device) (n : Nat) : Nat → Device
  | 0 => d
  | k + 1 => (d.tagOne n).tagMany n k

/-- The words chosen in a frame of lane `n` (R659): none while ENA is 0, its slice is not in SLICE_MASK, or the lane does not
frame. -/
def Device.tagWords (d : Device) (n k : Nat) : Device :=
  if d.trcEna && d.bit 0xA0010 (16 + sliceOfLane n) && d.laneSync n && !d.sliceHeld (sliceOfLane n) then d.tagMany n k else d

/-- Stamp `j` of a tag, if taken. -/
def tagStamp (o : TagObs) (j : Nat) : Option Nat := o.stamps.getD j none

/-- The FIFO entry of a tag (R661). -/
def tagEntry (slice lane : Nat) (timeout : Bool) (o : TagObs) : List Word :=
  wd (o.id % 65536 + 2 ^ 16 * slice + 2 ^ 20 * lane
      + ((List.range 6).map (fun j => if (tagStamp o j).isSome then 2 ^ (26 + j) else 0)).sum)
    :: (List.range 6).map (fun j => wd ((tagStamp o j).getD 0))
    ++ [wd (o.idx % 2 ^ 18 + 2 ^ 18 * b2n o.ho + 2 ^ 19 * b2n timeout + 2 ^ 20 * b2n o.dropped + 2 ^ 21 * b2n o.broadcast)]

/-- The bin of a latency of pair `p` (R662). -/
def Device.histBin (d : Device) (p lat : Nat) : Nat := min 63 (lat / 2 ^ d.get 0xA0024 (5 * p) 5)

/-- The histogram address of a pair and bin (R666). -/
def histAddr (p b : Nat) : Nat := 0xA1000 + 0x100 * p + 4 * b

/-- A pair whose two stamps were taken counts its latency, modulo 2^32 (R660, R662). -/
def Device.histPair (d : Device) (o : TagObs) (p : Nat) : Device :=
  match tagStamp o p, tagStamp o (p + 1) with
  | some a, some b => d.inc (histAddr p (d.histBin p ((b + 2 ^ 32 - a % 2 ^ 32) % 2 ^ 32)))
  | _, _ => d

/-- An entry meets the tracer FIFO (R661). -/
def Device.trcAppend (d : Device) (e : List Word) : Device :=
  if 4096 ≤ d.tracer.fifo.length then (d.inc 0xA0038).ev 0xA0018 1
  else (d.onTracer (fun t => { t with fifo := t.fifo ++ [e] })).when d.tracer.fifo.isEmpty (·.ev 0xA0018 0)

/-- A tag in flight ends (R660 to R662): its slot is freed, the histograms count, its entry is appended. -/
def Device.tagDone (d : Device) (timeout : Bool) (o : TagObs) : Device :=
  match d.tracer.flying.find? (fun t => t.1 == o.id) with
  | none => d
  | some t =>
    (((List.range 5).foldl (fun d p => d.histPair o p)
      (d.onTracer (fun x => { x with flying := x.flying.filter (fun y => y.1 != o.id) }))).trcAppend
        (tagEntry t.2.1 t.2.2 timeout o))

/-- A tag reaches egress or is dropped in the path. -/
def Device.tagEnd (d : Device) (o : TagObs) : Device := d.tagDone false o

/-- A tag times out (R660): S5 was not taken. -/
def Device.tagTimeout (d : Device) (o : TagObs) : Device :=
  if d.tracer.flying.any (fun t => t.1 == o.id) then
    (d.inc 0xA0040).tagDone true { o with stamps := o.stamps.take 5, dropped := false }
  else d

/-- A tag that an ISOLATE reset ends (R664): the stamps it took, its context and BROADCAST are free values.
DESIGN CHOICE, log entry 58. -/
def Device.tagIsolated (d : Device) (id : Nat) : Device :=
  (fun x : Word × Device =>
    (fun ss : List (Option Nat) × Device =>
      ss.2.tagDone false
        { id := id, stamps := ss.1, idx := fld x.1 0 18, ho := bitAt x.1 18, dropped := true, broadcast := bitAt x.1 19 })
    ((List.range 5).foldl (fun (a : List (Option Nat) × Device) j =>
      (a.1 ++ [if j ≤ fld x.1 20 3 then some a.2.free.1.toNat else none], a.2.free.2)) ([], x.2)))
  d.free

/-- The tags of a slice that is isolated (R664). -/
def Device.tagsIsolated (d : Device) (s : Nat) : Device :=
  (d.tracer.flying.filter (fun t => t.2.1 == s)).foldl (fun d t => d.tagIsolated t.1) d

/-- A write of TRC_CFG (R659, R663).
DESIGN CHOICE, log entry 58. -/
def Device.trcCfgWrite (d : Device) (v : Word) : Device :=
  if d.trcEna && !bitAt v 0 then
    ((d.wr 0xA0010 v).add 0xA003C d.tracer.flying.length).onTracer (fun t => { t with flying := [] }) |>.ev 0xA0018 2
  else d.wr 0xA0010 v

/-- POP (R661). -/
def Device.trcPop (d : Device) : Device := d.onTracer (fun t => { t with fifo := t.fifo.drop 1 })

/-- HIST_CLR (R662). -/
def Device.histClr (d : Device) : Device := d.zero ((List.range 320).map (fun i => histAddr (i / 64) (i % 64)))

/-- A write of TRC_CMD (R666). -/
def Device.trcCmd (d : Device) (v : Word) : Device :=
  ((d.when (bitAt v 0) Device.trcPop).when (bitAt v 1) Device.histClr).when (bitAt v 2) Device.slotSnapAll

/-- CNT_CLR of the tracer (R666). -/
def Device.trcCntClr (d : Device) : Device := d.zero [0xA0030, 0xA0034, 0xA0038, 0xA003C, 0xA0040]

/-- TRC_STATUS (R666). -/
def Device.trcStatus (d : Device) : Word :=
  wd (b2n d.trcEna + 2 * b2n (!d.trcEna) + 2 ^ 4 * d.tracer.flying.length + 2 ^ 16 * d.tracer.fifo.length)

/-- The words of FIFO_HEAD (R661). -/
def Device.trcHead (d : Device) : List Word := d.tracer.fifo.headD [0, 0, 0, 0, 0, 0, 0, 0]

end Sys2Proof.Machine
end

