-- ==== Sys2Proof/Machine/Fault.lean ====
section
/-! DEFINITION. The Fault Collector: sources, windows, promotion, reactions, masks, injection, captures and the trouble log
(R552 to R574, R674, R675). -/

namespace Sys2Proof.Machine
open Sys2Proof

/-! Sources (R552, R553). -/

/-- The class of a source. -/
def srcClass (i : Nat) : Nat :=
  if srcFatal i then 9
  else if i ≤ 21 then 0
  else if i ≤ 24 then 1
  else if i ≤ 26 then 2
  else if i ≤ 29 then 4
  else if i ≤ 36 then 5
  else if i ≤ 38 then 6
  else if i ≤ 42 then 7
  else if i ≤ 321 then 3 else 8

/-- ISOLATE may be configured for a source: its target is not "—". -/
def srcIsolate (i : Nat) : Bool :=
  [10, 11, 13, 14, 16, 19, 20, 21].contains i || (decide (128 ≤ i) && decide (i ≤ 311))

/-- The TC an SRAM address names (R552): by the register map, or by the byte offset in a pool of `size` bytes an entry. -/
def addrTc (a base stride size : Nat) : Option Nat :=
  if base ≤ a then (if (a - base) / stride < 262144 then some ((a - base) / stride) else none)
  else if a / size < 262144 then some (a / size) else none

/-- The scope and the ISOLATE target of an uncorrectable or corrected SRAM event in pool `p` (R552): none where the address names
no location.
PRESUMED, log entry 32. -/
def Device.poolScope (d : Device) (p a : Nat) : Scope × Option Scope :=
  match p with
  | 0 =>
    if a < 19906560 then (.slice (a / 155520 % 64 / 4), some (.slice (a / 155520 % 64 / 4))) else (.device, none)
  | 1 => match addrTc a 0x02000000 0x40 48 with | some k => (.lane (d.tcLane k), some (.tc k)) | none => (.device, none)
  | 3 =>
    match locOf a with
    | some ⟨.trace, _, off⟩ =>
      if off < 0x800000 then (.lane (d.tcLane (off / 0x20)), some (.tc (off / 0x20)))
      else if off < 0x980000 then (.lane ((off - 0x800000) / 0x80 / 192), some (.lane ((off - 0x800000) / 0x80 / 192)))
      else (.device, none)
    | _ => (.device, none)
  | 4 =>
    match locOf a with
    | some ⟨.page, _, off⟩ => (.slice (d.entryOwner (entryCtx off)), some (.slice (d.entryOwner (entryCtx off))))
    | _ => (.device, none)
  | 6 => if a / 16 < 262144 then (.lane (d.tcLane (a / 16)), some (.tc (a / 16))) else (.device, none)
  | 9 =>
    match locOf a with
    | some ⟨.lane, n, _⟩ => (.lane n, some (.lane n))
    | _ => (.device, none)
  | _ => (.device, none)

/-- The scope and the target of a report.
DEDUCED, log entry 68. -/
def Device.srcScope (d : Device) (r : SrcReport) : Scope × Option Scope :=
  if r.src < 20 then (if r.real then d.poolScope (r.src % 10) r.addr else (.device, none))
  else if r.src < 22 then
    (if r.syndrome % 16 < 12 then (.channel (r.syndrome % 16), some (.channel (r.syndrome % 16))) else (.device, none))
  else if r.src < 128 then (.device, none)
  else if r.src < 256 then (.lane (r.src % 64), some (.lane (r.src % 64)))
  else if r.src < 288 then (.slice (r.src % 16), some (.slice (r.src % 16)))
  else if r.src < 312 then (.channel ((r.src - 288) % 12), some (.channel ((r.src - 288) % 12)))
  else (.device, none)

/-- A scope lies within another (R565). -/
def Device.within (d : Device) : Scope → Scope → Bool
  | _, .device => true
  | .slice a, .slice s => a == s
  | .lane n, .slice s => sliceOfLane n == s
  | .tc k, .slice s => sliceOfLane (d.tcLane k) == s
  | .lane n, .lane m => n == m
  | .tc k, .lane m => d.tcLane k == m
  | .tc k, .tc j => k == j
  | .channel a, .channel b => a == b
  | _, _ => false

/-- The capture ID of the most recent of the masks that cover a report (R565): none for class FATAL. -/
def Device.maskedBy (d : Device) (masks : List FcMask) (r : SrcReport) : Option Nat :=
  if srcFatal r.src then none
  else ((masks.filter (fun m => d.within (d.srcScope r).1 m.scope)).getLast?).map (·.capture)

/-! Captures and the trouble log (R568 to R571). -/

/-- A capture is taken (R568, R569, R571): its ID, and the device. -/
def Device.fcCapture (d : Device) (r : SrcReport) (promo : Bool) (react flags : Nat) : Nat × Device :=
  (fun (id e : Nat) =>
    (fun ws : List Word =>
      (id,
        (fun d1 : Device =>
          ((((d1.wrs (0x10800 + 0x20 * e) ws).wr 0x10070 (wd (if id = 0xFFFF then 1 else id + 1))).put 0x10074 0 6 ((e + 1) % 64)).ev
            0x10014 3))
        (if d.get 0x10074 8 7 = 64 then ((d.incField 0x10074 16 16).ev 0x10014 4)
         else d.put 0x10074 8 7 (d.get 0x10074 8 7 + 1))))
    ([wd (id + 2 ^ 16 * r.src + 2 ^ 25 * srcClass r.src + 2 ^ 29 * b2n r.real + 2 ^ 30 * b2n r.inj + 2 ^ 31 * b2n promo),
      wd r.addr, wd (r.master + 8 * r.access + 32 * react + 2 ^ 8 * flags), wd r.syndrome] ++ d.stamp))
  (d.get 0x10070 0 16) (d.get 0x10074 0 6)

/-- The first-error capture of a class, while armed (R568). -/
def Device.fcFirst (d : Device) (r : SrcReport) : Device :=
  (fun (c e : Nat) =>
    if d.rd (0x10200 + 0x20 * c) = 0 then
      (fun d1 : Device => d1.wrs (0x10200 + 0x20 * c) (d1.rds (0x10800 + 0x20 * e) 8)) (d.fcCapture r false 0 0).2
    else d)
  (srcClass r.src) (d.get 0x10074 0 6)

/-- LOG_CLEAR (R571). -/
def Device.logClear (d : Device) : Device :=
  ({ d with regs := d.regs.filter (fun e => !(decide (0x10800 ≤ e.1) && decide (e.1 < 0x11000))) } : Device).wr 0x10074 0 |>.wr 0x10070 1

/-- REARM of the classes whose bits are set (R568). -/
def Device.rearm (d : Device) (classes : Nat) : Device :=
  (List.range 10).foldl (fun d c => if classes / 2 ^ c % 2 = 1 then d.wrs (0x10200 + 0x20 * c) (List.replicate 8 0) else d) d

/-! Reactions (R559 to R563). -/

/-- Updates the hidden state of the Fault Collector. -/
def Device.onFc (d : Device) (f : FaultCol → FaultCol) : Device := { d with fc := f d.fc }

/-- The enabled lanes among those a reaction covers go idle at once (R156). -/
def Device.squelchLanes (d : Device) (l : List Nat) : Device := l.foldl (fun d n => if d.laneEna n then d.laneFaultIdle n else d) d

/-- SAFE_STATE is entered (R561): `origin` 1 a reaction, 2 a Pantry load. -/
def Device.safeEnter (d : Device) (id origin : Nat) : Device :=
  if d.fc.safe then d
  else
    ((((d.onFc (fun c => { c with safe := true })).wr 0x10078 (wd (id + 2 ^ 16 * origin))).ev 0x10014 2).squelchLanes (List.range 64)).pwStop
      d.pw.up

/-- An ISOLATE of a target begins (R560). -/
def Device.isolate (d : Device) (t : Scope) : Device :=
  (fun d1 : Device =>
    match t with
    | .slice s =>
      (((d1.squelchLanes ((List.range 4).map (4 * s + ·))).hallSliceLost s).tagsIsolated s).cellsDrop (fun n => sliceOfLane n == s)
    | .lane n => d1.squelchLanes [n]
    | .channel c => (d.setBit (celChan c) 2 true).celReadyLost
    | .tc _ => d1
    | .device => d)
  (d.onFc (fun c =>
    { c with holds := c.holds.filter (fun e => !(e.1 == t)) ++ [(t, d.uptime + 200 * d.get 0x10060 0 17)] }))

/-- A head or member of a slice that leaves a reset: the receive side starts anew (R177, R308, R560), the transmit side goes on with a new
pointer. -/
def HoSt.restart (x : HoSt) (oom : Bool) : HoSt :=
  { rx := x.rx, tx := x.tx, claim := x.claim, rxMon := x.rxMon, txMon := x.txMon, tx1 := x.tx1, tx2 := x.tx2
    pi := if x.claim.isSome then { st := .conc } else {}, shadow := if x.claim.isSome then { st := .conc } else {}
    gen := { x.gen with newPtr := true }, out := x.out, prot := x.prot, capt := x.capt, ca := x.ca, oom := oom
    txPos := x.txPos, poh := x.poh }

/-- The same of a tributary. -/
def TcSt.restart (x : TcSt) : TcSt :=
  { conflict := x.conflict, rx := x.rx, tx := x.tx, rxCfg := x.rxCfg, rxMon := x.rxMon, txCfg := x.txCfg, txMon := x.txMon
    gen := { x.gen with newPtr := true }, out := x.out, prot := x.prot, capt := x.capt, ca := x.ca, rxCli := x.rxCli, txCli := x.txCli
    poh := x.poh, txPos := x.txPos }

/-- A lane of a slice that leaves a reset: framers in HUNT, and every detector from its cleared state (R308, R560). -/
def Device.laneRestart (d : Device) (n : Nat) : Device :=
  ((d.framersDrop n).onLane n (fun l => { l.drained with
    rxOn := l.rxOn, draining := l.draining, txOn := l.txOn, tx := l.tx, txb := l.txb, act := l.act, taps := l.taps })).put
    (laneBase n + 0x4000) 0 9 0

/-- The defects of a slice's lanes and contexts restart (R308, R560). -/
def Device.sliceRestart (d : Device) (s : Nat) : Device :=
  (fun d1 : Device =>
    (fun d2 : Device =>
      (tabKeys d2.tcs).foldl (fun d k => if sliceOfLane (d.tcLane k) = s then (d.onTc k TcSt.restart).tcExtOff k else d) d2)
    ((tabKeys d1.hos).foldl (fun d h =>
      if h / 768 = s then d.onHo h (fun x => x.restart (d.bit (hoBase h) 4 && x.rx.runs)) else d) d1))
  ((List.range 4).foldl (fun d i => d.laneRestart (4 * s + i)) d)

/-- The holds that have elapsed end (R560). -/
def Device.holdsEnd (d : Device) : Device :=
  (fun due : List (Scope × Nat) =>
    due.foldl (fun d e =>
      match e.1 with
      | .slice s => d.sliceRestart s
      | .tc k => d.onTc k (fun x => { x with gen := { x.gen with newPtr := true } })
      | _ => d) (d.onFc (fun c => { c with holds := c.holds.filter (fun e => decide (d.uptime < e.2)) })))
  (d.fc.holds.filter (fun e => decide (e.2 ≤ d.uptime)))

/-- The earliest of some times. -/
def earliest : List Nat → Nat
  | [] => 0
  | t :: l => l.foldl min t

/-- The hold that ends first has elapsed, and every other that has (R560). -/
def Device.isolateEnd (d : Device) : Device := (d.reach (earliest (d.fc.holds.map (·.2)))).holdsEnd

/-! Evaluation (R556 to R558, R563 to R567, R572). -/

/-- The one event of each source in a slot, by rising source: real with injected is real (R556, R567).
DEDUCED, log entry 50. -/
def slotEvents (l : List SrcReport) : List SrcReport :=
  (toRising (l.map (·.src))).filterMap (fun s =>
    ((l.filter (fun r => r.src == s && r.real)).head?.orElse (fun _ => (l.filter (fun r => r.src == s)).head?)).map (fun r =>
      { r with inj := l.any (fun x => x.src == s && x.inj) }))

/-- An event that is counted promotes its source (R556, R557). -/
def Device.promotes (d : Device) (r : SrcReport) : Bool :=
  srcFatal r.src ||
    decide (d.get (srcBase r.src) 8 8 ≤ (if d.bit (srcBase r.src + 8) 2 then d.get (srcBase r.src + 8) 3 8 else 0) + 1)

/-- A promotion by the event would be real (R567).
DEDUCED, log entry 67. -/
def Device.promoReal (d : Device) (r : SrcReport) : Bool := r.real || (!srcFatal r.src && d.fc.realWin.contains r.src)

/-- An event as the capture of its promotion shows it: REAL and INJ tell what took part in the window (R567, R569).
DEDUCED, log entry 67. -/
def Device.promoEvent (d : Device) (r : SrcReport) : SrcReport :=
  { r with real := d.promoReal r, inj := r.inj || (!srcFatal r.src && d.fc.injWin.contains r.src) }

/-- The configured reaction of a source. -/
def Device.srcReact (d : Device) (i : Nat) : Nat := d.get (srcBase i) 0 3

/-- The reaction is neither in cooldown nor suppressed as injected (R558, R567). -/
def Device.reactOpen (d : Device) (r : SrcReport) : Bool :=
  !d.bit (srcBase r.src + 8) 1 && (decide (d.srcReact r.src ≤ 1) || d.promoReal r || d.bit (srcBase r.src) 3)

/-- The event would perform WARM_RESET (R572, R585).
DEDUCED, log entry 50. -/
def Device.warmWins (d : Device) (masks : List FcMask) (r : SrcReport) : Bool :=
  (d.maskedBy masks r).isNone && d.promotes r && decide (d.srcReact r.src = 5) && d.reactOpen r && decide (d.bootPhase = 7)

/-- A counted event: its counter, the first-error capture, the window (R556, R568).
DEDUCED, log entry 67. -/
def Device.fcCount (d : Device) (r : SrcReport) : Device :=
  (fun d1 : Device =>
    if d1.bit (srcBase r.src + 8) 2 then d1.incField (srcBase r.src + 8) 3 8
    else
      ((d1.setBit (srcBase r.src + 8) 2 true).put (srcBase r.src + 8) 3 8 1).onFc (fun c =>
        { c with winEnd := tabPut 0 c.winEnd r.src (d1.uptime + ms (d1.get (srcBase r.src + 4) 0 22)) }))
  (((d.inc (srcCntBase r.src)).fcFirst r).onFc (fun c =>
    { c with
        realWin := if r.real && !c.realWin.contains r.src then c.realWin ++ [r.src] else c.realWin
        injWin := if r.inj && !c.injWin.contains r.src then c.injWin ++ [r.src] else c.injWin }))

/-- The window of a source closes (R556). -/
def Device.winClose (d : Device) (i : Nat) : Device :=
  ((d.setBit (srcBase i + 8) 2 false).put (srcBase i + 8) 3 8 0).onFc (fun c =>
    { c with realWin := c.realWin.filter (· != i), injWin := c.injWin.filter (· != i) })

/-- A reaction is performed: SEVERE, cooldown, and the mask from now on (R558, R564). -/
def Device.reactStart (d : Device) (r : SrcReport) (react id : Nat) (scope : Option Scope) : Device :=
  ((d.setBit (srcBase r.src + 8) 0 true).setBit (srcBase r.src + 8) 1 true).onFc (fun c =>
    { c with
        coolEnd := tabPut 0 c.coolEnd r.src (d.uptime + ms (10 * d.get (0x10040 + 4 * react) 16 16))
        masks := match scope with
          | some s => c.masks ++ [⟨s, id, d.uptime + ms (d.get (0x10040 + 4 * react) 0 16)⟩]
          | none => c.masks })

/-- The report of EVENT (R559). -/
def Device.fcReport (d : Device) (react : Nat) : Device := d.when (decide (react ≠ 0)) (·.ev 0x10014 0)

/-- A promotion (R558, R559, R563, R567, R572, R585): `won` tells that another promotion of the slot performs WARM_RESET. The reset a
promotion performs itself is answered as its capture ID and MASK_MS. -/
def Device.promote (d : Device) (r : SrcReport) (won : Bool) : Option (Nat × Nat) × Device :=
  (fun (c : Nat) (e : SrcReport) =>
    if d.bit (srcBase r.src + 8) 1 then
      (none, (((d.fcCapture e true c 1).2).inc (srcCntBase r.src + 0xC)).ev 0x10014 1)
    else if !d.reactOpen r then (none, ((d.fcCapture e true c 2).2).fcReport c)
    else if won then (none, ((d.fcCapture e true c 4).2).fcReport c)
    else if c = 2 then
      match (d.srcScope r).2 with
      | some t => (none, (fun p : Nat × Device => ((p.2.fcReport c).isolate t).reactStart r 2 p.1 (some t)) (d.fcCapture e true 2 0))
      | none => (none, ((d.fcCapture e true c 4).2).fcReport c)
    else if c = 3 then
      match d.releaseLease with
      | some d1 => (none, (fun p : Nat × Device => (p.2.fcReport c).reactStart r 3 p.1 (some .device)) (d1.fcCapture e true 3 0))
      | none => (none, (((d.fcCapture e true c 4).2).fcReport c).pwRefuse 2)
    else if c = 5 ∧ d.bootPhase = 7 then
      (fun p : Nat × Device => (some (p.1, d.get (0x10040 + 4 * 5) 0 16), p.2.fcReport c)) (d.fcCapture e true 5 0)
    else if 4 ≤ c then
      (none, (fun p : Nat × Device => ((p.2.fcReport c).safeEnter p.1 1).reactStart r 4 p.1 (some .device))
        (d.fcCapture e true 4 (8 * b2n (decide (c = 5)))))
    else (none, (fun p : Nat × Device => (p.2.fcReport c).reactStart r c p.1 none) (d.fcCapture e true c 0)))
  (d.srcReact r.src) (d.promoEvent r)

/-- One event is evaluated with the masks of the slot's beginning. -/
def Device.fcEvent (masks : List FcMask) (warm : Option Nat) (a : Option (Nat × Nat) × Device) (r : SrcReport) :
    Option (Nat × Nat) × Device :=
  match a.2.maskedBy masks r with
  | some id => (a.1, ((a.2.inc (srcCntBase r.src + 4)).wr (srcCntBase r.src + 8) (wd id)).ev 0x10014 5)
  | none =>
    if a.2.promotes r then
      (fun d1 : Device =>
        (fun p : Option (Nat × Nat) × Device => (a.1.orElse (fun _ => p.1), p.2.winClose r.src))
          (d1.promote r (match warm with | some s => s != r.src | none => false)))
      (a.2.fcCount r)
    else (a.1, a.2.fcCount r)

/-- One evaluation slot; what the passes of the Hall found for the next slot moves up (R292, R556, R572).
DEDUCED, log entry 50. -/
def Device.fcSlot (d : Device) : Device :=
  (fun (evs : List SrcReport) =>
    (fun p : Option (Nat × Nat) × Device =>
      match p.1 with
      | some m => p.2.warmReset 4 (some m)
      | none => p.2)
    (evs.foldl (Device.fcEvent d.fc.masks ((evs.find? (d.warmWins d.fc.masks)).map (·.src)))
      (none, d.onFc (fun c => { c with raised := c.later.headD [], later := c.later.tail }))))
  (slotEvents (d.fc.raised.filter (fun r => srcNamed r.src)))

/-! Live conditions (R555, R674, R675). -/

/-- LIVE of a source. -/
def Device.fcLive (d : Device) (i : Nat) : Bool := d.bit (srcBase i + 8) 12
/-- Stores LIVE. -/
def Device.setLive (d : Device) (i : Nat) (b : Bool) : Device := d.setBit (srcBase i + 8) 12 b

/-- A source that has a live condition. -/
def srcLives (i : Nat) : Bool := (decide (39 ≤ i) && decide (i ≤ 42)) || (decide (448 ≤ i) && decide (i ≤ 459))

/-- A condition that holds above a level: an event at entry, live while it holds; `low` is the level that ends it. -/
def Device.tempCheck (d : Device) (i : Nat) (t : Int) (high low : Int) : Device :=
  if d.fcLive i then (if t ≤ low then d.setLive i false else d)
  else if high < t then (d.setLive i true).raise { src := i, syndrome := unsigned 12 t } else d

/-- A temperature reading in 0.25 degC (R555). -/
def Device.tempRead (d : Device) (t : Int) : Device :=
  (fun crit : Int =>
    ((d.wr 0x1006C (wd (unsigned 12 t))).tempCheck 39 t (4 * (d.get 0x10068 0 8 : Nat)) (4 * ((d.get 0x10068 0 8 : Nat) - 5 : Int))).tempCheck
      40 t crit crit)
  (if Config.gradeXE then 460 else 440)

/-- The nominal of a rail in mV (R575); that of VDD_NVM is STRAP_NVMV's. -/
def Device.railNominal (d : Device) (r : Nat) : Nat :=
  match r with
  | 0 => 750 | 1 => 800 | 2 => 850 | 3 => 1200 | 4 => 1200 | 5 => 1800 | _ => if d.bit 0x1C 2 then 3300 else 1800

/-- The levels of a rail in mV at which it is good, and below which it fails (R575). -/
def railGood (r : Nat) : Nat := [675, 720, 765, 1080, 1080, 1620, 1620].getD r 0
def railFails (r : Nat) : Nat := [638, 680, 723, 1020, 1020, 1530, 1530].getD r 0

/-- A voltage is more than `pct` percent off nominal (R555). -/
def railOff (nominal mv pct : Nat) : Bool := decide (100 * mv < (100 - pct) * nominal) || decide ((100 + pct) * nominal < 100 * mv)

/-- One limit of a rail (R555): leaving it is an event of source `i`, which is live while `out` holds a rail. -/
def Device.railCheck (d : Device) (i r mv : Nat) (off : Bool) (out : List Nat) : Device :=
  if off then (if out.contains r then d else (d.setLive i true).raise { src := i, syndrome := r + 2 ^ 16 * (mv % 2 ^ 16) })
  else if out = [r] then d.setLive i false else d

/-- A rail has had a voltage for 10 us (R555, R570). -/
def Device.voltRead (d : Device) (x : Nat × Nat) : Device :=
  (fun (w c : Bool) =>
    ((d.railCheck 41 x.1 x.2 w d.fc.railWarn).railCheck 42 x.1 x.2 c d.fc.railCrit).onFc (fun f =>
      { f with
          railWarn := f.railWarn.filter (· != x.1) ++ (if w then [x.1] else [])
          railCrit := f.railCrit.filter (· != x.1) ++ (if c then [x.1] else []) }))
  (railOff (d.railNominal x.1) x.2 5) (railOff (d.railNominal x.1) x.2 10)

/-- A target domain stops (R72). -/
def Device.domStop (d : Device) (m : Domain) : Device :=
  { d with bus := { d.bus with stopped := m :: d.bus.stopped.filter (· != m) } }
/-- A target domain runs. -/
def Device.domRun (d : Device) (m : Domain) : Device := { d with bus := { d.bus with stopped := d.bus.stopped.filter (· != m) } }

/-- A report of the slot; a VOLT or INPUT condition is live from then on; an uncorrectable read of the Cellar is counted (R372).
DESIGN CHOICE, log entry 90. -/
def Device.faultReport (d : Device) (r : FaultRep) : Device :=
  ((d.when (srcLives r.src) (·.setLive r.src true)).when (r.src == 20) (·.celUncorr (r.syndrome % 16))).raise
    { src := r.src, addr := r.addr, master := r.master, access := r.access, syndrome := r.syndrome }

/-- A slot with what the sources report in it (R556): the reports, the live conditions that end, a temperature reading, and the rails
whose voltage has changed, in mV.
DEDUCED, log entry 50. -/
def Device.faultSlot (d : Device) (reps : List FaultRep) (ended : List Nat) (temp : Option Int) (volts : List (Nat × Nat)) : Device :=
  (fun d1 : Device => (volts.foldl Device.voltRead (match temp with | some t => d1.tempRead t | none => d1)).fcSlot)
  (reps.foldl Device.faultReport (ended.foldl (fun d i =>
    (if srcLives i then d.setLive i false else d).when (i == 451) (·.domRun .pcie)) d))

/-- An input is checked (R675). -/
def Device.inputUsed (d : Device) (i : Nat) : Bool :=
  match i with
  | 3 => d.bit 0x80010 0
  | 4 => d.bit (refBase 6) 0
  | 5 => d.bit (refBase 7) 0
  | 6 => d.bit (domBase 0) 0
  | 7 => d.bit (domBase 1) 0
  | 8 => d.bit (domBase 0) 0
  | 9 => d.bit (domBase 1) 0
  | _ => decide (i < 12)

/-- What an input shows is a failure of its check (R674): code 1 a value outside its range, code 2 a timeout, which the two I2C pins
meet after more than 35 ms. -/
def inputFails (i code value : Nat) : Bool :=
  (fun off : Nat =>
    match i, code with
    | 0, 1 => decide (200 < off)
    | 1, 1 | 2, 1 => decide (1000 < off)
    | 3, 1 => decide (3000 < off)
    | 4, 1 | 5, 1 => decide (10000 < off)
    | 8, 1 | 9, 1 => decide (1 ≤ value) && decide (value ≤ 3)
    | 10, 1 | 11, 1 => false
    | 10, 2 | 11, 2 => decide (35 < value)
    | _, c => decide (c = 1) || decide (c = 2))
  (signed 16 value).natAbs

/-- An input enters a failing condition (R674, R675): 1 RANGE, 2 TIMEOUT, with the measured value. -/
def Device.inputEnter (d : Device) (i timeout value : Nat) : Device :=
  (fun d1 : Device =>
    if d.inputUsed i && inputFails i timeout value && !d.fcLive (448 + i) then
      (d1.setLive (448 + i) true).raise { src := 448 + i, syndrome := timeout + 2 ^ 16 * (value % 2 ^ 16) }
    else d1)
  (if i = 3 ∧ timeout = 2 then d.domStop .pcie else d)

/-- The watchdogs run (R554, R586): from the start of the cores, not in HALT, and held during a swap.
DEDUCED, log entry 93. -/
def Device.wdogRuns (d : Device) : Bool := decide (3 ≤ d.bootPhase) && decide (d.bootPhase ≤ 7) && !d.opKindRunning 6

/-- A management core has not served its watchdog (R554).
DEDUCED, log entry 93. -/
def Device.wdogExpiry (d : Device) (core since : Nat) : Device :=
  if !d.wdogRuns || decide (since < d.get 0x10064 0 14) then d
  else d.raise { src := if core = 0 then 37 else 38, syndrome := since % 65536 }

/-! Timers (R556, R558, R564, R566). -/

/-- The window of a source ends.
DESIGN CHOICE, log entry 7. -/
def Device.windowExpiry (d : Device) (i : Nat) : Device :=
  if d.bit (srcBase i + 8) 2 then (d.reach (tabGet 0 d.fc.winEnd i)).winClose i else d

/-- The cooldown of a source ends.
DESIGN CHOICE, log entry 7. -/
def Device.cooldownEnd (d : Device) (i : Nat) : Device :=
  if d.bit (srcBase i + 8) 1 then
    ((d.reach (tabGet 0 d.fc.coolEnd i)).setBit (srcBase i + 8) 0 false).setBit (srcBase i + 8) 1 false
  else d

/-- The mask that ends first has elapsed, and every other that has.
DESIGN CHOICE, log entry 7. -/
def Device.maskEnd (d : Device) : Device :=
  (fun d1 : Device => d1.onFc (fun c => { c with masks := c.masks.filter (fun m => decide (d1.uptime < m.till)) }))
    (d.reach (earliest (d.fc.masks.map (·.till))))

/-- An injected event among the slots to come: one of a source in each slot (R566). -/
def injectIn (r : SrcReport) : List (List SrcReport) → List (List SrcReport)
  | [] => [[r]]
  | l :: t => if l.any (fun x => x.src == r.src && x.inj) then l :: injectIn r t else (l ++ [r]) :: t

/-- The next event of an injection enters the evaluation (R566). -/
def Device.injected (d : Device) (i : Nat) : Device :=
  match d.fc.injections.find? (fun x => x.src == i) with
  | some x =>
    (fun d1 : Device =>
      d1.onFc (fun c =>
        { c with
            raised := (injectIn { src := i, real := false, inj := true } (c.raised :: c.later)).headD []
            later := (injectIn { src := i, real := false, inj := true } (c.raised :: c.later)).tail
            injections := c.injections.filter (fun y => y.src != i) ++
              (if x.left ≤ 1 then [] else [{ x with left := x.left - 1, due := d1.uptime + ms x.gap }]) })) (d.reach x.due)
  | none => d

/-! Writes (R562, R566, R574). -/

/-- A refusal of the Fault Collector (R574). -/
def Device.fcRefuse (d : Device) (src cause : Nat) : Device :=
  ((d.inc 0x1007C).wr 0x10080 (wd (src + 2 ^ 12 * cause))).ev 0x10014 6

/-- SAFE_EXIT (R562, R530).
DEDUCED, log entry 46. -/
def Device.safeExit (d : Device) : Device :=
  if d.fc.safe then
    (fun d1 : Device => (if d1.pwRole = 0 then d1.pwTo 1 else d1).pwTry) (d.onFc (fun c => { c with safe := false }))
  else d

/-- A FATAL condition is live. -/
def Device.fatalLive (d : Device) : Bool := d.fcLive 40 || d.fcLive 42

/-- A write of FC_CMD (R562, R568, R571, R574). -/
def Device.fcCmd (d : Device) (v : Word) : Status × Device :=
  if v &&& ~~~0x03FF0003 ≠ 0 then (.range, d.fcRefuse 0 0)
  else if bitAt v 0 && d.fatalLive then (.range, d.fcRefuse 0 2)
  else (.ok, (((d.when (bitAt v 0) Device.safeExit).when (bitAt v 1) Device.logClear).rearm (fld v 16 10)))

/-- The cause that refuses a write to a source's register at offset `o`: the lowest that applies (R574, R701). -/
def srcCause (i o : Nat) (v : Word) (legal : Bool) : Option Nat :=
  if !legal then some 0
  else if !srcNamed i then some 3
  else if o = 0 ∧ ((fld v 0 3 = 2 ∧ srcIsolate i = false) ∨ (srcFatal i = true ∧ fld v 0 3 ≠ 4 ∧ fld v 0 3 ≠ 5)) then some 1
  else none

/-- SRC_INJ (R566). -/
def Device.srcInj (d : Device) (i : Nat) (v : Word) : Device :=
  d.onFc (fun c =>
    { c with injections := c.injections.filter (fun y => y.src != i) ++ [⟨i, fld v 0 8, fld v 8 8, d.uptime⟩] })

/-! Views (R573). -/

/-- FC_STATUS. -/
def Device.fcStatus (d : Device) : Word :=
  wd (b2n d.fc.safe + 2 * b2n (!d.fc.masks.isEmpty)
    + 4 * b2n (d.regs.any (fun e => decide (0x11000 ≤ e.1) && decide (e.1 < 0x13000) && decide (e.1 % 16 = 8) && bitAt e.2 0))
    + 8 * b2n d.fatalLive)

/-- MASKED of a source: an open mask covers each of its events. The sources 0 to 21 have a scope for each event, so that a mask over
the device alone covers them all (R552, R565).
DEDUCED, log entry 68. -/
def Device.srcMasked (d : Device) (i : Nat) : Bool :=
  if i < 22 ∧ srcFatal i = false then d.fc.masks.any (fun m => m.scope == .device)
  else (d.maskedBy d.fc.masks { src := i }).isSome

/-- SRC_STATUS of a source: MASKED and CLASS are added. -/
def Device.srcStatus (d : Device) (i : Nat) : Word :=
  if srcNamed i then wd ((d.rd (srcBase i + 8)).toNat + 2 ^ 11 * b2n (d.srcMasked i) + 2 ^ 13 * srcClass i) else 0

/-- A word of SEVERE_MAP. -/
def Device.severeMap (d : Device) (w : Nat) : Word :=
  wd (((List.range 32).filter (fun b => d.bit (srcBase (32 * w + b) + 8) 0)).foldl (fun a b => a + 2 ^ b) 0)

end Sys2Proof.Machine
end

