-- ==== Sys2Proof/Machine/Measure.lean ====
section
/-! DEFINITION. Measurement: extends, the event log, attestation reports and the mate's report (R636 to R645). -/

namespace Sys2Proof.Machine
open Sys2Proof

/-- Updates the hidden state of measurement. -/
def Device.onMeas (d : Device) (f : MeasSt → MeasSt) : Device := { d with meas := f d.meas }

/-- SHA-384 as twelve words. -/
def sha12 (l : List Byte) : List Word := (List.range 12).map (fun i => (Config.sha384 l).getD i 0)
/-- The big-endian bytes of words. -/
def bytesOf (l : List Word) : List Byte := l.flatMap wordBytes

/-- A refusal of the MEASURE block (R638, R645, R646). -/
def Device.measRefuse (d : Device) (cause : Nat) : Device := ((d.inc 0x40028).wr 0x4002C (wd cause)).ev 0x40014 4

/-- The entries stored in the event log. -/
def Device.logCount (d : Device) : Nat := d.get 0x40010 0 9

/-- The first 80 bytes of a log entry, as words (R639). -/
def Device.logEntry (d : Device) (ty r : Nat) (dig : List Word) : List Word :=
  [wd (2 ^ 24 * ty + 2 ^ 16 * r), d.rd 0x40020 + 1, 0, 0] ++ d.stamp ++ dig

/-- An extend of MEASr with digest `dig` (R636 to R640).
DESIGN CHOICE, log entry 52. -/
def Device.extend (d : Device) (ty r : Nat) (dig : List Word) : Device :=
  (fun (entry : List Word) =>
    (fun d1 : Device =>
      ((if d.logCount < 256 then (d1.wrs (0x48000 + 0x80 * d.logCount) entry).put 0x40010 0 9 (d.logCount + 1)
        else ((d1.inc 0x40024).setBit 0x40010 9 true).ev 0x40014 1).ev 0x40014 0).onMeas (fun m => { m with busy := true }))
    (((d.wrs (0x40200 + 0x30 * r) (sha12 (bytesOf (d.rds (0x40200 + 0x30 * r) 12 ++ dig)))).wrs 0x402C0
      (sha12 (bytesOf (d.rds 0x402C0 12 ++ entry)))).wr 0x40020 (d.rd 0x40020 + 1)))
  (d.logEntry ty r dig)

/-- HOST_EXTEND_CMD (R637, R638). -/
def Device.hostExtend (d : Device) (v : Word) : Status × Device :=
  if !bitAt v 0 then (.ok, d)
  else if d.meas.busy then (.busy, d.measRefuse 1)
  else if d.logCount = 256 then (.range, d.measRefuse 2)
  else (.ok, d.extend 0x13 3 (d.rds 0x40040 12))

/-! Attestation (R641 to R645). -/

/-- The part of an attestation report over a nonce that is signed (R642): what step 1 takes in one instant (R643). -/
def Device.attBody (d : Device) (nonceLen : Nat) (nonce : List Byte) : List Byte :=
  ([0x41, 0x54, 0x52, 0x50, 0x01,
    BitVec.ofNat 8 (b2n (d.bit 0x40010 9) + 2 * b2n (!d.boot.otp.isEmpty) + 4 * b2n d.fc.safe + 8 * b2n (decide (d.pwRole ≠ 2))
      + 16 * b2n d.meas.swap.isSome)] ++
    natBytes 2 nonceLen ++ wordBytes Config.serialHi ++ wordBytes Config.serialLo ++ (nonce.take nonceLen ++ List.replicate 32 0).take 32 ++
    bytesOf (d.rds 0x40200 48) ++ bytesOf (d.rds 0x402C0 12) ++ wordBytes (d.rd 0x40020) ++ wordBytes (d.rd 0x20030) ++
    wordBytes (d.rd 0x20020) ++ wordBytes (d.rd 0x20024) ++ bytesOf d.stamp ++ bytesOf ((List.range 24).map Config.deviceKey))

/-- A report: its body and the signature over it (R642). -/
def attSigned (body : List Byte) : List Byte := body ++ (Config.deviceSign body ++ List.replicate 96 0).take 96

/-- MATE_ATTEST_STATUS: 0 IDLE, 1 WAITING, 2 DONE, 3 FAILED. -/
def Device.mateState (d : Device) : Nat := d.get 0x40094 0 2

/-- MATE_ATTEST_CMD (R24, R645, R650). -/
def Device.mateAttestGo (d : Device) (master : Nat) (v : Word) : Status × Device :=
  if !bitAt v 0 then (.ok, d)
  else if 32 < fld v 1 6 then (.range, d.measRefuse 0)
  else if d.pw.up = false then (.range, d.measRefuse 3)
  else if d.cores.mc0Away then (.busy, (d.measRefuse 4).porchBusy master)
  else if d.mateState = 1 then (.busy, d.measRefuse 4)
  else
    (.ok,
      (fun d1 : Device =>
        (d1.wr 0x40094 (wd (1 + 2 ^ 8 * (d1.meas.reqId % 2 ^ 24)))).pwSend false
          (.attestReq d1.meas.reqId (fld v 1 6) ((bytesOf (d.rds 0x400A0 8)).take (fld v 1 6) ++ List.replicate (32 - fld v 1 6) 0)))
      (d.pwBegin.onMeas (fun m => { m with reqId := (m.reqId + 1) % 2 ^ 32, reqAt := d.uptime })))

/-- The mate attestation ends (R645): 2 DONE or 3 FAILED with a status. -/
def Device.mateEnd (d : Device) (st code : Nat) : Device := ((d.put 0x40094 0 2 st).put 0x40094 4 4 code).ev 0x40014 2

/-- An ATTEST_RSP from the mate (R645). -/
def Device.attestRsp (d : Device) (id status : Nat) (report : List Byte) : Device :=
  (fun d0 : Device =>
    if d0.mateState = 1 ∧ id = d0.meas.reqId then
      (if status = 0 then (d0.wrs 0x41000 ((bytesWords (report ++ List.replicate 512 0)).take 128)).mateEnd 2 0 else d0.mateEnd 3 status)
    else d0)
  (d.pwBegin.pwHear 1)

/-- No ATTEST_RSP within 100 ms (R645). -/
def Device.mateTimeout (d : Device) : Device :=
  if d.mateState = 1 then (d.reach (d.meas.reqAt + ms 100)).mateEnd 3 Status.timeout.code else d

end Sys2Proof.Machine
end

