-- ==== Sys2Proof/Machine/Pantry.lean ====
section
/-! DEFINITION. The Pantry: the boot directory, image verification, flash commands and owner key enrolment (R595 to R599, R604 to
R609). -/

namespace Sys2Proof.Machine
open Sys2Proof

/-- The little-endian number of `n` bytes at `o`. -/
def leAt (l : List Byte) (o n : Nat) : Nat := bytesNat ((l.drop o).take n).reverse
/-- The bytes from `o` to `e` are zero. -/
def zeroAt (l : List Byte) (o e : Nat) : Bool := ((l.drop o).take (e - o)).all (· == 0)

/-! The boot directory (R596, R597). -/

/-- The slots of a directory copy: OFFSET and CAPACITY. -/
def dirSlots (b : List Byte) : List (Nat × Nat) := (List.range 4).map (fun i => (leAt b (16 + 8 * i) 4, leAt b (20 + 8 * i) 4))

/-- Two slots overlap. -/
def slotsMeet (a b : Nat × Nat) : Bool := decide (a.1 < b.1 + b.2) && decide (b.1 < a.1 + a.2)

/-- No two slots of a list overlap. -/
def slotsApart : List (Nat × Nat) → Bool
  | [] => true
  | a :: t => t.all (fun b => !slotsMeet a b) && slotsApart t

/-- A directory copy is valid in a flash of `cap` bytes. -/
def dirValid (cap : Nat) (b : List Byte) : Bool :=
  decide (b.length = 64) && decide (b.take 5 = [0x47, 0x5A, 0x44, 0x52, 0x01]) && decide (leAt b 60 4 = crc32c (b.take 60))
    && (dirSlots b).all (fun s => decide (s.1 % 65536 = 0) && decide (s.2 % 65536 = 0) && decide (65536 ≤ s.2) && decide (0x20000 ≤ s.1)
        && decide (s.1 + s.2 ≤ cap))
    && slotsApart (dirSlots b)

/-- The capacity of the flash found. -/
def Device.flashCap (d : Device) : Nat := 2 ^ d.get 0x20048 0 8
/-- DIR_GEN of a directory copy. -/
def dirGen (b : List Byte) : Nat := leAt b 8 4

/-- A directory copy becomes the current one. -/
def Device.dirTake (d : Device) (copy : Nat) (b : List Byte) : Device :=
  ((({ d with boot := { d.boot with dir := dirSlots b } } : Device).put 0x20040 0 1 copy).setBit 0x20040 3 (leAt b 5 1 % 2 == 1)).wr 0x20044
    (wd (dirGen b))

/-- CAPACITY of a slot. -/
def Device.slotCap (d : Device) (slot : Nat) : Nat := (d.boot.dir.getD slot (0, 0)).2

/-! Verification (R598, R599). -/

/-- A slot that reads as empty. -/
def slotEmpty (s : SlotObs) : Bool := decide (s.hdr.take 4 = [0xFF, 0xFF, 0xFF, 0xFF])
/-- GENERATION of an image. -/
def slotGen (s : SlotObs) : Nat := leAt s.hdr 8 4
/-- BODY_LEN of an image. -/
def slotLen (s : SlotObs) : Nat := leAt s.hdr 12 4
/-- DIGEST of an image. -/
def slotDigest (s : SlotObs) : List Word := bytesWords ((s.hdr.drop 64).take 48)

/-- The SHA-384 that DIGEST should hold (R598). -/
def slotSum (s : SlotObs) : List Word := sha12 (s.hdr.take 64 ++ s.body.take (slotLen s))

/-- The header of an image is right (cause 1). -/
def headerOk (s : SlotObs) : Bool :=
  decide (s.hdr.length = 512) && decide (s.hdr.take 4 = [0x47, 0x5A, 0x48, 0x52]) && decide (leAt s.hdr 5 1 = 1)
    && decide (leAt s.hdr 6 2 ≤ 1) && zeroAt s.hdr 35 64 && zeroAt s.hdr 304 512 && decide (1 ≤ slotGen s) && decide (slotGen s ≤ 0xFFFFFFFE)

/-- The first failing check of a slot that is not empty (R599): 0 when it verifies.
DEDUCED, log entry 53. -/
def Device.slotCause (d : Device) (slot : Nat) (s : SlotObs) : Nat :=
  if !headerOk s then 1
  else if leAt s.hdr 4 1 ≠ (if slot < 2 then 1 else 2) then 2
  else if d.slotCap slot < 512 + slotLen s ∨ (if slot < 2 then 3145728 else 24916480) < slotLen s ∨ slotLen s % 4 ≠ 0 then 3
  else if (leAt s.hdr 24 8 ≠ 0 ∧ leAt s.hdr 24 8 ≠ Config.serialLo.toNat + 2 ^ 32 * Config.serialHi.toNat) ∨ leAt s.hdr 32 2 ≠ 0x6440 ∨
      0xB0 < leAt s.hdr 34 1 then 4
  else if slotDigest s ≠ slotSum s then 5
  else if 2 ≤ slot ∧ d.boot.otp = [] then 0
  else if slot < 2 ∧ sha12 ((s.hdr.drop 112).take 96) ≠ (List.range 12).map (fun i => Config.vendorKeyDigest.getD i 0) then 6
  else if 2 ≤ slot ∧ (sha12 ((s.hdr.drop 112).take 96) ≠ d.boot.otp ∨ leAt s.hdr 6 2 ≠ 1) then 6
  else if Config.ecdsaOk ((s.hdr.drop 112).take 96) (s.hdr.take 112) ((s.hdr.drop 208).take 96) = false then 7 else 0

/-- A slot verifies. -/
def Device.slotOk (d : Device) (slot : Nat) (s : SlotObs) : Bool := !slotEmpty s && decide (d.slotCause slot s = 0)

/-- Updates the hidden state of the Pantry engine. -/
def Device.onPantry (d : Device) (f : PantrySt → PantrySt) : Device := { d with pantry := f d.pantry }

/-- Whether a slot is known to read as empty.
DEDUCED, log entry 53. -/
def Device.knownEmpty (d : Device) (slot : Nat) : Bool := d.pantry.empty / 2 ^ slot % 2 == 1
/-- Notes that a slot reads as empty or not. -/
def Device.noteEmpty (d : Device) (slot : Nat) (e : Bool) : Device :=
  d.onPantry (fun p => { p with empty := p.empty - 2 ^ slot * (p.empty / 2 ^ slot % 2) + 2 ^ slot * b2n e })

/-- SLOT_STATUS and SLOT_GEN after a verification (R609). -/
def Device.slotNote (d : Device) (slot : Nat) (s : SlotObs) : Device :=
  ((d.wr (0x20050 + 4 * slot) (wd (b2n (slotEmpty s) + 2 * b2n (d.slotOk slot s) + 8
      + 16 * (if slotEmpty s then 0 else d.slotCause slot s)))).wr (0x20060 + 4 * slot) (wd (slotGen s))).noteEmpty slot (slotEmpty s)

/-- FW_SLOT. -/
def Device.fwSlot (d : Device) : Nat := d.get 0x20010 4 1
/-- CFG_SLOT and CFG_LOADED. -/
def Device.cfgSlot (d : Device) : Nat := d.get 0x20010 5 1
/-- CFG_LOADED. -/
def Device.cfgLoaded (d : Device) : Bool := d.bit 0x20010 6
/-- The slot is the firmware slot in FW_SLOT, or the configuration slot in CFG_SLOT while CFG_LOADED is 1 (R608). -/
def Device.slotActive (d : Device) (slot : Nat) : Bool :=
  decide (slot = d.fwSlot) || (d.cfgLoaded && decide (slot = 2 + d.cfgSlot))

/-- The slot is active: firmware has been loaded from it, or it holds the configuration applied (R608, R609). -/
def Device.slotInUse (d : Device) (slot : Nat) : Bool := d.slotActive slot && (decide (2 ≤ slot) || d.rd 0x20020 != 0)

/-! Flash commands (R606 to R608). -/

/-- A refusal of the Pantry (R605, R608). -/
def Device.pantryRefuse (d : Device) (cause : Nat) : Device := ((d.inc 0x200A0).wr 0x200A4 (wd cause)).ev 0x20094 1
/-- FLASH_STATUS.BUSY. -/
def Device.flashBusy (d : Device) : Bool := d.bit 0x2008C 0
/-- FLASH_LEN in bytes: 0 stands for 32,768. -/
def Device.flashLen (d : Device) : Nat := if d.get 0x20088 0 16 = 0 then 32768 else d.get 0x20088 0 16
/-- The window bytes from byte 0. -/
def Device.winBytes (d : Device) (n : Nat) : List Byte := ((d.rds 0x28000 ((n + 3) / 4)).flatMap wordBytesLE).take n

/-- OP, TARGET, OFFSET or LEN is outside R606. -/
def Device.flashField (d : Device) (fop target : Nat) : Bool :=
  decide (fop = 0) || decide (5 < fop) || (decide (fop ≠ 5) && decide (target = 4)) || decide (4 < target)
    || ((decide (fop = 2) || decide (fop = 3)) &&
      (decide ((d.rd 0x20084).toNat % 256 ≠ 0) || decide (d.flashLen % 4 ≠ 0) || decide (32768 < d.flashLen)))

/-- The new directory in the window is not acceptable (R608). -/
def Device.dirInvalid (d : Device) : Bool :=
  (fun b : List Byte =>
    !dirValid d.flashCap b || decide (dirGen b ≠ (d.rd 0x20044).toNat + 1)
      || (List.range 4).any (fun s => d.slotInUse s && decide ((dirSlots b).getD s (0, 0) ≠ d.boot.dir.getD s (0, 0))))
  (d.winBytes 64)

/-- The cause that refuses a flash command.
DEDUCED, log entry 53; DEDUCED, log entry 69. -/
def Device.flashCause (d : Device) (v : Word) : Option Nat :=
  (fun fop target : Nat =>
    if v &&& ~~~0x77 ≠ 0 ∨ d.flashField fop target = true then some 0
    else if d.flashBusy || (decide (d.bootPhase ≠ 7) && decide (d.bootPhase ≠ 8)) then some 1
    else if (fop = 1 ∨ fop = 2 ∨ fop = 5) ∧ d.slotActive target = true then some 2
    else if (fop = 2 ∨ fop = 3) ∧ d.slotCap target < (d.rd 0x20084).toNat + d.flashLen then some 3
    else if fop = 5 ∧ d.dirInvalid = true then some 5
    else none)
  (fld v 0 3) (fld v 4 3)

/-- The steps of a flash command. -/
def Device.flashSteps (d : Device) (fop target : Nat) : Nat :=
  if fop = 1 then d.slotCap target / 65536
  else if fop = 2 then ((d.rd 0x20084).toNat + d.flashLen - 1) / 256 - (d.rd 0x20084).toNat / 256 + 1
  else if fop = 5 then 2 else 1

/-- A write of FLASH_CMD (R606 to R608). -/
def Device.flashCmd (d : Device) (master : Nat) (v : Word) : Status × Device :=
  match d.flashCause v with
  | some c => (if c = 1 then .busy else .range, d.pantryRefuse c)
  | none =>
    match d.opOpen 5 master (d.flashSteps (fld v 0 3) (fld v 4 3)) with
    | (none, d1) => (.busy, d1.pantryRefuse 6)
    | (some k, d1) =>
      (.ok,
        ((d1.setBit 0x2008C 0 true).wr 0x20090 (d1.opId k)).onPantry (fun p =>
          { p with cmd := some { fop := fld v 0 3, target := fld v 4 3, op := k, total := d.flashSteps (fld v 0 3) (fld v 4 3)
                                 off := (d.rd 0x20084).toNat, len := d.flashLen } }))

/-- A flash command ends (R607). -/
def Device.flashEnd (d : Device) (c : FlashCmd) (st : Status) : Device :=
  (((d.opClose c.op st).put 0x2008C 4 4 st.code).setBit 0x2008C 0 false |>.ev 0x20094 0).onPantry (fun p => { p with cmd := none })

/-- A step failed with a status. -/
def Device.flashFail (d : Device) (c : FlashCmd) (st : Status) : Device :=
  ((((d.opFail c.op c.done).opDetail c.op st.code).when (decide (c.fop = 5)) (fun d => d.setBit 0x20040 (2 - d.get 0x20040 0 1) false))).flashEnd c
    (if 0 < c.done then .partly else .abandoned)

/-- The effect of a command whose steps have all succeeded. -/
def Device.flashDone (d : Device) (c : FlashCmd) (o : StepObs) : Device :=
  if c.fop = 1 then d.noteEmpty c.target true
  else if c.fop = 2 then
    (if c.off = 0 ∧ d.winBytes 4 ≠ [0xFF, 0xFF, 0xFF, 0xFF] then d.noteEmpty c.target false else d)
  else if c.fop = 3 then
    d.wrs 0x28000 ((bytesWords (o.data.take c.len)).map (fun w => wd (bytesNat (wordBytesLE w))))
  else if c.fop = 4 then d.slotNote c.target o.slot
  else ((d.dirTake (1 - d.get 0x20040 0 1) (d.winBytes 64)).setBit 0x20040 (2 - d.get 0x20040 0 1) true).extend 0x12 3 (sha12 (d.winBytes 64))

/-- A flash step finishes (R607). -/
def Device.flashStep (d : Device) (o : StepObs) : Device :=
  match d.pantry.cmd with
  | some c =>
    if !o.same then d.flashFail c .ecc
    else if c.done + 1 < c.total then
      (d.opSteps c.op (c.done + 1)).onPantry (fun p => { p with cmd := some { c with done := c.done + 1 } })
    else ((d.opSteps c.op c.total).flashDone c o).flashEnd c .ok
  | none => d

/-- The flash does not finish a step in time (R607). -/
def Device.flashTimeout (d : Device) : Device :=
  match d.pantry.cmd with | some c => d.flashFail c .timeout | none => d

/-- A write to the flash window is refused while a PROGRAM or READ runs, or outside RUNNING and HALT (R608).
DEDUCED, log entry 53. -/
def Device.winBusy (d : Device) : Bool :=
  (match d.pantry.cmd with | some c => decide (c.fop = 2) || decide (c.fop = 3) | none => false)
    || (decide (d.bootPhase ≠ 7) && decide (d.bootPhase ≠ 8))

/-! Enrolment (R604, R605). -/

/-- A write of ENROLL_CMD.
DEDUCED, log entry 53. -/
def Device.enroll (d : Device) (v : Word) : Status × Device :=
  if !bitAt v 0 then (.ok, d)
  else if d.boot.otp ≠ [] then (.locked, (d.inc 0x200A0).ev 0x20094 1)
  else if fld v 8 8 ≠ 0x5A then (.range, d.pantryRefuse 0)
  else if d.flashBusy || d.pantry.enrolling.isSome then (.busy, d.pantryRefuse 1)
  else if (d.rds 0x200C0 12).all (· == 0) || (d.rds 0x200C0 12).all (· == 0xFFFFFFFF) then (.range, d.pantryRefuse 4)
  else (.ok, d.onPantry (fun p => { p with enrolling := some (d.rds 0x200C0 12) }))

/-- The programming of the owner key digest ends. -/
def Device.enrollDone (d : Device) : Device :=
  match d.pantry.enrolling with
  | some k =>
    ((({ d with boot := { d.boot with otp := k } } : Device).onPantry (fun p => { p with enrolling := none })).extend 0x11 3 k).ev 0x20094 2
  | none => d

/-! Views. -/

/-- BOOT_STATUS (R594). -/
def Device.bootStatus (d : Device) : Word := wd ((d.rd 0x20010).toNat + 2 ^ 8 * b2n (!d.boot.otp.isEmpty))

/-- SLOT_STATUS of a slot (R609). -/
def Device.slotStatus (d : Device) (slot : Nat) : Word :=
  wd ((d.rd (0x20050 + 4 * slot)).toNat + 4 * b2n (d.slotInUse slot))

/-! Firmware swap (R646 to R650). -/

/-- SWAP_STATUS.STEP: 0 IDLE, 1 PRECHECK, 2 QUIESCE, 3 LOAD, 4 START, 5 RESUME. -/
def Device.swapStep (d : Device) : Nat := d.get 0x40084 0 3
/-- Stores STEP; the flash is BUSY in PRECHECK and LOAD. -/
def Device.swapTo (d : Device) (st : Nat) : Device := (d.put 0x40084 0 3 st).setBit 0x2008C 0 (decide (st = 1) || decide (st = 3))

/-- The cause that refuses a swap (R646). -/
def Device.swapCause (d : Device) (v : Word) : Option Nat :=
  if fld v 8 8 ≠ 0xA5 ∨ v &&& ~~~0xFF01 ≠ 0 then some 0
  else if d.meas.swap.isSome then some 5
  else if d.bootPhase ≠ 7 then some 6
  else if d.flashBusy then some 7
  else if d.knownEmpty (1 - d.fwSlot) then some 8 else none

/-- A write of FW_SWAP_CMD (R646, R647). -/
def Device.swapCmd (d : Device) (master : Nat) (v : Word) : Status × Device :=
  if !bitAt v 0 then (.ok, d)
  else
    match d.swapCause v with
    | some c => (if c = 0 ∨ c = 8 then .range else .busy, d.measRefuse c)
    | none =>
      match d.opOpen 6 master 5 with
      | (none, d1) => (.busy, d1.measRefuse 9)
      | (some k, d1) => (.ok, ((d1.wr 0x40088 (d1.opId k)).onMeas (fun m => { m with swap := some { op := k } })).swapTo 1)

/-- The gap of a swap in ms so far (R648). -/
def Device.swapGap (d : Device) (s : Swap) : Nat :=
  match s.began with | some t => min 65535 ((d.uptime - t) / clocksPerMs) | none => 0

/-- A swap ends ABANDONED at a step with a status (R647).
DESIGN CHOICE, log entry 52. -/
def Device.swapAbandon (d : Device) (s : Swap) (step st : Nat) : Device :=
  (((((d.opFail s.op step).opDetail s.op (d.swapGap s + 2 ^ 16 * st)).opClose s.op .abandoned).swapTo 0).put 0x40084 4 4
    Status.abandoned.code |>.when s.began.isSome (fun x => x.put 0x40084 16 16 (d.swapGap s))).onMeas (fun m => { m with swap := none })

/-- The cores are away or back (R650). -/
def Device.coresAway (d : Device) (b : Bool) : Device :=
  (({ d with cores := ⟨b, b⟩ } : Device).setBit 0x40084 3 b).when (!b) Device.mc1Back

/-- PRECHECK has read the inactive slot (R647): the status of a failure is open.
DEDUCED, log entry 53. -/
def Device.swapPrecheck (d : Device) (o : SlotObs) : Device :=
  match d.meas.swap with
  | some s =>
    if d.swapStep ≠ 1 then d
    else
      (fun d1 : Device =>
        if d1.slotOk (1 - d.fwSlot) o && decide ((d.rd 0x20020).toNat < slotGen o) then
          ((d1.opSteps s.op 1).swapTo 2).onMeas (fun m =>
            { m with swap := some { s with digest := slotDigest o, gen := slotGen o, version := wd (leAt o.hdr 20 4) } })
        else (fun p : Word × Device => p.2.swapAbandon s 0 (fld p.1 0 4)) d1.free)
      (d.slotNote (1 - d.fwSlot) o)
  | none => d

/-- QUIESCE begins at a management cycle boundary (R647, R649): captures being sent end ABANDONED. -/
def Device.swapQuiesce (d : Device) : Device :=
  match d.meas.swap with
  | some s =>
    if d.swapStep = 2 ∧ s.began = none ∧ (d.rd 0xC001C).toNat % 16 = 0 then
      (d.coresAway true).onMeas (fun m => { m with swap := some { s with began := some d.uptime } })
    else d
  | none => d

/-- The cores have stopped (R647, R649): the group command is complete, exports and requests in service end ABANDONED. -/
def Device.swapQuiesced (d : Device) : Device :=
  match d.meas.swap with
  | some s =>
    if d.swapStep = 2 ∧ s.began.isSome = true then
      (fun d1 : Device =>
        (fun d2 : Device =>
          ((({ d2 with porch := { d2.porch with atts := [], reads := [] }, attic := { d2.attic with reading := false } } : Device).opSteps s.op
            2).swapTo 3))
        (d1.porch.atts.foldl (fun d r => match r.op with | some k => d.opClose k .abandoned | none => d) d1))
      d.groupDone.exportsLost
    else d
  | none => d

/-- The reload of the running image failed: HALT (R648, R589). -/
def Device.swapHalt (d : Device) (s : Swap) (f : Nat × Nat) : Device :=
  ((((d.swapAbandon s f.1 f.2).coresAway true).phaseTo 8).put 0x20010 12 4 4).ev 0x20014 4

/-- An image has been read into the firmware pool (R647): the new one, or the running one after a failure.
DESIGN CHOICE, log entry 52. -/
def Device.swapLoaded (d : Device) (readOk : Bool) (o : SlotObs) : Device :=
  match d.meas.swap with
  | some s =>
    if d.swapStep ≠ 3 then d
    else
      match s.failed with
      | none =>
        if readOk && decide (slotSum o = s.digest) then (d.opSteps s.op 3).swapTo 4
        else (fun p : Word × Device => p.2.onMeas (fun m => { m with swap := some { s with failed := some (2, fld p.1 0 4) } })) d.free
      | some f => if readOk then d.swapTo 4 else d.swapHalt s f
  | none => d

/-- Both cores report (R647): RESUME, or the end of an abandoned swap. -/
def Device.swapReport (d : Device) : Device :=
  match d.meas.swap with
  | some s =>
    if d.swapStep ≠ 4 then d
    else
      match s.failed with
      | some f => (d.swapAbandon s f.1 f.2).coresAway false
      | none =>
        (fun d1 : Device =>
          (((((((d1.put 0x20010 4 1 (1 - d.fwSlot)).wr 0x20020 (wd s.gen)).wr 0x20030 s.version).ev 0x40014 3).opSteps s.op 5).opDetail s.op
            (d.swapGap s)).opClose s.op .ok |>.swapTo 0 |>.put 0x40084 4 4 0 |>.put 0x40084 16 16 (d.swapGap s)).onMeas (fun m =>
              { m with swap := none }))
        ((d.coresAway false).extend 0x05 1 s.digest)
  | none => d

/-- A core does not report within 10 ms (R647, R648): the running image is reloaded, or the device halts. -/
def Device.swapStartTimeout (d : Device) : Device :=
  match d.meas.swap with
  | some s =>
    if d.swapStep ≠ 4 then d
    else
      match s.failed with
      | some f => d.swapHalt s f
      | none =>
        (fun p : Word × Device => (p.2.onMeas (fun m => { m with swap := some { s with failed := some (3, fld p.1 0 4) } })).swapTo 3) d.free
  | none => d

end Sys2Proof.Machine
end

