-- ==== Sys2Proof/Machine/PorchLink.lean ====
section
/-! DEFINITION. The interrupt summary (R90), the Enien link (R610 to R621, R630), events (R626, R627), the overhead relay (R628),
ATTIC_READ and ATTEST (R629, R643). -/

namespace Sys2Proof.Machine
open Sys2Proof

/-! Interrupts (R90). -/

/-- An event word of a block at `base` has a bit set and enabled. -/
def Device.irqAt (d : Device) (b : Blk) (base : Nat) : Bool := (eventPairs b).any (fun p => decide (d.rd (base + p.1) &&& d.rd (base + p.2) ≠ 0))

/-- The bit of LANE `n` in IRQ_LANE. -/
def Device.irqLane (d : Device) (n : Nat) : Bool :=
  d.irqAt .lane (laneBase n) || d.regs.any (fun e =>
    match locOf e.1 with
    | some ⟨.ho, h, 0x24⟩ => decide (laneOfHo h = n) && decide (e.2 &&& d.rd (hoBase h + 0x28) ≠ 0)
    | _ => false)

/-- The bit of SLICE `s` in IRQ_SLICE. -/
def Device.irqSlice (d : Device) (s : Nat) : Bool := d.irqAt .slice (sliceBase s)

/-- A mask of the indices below `n` that meet `f`. -/
def maskOf (n : Nat) (f : Nat → Bool) : Nat := ((List.range n).filter f).foldl (fun a i => a + 2 ^ i) 0

/-- IRQ_SUMMARY, IRQ_LANE_LO, IRQ_LANE_HI, IRQ_SLICE. -/
def Device.irqWords (d : Device) : List Word :=
  (fun lanes slices : Nat =>
    [wd (maskOf 14 (fun i => match globalBlk i with | some b => d.irqAt b (0x10000 * i) | none => false)
        + 2 ^ 16 * b2n (decide (lanes ≠ 0)) + 2 ^ 17 * b2n (decide (slices ≠ 0))),
     wd lanes, wd (lanes / 2 ^ 32), wd slices])
  (maskOf 64 d.irqLane) (maskOf 16 d.irqSlice)

/-- IRQ_SUMMARY. -/
def Device.irqSummary (d : Device) : Word := d.irqWords.headD 0
/-- IRQ_N is driven low. -/
def Device.irqLow (d : Device) : Bool := decide (d.irqSummary &&& d.rd 0x70 ≠ 0)

/-- A bit of (IRQ_SUMMARY AND IRQ_MSG_ENA) changed from 0 to 1: a SUMMARY EVENT waits (R90, R626, R627).
DEDUCED, log entry 11. -/
def irqSettle (d0 d : Device) : Device :=
  if (d.irqSummary &&& d.rd 0x74) &&& ~~~(d0.irqSummary &&& d0.rd 0x74) = 0 then d
  else
    match d.porch.summary with
    | some _ => d
    | none => { d with porch := { d.porch with summary := some (false, d.stamp) } }

/-! The link layer. -/

/-- Updates the hidden state of the Porch. -/
def Device.onPorch (d : Device) (f : PorchSt → PorchSt) : Device := { d with porch := f d.porch }
/-- LINK_STATE: 0 DOWN, 1 ALIGNING, 2 UP. -/
def Device.porchSt (d : Device) : Nat := d.get 0x30014 0 2
/-- DOWN is left when both lanes are synchronised (R614).
DEDUCED, log entry 55. -/
def Device.porchSettle (d : Device) : Device :=
  if d.porchSt = 0 ∧ d.porch.sync0 = true ∧ d.porch.sync1 = true then (d.put 0x30014 0 2 1).onPorch (fun p => { p with markers := 0 }) else d

/-- The TAG of a request whose answer no longer leaves (R630): no TAG of the wire has this value.
DEDUCED, log entry 56. -/
def noTag : Nat := 64

/-- A frame is sent and its tag becomes free (R618, R621). -/
def PorchSt.place (p : PorchSt) (f : PFrame) : PorchSt :=
  { p with
      unacked := p.unacked ++ [{ seq := p.txNext, frame := f }], txNext := (p.txNext + 1) % 4096, unsent := 0
      tags := if f.resp && !f.more then p.tags.filter (· != f.tag) else p.tags }

/-- Frames that wait are sent while fewer than 16 are unacknowledged. -/
def PorchSt.flush (p : PorchSt) : List PFrame → PorchSt
  | [] => { p with queue := [] }
  | f :: t => if p.unacked.length < 16 then (p.place f).flush t else { p with queue := f :: t }

/-- A TRANSACTION frame is sent, or waits (R618): with the link not UP it is discarded (R630). -/
def Device.porchSend (d : Device) (f : PFrame) : Device :=
  if d.porchUp then d.onPorch (fun p => p.flush (p.queue ++ [f])) else d

/-- A response in one frame: none to a request from before a link loss (R630).
DEDUCED, log entry 56. -/
def Device.porchReply (d : Device) (ttype tag : Nat) (st : Status) (addr aux : Nat) (payload : List Byte) : Device :=
  if tag = noTag then d
  else d.porchSend { ttype := ttype, tag := tag, status := st.code, addr := addr, aux := aux, payload := payload }

/-- A request for a report is answered with BUSY and counted (R24, R84, R643). -/
def Device.attBusy (d : Device) (r : AttReq) : Device :=
  match r.src with
  | .porch tag => (d.inc 0x30020).porchReply 0x21 tag .busy 0 0 []
  | .mate id => (d.inc 0x30020).pwSend false (.attestRsp id Status.busy.code (List.replicate 512 0))

/-- The requests MC0 holds. -/
def Device.setAtts (d : Device) (l : List AttReq) : Device := d.onPorch (fun p => { p with atts := l })

/-- MC0 takes up the oldest request under a record and takes what step 1 reports (R643); one that finds no record is answered with
BUSY (R84).
DEDUCED, log entry 54. -/
def Device.attTake (d : Device) : List AttReq → Device
  | [] => d.setAtts []
  | r :: t =>
    if r.op.isSome then d.setAtts (r :: t)
    else
      match d.opOpen 11 (match r.src with | .porch _ => 0 | .mate _ => 5) 2 with
      | (some k, d1) => (d1.setAtts ({ r with op := some k, body := d1.attBody r.nonceLen r.nonce } :: t)).opSteps k 1
      | (none, d1) => (d1.attBusy r).attTake t

/-- The link is lost (R614, R630): what was accepted runs to its end, and its response is never sent.
DEDUCED, log entry 54. -/
def Device.porchDown (d : Device) : Device :=
  (fun d1 : Device =>
    ((((d1.put 0x30014 0 2 0).inc 0x30030).wrStamp 0x30050).ev 0x30018 1).raiseSrc 27)
  ((d.porch.atts.foldl (fun d r =>
      match r.src, r.op with | .porch _, some k => d.opClose k .abandoned | _, _ => d) d).onPorch (fun p =>
    { p with
        markers := 0, unacked := [], queue := [], tags := [], nak := false, unsent := 0
        rmw := p.rmw.map (fun _ => noTag), waiting := p.waiting.map (fun x => (noTag, x.2)), busy := p.busy.map (fun x => (x.1, noTag))
        reads := p.reads.map (fun r => (r.1, r.2.1, r.2.2.1, false)) }))
  |>.attTake (d.porch.atts.filter (fun r => match r.src with | .porch _ => false | .mate _ => true)) |>.porchSettle

/-- A lane gains or loses code-group synchronisation (R614). -/
def Device.porchSync (d : Device) (s0 s1 : Bool) : Device :=
  (fun d1 : Device =>
    if s0 && s1 then d1.porchSettle
    else if d1.porchSt = 2 then d1.porchDown
    else (d1.put 0x30014 0 2 0).onPorch (fun p => { p with markers := 0 }))
  (d.onPorch (fun p => { p with sync0 := s0, sync1 := s1 }))

/-- The link comes UP (R614, R627). -/
def Device.porchGoUp (d : Device) : Device :=
  (fun d1 : Device =>
    if d1.irqSummary &&& d1.rd 0x74 = 0 then d1 else d1.onPorch (fun p => { p with summary := some (true, d1.stamp) }))
  (((d.put 0x30014 0 2 2).ev 0x30018 0).onPorch (fun p =>
    { p with rxNext := 0, nak := false, unsent := 0, txNext := 0, unacked := [], queue := [], tags := [], summary := none }))

/-- An alignment marker with a skew in UI (R613, R614). -/
def Device.porchMarker (d : Device) (skew : Nat) : Device :=
  (fun d1 : Device =>
    if d1.porchSt = 1 then
      (if 20 < skew then d1.onPorch (fun p => { p with markers := 0 })
       else if 3 ≤ d1.porch.markers then d1.porchGoUp
       else d1.onPorch (fun p => { p with markers := p.markers + 1 }))
    else if d1.porchSt = 2 ∧ 20 < skew then d1.porchDown else d1)
  (d.onPorch (fun p => { p with skew := min skew 20 }))

/-- 1 ms without a valid frame (R614). -/
def Device.porchTimeout (d : Device) : Device := if d.porchSt = 2 then d.porchDown else d

/-- The frames up to a SEQ are acknowledged. -/
def PorchSt.acked (p : PorchSt) (s : Nat) : PorchSt :=
  { p with unacked := (p.unacked.dropWhile (fun (u : Unacked) => u.seq != s)).drop 1 }

/-- An ACK_SEQ releases the frames up to it (R619). -/
def Device.porchAck (d : Device) (a : Option Nat) : Device :=
  match a with
  | some s =>
    if d.porch.unacked.any (fun u => u.seq == s) then
      d.onPorch (fun p => (p.acked s).flush p.queue)
    else d
  | none => d

/-- Every unacknowledged frame is sent again (R619); the fourth replay of a frame takes the link down (R614).
DEDUCED, log entry 55. -/
def Device.porchReplay (d : Device) : Device :=
  if d.porchUp && !d.porch.unacked.isEmpty then
    (fun d1 : Device => if d1.porch.unacked.any (fun u => decide (4 ≤ u.again)) then d1.porchDown else d1)
      ((((d.add 0x3002C d.porch.unacked.length).ev 0x30018 3).raiseSrc 27).onPorch (fun p =>
        { p with unacked := p.unacked.map (fun u => { u with again := u.again + 1 }), unsent := 0 }))
  else d

/-- A NAK frame (R619, R631). -/
def Device.porchNak (d : Device) (a : Option Nat) : Device := if d.porchUp then (d.porchAck a).porchReplay else d

/-! The bytes of a frame (R616, R617). -/

/-- Header and payload of a frame: FTYPE, SEQ, the sender's ACK_SEQ, and of a TRANSACTION frame what it carries. -/
def frameHead (ftype seq ackSeq : Nat) (f : PFrame) : List Byte :=
  natBytes 1 ftype ++ natBytes 2 seq ++ natBytes 2 (ackSeq + 2 ^ 12) ++ natBytes 1 f.ttype ++
    natBytes 1 (f.tag + 64 * b2n f.resp + 128 * b2n f.more) ++ natBytes 1 f.status ++ natBytes 4 f.addr ++ natBytes 2 f.payload.length ++
    natBytes 2 f.aux ++ f.payload

/-- A frame on the link: header, payload, CRC.
PRESUMED, log entry 64. -/
def frameBytes (ftype seq ackSeq : Nat) (f : PFrame) : List Byte :=
  frameHead ftype seq ackSeq f ++ natBytes 4 (crc32 (frameHead ftype seq ackSeq f))

/-- The device's ACK_SEQ: the last TRANSACTION frame accepted (R618). -/
def Device.ackSeq (d : Device) : Nat := (d.porch.rxNext + 4095) % 4096

/-- An unacknowledged TRANSACTION frame as it goes out. -/
def Device.frameOut (d : Device) (u : Unacked) : List Byte := frameBytes 1 u.seq d.ackSeq u.frame

/-- A received frame is valid: FTYPE, LENGTH, its byte count and CRC (R617).
PRESUMED, log entry 64. -/
def frameValid (l : List Byte) : Bool :=
  decide (20 ≤ l.length) && decide (1 ≤ (l.getD 0 0).toNat) && decide ((l.getD 0 0).toNat ≤ 4) &&
    decide (bytesNat ((l.drop 12).take 2) % 512 = l.length - 20) && decide (l.length ≤ 276) && decide (l.length % 4 = 0) &&
    decide (bytesNat (l.drop (l.length - 4)) = crc32 (l.take (l.length - 4)))

/-- One NAK until the expected frame arrives (R618). -/
def Device.porchNakSend (d : Device) : Device :=
  if d.porch.nak then d else (d.onPorch (fun p => { p with nak := true, unsent := 0 })).inc 0x30028

/-- A frame arrives and is judged: one that is not valid is discarded (R617); the effect of a valid one is that of its own row.
PRESUMED, log entry 64. -/
def Device.porchInvalid (d : Device) (l : List Byte) : Device :=
  if d.porchUp && !frameValid l then (((d.inc 0x30024).ev 0x30018 2).raiseSrc 27).porchNakSend else d

/-- A KEEPALIVE or ACK frame is received. -/
def Device.porchHear (d : Device) (a : Option Nat) : Device := if d.porchUp then d.porchAck a else d

/-- The device sends an ACK or a KEEPALIVE: its acknowledgement is out. -/
def Device.porchAckSend (d : Device) : Device := if d.porchUp then d.onPorch (fun p => { p with unsent := 0 }) else d

/-- A TRANSACTION frame arrives (R618): whether it is accepted.
DEDUCED, log entry 55. -/
def Device.porchAccept (d : Device) (h : PHead) : Bool × Device :=
  if !d.porchUp then (false, d)
  else
    (fun d1 : Device =>
      if h.seq = d1.porch.rxNext then
        (true, d1.onPorch (fun p => { p with rxNext := (p.rxNext + 1) % 4096, nak := false, unsent := p.unsent + 1 }))
      else if (d1.porch.rxNext + 4096 - h.seq % 4096) % 4096 ≤ 16 then (false, d1.onPorch (fun p => { p with unsent := 0 }))
      else (false, d1.porchNakSend))
    (d.porchAck h.ack)

/-- A request that expects a response (R583, R621): accepted, its tag taken, and not received in a warm reset. -/
def Device.porchRequest (d : Device) (h : PHead) (ttype : Nat) : Bool × Device :=
  match d.porchAccept h with
  | (false, d1) => (false, d1)
  | (true, d1) =>
    if d1.porch.tags.contains h.tag then (false, (d1.inc 0x30034).ev 0x30018 4)
    else
      (fun d2 : Device =>
        if d2.boot.held then (false, d2.onPorch (fun p => { p with busy := p.busy ++ [(ttype, h.tag)] })) else (true, d2))
      (d1.onPorch (fun p => { p with tags := p.tags ++ [h.tag] }))

/-- A response in frames of 256 bytes (R629, R643): `st` the status of the last, the others OK. -/
def Device.porchStream (d : Device) (ttype tag : Nat) (st : Status) : Nat → List (List Byte) → Device
  | _, [] => d
  | o, b :: t =>
    (d.porchSend { ttype := ttype, tag := tag, more := !t.isEmpty, status := if t.isEmpty then st.code else 0, addr := o, payload := b }).porchStream
      ttype tag st (o + 256) t

/-- A list cut into pieces of 256 bytes. -/
def frames256 (n : Nat) (l : List Byte) : List (List Byte) := (List.range n).map (fun i => (l.drop (256 * i)).take 256)

/-- A request of an unknown type (R620). -/
def Device.porchBadType (d : Device) (h : PHead) (ttype : Nat) : Device :=
  match d.porchRequest h ttype with
  | (false, d1) => d1
  | (true, d1) => (((d1.inc 0x30038).ev 0x30018 5).wr 0x30060 (wd (ttype % 256 + 2 ^ 8 * (h.tag % 64)))).porchReply ttype h.tag .unsupported 0 0 []

/-! Events (R626, R627). -/

/-- A SUMMARY EVENT is sent. -/
def Device.summarySend (d : Device) : Device :=
  match d.porchUp, d.porch.summary with
  | true, some (resync, stamp) =>
    (d.onPorch (fun p => { p with summary := none, evSeq := (p.evSeq + 1) % 65536 })).porchSend
      { ttype := 0x10, tag := b2n resync, resp := false, addr := 0, aux := d.porch.evSeq, payload := bytesOf (d.irqWords ++ stamp) }
  | _, _ => d

/-- A FOLLOW_UP EVENT is sent by MC0: after a SUMMARY that waits. -/
def Device.followSend (d : Device) : Device :=
  match d.follow with
  | f :: t =>
    if d.porchUp && d.bit 0x30010 8 && !d.cores.mc0Away && d.porch.summary.isNone then
      (({ d with follow := t } : Device).onPorch (fun p => { p with evSeq := (p.evSeq + 1) % 65536 })).porchSend
        { ttype := 0x10, resp := false, addr := 1, aux := d.porch.evSeq
          payload := bytesOf ([wd (f.idx + 2 ^ 20 * f.kind), f.word, f.changed, 0] ++ f.stamp) }
    else d
  | [] => d

/-! Overhead relay (R628). -/

/-- A host OH_STREAM frame. -/
def Device.ohStream (d : Device) (h : PHead) (n : Nat) (rec : List Byte) : Device :=
  match d.porchAccept h with
  | (false, d1) => d1
  | (true, d1) =>
    if d1.boot.held then d1
    else if 63 < n ∨ d1.bit (laneBase n + 0x90) 1 = false then d1.inc 0x3003C
    else (d1.relayPush n rec).2

/-- The oldest receive record of a lane goes out as one frame. -/
def Device.relaySend (d : Device) : Device :=
  match d.porchUp && d.porch.queue.isEmpty && decide (d.porch.unacked.length < 16), d.lanes.find? (fun e => !e.2.relayRx.isEmpty) with
  | true, some e =>
    (d.onLane e.1 (fun l => { l with relayRx := l.relayRx.drop 1 })).porchSend
      { ttype := 0x11, resp := false, addr := e.1
        payload := (e.2.relayRx.headD []) ++ List.replicate ((4 - (e.2.relayRx.headD []).length % 4) % 4) 0 }
  | _, _ => d

/-! ATTIC_READ and ATTEST (R453, R629, R643). -/

/-- An ATTIC_READ. -/
def Device.atticRead (d : Device) (h : PHead) (unit n : Nat) : Device :=
  match d.porchRequest h 0x20 with
  | (false, d1) => d1
  | (true, d1) =>
    if d1.cores.mc0Away || decide (5 ≤ d1.porch.reads.length) then (d1.inc 0x30020).porchReply 0x20 h.tag .busy unit 0 []
    else
      match d1.readCause unit n with
      | some (st, c) => (d1.atticRefuse c).porchReply 0x20 h.tag st unit 0 []
      | none => (d1.onPorch (fun p => { p with reads := p.reads ++ [(h.tag, unit, n, true)] })).readNext

/-- MC0 has read the units (R453, R455, R629): counted; `bad` is the byte at which a media error was met. A Read that 56 outstanding
commands keep from being issued brings nothing. -/
def Device.atticServed (d : Device) (data : List Byte) (bad : Option Nat) : Device :=
  match d.porch.reads with
  | (tag, _, n, go) :: t =>
    if d.cores.mc0Away || (!d.attic.reading && decide (56 ≤ d.attic.cmds.length)) then d
    else
      (fun d1 : Device =>
        if go then
          d1.porchStream 0x20 tag (if bad.isSome then .ecc else .ok) 0
            (frames256 (16 * n) ((match bad with | some b => data.take b | none => data.take (4096 * n)) ++ List.replicate (4096 * n) 0))
        else d1)
      ((d.readGone.onPorch (fun p => { p with reads := t })).inc 0x80070)
      |>.readNext
  | [] => d

/-- A request for a report is queued for MC0, or answered with BUSY (R24, R643).
DEDUCED, log entry 54. -/
def Device.attQueue (d : Device) (r : AttReq) : Device :=
  if d.cores.mc0Away || decide (3 ≤ d.porch.atts.length) then d.attBusy r else d.attTake (d.porch.atts ++ [r])

/-- An ATTEST (R643): the nonce length in AUX and the payload. -/
def Device.attest (d : Device) (h : PHead) (nonceLen : Nat) (payload : List Byte) : Device :=
  match d.porchRequest h 0x21 with
  | (false, d1) => d1
  | (true, d1) =>
    if 32 < nonceLen ∨ payload.length ≠ 32 then d1.porchReply 0x21 h.tag .range 0 0 []
    else
      d1.attQueue { src := .porch h.tag, nonceLen := nonceLen, nonce := payload }

/-- An ATTEST_REQ from the mate (R643, R644).
DEDUCED, log entry 54. -/
def Device.attestReq (d : Device) (id nonceLen : Nat) (nonce : List Byte) : Device :=
  (fun d0 : Device =>
    if 32 < nonceLen then d0.pwSend false (.attestRsp id Status.range.code (List.replicate 512 0))
    else d0.attQueue { src := .mate id, nonceLen := nonceLen, nonce := nonce })
  (d.pwBegin.pwHear 1)

/-- MC0 has built the report of the oldest request (R643, R644). -/
def Device.attestReady (d : Device) : Device :=
  match d.porch.atts with
  | r :: t =>
    if d.cores.mc0Away then d
    else
      (fun d1 : Device =>
        (match r.src with
         | .porch tag => d1.porchStream 0x21 tag .ok 0 (frames256 2 (attSigned r.body))
         | .mate id => d1.pwBegin.pwSend false (.attestRsp id 0 (attSigned r.body))).attTake t)
      (match r.op with | some k => (d.opSteps k 2).opClose k .ok | none => d)
  | [] => d

/-! Configuration and views (R635). -/

/-- PORCH_CFG (R614): a changed lane field takes the link down.
DEDUCED, log entry 55. -/
def Device.porchCfg (d : Device) (v : Word) : Device :=
  (fun d1 : Device => if d.get 0x30010 0 5 = fld v 0 5 then d1 else d1.porchDown) (d.wr 0x30010 v)

/-- CNT_CLR of the Porch. -/
def Device.porchCntClr (d : Device) : Device := d.zero ((List.range 9).map (fun i => 0x30020 + 4 * i) ++ [0x30074])

/-- PORCH_STATUS. -/
def Device.porchStatus (d : Device) : Word :=
  wd (d.porchSt + 4 * b2n d.porch.sync0 + 8 * b2n d.porch.sync1 + 16 * d.porch.skew + 2 ^ 16 * d.porch.tags.length
    + 2 ^ 24 * d.porch.unacked.length)

end Sys2Proof.Machine
end

