-- ==== Sys2Proof/Machine/Boot.lean ====
section
/-! DEFINITION. Power, reset release and the boot sequence up to the configuration load (R575 to R591). -/

namespace Sys2Proof.Machine
open Sys2Proof

/-- Updates the hidden boot state. -/
def Device.onBoot (d : Device) (f : BootSt → BootSt) : Device := { d with boot := f d.boot }

/-- Both management cores run, or neither does (R24, R586, R589). -/
def Device.coresRun (d : Device) (b : Bool) : Device := { d with cores := ⟨!b, !b⟩ }

/-- Boot halts with a cause (R586, R589). -/
def Device.bootHalt (d : Device) (cause : Nat) : Device := (((d.phaseTo 8).put 0x20010 12 4 cause).ev 0x20014 4).coresRun false

/-- BOOT_DONE (R586): RUNNING, and the time since reset release.
DEDUCED, log entry 59. -/
def Device.bootDone (d : Device) : Device :=
  ((d.phaseTo 7).wr 0x20028 (wd (min 0xFFFFFFFF ((d.uptime - d.boot.since) / clocksPerMs)))).ev 0x20014 0

/-- Boot step 1 (R586): MEAS0 is extended and Cellar training starts; no core runs yet. -/
def Device.bootStart (d : Device) : Device :=
  ((((d.onBoot (fun b => { b with held := false, warm := false, since := d.uptime })).phaseTo 1).coresRun false).extend 0x01 0
    ((List.range 12).map (fun i => Config.romDigest.getD i 0))).celTrain

/-- The seven rails have had these voltages, in mV, for the time of R577: power-good when each is good. Reset release is a row of
its own. -/
def Device.powerGood (d : Device) (mv : List Nat) : Device :=
  if (List.range 7).all (fun r => decide (railGood r ≤ mv.getD r 0)) then d.onBoot (fun b => { b with power := true }) else d

/-- A rail has had a voltage, in mV, for 10 us (R575, R578): below its fail level, cold reset until power-good is reached again. -/
def Device.railFail (d : Device) (rail mv : Nat) : Device :=
  if mv < railFails rail then (d.onBoot (fun b => { b with power := false })).coldReset else d

/-- RST_N is low (R580). -/
def Device.rstLow (d : Device) : Device := (d.onBoot (fun b => { b with rstLow := true })).coldReset

/-- Reset release (R580 to R582): the straps are sampled; a device in factory use stays in reset.
DESIGN CHOICE, log entry 8; PRESUMED, log entry 14. -/
def Device.resetRelease (d : Device) (straps : Nat) : Device :=
  if !d.boot.power || d.boot.warm || d.boot.test || decide (d.bootPhase ≠ 0) then d
  else
    (fun d1 : Device =>
      if straps / 32 % 2 = 1 then d1.onBoot (fun b => { b with held := true, test := true }) else d1.bootStart)
    ((d.onBoot (fun b => { b with rstLow := false })).wr 0x1C (wd (straps % 64)))

/-- The hold of a warm reset ends after 100 us (R564, R583): the mask of a reaction opens, what the Porch received is answered with BUSY.
DEDUCED, log entry 59. -/
def Device.warmEnd (d : Device) : Device :=
  if d.boot.held && d.boot.warm then
    (fun d1 : Device =>
      d1.porch.busy.foldl (fun d x => (d.inc 0x30020).porchReply x.1 x.2 .busy 0 0 []) (d1.onPorch (fun p => { p with busy := [] })))
    (((d.reach (d.boot.since + 20000)).onFc (fun c =>
      { c with
          warmMask := none
          masks := match c.warmMask with
            | some m => c.masks ++ [⟨.device, m.1, max d.uptime (d.boot.since + 20000) + ms m.2⟩]
            | none => c.masks })).bootStart)
  else d

/-- A VDD_NVM of so many mV does not agree with STRAP_NVMV (R579). -/
def Device.nvmBad (d : Device) (mv : Nat) : Bool := if d.bit 0x1C 2 then decide (mv < 3000) else decide (2500 < mv)

/-- Flash discovery and the boot directory (R579, R586, R595 to R597). -/
def Device.flashFound (d : Device) (o : FlashObs) : Device :=
  if d.bootPhase ≠ 1 then d
  else
    if d.nvmBad o.nvm then
      (((d.setLive 42 true).raise { src := 42, syndrome := 6 + 2 ^ 16 * (o.nvm % 2 ^ 16) }).onFc (fun c =>
        { c with railCrit := c.railCrit.filter (· != 6) ++ [6] })).bootHalt 5
    else if !o.sfdp || decide (o.log2 < 25) || decide (28 < o.log2) then d.bootHalt 1
      else
        (fun (v0 v1 : Bool) =>
          (fun d1 : Device =>
            if !v0 && !v1 then d1.bootHalt 2
            else if v0 && (!v1 || decide (dirGen o.dir1 ≤ dirGen o.dir0)) then (d1.dirTake 0 o.dir0).phaseTo 2
            else (d1.dirTake 1 o.dir1).phaseTo 2)
          (((d.wr 0x20048 (wd (o.log2 + 2 ^ 8 * b2n o.quad + 2 ^ 16 * (o.mhz % 256)))).setBit 0x20040 1 v0).setBit 0x20040 2 v1))
        (dirValid (2 ^ o.log2) o.dir0) (dirValid (2 ^ o.log2) o.dir1)

/-- STRAP_BOOT prefers slot B (R581). -/
def Device.prefersB (d : Device) : Bool := d.bit 0x1C 1

/-- The slots of a kind that are not empty, in the order of R587: generation, then the strap. -/
def Device.slotOrder (d : Device) (base : Nat) (a b : SlotObs) : List (Nat × SlotObs) :=
  ((if slotGen a < slotGen b ∨ (slotGen a = slotGen b ∧ d.prefersB = true) then [(base + 1, b), (base, a)]
    else [(base, a), (base + 1, b)]).filter (fun e => !slotEmpty e.2))

/-- The empty slots of a kind are noted. -/
def Device.noteEmpties (d : Device) (base : Nat) (a b : SlotObs) : Device :=
  (d.when (slotEmpty a) (·.slotNote base a)).when (slotEmpty b) (·.slotNote (base + 1) b)

/-- The slots are tried in order (R587): the first that verifies, with `ev` set when a second is tried.
DEDUCED, log entry 59. -/
def Device.slotTry (d : Device) (ev : Nat) : List (Nat × SlotObs) → Option (Nat × SlotObs) × Device
  | [] => (none, d)
  | e :: t =>
    (fun d1 : Device =>
      if d1.slotOk e.1 e.2 then (some e, d1)
      else if t.isEmpty then (none, d1) else (d1.ev 0x20014 ev).slotTry ev t)
    ((d.slotNote e.1 e.2).onBoot (fun b => { b with tried := b.tried ++ [e.1] }))

/-- The firmware slots as read (R586 step 4): MEAS1 is extended and the cores start, or boot halts. -/
def Device.fwLoaded (d : Device) (a b : SlotObs) : Device :=
  if d.bootPhase ≠ 2 then d
  else
    match (d.noteEmpties 0 a b).slotTry 2 (d.slotOrder 0 a b) with
    | (none, d1) => d1.bootHalt 3
    | (some e, d1) =>
      ((((d1.extend 0x02 1 (slotDigest e.2)).put 0x20010 4 1 e.1).wr 0x20020 (wd (slotGen e.2))).wr 0x20030
        (wd (leAt e.2.hdr 20 4))).phaseTo 3

/-- Both cores report (R586 step 5).
DEDUCED, log entry 59. -/
def Device.coresReport (d : Device) : Device := if d.bootPhase ≠ 3 then d else ((d.coresRun true).mc1Back).phaseTo 4

/-- A core does not report within 1,000 ms (R586 step 5). -/
def Device.coresTimeout (d : Device) : Device := if d.bootPhase ≠ 3 then d else d.bootHalt 4

/-- The apply pass of a configuration slot begins (R590): its record and LOAD_OP_ID. With no record to take the load is refused with
BUSY (R84): nothing of the image is applied, and the device is RUNNING as when no slot verifies.
DESIGN CHOICE, log entry 74. -/
def Device.loadStart (d : Device) (slot : Nat) (o : SlotObs) (fallback : Bool) : Device :=
  match d.opOpen 4 3 (leAt o.hdr 16 4) with
  | (none, d1) => d1.bootDone
  | (some k, d1) =>
    ((d1.wr 0x2002C (d1.opId k)).phaseTo 5).onBoot (fun b =>
      { b with
          load := some { op := some k, slot := slot, count := leAt o.hdr 16 4, fallback := fallback
                         body := (bytesWords (o.body.take (slotLen o))).map (fun w => wd (bytesNat (wordBytesLE w))) } })

/-- The configuration slots as the verification pass read them (R586 step 6, R588). -/
def Device.cfgVerified (d : Device) (a b : SlotObs) : Device :=
  if d.bootPhase ≠ 4 then d
  else
    match ((d.onBoot (fun x => { x with cfgA := a, cfgB := b, tried := [] })).noteEmpties 2 a b).slotTry 3 (d.slotOrder 2 a b) with
    | (none, d1) => d1.bootDone
    | (some e, d1) => (d1.extend 0x03 2 (slotDigest e.2)).loadStart e.1 e.2 false

/-- The registers a configuration clear leaves untouched (R591): FAULT, PANTRY, MEASURE, what survives a warm reset, and the states
of the Party Wall role, the Porch link and the Cellar training.
DEDUCED, log entry 60. -/
def clearKeeps (a : Nat) : Bool :=
  keptReg a || decide (a = 0x24) || (decide (0x10000 ≤ a) && decide (a < 0x30000)) || (decide (0x40000 ≤ a) && decide (a < 0x50000))
    || decide (a = 0x70014) || decide (a = 0x90010) || (decide (0x90100 ≤ a) && decide (a < 0x901C0))
    || (decide (0x800000 ≤ a) && decide (a < 0x900000) && decide (0xA00 ≤ a % 0x10000) && decide (a % 0x10000 < 0xB00))

/-- The word a configuration clear leaves of a stored one: all of it, LOCK of a BLOCK_LOCK, which only a reset clears (R44), or none. -/
def clearLeaves (e : Nat × Word) : Option (Nat × Word) :=
  if clearKeeps e.1 then some e
  else
    match rowOf e.1 with
    | some r => if r.acc = .lock ∧ bitAt e.2 0 = true then some (e.1, 1) else none
    | none => none

/-- A configuration clear (R44, R591).
DEDUCED, log entry 60. -/
def Device.cfgClear (d : Device) : Device :=
  { regs := d.regs.filterMap clearLeaves, uptime := d.uptime, fresh := d.fresh, bus := d.bus, fc := d.fc, tod := d.tod.resetKeep
    attic := { kept := d.attic.kept, warm := d.attic.warm }, pw := d.pw, boot := d.boot, pantry := d.pantry, porch := d.porch, cores := d.cores, meas := d.meas
    slots := d.slots }

/-- The configuration clear completes (R591): the other slot is tried, each image at most once per boot. -/
def Device.cfgCleared (d : Device) : Device :=
  if d.bootPhase ≠ 6 then d
  else
    match d.boot.load with
    | none => d
    | some l =>
      (fun (d1 : Device) (slot : Nat) (o : SlotObs) =>
        if d1.boot.tried.contains slot || slotEmpty o then d1.bootDone
        else
          (fun d2 : Device =>
            if d2.slotOk slot o then (d2.extend 0x04 2 (slotDigest o)).loadStart slot o true else d2.bootDone)
          (((d1.slotNote slot o).ev 0x20014 3).onBoot (fun b => { b with tried := b.tried ++ [slot] })))
      (d.cfgClear.onBoot (fun b => { b with load := none })) (5 - l.slot) (if l.slot = 2 then d.boot.cfgB else d.boot.cfgA)

end Sys2Proof.Machine
end

