-- ==== Sys2Proof/Machine/ClientRead.lean ====
section
/-! DEFINITION. What the bits of a client frame show its monitor: framing patterns, multiframes, CRC-4, CRC-6, parity and the
reported bits of E1, DS1, E3 and DS3 (R248 to R257). -/

namespace Sys2Proof.Machine
open Sys2Proof

/-- What one client frame shows the monitor (R248 to R257): an E1 double frame, a DS1 multiframe, an E3 frame, a DS3
M-frame. -/
structure ClientObs where
  /-- Offsets at which the pattern that creates a candidate is found; at which everything that keeps it is found. -/
  hits : List Nat := []
  keeps : List Nat := []
  /-- Offsets whose second check is right: E1 bit 2 of the NFAS, DS1 ESF CRC-6. -/
  seconds : List Nat := []
  /-- E1: offsets at which the CRC-4 alignment word completes. -/
  crc4 : List Nat := []
  /-- At the locked offset: the FAS word (E1, E3) or the M bits (DS3) are right; how many M bits are wrong. -/
  fas : Bool := true
  mErr : Nat := 0
  /-- E1: bit 2 of the NFAS frame is 1. -/
  bit2 : Bool := true
  /-- FPS, Ft or F bits in order, true where errored; and errored Fs bits (DS1 SF). -/
  framing : List Bool := []
  fs : Nat := 0
  /-- Zeros in each AIS period that ended (E1, DS1, E3), and the DS3 AIS pattern. -/
  zeros : List Nat := []
  ds3Ais : Bool := false
  /-- RAI readings: E1 and E3 the A bit, DS1 the code or bit 2 of all channels 0, DS3 X1 and X2. -/
  rai : List Bool := []
  raiClear : List Bool := []
  /-- Block checks that ended, true where they mismatch: E1 CRC-4, DS1 CRC-6, DS3 CP. -/
  blocks : List Bool := []
  /-- DS3: the P bits differ from the parity. -/
  parity : Bool := false
  /-- Far-end block errors: E1 E bits of 0, DS3 FEBE bits not 111. -/
  far : Nat := 0
  /-- E1: the Sa4 to Sa8 nibbles of each group of four that ended. -/
  sa : List (List Nat) := []
  /-- E3 N bit; DS3 first C bit. -/
  n : Bool := false
  aic : Bool := false
  deriving DecidableEq, Repr

/-! The bits. -/

/-- Bits of the past a monitor keeps: two M-frames, and what lies behind an offset. -/
def cliPast : Nat := 9600

/-- The client frame of a kind and framing in bits (R248, R253, R255): 1 E1, 2 DS1, 3 E3, 4 DS3. -/
def cliLen (kind framing : Nat) : Nat := if kind = 1 then 512 else if kind = 2 then (if framing = 0 then 4632 else 2316) else if kind = 3 then 1536 else 4760

/-- The past of a monitor and the frame that ends, as one stream: an offset `p` of the frame is bit `cliPast - 16 + p`, so that the
bits an offset's pattern needs behind it have arrived.
PRESUMED, log entry 87. -/
def cliStream (past cur : List Bool) (i : Nat) : Bool :=
  if i < cliPast then past.getD (past.length + i - cliPast) false else cur.getD (i - cliPast) false

/-- Bits read at places. -/
def bitsAt (f : Nat → Bool) (l : List Nat) : List Bool := l.map f

/-- The number bits spell, the first the most significant. -/
def msbNat (l : List Bool) : Nat := l.foldl (fun a b => 2 * a + b2n b) 0

/-- Remainder of a bit string under a polynomial of degree `k`, without its highest term. -/
def crcBits (k poly : Nat) (l : List Bool) : Nat :=
  l.foldl (fun c b => if (c / 2 ^ (k - 1) % 2 = 1) != b then (c * 2 % 2 ^ k) ^^^ poly else c * 2 % 2 ^ k) 0

/-- The parity of bits is odd. -/
def oddBits (l : List Bool) : Bool := decide ((l.filter id).length % 2 = 1)

/-! E1 (R248 to R252). -/

/-- The FAS 0011011 begins at a bit. -/
def e1FasAt (f : Nat → Bool) (x : Nat) : Bool := msbNat (bitsAt f ((List.range 7).map (x + ·))) == 0x1B

/-- Bit 1 of the NFAS frame of a candidate in the double frame: its FAS begins at offset `off`, an offset counts bit 2. -/
def e1NfasBit1 (b off : Nat) : Nat := b + (off + 256) % 512 - 1

/-- The CRC-4 alignment word 001011 completes in the NFAS frames of the last six double frames. -/
def e1Word (f : Nat → Bool) (b off : Nat) : Bool :=
  msbNat ((List.range 6).map (fun k => f (e1NfasBit1 b off - 512 * (5 - k)))) == 0xB

/-- Bit 1 of a FAS frame carries CRC-4 bits: the submultiframe's 2,048 bits from `x` on, with C1 to C4 taken as 0 (polynomial
x^4 + x + 1). -/
def e1Crc (f : Nat → Bool) (x : Nat) : Nat := crcBits 4 3 ((List.range 2048).map (fun i => if i % 512 = 0 then false else f (x + i)))

/-- C1 to C4 as received in the submultiframe from `x` on. -/
def e1Ctl (f : Nat → Bool) (x : Nat) : Nat := msbNat ((List.range 4).map (fun k => f (x + 512 * k)))

/-- The nibbles Sa4 to Sa8 of the last four NFAS frames. -/
def e1Sa (f : Nat → Bool) (q : Nat) : List Nat :=
  (List.range 5).map (fun i => msbNat ((List.range 4).map (fun k => f (q + 3 + i - 512 * (3 - k)))))

/-- What an E1 double frame shows; `m` is its place in the multiframe, `g` in the group of four without one. -/
def e1Read (f : Nat → Bool) (b lock m g : Nat) (crc : Bool) (cands : List Nat) : ClientObs :=
  (fun (q x : Nat) (hits : List Nat) =>
    { hits := hits, keeps := hits
      seconds := (List.range 512).filter (fun off => f (e1NfasBit1 b off + 1))
      crc4 := cands.filter (e1Word f b)
      fas := e1FasAt f (b + lock), bit2 := f (q + 1)
      zeros := [((List.range 512).filter (fun i => !f (b + i))).length]
      rai := [f (q + 2)]
      blocks := if crc ∧ m % 4 = 3 then [e1Crc f (x - 2048) != e1Ctl f x] else []
      far := if crc ∧ (m = 6 ∨ m = 7) then b2n (!f q) else 0
      sa := if (if crc then m else g) % 4 = 3 then [e1Sa f q] else [] })
  (e1NfasBit1 b lock) (e1NfasBit1 b lock - 1792) ((List.range 512).filter (fun p => e1FasAt f (b + p)))

/-! DS1 (R253, R254). -/

/-- F bit `k` (1 to 24) of the ESF whose last F bit stands at `x`. -/
def esfBit (x k : Nat) : Nat := x - 193 * (24 - k)

/-- The six FPS bits of an ESF. -/
def esfFps (f : Nat → Bool) (x : Nat) : List Bool := (List.range 6).map (fun i => f (esfBit x (4 * i + 4)))

/-- The CRC-6 of the ESF before, over its 4,632 bits with F bits taken as 1, is the one this ESF carries in its frames 2, 6 to 22
(polynomial x^6 + x + 1). -/
def esfCrcOk (f : Nat → Bool) (x : Nat) : Bool :=
  crcBits 6 3 ((List.range 4632).map (fun i => i % 193 == 0 || f (esfBit x 1 - 4632 + i)))
    == msbNat ((List.range 6).map (fun i => f (esfBit x (4 * i + 2))))

/-- The FDL bits of an ESF: F bits of its odd frames. -/
def esfFdl (f : Nat → Bool) (x : Nat) : List Bool := (List.range 12).map (fun i => f (esfBit x (2 * i + 1)))

/-- A group of 16 FDL bits is the RAI code, eight ones and eight zeros in any rotation. -/
def fdlRai (l : List Bool) : Bool :=
  (List.range 16).any (fun r => (List.range 16).all (fun i => l.getD ((r + i) % 16) false == decide (i < 8)))

/-- Groups of 16 bits that are full, and what is left. -/
def fdlGroups : Nat → List Bool → List (List Bool) × List Bool
  | 0, l => ([], l)
  | n + 1, l => if l.length < 16 then ([], l) else (l.take 16 :: (fdlGroups n (l.drop 16)).1, (fdlGroups n (l.drop 16)).2)

/-- What an ESF shows; `fdl` are FDL bits of a group in progress. -/
def esfRead (f : Nat → Bool) (b lock : Nat) (fdl : List Bool) (cands : List Nat) : ClientObs :=
  (fun hits : List Nat =>
    { hits := hits, keeps := hits
      seconds := cands.filter (fun off => esfCrcOk f (b + off))
      framing := List.zipWith (· != ·) (esfFps f (b + lock)) [false, false, true, false, true, true]
      rai := (fdlGroups 2 (fdl ++ esfFdl f (b + lock))).1.map fdlRai
      blocks := [!esfCrcOk f (b + lock)] })
  ((List.range 4632).filter (fun p => esfFps f (b + p) == [false, false, true, false, true, true]))

/-- F bits of the twelve frames of a superframe: Ft in odd, Fs in even frames. -/
def sfPattern : List Bool := [true, false, false, false, true, true, false, true, true, true, false, false]

/-- The F bits of the superframe that begins at offset `off`, as they stand in this client frame: place and expected bit. -/
def sfBits (f : Nat → Bool) (b off : Nat) : List (Nat × Bool) :=
  (List.range 12).map (fun k => (k, f (b + off % 193 + 193 * k) != sfPattern.getD ((k + 12 - off / 193) % 12) false))

/-- What a superframe shows. -/
def sfRead (f : Nat → Bool) (b lock : Nat) : ClientObs :=
  (fun (hits : List Nat) (own : List (Nat × Bool)) =>
    { hits := hits, keeps := hits
      framing := (own.filter (fun x => (x.1 + 12 - lock / 193) % 12 % 2 = 0)).map (·.2)
      fs := (own.filter (fun x => (x.1 + 12 - lock / 193) % 12 % 2 = 1 && x.2)).length
      rai := (List.range 12).map (fun k => (List.range 24).all (fun c => !f (b + lock % 193 + 193 * k + 8 * c + 2 - 193))) })
  ((List.range 2316).filter (fun off => (sfBits f b off).all (fun x => !x.2))) (sfBits f b lock)

/-! E3 and DS3 (R255, R256). -/

/-- What an E3 frame shows: an offset names the first bit of the FAS 1111010000. -/
def e3Read (f : Nat → Bool) (b lock : Nat) : ClientObs :=
  (fun (hits : List Nat) =>
    { hits := hits, keeps := hits, fas := hits.contains lock
      zeros := [((List.range 1536).filter (fun i => !f (b + i))).length]
      rai := [f (b + lock + 10)], n := f (b + lock + 11) })
  ((List.range 1536).filter (fun p => msbNat ((List.range 10).map (fun i => f (b + p + i))) == 0x3D0))

/-- Overhead bit `j` (0 to 7) of subframe `s` (1 to 7) of the M-frame that begins at `x`: X, P or M, F1, C1, F2, C2, F3, C3, F4. -/
def ds3Oh (f : Nat → Bool) (x s j : Nat) : Bool := f (x + 680 * (s - 1) + 85 * j)

/-- F1 to F4 of a subframe, true where errored. -/
def ds3F (f : Nat → Bool) (x s : Nat) : List Bool :=
  List.zipWith (· != ·) ((List.range 4).map (fun i => ds3Oh f x s (2 * i + 1))) [true, false, false, true]

/-- The 4,704 payload bits of an M-frame. -/
def ds3Payload (f : Nat → Bool) (x : Nat) : List Bool :=
  ((List.range 4760).filter (· % 85 ≠ 0)).map (fun i => f (x + i))

/-- The M bits M1 M2 M3 of an M-frame, true where they differ from 010. -/
def ds3M (f : Nat → Bool) (x : Nat) : List Bool :=
  List.zipWith (· != ·) [ds3Oh f x 5 0, ds3Oh f x 6 0, ds3Oh f x 7 0] [false, true, false]

/-- The parity of the M-frame before. -/
def ds3Par (f : Nat → Bool) (x : Nat) : Bool := oddBits (ds3Payload f (x - 4760))

/-- The DS3 AIS pattern (R257): payload 1010, every C bit 0, both X bits 1. -/
def ds3AisAt (f : Nat → Bool) (x : Nat) : Bool :=
  (List.range 4760).all (fun i => i % 85 = 0 || f (x + i) == decide (i % 85 % 2 = 1)) &&
    (List.range 7).all (fun s => (List.range 3).all (fun j => !ds3Oh f x (s + 1) (2 * j + 2))) && ds3Oh f x 1 0 && ds3Oh f x 2 0

/-- What a DS3 M-frame shows: the M-frame of an offset is the one that ends there. -/
def ds3Read (f : Nat → Bool) (b lock : Nat) : ClientObs :=
  (fun (x : Nat) (hits : List Nat) =>
    { hits := hits
      keeps := hits.filter (fun p => (List.range 7).all (fun s => (ds3F f (b + p - 4760) (s + 1)).all (! ·)) &&
        (ds3M f (b + p - 4760)).all (! ·))
      fas := (ds3M f x).all (! ·), mErr := ((ds3M f x).filter id).length
      framing := (List.range 7).flatMap (fun s => ds3F f x (s + 1))
      ds3Ais := ds3AisAt f x
      rai := [!ds3Oh f x 1 0 && !ds3Oh f x 2 0], raiClear := [ds3Oh f x 1 0 && ds3Oh f x 2 0]
      blocks := [ctlStuff [ds3Oh f x 3 2, ds3Oh f x 3 4, ds3Oh f x 3 6] != ds3Par f x]
      parity := ds3Oh f x 3 0 != ds3Par f x || ds3Oh f x 4 0 != ds3Par f x
      far := b2n (!(ds3Oh f x 4 2 && ds3Oh f x 4 4 && ds3Oh f x 4 6))
      aic := ds3Oh f x 1 2 })
  (b + lock - 4760)
  ((List.range 4760).filter (fun p => (ds3F f (b + p - 4760) 1).all (! ·) && (ds3F f (b + p - 4760) 2).all (! ·)))

/-- Zeros in the periods of `n` bits that end in a run of bits: the periods' counts, and the period in progress as bits and zeros. -/
def zeroPeriods (n : Nat) : Nat × Nat → List Bool → List Nat × Nat × Nat
  | x, [] => ([], x)
  | x, b :: t =>
    if x.1 + 1 = n then ((x.2 + b2n (!b)) :: (zeroPeriods n (0, 0) t).1, (zeroPeriods n (0, 0) t).2)
    else zeroPeriods n (x.1 + 1, x.2 + b2n (!b)) t

end Sys2Proof.Machine
end

