-- ==== Sys2Proof/Machine/RxLane.lean ====
section
/-! DEFINITION. What a received frame does in the lane: the framers, the section and OTU overhead, their acceptances,
counters and detectors (R112 to R121, R124 to R140, R146, R309 to R312, R700). -/

namespace Sys2Proof.Machine
open Sys2Proof

/-! Trace mismatch (R311). -/

/-- The bytes from `lo` to `hi` of a trace. -/
def traceSlice (l : List Byte) (lo hi : Nat) : List Byte := (l.drop lo).take (hi - lo)

/-- TIM at the end of a trace period (R311, R312): the accepted trace against the expected one in use. -/
def timAtEnd (accepted : Bool) (acc expct : List Byte) (ranges : List (Nat × Nat)) : Bool :=
  accepted && ranges.any (fun r => decide (traceSlice acc r.1 r.2 ≠ traceSlice expct r.1 r.2))

/-- A byte of a period arrives: a first period takes the expected trace at its beginning, the others at the end of the one before. -/
def TraceRx.expecting (t : TraceRx) (reg : List Byte) : TraceRx := { t with expct := if t.expct.isEmpty then reg else t.expct }

/-- One byte of a trace: acceptance, then the mismatch at the end of the period. Answers the device, the trace state,
whether the accepted trace changed, and the mismatch when a period ended (R118, R137, R181, R230, R311).
DEDUCED, log entry 25. -/
def Device.traceStep (d : Device) (t : TraceRx) (fmt : TraceFmt) (b : Byte) (acc expct size : Nat)
    (ranges : List (Nat × Nat)) : Device × TraceRx × Bool × Option Bool :=
  (fun y : TraceRx × Bool =>
    if y.2 then
      (fun x : TraceRx × Device × Bool =>
        (x.2.1, { x.1 with expct := d.traceBytes expct size }, x.2.2,
          some (timAtEnd x.1.accepted (x.2.1.traceBytes acc size) x.1.expct ranges)))
      (d.traceAccept y.1 acc size)
    else (d, y.1, false, none))
  ((t.expecting (d.traceBytes expct size)).byte fmt b)

/-! Framing. -/

/-- Frames of OOF before it is declared (R130) and INFRAME_COUNT (R127) of a lane. -/
def Device.oofCount (d : Device) (n : Nat) : Nat := d.get (laneBase n + 0x4010) 12 4
/-- INFRAME_COUNT of a lane. -/
def Device.inframe (d : Device) (n : Nat) : Nat := d.get (laneBase n + 0x4010) 8 3

/-- A framer judges a frame (R127 to R132): its new state, mimics and full slots, and whether OOF was declared. -/
def Framer.judge (f : Framer) (inframe oof : Nat) (offs : List Nat) (ok : Bool) : Framer × HuntCount × Bool :=
  match f.st with
  | .sync => ((syncFrame oof ok f).1, {}, (syncFrame oof ok f).2)
  | _ => ((huntFrame inframe offs f).1, (huntFrame inframe offs f).2, false)

/-- The framer is held in HUNT (R105, R133). -/
def Device.huntHeld (d : Device) (n : Nat) (sdh : Bool) : Bool :=
  d.bit (laneBase n + 0x4000) 0 || d.bit (laneBase n + 0x4000) 1 || (sdh && d.isOtu n && decide ((d.lane n).otu.st ≠ .sync))

/-- Counts of one frame's framing: counters at `base`, `base + 0x10`, `base + 0x20`, and the OOF event `ev` (R126, R129, R130). -/
def Device.frameCounts (d : Device) (n base ev : Nat) (c : HuntCount) (oof : Bool) : Device :=
  (((d.count (laneBase n + base) c.mimic).count (laneBase n + base + 0x10) c.full).count (laneBase n + base + 0x20)
    (b2n oof)).when oof (·.ev (laneBase n + 0x4008) ev)

/-- The SDH framer of lane `n` judges a frame. -/
def Device.sdhJudge (d : Device) (n : Nat) (offs : List Nat) (ok : Bool) : Device :=
  if d.huntHeld n true then
    d.onLane n (fun l => { l with sdh := { l.sdh.drop with frame := l.sdh.frame + 1 } })
  else
    (fun x : Framer × HuntCount × Bool =>
      ((d.onLane n (fun l => { l with sdh := x.1 })).frameCounts n 0x4400 2 x.2.1 x.2.2).when x.2.2 (·.phaseLost n))
    ((d.lane n).sdh.judge (d.inframe n) (d.oofCount n) offs ok)

/-! The section overhead of a frame in SYNC. -/

/-- Every run of consecutive frames of the SDH section ends (R700). -/
def LaneSt.sdhBreak (l : LaneSt) : LaneSt :=
  { l with kRun := {}, s1Run := {}, j0 := l.j0.brk, msAis := l.msAis.brk, msRdi := l.msRdi.brk }

/-- K1 and K2 (R138).
DEDUCED, log entry 25. -/
def Device.rxK (d : Device) (n k : Nat) : Device :=
  (fun r : Run =>
    if r.accepts 3 then
      (((d.onLane n (fun l => { l with kRun := r, kValid := true, kNoAcc := 0 })).wr (laneBase n + 0x4024) (wd k)).setBit
        (laneBase n + 0x4000) 8 false).when (!(d.lane n).kValid || decide ((d.rd (laneBase n + 0x4024)).toNat ≠ k))
        (·.ev (laneBase n + 0x4008) 8)
    else if (d.lane n).kNoAcc + 1 = 12 then
      ((d.onLane n (fun l => { l with kRun := r, kNoAcc := 12 })).setBit (laneBase n + 0x4000) 8 true).ev (laneBase n + 0x4008) 14
    else d.onLane n (fun l => { l with kRun := r, kNoAcc := min 12 (l.kNoAcc + 1) }))
  ((d.lane n).kRun.next k)

/-- S1 (R139): bits [4:1] decide, the accepted byte stands in S1_ACC.
DEDUCED, log entry 25. -/
def Device.rxS1 (d : Device) (n b : Nat) : Device :=
  (fun r : Run =>
    if r.accepts 3 && (!(d.lane n).s1Valid || decide (d.get (laneBase n + 0x4028) 0 8 ≠ b % 256)) then
      ((d.onLane n (fun l => { l with s1Run := r, s1Valid := true })).wr (laneBase n + 0x4028) (wd (b % 256))).ev (laneBase n + 0x4008) 9
    else d.onLane n (fun l => { l with s1Run := r }))
  ((d.lane n).s1Run.next (b % 16))

/-- J0 (R136, R137, R311).
DESIGN CHOICE, log entry 80. -/
def Device.rxJ0 (d : Device) (n : Nat) (b : Byte) : Device :=
  (fun mode : Nat =>
    (fun x : Device × TraceRx × Bool × Option Bool =>
      (x.1.onLane n (fun l => { l with
        j0 := x.2.1, rsTim := match x.2.2.2 with | some t => t && d.bit (laneBase n + 0x4058) 0 | none => l.rsTim })).when
        x.2.2.1 (·.ev (laneBase n + 0x4008) 10))
    (d.traceStep (d.lane n).j0 (if mode = 0 then .one else if mode = 1 then .sixteen else .sixtyFour) b (laneBase n + 0x4140)
      (laneBase n + 0x4100) (if mode = 0 then 1 else if mode = 1 then 16 else 64)
      [(0, if mode = 0 then 1 else if mode = 1 then 16 else 64)]))
  (d.get (laneBase n + 0x401C) 0 2)

/-- The MS-REI count of a frame (R140). -/
def msReiIn (mode : Nat) (m0m1 : Bool) (m0 m1 : Byte) : Nat :=
  (fun v : Nat => if v ≤ reiTop mode m0m1 then v else 0) (if mode ≥ 3 ∧ m0m1 then m0.toNat * 256 + m1.toNat else m1.toNat)

/-- The section overhead of a frame in SYNC (R135, R137 to R140, R309, R317, R406). -/
def Device.rxSection (d : Device) (n : Nat) (o : SdhObs) : Device :=
  (fun rei : Nat =>
    ((((((((((d.rxJ0 n o.j0).rxK n (o.k1.toNat * 256 + o.k2.toNat)).rxS1 n o.s1.toNat).onLane n (fun l => { l with
        msAis := l.msAis.step (o.k2.toNat % 8 == 7) 3 3, msRdi := l.msRdi.step (o.k2.toNat % 8 == 6) 5 5
        reiB2 := o.b2 })).count (laneBase n + 0x4430) o.b1).count (laneBase n + 0x4440) o.b2).count
        (laneBase n + 0x4450) rei).sfErrors (.ms n) o.b2).pmBlock (lanePoint n 0) (decide (o.b1 > 0)) false).pmBlock
        (lanePoint n 1) (decide (o.b2 > 0)) (decide (rei > 0))))
  (msReiIn (if d.isOtu n then 3 else d.laneMode n) (d.bit (laneBase n + 0x24) 2) o.m0 o.m1)

/-- The relay collects a frame's selected bytes: 0x00 and the OOF flag out of SYNC (R146). -/
def Device.rxRelay (d : Device) (n : Nat) (sync : Bool) (bytes : List Byte) : Device :=
  if d.bit (laneBase n + 0x90) 0 then
    d.onLane n (fun l => { l with
      relaySeq := if l.relayBuf.isEmpty then l.rxFrame % 2 ^ 32 else l.relaySeq
      relayBuf := l.relayBuf ++ [if sync then bytes else (d.ohSelected n).map (fun _ => 0)]
      relayOof := l.relayOof || !sync, rxFrame := l.rxFrame + 1 })
  else d.onLane n (fun l => { l with relayBuf := [], relayOof := false, rxFrame := l.rxFrame + 1 })

/-! The bytes of a frame (R98, R111, R124, R125, R134). -/

/-- The line bytes of a frame time: of an STM1 lane its samples. -/
def lineLen (mode : Nat) : Nat := if mode = 0 then 19440 else stmBits mode / 8

/-- The mode of the STM-N a lane frames: an OTU2 lane's STM-64. -/
def Device.stmMode (d : Device) (n : Nat) : Nat := if d.isOtu n then 3 else d.laneMode n

/-- What the receiver takes from the line: the looped transmit data in place of the line's, inverted when the polarity bit says so. -/
def Device.lineIn (d : Device) (n len : Nat) (bits : List Byte) : List Byte :=
  (fun l : List Byte => if d.bit (laneBase n + 0x4050) 1 then l.map (fun b => ~~~b) else l)
  (if d.bit (laneBase n + 0x10) 10 then (d.lane n).rxb.loop.take len else bits)

/-- The STM-N bytes of a counter frame: of an STM1 lane from its samples, of an OTU2 lane the demapped ones. -/
def Device.sdhIn (d : Device) (n : Nat) (bits : List Byte) : List Byte :=
  if d.isOtu n then (d.lane n).rxb.client.take 155520
  else if d.laneMode n = 0 then unsample (d.lineIn n (lineLen 0) bits)
  else d.lineIn n (lineLen (d.laneMode n)) bits

/-- The window bytes in use (R124), and the A2 bytes of the largest window, behind which an offset is counted.
DESIGN CHOICE, log entry 86. -/
def Device.winUse (d : Device) (n : Nat) : Nat × Nat × Nat :=
  (fun nn : Nat => (min (d.get (laneBase n + 0x4010) 0 4) (3 * nn), min (d.get (laneBase n + 0x4010) 4 4) (3 * nn), min 12 (3 * nn)))
  (stmN (d.stmMode n))

/-- The stream of a lane with the counter frame `cur`. -/
def Device.sdhStream (d : Device) (n : Nat) (cur : List Byte) : Nat → Byte :=
  stream (stmBits (d.stmMode n) / 8) (d.lane n).rxb.back2 (d.lane n).rxb.back cur

/-- Byte `i` of the frame that ended at the locked alignment in this counter frame, as the line carried it. -/
def Device.sdhLine (d : Device) (n : Nat) (f : Nat → Byte) (i : Nat) : Byte :=
  byteAtBit f (stmBits (d.stmMode n) + (d.lane n).sdh.lock + 1 - 8 * (d.winUse n).2.2 - 24 * stmN (d.stmMode n) + 8 * i)

/-- The same byte descrambled (R134). -/
def Device.sdhByte (d : Device) (n : Nat) (f : Nat → Byte) (i : Nat) : Byte :=
  scramble (d.bit (laneBase n + 0x10) 8) (stmN (d.stmMode n)) i (d.sdhLine n f i)

/-- A counter frame as its framer and section read it. -/
def Device.sdhObs (d : Device) (n : Nat) (cur : List Byte) (f : Nat → Byte) : SdhObs :=
  (fun (w : Nat × Nat × Nat) (len : Nat) =>
    sdhRead (stmN (d.stmMode n)) (d.sdhByte n f) (windowHits len f cur.length 0xF6 0x28 w.1 w.2.1 w.2.2)
      (windowAt f 0xF6 0x28 w.1 w.2.1 (16 * len + (d.lane n).sdh.lock + 1 - 8 * w.2.2)) (d.lane n).rxb.b1 (d.lane n).rxb.b2
      ((d.ohSelected n).map (fun v => (fld v 1 4, fld v 5 10))))
  (d.winUse n) (stmBits (d.stmMode n) / 8)

/-- A received STM-N frame in the lane: answers whether its payload is read (SYNC before and after it). -/
def Device.rxSdh (d : Device) (n : Nat) (o : SdhObs) : Bool × Device :=
  (fun d1 : Device =>
    (fun sync : Bool =>
      (sync, (if sync then d1.rxSection n o else d1.onLane n LaneSt.sdhBreak).rxRelay n sync o.relay))
    (decide ((d.lane n).sdh.st = .sync) && decide ((d1.lane n).sdh.st = .sync)))
  (d.sdhJudge n o.offs o.ok)

/-- The lane keeps the counter frame, and of a frame read in SYNC its B1 and B2 (R135). -/
def LaneRx.keep (x : LaneRx) (otu : Bool) (used : Nat) (cur : List Byte) (b1 : Option Byte) (b2 : Option (List Byte)) : LaneRx :=
  { x with back2 := x.back, back := cur, b1 := b1, b2 := b2, client := if otu then x.client.drop 155520 else x.client
           loop := if otu then x.loop else x.loop.drop used }

/-! OTU2 (R112 to R121, R309). -/

/-- Every run of consecutive OTU2 frames ends (R700). -/
def LaneSt.otuBreak (l : LaneSt) : LaneSt :=
  { l with smTti := l.smTti.brk, pmTti := l.pmTti.brk, smBdi := l.smBdi.brk, smIae := l.smIae.brk, smBiae := l.smBiae.brk
           oduAis := l.oduAis.brk, oduOci := l.oduOci.brk, oduLck := l.oduLck.brk, pmBdi := l.pmBdi.brk, ptRun := {}
           oomRun := 0, imRun := 0 }

/-- The OTU2 framer of lane `n` judges a frame: OTU2 OOF forces the SDH framer into HUNT (R133). -/
def Device.otuJudge (d : Device) (n : Nat) (offs : List Nat) (ok : Bool) : Device :=
  if d.huntHeld n false then
    d.onLane n (fun l => { l with otu := { l.otu.drop with frame := l.otu.frame + 1 } })
  else
    (fun x : Framer × HuntCount × Bool =>
      (fun d1 : Device =>
        if x.1.st = .sync then d1
        else
          ((d1.when (decide ((d1.lane n).sdh.st = .sync)) (·.ev (laneBase n + 0x4008) 2)).onLane n
            (fun l => { l with sdh := l.sdh.drop })).phaseLost n)
      ((d.onLane n (fun l => { l with otu := x.1 })).frameCounts n 0x4460 4 x.2.1 x.2.2))
    ((d.lane n).otu.judge (d.inframe n) (d.oofCount n) offs ok)

/-- MFAS (R113): 5 unexpected frames declare OOM, 2 expected frames end it.
DEDUCED, log entry 27. -/
def Device.rxMfas (d : Device) (n m : Nat) : Device :=
  (fun (good : Bool) (oom : Bool) =>
    (fun bad : Nat =>
      (fun imr : Nat =>
        (fun oom' : Bool =>
          ((d.onLane n (fun l => { l with mfas := (m + 1) % 256, oomRun := bad, imRun := imr })).setBit
            (laneBase n + 0x4000) 6 oom').when (oom' && !oom) (·.ev (laneBase n + 0x4008) 6))
        (if oom then decide (imr < 2) else decide (5 ≤ bad)))
      (if good then (d.lane n).imRun + 1 else 0))
    (if good then 0 else (d.lane n).oomRun + 1))
  (decide (m = (d.lane n).mfas)) (d.bit (laneBase n + 0x4000) 6)

/-- The compared parts of a TTI (R118, R311). -/
def ttiRanges (cmp : Nat) : List (Nat × Nat) :=
  (if cmp % 2 = 1 then [(0, 16)] else []) ++ (if cmp / 2 % 2 = 1 then [(16, 32)] else [])

/-- One TTI byte at its MFAS position (R118, R163): the period is a multiframe of 256 frames, in which the 64-byte TTI, aligned to
MFAS bits [5:0] = 0, stands four times alike. -/
def TraceRx.tti (t : TraceRx) (mfas : Nat) (b : Byte) : TraceRx × Bool :=
  if mfas = 0 then ({ t with buf := [b] }, false)
  else if t.buf.length ≠ mfas then ({ t with buf := [], cnt := 0 }, false)
  else if mfas = 255 then
    (t.period ((List.range 3).all (fun i => decide (((t.buf ++ [b]).drop (64 * (i + 1))).take 64 = t.buf.take 64))) (t.buf.take 64), true)
  else ({ t with buf := t.buf ++ [b] }, false)

/-- A TTI byte: acceptance, and the mismatch at the end of the multiframe. -/
def Device.ttiStep (d : Device) (t : TraceRx) (mfas : Nat) (b : Byte) (acc expct cmp : Nat) :
    Device × TraceRx × Bool × Option Bool :=
  (fun y : TraceRx × Bool =>
    if y.2 then
      (fun x : TraceRx × Device × Bool =>
        (x.2.1, { x.1 with expct := d.traceBytes expct 64 }, x.2.2,
          some (timAtEnd x.1.accepted (x.2.1.traceBytes acc 64) x.1.expct (ttiRanges cmp))))
      (d.traceAccept y.1 acc 64)
    else (d, y.1, false, none))
  ((t.expecting (d.traceBytes expct 64)).tti mfas b)

/-- The two TTIs of a frame. -/
def Device.rxTtis (d : Device) (n : Nat) (o : OtuObs) : Device :=
  (fun x : Device × TraceRx × Bool × Option Bool =>
    (fun d1 : Device =>
      (fun y : Device × TraceRx × Bool × Option Bool =>
        (y.1.onLane n (fun l => { l with
          pmTti := y.2.1, pmTim := match y.2.2.2 with | some t => t | none => l.pmTim })).when y.2.2.1
          (·.ev (laneBase n + 0x4008) 12))
      (d1.ttiStep (d1.lane n).pmTti o.mfas o.pmTti (laneBase n + 0x4240) (laneBase n + 0x4200)
        (d1.get (laneBase n + 0x4020) 6 2)))
    ((x.1.onLane n (fun l => { l with
      smTti := x.2.1, smTim := match x.2.2.2 with | some t => t | none => l.smTim })).when x.2.2.1
      (·.ev (laneBase n + 0x4008) 11)))
  (d.ttiStep (d.lane n).smTti o.mfas o.smTti (laneBase n + 0x41C0) (laneBase n + 0x4180) (d.get (laneBase n + 0x4020) 4 2))

/-- The detectors of the OTU and ODU rows of R309, and ODU_PLM over PT (R119, R312). -/
def LaneSt.otuDetect (l : LaneSt) (o : OtuObs) (map : Bool) : LaneSt :=
  (fun r : Run =>
    { l with
      smBdi := l.smBdi.step o.smBdi 5 5, smIae := l.smIae.step o.iae 5 5, smBiae := l.smBiae.step (o.smBei == 11) 3 3
      oduAis := l.oduAis.step (o.stat == 7) 3 3, oduOci := l.oduOci.step (o.stat == 6) 3 3
      oduLck := l.oduLck.step (o.stat == 5) 3 3, pmBdi := l.pmBdi.step o.pmBdi 5 5
      ptRun := r, oduPlm := if r.accepts 3 then decide (r.val ≠ if map then 3 else 2) else l.oduPlm
      beiSm := o.smBip, beiPm := o.pmBip })
  (match o.pt with | some p => l.ptRun.next p.toNat | none => l.ptRun)

/-- A BEI value of 1 to 8; 9 to 15 are taken as 0 (R117). -/
def beiIn (v : Nat) : Nat := if v ≤ 8 then v else 0

/-- ODU_RX as it stands (R158): PT is received once in a multiframe. -/
def oduRx (o : OtuObs) (pt : Nat) : Word :=
  wd ((match o.pt with | some p => p.toNat | none => pt) + 2 ^ 8 * (o.stat % 8) + 2 ^ 11 * b2n o.pmBdi + 2 ^ 12 * b2n o.smBdi + 2 ^ 13 * b2n o.iae
    + 2 ^ 14 * b2n (o.smBei == 11))

/-- The AMP justification of a frame (R120, R121). -/
def Device.rxJc (d : Device) (n : Nat) (jc : List Nat) : Device :=
  if d.bit (laneBase n + 0x4020) 2 then d
  else
    (fun maj : Nat → Bool =>
      if maj 1 && maj 0 then d.count (laneBase n + 0x44F0) 1
      else if maj 1 then d.count (laneBase n + 0x4510) 1
      else if maj 0 then d.count (laneBase n + 0x4500) 1 else d)
    (fun i => decide (2 ≤ (jc.filter (fun x => x / 2 ^ i % 2 = 1)).length))

/-- The overhead of an OTU2 frame in SYNC (R115, R117 to R121, R309, R317, R406). -/
def Device.rxOtuOverhead (d : Device) (n : Nat) (o : OtuObs) : Device :=
  (fun d1 : Device =>
    (((((((((((d1.rxJc n o.jc).wr (laneBase n + 0x402C) (oduRx o (d1.get (laneBase n + 0x402C) 0 8))).count (laneBase n + 0x4490)
      (if d.bit (laneBase n + 0x4020) 0 then o.corr else 0)).count (laneBase n + 0x44A0)
      (if d.bit (laneBase n + 0x4020) 0 then o.uncorr else 0)).count (laneBase n + 0x44B0) o.smBip).count
      (laneBase n + 0x44C0) (beiIn o.smBei)).count (laneBase n + 0x44D0) o.pmBip).count (laneBase n + 0x44E0)
      (beiIn o.pmBei)).sfErrors (.sm n) o.smBip).pmBlock (lanePoint n 2) (decide (o.smBip > 0))
      (decide (beiIn o.smBei > 0))).pmBlock (lanePoint n 3) (decide (o.pmBip > 0)) (decide (beiIn o.pmBei > 0))))
  (((d.rxMfas n o.mfas).rxTtis n o).onLane n (fun l => l.otuDetect o (d.bit (laneBase n + 0x4020) 2)))

/-- The stream of the OTU2 with the counter frame `cur`. -/
def Device.otuStream (d : Device) (n : Nat) (cur : List Byte) : Nat → Byte := stream 16320 (d.lane n).rxb.otuBack2 (d.lane n).rxb.otuBack cur

/-- The frame that ended at the locked alignment, descrambled (R114). -/
def Device.otuFrameOf (d : Device) (n : Nat) (f : Nat → Byte) : List Byte :=
  otuScramble ((List.range 16320).map (fun i => byteAtBit f (otuBits + (d.lane n).otu.lock + 1 - 48 + 8 * i)))

/-- A received OTU2 frame: the framer judges it, its overhead is processed, its FEC decoded and its STM-64 demapped
(R112 to R121). -/
def Device.rxOtu (d : Device) (n : Nat) (bits : List Byte) : Device :=
  if d.rxOn n && d.isOtu n then
    (fun (cur : List Byte) =>
      (fun (f : Nat → Byte) (half : Nat) =>
        (fun d1 : Device =>
          (if decide ((d.lane n).otu.st = .sync) && decide ((d1.lane n).otu.st = .sync) then
            (fun x : List Byte × Nat × Nat =>
              (d1.rxOtuOverhead n (otuRead x.1 x.2.1 x.2.2 ((d.lane n).rxb.bip[1]?) [] true)).onLane n (fun l => { l with
                rxb := { l.rxb with
                  bip := (otuBip x.1 :: l.rxb.bip).take 2
                  client := l.rxb.client ++ otuPayload (d.bit (laneBase n + 0x4020) 2) x.1 } }))
            (if d.bit (laneBase n + 0x4020) 0 then otuDecode (d.otuFrameOf n f) else (d.otuFrameOf n f, 0, 0))
          else (d1.onLane n LaneSt.otuBreak).onLane n (fun l => { l with rxb := { l.rxb with bip := [], client := [] } })).onLane n
            (fun l => { l with rxb := { l.rxb with
              otuBack2 := l.rxb.otuBack, otuBack := cur, loop := l.rxb.loop.drop 16320 } }))
        (d.otuJudge n (windowHits 16320 f cur.length 0xF6 0x28 half half 3)
          (windowAt f 0xF6 0x28 half half (2 * otuBits + (d.lane n).otu.lock + 1 - 24))))
      (d.otuStream n cur) (d.get (laneBase n + 0x4010) 16 3 / 2))
    (d.lineIn n 16320 bits)
  else d

end Sys2Proof.Machine
end

