-- ==== Sys2Proof/Machine/RxPath.lean ====
section
/-! DEFINITION. What a received frame does in the high-order contexts and the tributaries it carries: pointers, path
overhead, acceptances, counters and detectors (R171 to R185, R195, R217, R220 to R231, R311 to R315, R355, R356). -/

namespace Sys2Proof.Machine
open Sys2Proof

/-! High-order paths. -/

/-- How a head's or member's pointer words are judged (R171, R172): a member's by the head's HO_MON. -/
def Device.hoRule (d : Device) (h : Nat) : PtrRule :=
  { top := 782, ssCheck := bitAt (d.ho ((d.ho h).claim.getD h)).rxMon 3, ss := if d.bit (laneBase (laneOfHo h) + 0x10) 7 then 0 else 2 }

/-- Justifications and indications of a head's pointer period are counted (R175, R414). -/
def Device.hoPtrCount (d : Device) (h : Nat) (c : PtrCount) : Device :=
  ((((d.count (hoBase h + 0x60) (b2n c.pos)).count (hoBase h + 0x70) (b2n c.neg)).count (hoBase h + 0xA0) (b2n c.ndf)).count
    (hoBase h + 0xB0) (b2n c.inv)).pmJust (hoPoint h) c.pos c.neg

/-- One H4 byte (R185). -/
def HoSt.h4 (x : HoSt) (b : Byte) : HoSt :=
  (fun gb : Nat × Nat =>
    { x with h4Exp := (b.toNat % 4 + 1) % 4, h4Good := gb.1, h4Bad := gb.2
             oom := if gb.1 ≥ 2 then false else if gb.2 ≥ 3 then true else x.oom
             inMf := if gb.1 ≥ 2 then true else if gb.2 ≥ 3 then false else x.inMf })
  (if x.h4Good = 0 ∧ x.h4Bad = 0 then (1, 0)
   else if b.toNat % 4 = x.h4Exp then (min 2 (x.h4Good + 1), 0) else (0, min 3 (x.h4Bad + 1)))

/-- H4 is not read (R185): OOM is present and the phase is lost. -/
def HoSt.h4Lost (x : HoSt) : HoSt := { x with oom := true, inMf := false, h4Good := 0, h4Bad := 0 }

/-- J1 of a head (R180, R181, R311). -/
def Device.hoJ1 (d : Device) (h : Nat) (b : Byte) : Device :=
  (fun (mode : Nat) =>
    (fun x : Device × TraceRx × Bool × Option Bool =>
      (x.1.onHo h (fun s => { s with
        j1 := x.2.1
        tim := bitAt s.rxMon 2 && mode != 2 && (match x.2.2.2 with | some t => t | none => s.tim) })).when x.2.2.1
        (·.ev (hoBase h + 0x24) 16))
    (d.traceStep (d.ho h).j1 (if mode = 0 then .sixteen else if mode = 1 then .sixtyFour else .off) b
      (0x05800040 + 0x80 * h) (0x05800000 + 0x80 * h) (if mode = 0 then 16 else 64) [(0, if mode = 0 then 16 else 64)]))
  (fld (d.ho h).rxMon 0 2)

/-- C2 of a head (R182, R312, R313). -/
def Device.hoC2 (d : Device) (h : Nat) (b : Byte) : Device :=
  (fun r : Run =>
    if r.accepts 5 then
      ((d.onHo h (fun s => { s with
          c2 := r, c2Ok := true, uneq := (labelJudge r.val (fld s.rxMon 8 8)).1
          plm := (labelJudge r.val (fld s.rxMon 8 8)).2 })).put (hoBase h + 0x30) 0 8 r.val).when
        (!(d.ho h).c2Ok || decide (d.get (hoBase h + 0x30) 0 8 ≠ r.val)) (·.ev (hoBase h + 0x24) 17)
    else
      d.onHo h (fun s => { s with
        c2 := r
        uneq := s.c2Ok && (labelJudge (d.get (hoBase h + 0x30) 0 8) (fld s.rxMon 8 8)).1
        plm := s.c2Ok && (labelJudge (d.get (hoBase h + 0x30) 0 8) (fld s.rxMon 8 8)).2 }))
  ((d.ho h).c2.next b.toNat)

/-- G1 of a head (R183, R315). -/
def Device.hoG1 (d : Device) (h : Nat) (b : Byte) : Device :=
  (fun r : Run =>
    if r.accepts (if bitAt (d.ho h).rxMon 5 then 10 else 5) then
      (d.onHo h (fun s => { s with
        g1 := r, g1Ok := true, rdi := rdiJudge (bitAt s.rxMon 4) (decide (r.val / 4 = 1)) r.val })).put (hoBase h + 0x30) 8 3 r.val
    else
      d.onHo h (fun s => { s with
        g1 := r
        rdi := s.g1Ok && rdiJudge (bitAt s.rxMon 4) (d.bit (hoBase h + 0x30) 10) (d.get (hoBase h + 0x30) 8 3) }))
  ((d.ho h).g1.next (b.toNat / 2 % 8))

/-- A byte accepted after three equal frames into a field of HO_POH_ACC2 (R184). -/
def Device.hoByte (d : Device) (h lo : Nat) (r : Run) : Device :=
  if r.accepts 3 then d.put (hoBase h + 0x34) lo 8 r.val else d

/-- F2, F3, K3 and N1 of a head (R184). -/
def Device.hoOther (d : Device) (h : Nat) (o : PohObs) : Device :=
  (fun x : HoSt =>
    ((((d.setHo h x).hoByte h 0 x.f2).hoByte h 8 x.f3).hoByte h 16 x.k3).hoByte h 24 x.n1)
  { d.ho h with f2 := (d.ho h).f2.next o.f2.toNat, f3 := (d.ho h).f3.next o.f3.toNat, k3 := (d.ho h).k3.next o.k3.toNat
                n1 := (d.ho h).n1.next o.n1.toNat }

/-- The path overhead of a head in NORM (R179 to R185). -/
def Device.hoOverhead (d : Device) (h : Nat) (o : PohObs) : Device :=
  (fun rei : Nat =>
    (((((((((d.onHo h (fun x => { (if d.bit (hoBase h) 4 then x.h4 o.h4 else { x with oom := false, lom := false, inMf := false }) with
        b3Last := o.b3 })).hoJ1 h o.j1).hoC2 h o.c2).hoG1 h o.g1).hoOther h o).count (hoBase h + 0x40) o.b3).count (hoBase h + 0x50)
      rei).sfErrors (.ho h) o.b3).pmBlock (hoPoint h) (decide (o.b3 > 0)) (decide (rei > 0))))
  (beiIn (o.g1.toNat / 16))

/-- A frame of a head whose overhead is not processed: H4 is lost when it should be followed (R185). -/
def Device.hoSilent (d : Device) (h : Nat) : Device :=
  if d.bit (hoBase h) 4 then d.onHo h HoSt.h4Lost else d

/-! Containers and pointer periods of a frame. -/

/-- A container a head passes to its tributaries: its bytes and its frame of the TU multiframe, none while that is not followed. -/
structure Carried where
  bytes : List Byte := []
  phase : Option Nat := none
  deriving DecidableEq, Repr

/-- A container period that ends in a context: its bytes, none for AIS, and the mark of its pointer processor (R178, R223, R261, R381). -/
structure Ended where
  ctx : Nat
  bytes : Option (List Byte) := none
  mark : Nat := 0
  deriving DecidableEq, Repr

/-- The container in progress and the parity of the one before, after a pointer word: a container that breaks off ends the parity's use. -/
def Demux.follow (m : Nat) (p : Pi) (x : Demux) (par : Option Byte) : Demux × Option Byte :=
  (fun y : Demux => (y, if y.pos = x.pos then par else none)) (x.align m p.active (justFirst p.just))

/-- The container bytes of a head's group (R175, R188). -/
def hoLen (t : Nat) : Nat := if t = 0 then 765 else 783 * groupSize t

/-- A container of head `h` is complete: its path overhead, and what its tributaries get (R179 to R185). -/
def Device.hoCont (h : Nat) (x : Device × List Carried) (raw : List Byte) : Device × List Carried :=
  (fun c : List Byte =>
    ((x.1.hoOverhead h (pohRead (x.1.ho h).b3 c)).onHo h (fun s => { s with b3 := some (bip8 c) }),
      x.2 ++ [{ bytes := c, phase := if (x.1.ho h).inMf then some (((x.1.ho h).h4Exp + 3) % 4) else none }]))
  (if x.1.hoType h = 0 then unstuff raw else raw)

/-- Units of a head's payload area arrive. -/
def Device.hoUnits (d : Device) (h : Nat) (us : List (List Byte)) : Device × List Carried :=
  (fun x : Demux × List (List Byte) => x.2.foldl (Device.hoCont h) (d.onHo h (fun s => { s with dem := x.1 }), []))
  ((d.ho h).dem.units 783 us)

/-- Head `h` follows no container: H4 and the parity are lost (R178, R185). -/
def Device.hoStray (d : Device) (h : Nat) : Device := (d.hoSilent h).onHo h (fun s => { s with dem := {}, b3 := none })

/-- The pointer word of a head, and the units behind its H3 bytes (R172 to R178). -/
def Device.hoPointer (d : Device) (h w : Nat) (h3 : List Byte) (us : List (List Byte)) : Device × List Carried :=
  (fun p : Pi × PtrCount =>
    (fun d1 : Device =>
      if p.1.st = .norm then
        (d1.onHo h (fun s => { s with dem := (s.dem.follow 783 p.1 s.b3).1, b3 := (s.dem.follow 783 p.1 s.b3).2 })).hoUnits h
          (justUnits p.1.just h3 us)
      else (d1.hoStray h, []))
    ((d.onHo h (fun s => { s with pi := p.1 })).hoPtrCount h p.2))
  ((d.ho h).pi.period (d.hoRule h) w)

/-- The frame of a running head, its nine rows in order: rows 1 to 3 end the payload area of the word before, row 4 brings the word
(R172 to R185). -/
def Device.hoFrame (d : Device) (nn h : Nat) (f : Nat → Byte) : Device × List Carried :=
  (fun ts : List Nat =>
    (fun a : Device × List Carried =>
      (fun b : Device × List Carried => (b.1, a.2 ++ b.2))
      (a.1.hoPointer h (auWord nn (h % 192) f) (auH3 nn ts f) ((List.range 522).map (auUnit nn ts f))))
    (if (d.ho h).pi.st = .norm then d.hoUnits h ((List.range 261).map (fun i => auUnit nn ts f (522 + i))) else (d, [])))
  (groupTimes nn (h % 192) (groupSize (d.hoType h)))

/-- The carrier delivers all ones (R178, R223). -/
def Device.carrierAis (d : Device) (h : Nat) : Bool :=
  !(d.ho h).rx.runs || decide ((d.ho h).pi.st ≠ .norm) || (d.memberStates h).any (fun s => s == .lopc || s == .aisc)

/-- What a head's frame delivers: its containers, all ones where R178 says so, and one of all ones where none was located. -/
def Device.hoGiven (d : Device) (h : Nat) (cs : List Carried) : List Carried :=
  if d.carrierAis h then
    (if cs.isEmpty then [{}] else cs).map (fun c => { c with bytes := List.replicate (hoLen (d.hoType h)) 0xFF })
  else cs

/-- The container periods a head's frame ends. -/
def Device.hoEnded (d : Device) (h : Nat) (cs : List Carried) : List Ended :=
  cs.map (fun c => { ctx := hoCtx h, bytes := if d.carrierAis h then none else some c.bytes, mark := (d.ho h).pi.just })

/-- The lane whose contexts the frames of lane `n` reach, and whether they serve them (R355, R356). -/
def Device.ctxLane (d : Device) (n : Nat) : Nat × Bool :=
  match d.pairs.find? (fun p => p.ena && (p.work == n || p.prot == n)) with
  | some p => (p.work, d.rxLane p.work == n)
  | none => (n, d.rxLane n == n)

/-- A slot of the lane of a pair that does not serve: the shadow interpreter follows (R355, R356). -/
def Device.hoShadow (d : Device) (nn h : Nat) (f : Nat → Byte) : Device :=
  (fun x : HoSt =>
    if x.claim.isSome then d.setHo h { x with shadow := x.shadow.periodMember (d.hoRule h) (auWord nn (h % 192) f) }
    else if x.rx.runs then d.setHo h { x with shadow := (x.shadow.period (d.hoRule h) (auWord nn (h % 192) f)).1 }
    else d)
  (d.ho h)

/-! Low-order paths. -/

/-- How a tributary's pointer words are judged (R220). -/
def Device.tcRule (d : Device) (k : Nat) : PtrRule :=
  { top := tcTop (d.tcType k), ssCheck := bitAt (d.tc k).rxCfg 26, ss := tcSs (d.tcType k) }

/-- Justifications and indications of a tributary's pointer period are counted (R220, R427, R414). -/
def Device.tcPtrCount (d : Device) (k : Nat) (c : PtrCount) : Device :=
  ((((d.rawCount k 2 (b2n c.pos)).rawCount k 3 (b2n c.neg)).rawCount k 6 (b2n c.ndf)).rawCount k 7 (b2n c.inv)).pmJust k c.pos c.neg

/-- The trace of a tributary (R229, R230, R231, R311). -/
def Device.tcTrace (d : Device) (k : Nat) (b : Byte) : Device :=
  (fun (mode tim : Nat) =>
    (fun x : Device × TraceRx × Bool × Option Bool =>
      (x.1.onTc k (fun s => { s with
        j2 := x.2.1, tim := tim != 0 && mode != 0 && (match x.2.2.2 with | some t => t | none => s.tim) })).when x.2.2.1 (·.tcEv k 16))
    (d.traceStep (d.tc k).j2 (if mode = 1 then .sixteen else if mode = 2 then .one else .off) b (0x05000010 + 0x20 * k)
      (0x05000000 + 0x20 * k) 16
      [if tim = 2 then (1, 16) else (0, if mode = 1 then 16 else 1)]))
  (fld (d.tc k).rxMon 0 2) (fld (d.tc k).rxMon 2 2)

/-- The pattern of bits 1 to 11 of the K4 bit-1 multiframe (R226). -/
def k4Pattern : Nat := 0x3FE

/-- One K4 bit 1 (R226): alignment after 2 right patterns, loss after 3 wrong ones. -/
def TcSt.k4 (x : TcSt) (b : Bool) : TcSt :=
  (fun sr : Nat =>
    if x.k4Al then
      (fun pos : Nat =>
        if pos = 11 then
          (if sr % 2 ^ 11 = k4Pattern then { x with k4Sr := sr, k4Pos := 11, k4Bad := 0 }
           else if x.k4Bad + 1 ≥ 3 then { x with k4Sr := sr, k4Pos := 0, k4Bad := 0, k4Good := 0, k4Al := false, extRun := {} }
           else { x with k4Sr := sr, k4Pos := 11, k4Bad := x.k4Bad + 1 })
        else if pos = 19 then { x with k4Sr := sr, k4Pos := 19, extRun := x.extRun.next (sr % 2 ^ 8) }
        else { x with k4Sr := sr, k4Pos := pos % 32 })
      (x.k4Pos + 1)
    else if x.k4Good = 1 then
      (if (x.k4Pos + 1) % 32 = 11 then
        (if sr % 2 ^ 11 = k4Pattern then { x with k4Sr := sr, k4Pos := 11, k4Good := 0, k4Al := true, k4Bad := 0 }
         else { x with k4Sr := sr, k4Good := 0 })
       else { x with k4Sr := sr, k4Pos := (x.k4Pos + 1) % 32 })
    else if sr % 2 ^ 11 = k4Pattern then { x with k4Sr := sr, k4Pos := 11, k4Good := 1 }
    else { x with k4Sr := sr })
  ((x.k4Sr * 2 + b2n b) % 2 ^ 32)

/-- The K4 bit-1 multiframe is not followed (R226). -/
def TcSt.k4Off (x : TcSt) : TcSt := { x with k4Sr := 0, k4Pos := 0, k4Good := 0, k4Bad := 0, k4Al := false, extRun := {} }

/-- The extended label after a K4 bit (R226): EXT_VALID, EXT_LABEL and its change. -/
def Device.tcExtLabel (d : Device) (k : Nat) : Device :=
  if !(d.tc k).k4Al then d.put (tcBase k + 0x2C) 16 1 0
  else if (d.tc k).extRun.accepts 3 then
    ((d.put (tcBase k + 0x2C) 8 8 (d.tc k).extRun.val).put (tcBase k + 0x2C) 16 1 1).when
      (!d.bit (tcBase k + 0x2C) 16 || decide (d.get (tcBase k + 0x2C) 8 8 ≠ (d.tc k).extRun.val)) (·.tcEv k 18)
  else d

/-- The signal label of a tributary (R224, R228, R312 to R314). -/
def Device.tcLabel (d : Device) (k v : Nat) : Device :=
  (fun r : Run =>
    (d.onTc k (fun x => { x with lblRun := r, lblOk := x.lblOk || r.accepts 5 })).when (r.accepts 5)
      (fun e => (e.put (tcBase k + 0x2C) 0 8 r.val).when (!(d.tc k).lblOk || decide (d.get (tcBase k + 0x2C) 0 8 ≠ r.val))
        (·.tcEv k 17)))
  ((d.tc k).lblRun.next v)

/-- UNEQ and PLM of a tributary (R312 to R314). -/
def Device.tcLabelJudge (d : Device) (k : Nat) : Device :=
  (fun (acc expct : Nat) (tu3 : Bool) =>
    d.onTc k (fun x => { x with
      uneq := x.lblOk && (labelJudge acc expct).1
      plm := x.lblOk && ((labelJudge acc expct).2 || (!tu3 && acc == 5 && expct == 5 &&
        (!d.bit (tcBase k + 0x2C) 16 || decide (d.get (tcBase k + 0x2C) 8 8 ≠ fld x.rxMon 12 8)))) }))
  (d.get (tcBase k + 0x2C) 0 8) (if d.tcType k = 3 then fld (d.tc k).rxMon 4 8 else fld (d.tc k).rxMon 4 3) (d.tcType k == 3)

/-- The RDI bits of a tributary (R225, R228, R315). -/
def Device.tcRdi (d : Device) (k v : Nat) : Device :=
  (fun (r : Run) (acc erdi : Bool) (tu3 : Bool) =>
    (fun d1 : Device =>
      d1.onTc k (fun x => { x with
        rdiRun := r, rdiOk := x.rdiOk || acc
        rdi := (x.rdiOk || acc) && rdiJudge erdi (if tu3 then d1.bit (tcBase k + 0x2C) 20 else d1.bit (tcBase k + 0x2C) 21)
          (d1.get (tcBase k + 0x2C) 18 3) }))
    (if acc then d.put (tcBase k + 0x2C) 18 4 r.val else d))
  ((d.tc k).rdiRun.next v) (((d.tc k).rdiRun.next v).accepts (if bitAt (d.tc k).rxCfg 28 then 10 else 5)) (bitAt (d.tc k).rxCfg 27)
  (d.tcType k == 3)

/-- RFI of a tributary (R224, R315). -/
def Device.tcRfi (d : Device) (k : Nat) (b : Bool) : Device :=
  (fun r : Run =>
    if r.accepts 5 then
      (d.onTc k (fun x => { x with rfiRun := r, rfiOk := true, rfi := b })).setBit (tcBase k + 0x2C) 17 b
    else d.onTc k (fun x => { x with rfiRun := r }))
  ((d.tc k).rfiRun.next (b2n b))

/-- N2, or N1 of a TU3 (R227, R228). -/
def Device.tcN2 (d : Device) (k v : Nat) : Device :=
  (fun r : Run =>
    (d.onTc k (fun x => { x with n2Run := r })).when (r.accepts 3) (·.put (tcBase k + 0x2C) 24 8 r.val))
  ((d.tc k).n2Run.next v)

/-- The K4 byte of a tributary (R226): its bit 1 counts while the accepted label is 101. -/
def Device.tcK4 (d : Device) (k : Nat) (b : Byte) : Device :=
  if (d.tc k).lblOk && decide (d.get (tcBase k + 0x2C) 0 8 = 5) then
    (d.onTc k (fun x => x.k4 (decide (b.toNat ≥ 128)))).tcExtLabel k
  else (d.onTc k TcSt.k4Off).put (tcBase k + 0x2C) 16 1 0

/-- The errors and far-end reading of a tributary's VC (R224, R228, R317, R406). -/
def Device.tcErrors (d : Device) (k bip rei : Nat) : Device :=
  ((((d.onTc k (fun x => { x with bipLast := bip })).rawCount k 0 bip).rawCount k 1 rei).sfErrors (.tc k) bip).pmBlock k
    (decide (bip > 0)) (decide (rei > 0))

/-- The path overhead of a TU11, TU12 or TU2 in NORM (R224 to R231). -/
def Device.tcOverhead (d : Device) (k : Nat) (o : LoPohObs) : Device :=
  (((((((d.tcErrors k o.bip (o.v5.toNat / 32 % 2)).tcRfi k (decide (o.v5.toNat / 16 % 2 = 1))).tcLabel k (o.v5.toNat / 2 % 8)).tcK4
    k o.k4).tcLabelJudge k).tcRdi k
    (8 * (o.v5.toNat % 2) + (if bitAt (d.tc k).rxCfg 27 then o.k4.toNat / 2 % 8 else 0))).tcN2 k o.n2.toNat).tcTrace k o.j2

/-- The path overhead of a TU3 in NORM (R228). -/
def Device.tu3Overhead (d : Device) (k : Nat) (o : LoPohObs) : Device :=
  (((((d.tcErrors k o.bip (beiIn (o.g1.toNat / 16))).tcLabel k o.c2.toNat).tcLabelJudge k).tcRdi k (o.g1.toNat / 2 % 8)).tcN2 k
    o.n2.toNat).tcTrace k o.j2

/-! The pointer periods of a tributary. -/

/-- A VC of tributary `k` is complete: its path overhead (R223 to R231). -/
def Device.tcCont (k : Nat) (d : Device) (c : List Byte) : Device :=
  (fun tu3 : Bool =>
    (fun o : LoPohObs => if tu3 then d.tu3Overhead k o else d.tcOverhead k o) (loPohRead tu3 (d.tc k).bip c)
    |>.onTc k (fun s => { s with bip := some (loBip tu3 c) }))
  (d.tcType k == 3)

/-- Bytes of a tributary's payload area arrive: the VCs they complete. -/
def Device.tcUnits (d : Device) (k : Nat) (l : List Byte) : Device × List (List Byte) :=
  (fun x : Demux × List (List Byte) => (x.2.foldl (Device.tcCont k) (d.onTc k (fun s => { s with dem := x.1 })), x.2))
  ((d.tc k).dem.units (tcTop (d.tcType k) + 1) (l.map ([·])))

/-- Tributary `k` follows no VC. -/
def TcSt.stray (x : TcSt) : TcSt := { x with dem := {}, bip := none }

/-- The pointer word of a tributary (R220). -/
def Device.tcPointer (d : Device) (k w : Nat) : Device :=
  (fun p : Pi × PtrCount =>
    (d.onTc k (fun s =>
      if p.1.st = .norm then
        { s with pi := p.1, dem := (s.dem.follow (tcTop (d.tcType k) + 1) p.1 s.bip).1, just := p.1.just
                 bip := (s.dem.follow (tcTop (d.tcType k) + 1) p.1 s.bip).2 }
      else { s.stray with pi := p.1, just := 0 })).tcPtrCount k p.2)
  ((d.tc k).pi.period (d.tcRule k) w)

/-- The periods that end with VCs, or with AIS when `ais` says that none is located. -/
def Device.tcEnded (d : Device) (k : Nat) (ais : Bool) (cs : List (List Byte)) : List Ended :=
  if cs.isEmpty && ais then [{ ctx := k }] else cs.map (fun c => { ctx := k, bytes := some c, mark := (d.tc k).just })

/-- Tributary `k` is in NORM. -/
def Device.tcNorm (d : Device) (k : Nat) : Bool := decide ((d.tc k).pi.st = .norm)

/-- Bytes of the payload area, while the tributary locates its VC. -/
def Device.tcPart (d : Device) (k : Nat) (l : List Byte) : Device × List Ended :=
  if d.tcNorm k then (fun x : Device × List (List Byte) => (x.1, x.1.tcEnded k false x.2)) (d.tcUnits k l) else (d, [])

/-- A TU-3 in its carrier's container: two rows of the word before, then H1 to H3 and seven rows (R220 to R223). -/
def Device.tu3Frame (d : Device) (k : Nat) (b : List Byte) : Device × List Ended :=
  (fun x : Device × List Ended =>
    (fun d1 : Device =>
      (fun y : Device × List Ended => (y.1, x.2 ++ y.2 ++ (if x.2.isEmpty && !d1.tcNorm k then [{ ctx := k }] else [])))
      (d1.tcPart k ((justUnits (d1.tc k).just [b.getD 172 0] ((tu3Rows b 2 7).map ([·]))).flatMap id)))
    (x.1.tcPointer k ((b.getD 0 0).toNat * 256 + (b.getD 86 0).toNat)))
  (d.tcPart k (tu3Rows b 0 2))

/-- The V2 frame of a multiframe that is followed: the word of V1 and V2, then a quarter of the payload area. -/
def Device.tuWord (d : Device) (k : Nat) (v1 : Byte) (b : List Byte) : Device × List Ended :=
  (fun d1 : Device =>
    (fun y : Device × List Ended => (y.1, y.2 ++ (if d1.tcNorm k then [] else [{ ctx := k }]))) (d1.tcPart k (b.drop 1)))
  (d.tcPointer k (v1.toNat * 256 + (b.getD 0 0).toNat))

/-- A TU-11, TU-12 or TU-2 in frame `ph` of the multiframe: V1 to V4 first, then a quarter of the payload area; at V1 the receive side takes
its words, or stops (R216, R217, R220 to R223). -/
def Device.tuFrame (d : Device) (k ph : Nat) (b : List Byte) : Device × List Ended :=
  if ph = 0 then
    (fun d1 : Device =>
      if (d1.tc k).rx.runs then (d1.onTc k (fun s => { s with v1 := some (b.getD 0 0) })).tcPart k (b.drop 1) else (d1, []))
    ((d.tcRxStop k).when (d.tc k).rx.runs (·.tcLoadRx k))
  else
    match (d.tc k).v1 with
    | none => (d, [])
    | some v =>
      if ph = 1 then d.tuWord k v b
      else if ph = 2 then d.tcPart k ((justUnits (d.tc k).just [b.getD 0 0] ((b.drop 1).map ([·]))).flatMap id)
      else d.tcPart k (b.drop 1)

/-- The period of a tributary that ends with a frame in which its multiframe is not followed: AIS, of a TU11, TU12 or TU2 every fourth
frame of the lane. -/
def Device.tcGap (d : Device) (n k : Nat) : List Ended := if d.tcType k = 3 ∨ (d.lane n).rxFrame % 4 = 0 then [{ ctx := k }] else []

/-- A tributary whose state stays frozen (R222): the VC in progress and the multiframe are lost, and the receive side of a TC that stops has stopped
(R216). -/
def Device.tcFreeze (d : Device) (n k : Nat) : Device × List Ended :=
  ((d.onTc k (fun s => { s.stray with v1 := none })).tcRxStop k, d.tcGap n k)

/-- A tributary in a container of its carrier. -/
def Device.tcFrame (n k : Nat) (x : Device × List Ended) (c : Carried) : Device × List Ended :=
  (fun y : Device × List Ended => (y.1, x.2 ++ y.2))
  (if !(x.1.tc k).rx.runs then (x.1, [])
   else if x.1.tcType k = 3 then x.1.tu3Frame k (tuBytes (x.1.tuColsOf k) c.bytes)
   else
     match c.phase with
     | some ph => if x.1.tcFrozen k then x.1.tcFreeze n k else x.1.tuFrame k ph (tuBytes (x.1.tuColsOf k) c.bytes)
     | none => x.1.tcFreeze n k)

/-- The containers a carrier passes: one that does not run gives AIS in the phase of the lane's frames (R194, R218). -/
def Device.passed (d : Device) (n h : Nat) (cs : List Carried) : List Carried :=
  if (d.ho h).rx.runs then cs
  else [{ bytes := List.replicate (hoLen (d.hoType h)) 0xFF, phase := some ((d.lane n).rxFrame % 4) }]

/-- The running tributaries of head `h`. -/
def Device.tcsOf (d : Device) (h : Nat) : List Nat := (tabKeys d.tcs).filter (fun k => d.tcCarrier k == h && (d.tc k).rx.runs)

/-! A frame in all the paths of a lane. -/

/-- The contexts of lane `m` that take part in its frames. -/
def Device.hosOf (d : Device) (m : Nat) : List Nat :=
  (tabKeys d.hos).filter (fun h => laneOfHo h == m && ((d.ho h).rx.runs || (d.ho h).claim.isSome))

/-- The slots of lane `m`, whose contexts carrier or tributary name. -/
def Device.slotsOf (d : Device) (m : Nat) : List Nat :=
  toRising (d.hosOf m ++ ((tabKeys d.tcs).filter (fun k => d.tcLane k == m && (d.tc k).rx.runs)).map d.tcCarrier)

/-- A context's share of a frame: the pointer, the containers, and the tributaries in them. -/
def Device.slotFrame (n nn : Nat) (f : Nat → Byte) (x : Device × List Ended) (h : Nat) : Device × List Ended :=
  if (x.1.ho h).claim.isSome then
    (x.1.onHo h (fun s => { s with pi := s.pi.periodMember (x.1.hoRule h) (auWord nn (h % 192) f) }), x.2)
  else
    (fun y : Device × List Carried =>
      (fun cs : List Carried =>
        (y.1.tcsOf h).foldl (fun z k => (y.1.passed n h cs).foldl (Device.tcFrame n k) z)
          (y.1, x.2 ++ (if (y.1.ho h).rx.runs then y.1.hoEnded h cs else [])))
      (y.1.hoGiven h y.2))
    (if (x.1.ho h).rx.runs then x.1.hoFrame nn h f else (x.1, []))

/-- A frame read in SYNC in the paths the lane serves; members before heads, so that a head's group stands as the frame shows it. -/
def Device.rxPaths (d : Device) (n : Nat) (f : Nat → Byte) : Device × List Ended :=
  (fun (m : Nat) (nn : Nat) =>
    if (d.ctxLane n).2 then
      ((d.slotsOf m).filter (fun h => (d.ho h).claim.isSome) ++ (d.slotsOf m).filter (fun h => (d.ho h).claim.isNone)).foldl
        (Device.slotFrame n nn f) (d, [])
    else ((d.hosOf m).foldl (fun d h => d.hoShadow nn h f) d, []))
  (d.ctxLane n).1 (stmN (d.stmMode n))

/-- A frame out of SYNC: pointers stay frozen, H4 and the containers in progress are lost, and everything is AIS (R177, R185, R222). -/
def Device.pathsGap (d : Device) (n : Nat) : Device × List Ended :=
  if (d.ctxLane n).2 then
    (d.slotsOf (d.ctxLane n).1).foldl (fun x h =>
      (x.1.tcsOf h).foldl (fun y k => (fun z : Device × List Ended => (z.1, y.2 ++ z.2)) (y.1.tcFreeze n k))
        (if (x.1.ho h).rx.runs then (x.1.hoStray h, x.2 ++ [{ ctx := hoCtx h }]) else x)) (d, [])
  else (d, [])

/-- A frame of the lane ends: the receive sides of its heads and TU3 tributaries take their words, or stop (R193 to R195, R216, R217). -/
def Device.rxBoundary (d : Device) (n : Nat) : Device :=
  if (d.ctxLane n).2 then
    (d.slotsOf (d.ctxLane n).1).foldl (fun d h =>
      ((d.tcsOf h).filter (fun k => d.tcType k == 3)).foldl (fun d k => (d.tcRxStop k).when ((d.tc k).rx == .on) (·.tcLoadRx k))
        ((d.when ((d.ho h).rx.runs) (·.hoLoadRx h)).hoRxStop h)) d
  else d

end Sys2Proof.Machine
end

