-- ==== Sys2Proof/Machine/Client.lean ====
section
/-! DEFINITION. PDH client monitors: framing of E1, DS1, E3 and DS3, their counters, blocks and defects (R247 to R257). -/

namespace Sys2Proof.Machine
open Sys2Proof

/-- Candidates and what a client frame counts while hunting. -/
structure CliHunt where
  cands : List CliCand := []
  mimic : Nat := 0
  full : Nat := 0
  deriving DecidableEq, Repr

/-- A match at a new offset (R247). -/
def CliHunt.create (x : CliHunt) (off frame : Nat) : CliHunt :=
  if x.cands.length < 8 then { x with cands := x.cands ++ [{ off := off, made := frame }] } else { x with full := x.full + 1 }

/-- A candidate is discarded (R247). -/
def CliHunt.discard (x : CliHunt) (off : Nat) : CliHunt :=
  { x with cands := x.cands.filter (·.off != off), mimic := x.mimic + 1 }

/-- A candidate is replaced by its successor. -/
def CliHunt.put (x : CliHunt) (c : CliCand) : CliHunt :=
  { x with cands := x.cands.map (fun e => if e.off == c.off then c else e) }

/-- The NFAS check of an E1 candidate half a double frame after its FAS (R248 step 2). -/
def e1Nfas (o : ClientObs) (p : Nat) (x : CliHunt) : CliHunt :=
  match x.cands.find? (fun c => (c.off + 256) % 512 == p && c.stage == 1) with
  | none => x
  | some c => if o.seconds.contains c.off then x.put { c with stage := 2 } else x.discard c.off

/-- The FAS check at a bit position of an E1 double frame (R248 steps 1, 3, 4). -/
def e1Fas (o : ClientObs) (frame p : Nat) (x : CliHunt) : CliHunt :=
  match x.cands.find? (·.off == p) with
  | none => if o.hits.contains p then x.create p frame else x
  | some c =>
    if o.hits.contains p then
      (if c.stage = 2 then x.put { c with stage := 3, basic := some frame } else x)
    else x.discard p

/-- The CRC-4 alignment word completes for a BASIC candidate (R249). -/
def CliCand.crcHit (c : CliCand) (o : ClientObs) (frame : Nat) : CliCand :=
  if c.basic.isSome && o.crc4.contains c.off then { c with hits := frame :: c.hits } else c

/-- The alignment word is at the same phase in two consecutive multiframes, eight double frames apart (R249). -/
def CliCand.crcWins (c : CliCand) (frame : Nat) : Bool := c.hits.contains frame && decide (8 ≤ frame) && c.hits.contains (frame - 8)

/-- An E1 double frame in the hunt (R248, R249). -/
def e1Hunt (o : ClientObs) (frame : Nat) (cands : List CliCand) : CliHunt :=
  (fun x : CliHunt => { x with cands := x.cands.map (·.crcHit o frame) })
  ((toRising (o.hits ++ o.hits.map (fun p => (p + 256) % 512) ++ cands.map (·.off) ++ cands.map (fun c => (c.off + 256) % 512))).foldl
    (fun x p => e1Fas o frame p (e1Nfas o p x)) { cands := cands })

/-- The stage a candidate of a DS1, E3 or DS3 reaches with a client frame that keeps it, none where it fails: an ESF's fourth frame carries
the CRC-6 of the ESF that followed its six verified bits (R253, R255). -/
def stageNext (kind framing : Nat) (o : ClientObs) (p stage : Nat) : Option Nat :=
  if !o.keeps.contains p then none
  else if kind = 2 ∧ framing = 0 ∧ stage = 3 ∧ !o.seconds.contains p then none
  else some (stage + 1)

/-- A new candidate: a DS3's first M-frame, which is complete, is judged at once. -/
def CliHunt.found (x : CliHunt) (kind : Nat) (o : ClientObs) (p frame : Nat) : CliHunt :=
  if kind = 4 then
    (if x.cands.length < 8 ∧ o.keeps.contains p then (x.create p frame).put { off := p, made := frame, stage := 2 }
     else if x.cands.length < 8 then { x with mimic := x.mimic + 1 } else { x with full := x.full + 1 })
  else x.create p frame

/-- One offset of a DS1, E3 or DS3 client frame in the hunt (R253, R255). -/
def otherOffset (kind framing : Nat) (o : ClientObs) (frame : Nat) (x : CliHunt) (p : Nat) : CliHunt :=
  match x.cands.find? (·.off == p) with
  | none => if o.hits.contains p then x.found kind o p frame else x
  | some c =>
    match stageNext kind framing o p c.stage with
    | some s => x.put { c with stage := s }
    | none => x.discard p

/-- A DS1, E3 or DS3 client frame in the hunt. -/
def otherHunt (kind framing : Nat) (o : ClientObs) (frame : Nat) (cands : List CliCand) : CliHunt :=
  (toRising (o.hits ++ cands.map (·.off))).foldl (otherOffset kind framing o frame) { cands := cands }

/-- Whether a candidate wins at the end of the client frame (R249, R253, R255). -/
def CliCand.wins (c : CliCand) (kind framing : Nat) (frame : Nat) : Bool :=
  if kind = 1 then (if framing = 1 then c.basic.isSome else c.crcWins frame)
  else if kind = 2 then (if framing = 0 then decide (4 ≤ c.stage) else decide (2 ≤ c.stage))
  else decide (3 ≤ c.stage)

/-- The winner: created in the earliest frame, the lowest offset among equals (R128, R247). -/
def cliWinner (l : List CliCand) : Option CliCand :=
  l.foldl (fun w c =>
    match w with
    | none => some c
    | some b => if c.made < b.made ∨ (c.made = b.made ∧ c.off < b.off) then some c else some b) none

/-- Every run of consecutive frames, submultiframes or groups in SYNC ends.
DEDUCED, log entry 30. -/
def Cli.brk (c : Cli) : Cli :=
  { c with rai := c.rai.brk, ais := c.ais.brk, saRuns := [], nRun := {}, aicRun := {}, fdl := [], grp := 0 }

/-- A monitor enters SYNC at an offset: after a CRC-4 win the next NFAS frame is the seventh of the multiframe (R249, R252). -/
def Cli.lockTo (c : Cli) (off : Nat) (crc noCrc : Bool) : Cli :=
  { c.brk with st := .sync, cands := [], lock := off, crcWin := crc, noCrc4 := noCrc, fasRun := 0, nfasRun := 0, bits := []
               mbits := [], winN := 0, winE := 0, mf := 6 }

/-- OOF from SYNC (R250, R253, R255): NO_CRC4 ends. -/
def Cli.lose (c : Cli) : Cli := { c.brk with st := .hunt, cands := [], crcWin := false, noCrc4 := false }

/-- A client frame in HUNT or PRESYNC.
DEDUCED, log entry 30. -/
def Device.cliHunt (d : Device) (j : Nat) (o : ClientObs) : Device :=
  (fun (kf : Nat × Nat) (c : Cli) =>
    (fun x : CliHunt =>
      match cliWinner (x.cands.filter (fun e => e.wins kf.1 kf.2 c.frame)) with
      | some w =>
        ((d.setCli j { c.lockTo w.off (kf.1 == 1 && kf.2 != 1) false with frame := c.frame + 1 }).cliCount j .mimic
          (x.mimic + (x.cands.length - 1))).cliCount j .full x.full
      | none =>
        ((d.setCli j { c with
            st := if x.cands.isEmpty then .hunt else .presync, cands := x.cands, frame := c.frame + 1 }).cliCount j .mimic
          x.mimic).cliCount j .full x.full)
    (if kf.1 = 1 then e1Hunt o c.frame c.cands else otherHunt kf.1 kf.2 o c.frame c.cands))
  (d.cliKind j) (d.cli j)

/-- Whether among the last `w` of a sequence of checks, newest first, `k` are errored at some point. -/
def windowBad (w k : Nat) : List Bool → List Bool → Bool × List Bool
  | hist, [] => (false, hist)
  | hist, b :: t =>
    (fun h : List Bool => if k ≤ (h.filter id).length then (true, []) else windowBad w k h t) ((b :: hist).take w)

/-- The R250 window of submultiframes: 915 errored among 1,000. -/
def subWindow : Nat × Nat → List Bool → Bool × Nat × Nat
  | x, [] => (false, x)
  | x, b :: t =>
    if x.2 + b2n b ≥ 915 then (true, 0, 0)
    else if x.1 + 1 = 1000 then subWindow (0, 0) t else subWindow (x.1 + 1, x.2 + b2n b) t

/-- Whether a client frame in SYNC declares OOF, with the runs after it (R250, R253, R255). -/
def Cli.syncRuns (c : Cli) (kind : Nat) (o : ClientObs) : Bool × Cli :=
  if kind = 1 then
    (fun (w : Bool × Nat × Nat) =>
      (!o.fas && decide (2 ≤ c.fasRun) || !o.bit2 && decide (2 ≤ c.nfasRun) || (c.crcWin && w.1),
        { c with fasRun := if o.fas then 0 else c.fasRun + 1, nfasRun := if o.bit2 then 0 else c.nfasRun + 1
                 winN := w.2.1, winE := w.2.2 }))
    (subWindow (c.winN, c.winE) o.blocks)
  else if kind = 2 then ((windowBad 4 2 c.bits o.framing).1, { c with bits := (windowBad 4 2 c.bits o.framing).2 })
  else if kind = 3 then (!o.fas && decide (3 ≤ c.fasRun), { c with fasRun := if o.fas then 0 else c.fasRun + 1 })
  else
    ((windowBad 16 3 c.bits o.framing).1 || (windowBad 4 2 c.mbits [!o.fas]).1,
      { c with bits := (windowBad 16 3 c.bits o.framing).2, mbits := (windowBad 4 2 c.mbits [!o.fas]).2 })

/-- The Sa nibbles (R252). -/
def Cli.saStep (c : Cli) (g : List Nat) : Cli :=
  (fun runs : List Run =>
    { c with saRuns := runs
             sa := ((List.range 5).map (fun i =>
               2 ^ (4 * i) * (if (runs.getD i {}).accepts 3 then (runs.getD i {}).val else c.sa / 2 ^ (4 * i) % 16))).foldl (· + ·) 0 })
  ((List.range 5).map (fun i => (c.saRuns.getD i {}).next (g.getD i 0 % 16)))

/-- RAI readings of a client frame (R254, R257). -/
def Cli.raiStep (c : Cli) (kind framing : Nat) (o : ClientObs) : DefRun :=
  if kind = 4 then
    (o.rai.zip o.raiClear).foldl (fun r x => if r.det then r.step (!x.2) 3 3 else r.step x.1 3 3) c.rai
  else
    (fun k : Nat => o.rai.foldl (fun r b => r.step b k k) c.rai) (if kind = 2 then (if framing = 0 then 4 else 16) else 3)

/-- The reported bytes of a client frame in SYNC: Sa, E3 N, DS3 AIC and RAI (R252, R256, R257, R272). -/
def Cli.syncReport (c : Cli) (kind framing : Nat) (o : ClientObs) : Cli :=
  (fun c1 : Cli =>
    (fun (rn ra : Run) =>
      { c1 with
        rai := c.raiStep kind framing o, nRun := rn, aicRun := ra
        n := if kind = 3 ∧ rn.accepts 3 then o.n else c1.n, aic := if kind = 4 ∧ ra.accepts 3 then o.aic else c1.aic })
    (c1.nRun.next (b2n o.n)) (c1.aicRun.next (b2n o.aic)))
  (if kind = 1 then o.sa.foldl Cli.saStep c else c)

/-- Errored blocks of a client frame in SYNC, in order (R251, R253, R255, R256). -/
def Cli.blocksOf (c : Cli) (kind framing : Nat) (o : ClientObs) : List Bool :=
  if kind = 1 then (if c.crcWin then o.blocks else [])
  else if kind = 2 then (if framing = 0 then o.blocks else [o.framing.any id || decide (0 < o.fs)])
  else if kind = 3 then [!o.fas]
  else if framing = 0 ∧ c.aic then o.blocks else [o.parity]

/-- Framing errors of a client frame in SYNC (R251 to R255): an E1 has none. -/
def frameErrors (kind : Nat) (o : ClientObs) : Nat :=
  if kind = 1 then 0 else if kind = 3 then b2n (!o.fas) else (o.framing.filter id).length + o.fs + (if kind = 4 then o.mErr else 0)

/-- Far-end block errors of a client frame in SYNC (R251, R255, R256). -/
def Cli.farOf (c : Cli) (kind framing : Nat) (o : ClientObs) : Nat :=
  if kind = 1 then (if c.crcWin then o.far else 0) else if kind = 4 ∧ framing = 0 ∧ c.aic then o.far else 0

/-- The counters and PM blocks of a client frame in SYNC. -/
def Device.cliSyncCount (d : Device) (j : Nat) (c : Cli) (kind framing : Nat) (o : ClientObs) : Device :=
  (fun d1 : Device => if j < 262144 then (c.blocksOf kind framing o).foldl (fun d b => d.pmCliBlock j b) d1 else d1)
  ((((d.cliCount j .frm (frameErrors kind o)).cliCount j .blk ((c.blocksOf kind framing o).filter id).length).cliCount j .febe
    (c.farOf kind framing o)).cliCount j .pbit (if kind = 4 then b2n o.parity else 0))

/-- A client frame in SYNC (R250 to R256). -/
def Device.cliSync (d : Device) (j : Nat) (o : ClientObs) : Device :=
  (fun (kf : Nat × Nat) (c : Cli) =>
    (fun x : Bool × Cli =>
      (fun d1 : Device =>
        if x.1 then
          (d1.setCli j { (x.2.syncReport kf.1 kf.2 o).lose with frame := c.frame + 1 }).cliCount j .oof 1
        else d1.setCli j { x.2.syncReport kf.1 kf.2 o with frame := c.frame + 1 })
      (d.cliSyncCount j c kf.1 kf.2 o))
    (c.syncRuns kf.1 o))
  (d.cliKind j) (d.cli j)

/-- Client AIS in any framer state, DS3 only in SYNC (R257). -/
def Device.cliAis (d : Device) (j : Nat) (o : ClientObs) : Device :=
  (fun (kind : Nat) (c : Cli) =>
    if kind = 4 then (if c.st = .sync then d.setCli j { c with ais := c.ais.step o.ds3Ais 2 2 } else d)
    else d.setCli j { c with ais := o.zeros.foldl (fun r z => r.step (decide (z < if kind = 3 then 8 else 3)) 2 2) c.ais })
  (d.cliKind j).1 (d.cli j)

/-- A client frame as the monitor reads it. -/
def Cli.read (c : Cli) (kind framing : Nat) (cur : List Bool) : ClientObs :=
  (fun (f : Nat → Bool) (b : Nat) =>
    if kind = 1 then e1Read f b c.lock c.mf c.grp c.crcWin (c.cands.map (·.off))
    else if kind = 2 then
      { (if framing = 0 then esfRead f b c.lock c.fdl (c.cands.map (·.off)) else sfRead f b c.lock) with
        zeros := (zeroPeriods 3088 (c.zeroN, c.zeroC) cur).1 }
    else if kind = 3 then e3Read f b c.lock else ds3Read f b c.lock)
  (cliStream c.past cur) (cliPast - 16)

/-- The monitor's place in the stream after a client frame: what it keeps of the past, and its places in multiframe, group and period. -/
def Cli.advance (c c1 : Cli) (kind framing : Nat) (cur : List Bool) : Cli :=
  { c1 with
    fifo := c.fifo.drop cur.length
    past := (c.past ++ cur).drop ((c.past ++ cur).length - cliPast)
    mf := if c.st = .sync then (c1.mf + 1) % 8 else c1.mf
    grp := if c.st = .sync ∧ c1.st = .sync then (c1.grp + 1) % 4 else c1.grp
    fdl := if kind = 2 ∧ framing = 0 ∧ c.st = .sync ∧ c1.st = .sync then
        (fdlGroups 2 (c.fdl ++ esfFdl (cliStream c.past cur) (cliPast - 16 + c.lock))).2
      else c1.fdl
    zeroN := if kind = 2 then (zeroPeriods 3088 (c.zeroN, c.zeroC) cur).2.1 else 0
    zeroC := if kind = 2 then (zeroPeriods 3088 (c.zeroN, c.zeroC) cur).2.2 else 0 }

/-- A client frame ends in monitor `j` (R246 to R257, R270): the oldest client bits that have arrived; without a whole frame of them
nothing ends.
PRESUMED, log entry 87. -/
def Device.clientFrame (d : Device) (j : Nat) : Device :=
  if d.cliRuns j then
    (fun (kf : Nat × Nat) (c : Cli) =>
      if c.fifo.length < cliLen kf.1 kf.2 then d
      else
        (fun (cur : List Bool) =>
          (fun (o : ClientObs) =>
            (fun d1 : Device => d1.setCli j (c.advance (d1.cli j) kf.1 kf.2 cur))
            ((match c.st with | .sync => d.cliSync j o | _ => d.cliHunt j o).cliAis j o))
          (c.read kf.1 kf.2 cur))
        (c.fifo.take (cliLen kf.1 kf.2)))
    (d.cliKind j) (d.cli j)
  else d.setCli j {}

/-- 8 ms without a CRC-4 win discard a BASIC candidate under CRC4 (R249). -/
def Device.crc4CandTimeout (d : Device) (j off : Nat) : Device :=
  if d.cliRuns j && decide ((d.cliKind j) = (1, 0)) && (d.cli j).cands.any (fun c => c.off == off && c.basic.isSome) then
    (d.setCli j { d.cli j with
      cands := (d.cli j).cands.filter (·.off != off)
      st := if ((d.cli j).cands.filter (·.off != off)).isEmpty then .hunt else .presync }).cliCount j .mimic 1
  else d

/-- The oldest BASIC candidate, the lowest offset among equals (R249). -/
def oldestBasic (l : List CliCand) : Option CliCand :=
  l.foldl (fun w c =>
    match w, c.basic with
    | none, some _ => some c
    | some b, some f =>
      if f < b.basic.getD 0 ∨ (f = b.basic.getD 0 ∧ c.off < b.off) then some c else some b
    | _, none => w) none

/-- 400 ms without a CRC-4 win under CRC4_AUTO (R249).
DEDUCED, log entry 30. -/
def Device.crc4AutoTimeout (d : Device) (j : Nat) : Device :=
  if d.cliRuns j && decide ((d.cliKind j) = (1, 2)) && decide ((d.cli j).st ≠ .sync) then
    match oldestBasic (d.cli j).cands with
    | some c =>
      (d.setCli j ((d.cli j).lockTo c.off false true)).cliCount j .mimic ((d.cli j).cands.length - 1)
    | none => d
  else d

/-- 3 ms of client OOF declare LOF (R257). -/
def Device.cliLofDeclare (d : Device) (j : Nat) : Device :=
  if d.cliRuns j && decide ((d.cli j).st ≠ .sync) then d.setCli j { d.cli j with lof := true } else d

/-- 3 ms of SYNC clear client LOF (R257). -/
def Device.cliLofClear (d : Device) (j : Nat) : Device :=
  if decide ((d.cli j).st = .sync) then d.setCli j { d.cli j with lof := false } else d

end Sys2Proof.Machine
end

