-- ==== Sys2Proof/Machine/Frame.lean ====
section
/-! DEFINITION. A received frame as a whole: the lane, the paths and tributaries it carries, the client bits, the Cellar, the Hall's
frame store (R112 to R140, R171 to R185, R220 to R231, R244, R274, R323, R381, R393). -/

namespace Sys2Proof.Machine
open Sys2Proof

/-- The monitors of a context: the TC's own, or the high-order entries that name the head (R268). -/
def Device.monitorsOf (d : Device) (c : Nat) : List Nat :=
  if c < 262144 then [c]
  else
    (fun s : Nat =>
      ((List.range 32).filter (fun i => bitAt (d.rd (entryAddr s i)) 0 && fld (d.rd (entryAddr s i)) 1 14 == c - 262144)).map (entryNo s))
    (sliceOfLane (laneOfHo (c - 262144)))

/-- A monitor that runs receives the client bits of a container (R244, R260). -/
def Device.cliFeed (c : List Byte) (d : Device) (j : Nat) : Device :=
  d.when (d.cliRuns j) (fun d => d.setCli j { d.cli j with fifo := (d.cli j).fifo ++ clientBits (d.cliKind j).1 c })

/-- The container the Hall receives of a context: AIS where aAIS was 1 when its pointer period began (R323), and of one
that has stopped (R194, R216).
DESIGN CHOICE, log entry 31. -/
def Device.cellOf (d : Device) (e : Ended) : Cell :=
  if d.aisFrom e.ctx || !d.rxRuns e.ctx then {}
  else match e.bytes with | some b => { bytes := b, mark := e.mark } | none => {}

/-- The frame store receives the container, and what it makes the line of a pair deliver (R274, R386); the next period begins. -/
def Device.hallWrite (d : Device) (c : Nat) (x : Cell) : Device :=
  (({ d with hall := { d.hall with wr := tabPut {} d.hall.wr c x } } : Device).lineWrite c).aisLatch c

/-- The bytes of a container period: all ones in AIS. -/
def Device.endedBytes (d : Device) (e : Ended) : List Byte := e.bytes.getD (List.replicate (ctypeBytes (d.ctxCtype e.ctx)) 0xFF)

/-- A container period ends: the Cellar's hash and record, the client monitors, the Hall. -/
def Device.period (mem : List MemObs) (d : Device) (e : Ended) : Device :=
  (fun (m : MemObs) =>
    ((((d.celCorr m.corr).celPeriod e.ctx { hash := crc32c (d.endedBytes e), bad := m.bad, skew := m.skew, data := d.endedBytes e, cell := d.cellOf e }).when e.bytes.isSome
      (fun d => (d.monitorsOf e.ctx).foldl (Device.cliFeed (e.bytes.getD [])) d)).hallWrite e.ctx (d.cellOf e)))
  ((mem.find? (fun m => m.ctx == e.ctx)).getD { ctx := e.ctx })

/-- A frame and the paths it carries; `f` is the descrambled frame, `sync` whether it is read. -/
def Device.framePaths (d : Device) (n : Nat) (sync : Bool) (f : Nat → Byte) (mem : List MemObs) : Device :=
  (fun x : Device × List Ended => (x.2.foldl (Device.period mem) x.1).rxBoundary n)
  (if sync then d.rxPaths n f else d.pathsGap n)

/-- The bytes of the frame that ended at the locked alignment, descrambled. -/
def Device.frameBytes (d : Device) (n : Nat) (f : Nat → Byte) : Nat → Byte :=
  (fun (a : Array Byte) (i : Nat) => a.getD i 0) ((List.range (2430 * stmN (d.stmMode n))).map (d.sdhByte n f)).toArray

/-- A received STM-N frame ends on lane `n`: the bytes of the counter frame, or of the demapped STM-64. -/
def Device.stmFrame (d : Device) (n : Nat) (cur : List Byte) (mem : List MemObs) : Device :=
  (fun f : Nat → Byte =>
    (fun x : Bool × Device =>
      (x.2.framePaths n x.1 (d.frameBytes n f) mem).onLane n (fun l => { l with
        act := d.rd (laneBase n + 0x4058)
        rxb := l.rxb.keep (d.isOtu n) (lineLen (d.laneMode n)) cur
          (if x.1 then some (b1Of (stmN (d.stmMode n)) (d.sdhLine n f)) else none)
          (if x.1 then some (b2Of (stmN (d.stmMode n)) (d.sdhByte n f)) else none) }))
    (d.rxSdh n (d.sdhObs n cur f)))
  (d.sdhStream n cur)

/-- An STM-N frame time of the receiver of lane `n` (R100, R104, R124): `bits` are the bytes, of an STM1 lane the samples, that the line
brought; `mem` what the Cellar's memories show. -/
def Device.sdhFrame (d : Device) (n : Nat) (bits : List Byte) (mem : List MemObs) : Device :=
  if d.rxOn n && !d.sliceHeld (sliceOfLane n) then
    (fun d1 : Device => d1.stmFrame n (d1.sdhIn n bits) mem) ((d.adaptStep n).freqStep n)
  else d

end Sys2Proof.Machine
end

