-- ==== Sys2Proof/Machine/Tod.lean ====
section
/-! DEFINITION. Time of day: the counter, the time domains, slew and step, the time pulses (R504 to R522). -/

namespace Sys2Proof.Machine
open Sys2Proof

/-- Updates the hidden state of the counter. -/
def Device.onTod (d : Device) (f : Tod → Tod) : Device := { d with tod := f d.tod }
/-- A time domain. -/
def Device.dom (d : Device) (x : Nat) : TodDom := tabGet {} d.tod.doms x
/-- Stores a time domain. -/
def Device.setDom (d : Device) (x : Nat) (v : TodDom) : Device := d.onTod (fun t => { t with doms := tabPut {} t.doms x v })
/-- A time pulse output. -/
def Device.pulse (d : Device) (r : Nat) : Tpulse := tabGet {} d.tod.pulses r
/-- Stores a time pulse output. -/
def Device.setPulse (d : Device) (r : Nat) (v : Tpulse) : Device := d.onTod (fun t => { t with pulses := tabPut {} t.pulses r v })

/-- The active domain: 0 A, 1 B (R516). -/
def Device.activeIdx (d : Device) : Nat := d.get 0x60014 1 1
/-- STATE of a domain: 0 OFF, 1 LOST, 2 ACQUIRING, 3 QUALIFIED. -/
def Device.domState (d : Device) (x : Nat) : Nat := d.get (domBase x + 4) 0 2

/-! Time pulses (R517 to R519). -/

/-- The counter is at or after a due time (R508). -/
def Device.reached (d : Device) (due : Nat) : Bool :=
  decide (0 ≤ timeDiff d.tod.sec d.tod.ns (due / 1000000000) (due % 1000000000))

/-- The counter has reached a due time: it stands there when it was still before it.
DESIGN CHOICE, log entry 7. -/
def Device.todReach (d : Device) (due : Nat) : Device :=
  if d.reached due then d else d.onTod (fun t => { t with sec := due / 1000000000 % 2 ^ 48, ns := due % 1000000000, frac := 0 })

/-- The anchor T in TP_TIME, and the period P, in nanoseconds. -/
def Device.tpTime (d : Device) (r : Nat) : Nat :=
  d.get (tpBase r + 0x10) 0 30 + 1000000000 * ((d.rd (tpBase r + 0x14)).toNat + 2 ^ 32 * d.get (tpBase r + 0x18) 0 16)
/-- The period P. -/
def Device.tpPeriod (d : Device) (r : Nat) : Nat := d.get (tpBase r + 0x20) 0 30 + 1000000000 * d.get (tpBase r + 0x24) 0 12
/-- MODE of an output: 0 OFF, 1 ONESHOT, 2 PERIODIC. -/
def Device.tpMode (d : Device) (r : Nat) : Nat := d.get (tpBase r) 0 2

/-- A bit of TP_EVENT; an enabled output sets TOD_EVENT.TPULSE (R521). -/
def Device.tpEv (d : Device) (r i : Nat) : Device := (d.ev (tpBase r + 0xC) i).when (d.bit 0x6001C (12 + r)) (·.ev 0x60018 8)

/-- The first T + k P at or after now (R518). -/
def Device.tpFirst (d : Device) (r : Nat) : Nat :=
  (fun ahead : Int =>
    if ahead ≤ 0 ∨ d.tpPeriod r = 0 then d.tpTime r
    else (d.tpTime r + (ahead.toNat + d.tpPeriod r - 1) / d.tpPeriod r * d.tpPeriod r) % (2 ^ 48 * 1000000000))
  (timeDiff d.tod.sec d.tod.ns (d.tpTime r / 1000000000) (d.tpTime r % 1000000000))

/-- A pulse begins (R517, R518). -/
def Device.tpFire (d : Device) (r : Nat) : Device :=
  (d.setPulse r
    (if d.tpMode r = 1 then
      { d.pulse r with armed := false, fired := true, active := true, left := (d.get (tpBase r + 4) 0 30 + 4) / 5 }
     else
      { d.pulse r with
          fired := true, active := true, left := (d.get (tpBase r + 4) 0 30 + 4) / 5
          due := ((d.pulse r).due + d.tpPeriod r) % (2 ^ 48 * 1000000000) })).tpEv r 0

/-- A pulse that is due begins: none while VALID is 0. -/
def Device.tpDue (d : Device) (r : Nat) : Device :=
  if (d.pulse r).armed && d.tod.valid && d.tpMode r != 0 then (d.todReach (d.pulse r).due).tpFire r else d

/-- An output is armed from its anchor (R518). -/
def Device.tpArm (d : Device) (r : Nat) : Device :=
  if d.tpMode r = 1 then
    (fun d1 : Device =>
      if d.tod.valid && d.reached (d.tpTime r) &&
          decide (timeDiff d.tod.sec d.tod.ns (d.tpTime r / 1000000000) (d.tpTime r % 1000000000) ≠ 0) then (d1.tpFire r).tpEv r 1
      else d1)
    (d.setPulse r { d.pulse r with armed := true, fired := false, due := d.tpTime r })
  else if d.tpMode r = 2 then d.setPulse r { d.pulse r with armed := true, due := d.tpFirst r } else d

/-- An output after a step of the counter (R519). -/
def Device.tpStep (d : Device) (r : Nat) : Device :=
  if (d.pulse r).armed then
    if d.tpMode r = 2 then d.setPulse r { d.pulse r with due := d.tpFirst r }
    else if d.reached (d.pulse r).due then d.tpDue r else d
  else d

/-- TP_WIDTH has elapsed (R517). -/
def Device.tpEnd (d : Device) (r : Nat) : Device :=
  if (d.pulse r).active then d.setPulse r { d.pulse r with active := false } else d

/-! The counter (R504 to R506, R513 to R515). -/

/-- The correction of one HK period in 2^-16 ns, and the part carried over (R513). -/
def Device.slewStep (d : Device) : Int × Nat :=
  if d.tod.slew = 0 then (0, 0)
  else
    (fun n : Nat =>
      (if 0 < d.tod.slew then min d.tod.slew (n / 1000000000 : Nat) else max d.tod.slew (-(n / 1000000000 : Nat)), n % 1000000000))
    (d.get 0x60024 0 17 * 2621440 + d.tod.slewRem)

/-- The counter advances by one HK period, eight Hearth clocks of 5 ns scaled by the DPLL output, and the slew (R504). -/
def Device.todTick (d : Device) : Device :=
  (fun (n : Nat) (s : Int × Nat) =>
    (fun total : Nat =>
      d.onTod (fun t =>
        { t with
            frac := total % 65536, ns := total / 65536 % 1000000000
            sec := (t.sec + total / 65536 / 1000000000) % 2 ^ 48, rem := n % 1000000000000, slew := t.slew - s.1, slewRem := s.2
            pulses := t.pulses.map (fun e => (e.1, { e.2 with left := e.2.left - 8 })) }))
    (((d.tod.ns * 65536 + d.tod.frac + n / 1000000000000 : Nat) : Int) + s.1).toNat)
  ((2621440 * (1000000000000 + signed 32 (d.rd 0x50050).toNat) + d.tod.rem).toNat) d.slewStep

/-- TOD_EPOCH after a step (R506). -/
def nextEpoch (e : Nat) : Nat := if e = 0xFFFF then 1 else e + 1

/-- The signed difference of two second counts (R508). -/
def secDiff (a b : Nat) : Int := signed 48 ((a + 2 ^ 48 - b % 2 ^ 48) % 2 ^ 48)

/-- The counter steps (R505, R506, R515, R519, R521): cause 1 domain, 2 TOD_SET, 3 domain change; the first step is 0.
DEDUCED, log entry 45. -/
def Device.todStep (d : Device) (sec ns cause : Nat) : Device :=
  (fun d1 : Device =>
    (List.range 4).foldl (fun d r => d.tpStep r)
      ((((d1.inc 0x60060).wrs 0x60050
        [wd (d1.tod.epoch + 2 ^ 16 * b2n (decide (timeDiff sec ns d.tod.sec d.tod.ns < 0)) + 2 ^ 17 * (if d.tod.valid then cause else 0)),
         wd (unsigned 32 (max (-2147483648) (min 2147483647 (secDiff sec d.tod.sec)))), wd (unsigned 32 ((ns : Int) - d.tod.ns)),
         0]).ev 0x60018 0).pmStep))
  (d.onTod (fun t =>
    { t with
        sec := sec % 2 ^ 48, ns := ns, frac := 0, epoch := nextEpoch t.epoch, valid := true, slew := 0, slewRem := 0
        stepAt := some d.uptime, domChanged := false }))

/-! The time domains (R509 to R512). -/

/-- DELAY of a domain in nanoseconds. -/
def Device.domDelay (d : Device) (x : Nat) : Int := signed 24 (d.get (domBase x) 8 24)

/-- Stores STATE of a domain. -/
def Device.domTo (d : Device) (x st : Nat) : Device := d.put (domBase x + 4) 0 2 st

/-- A domain leaves for LOST (R512). -/
def Device.domLost (d : Device) (x : Nat) : Device := (d.domTo x 1).when (decide (d.domState x = 3)) (·.ev 0x60018 (3 + 2 * x))

/-- The last offset of a domain in nanoseconds, when valid (R512).
DEDUCED, log entry 45. -/
def Device.domOffset (d : Device) (x : Nat) : Option Int :=
  if d.bit (domBase x + 0x1C) 0 then
    some (signed 48 ((d.rd (domBase x + 0x14)).toNat + 2 ^ 32 * d.get (domBase x + 0x18) 0 16) * 1000000000 +
      signed 32 (d.rd (domBase x + 0x10)).toNat)
  else none

/-- The active domain becomes `x` (R516).
DEDUCED, log entry 45. -/
def Device.domSelect (d : Device) (x : Nat) : Device :=
  if d.activeIdx = x then d
  else
    (fun d1 : Device =>
      match d.domOffset x with
      | some o =>
        if o.natAbs ≤ d.get 0x60028 0 20 then
          if d.bit 0x60010 0 then d1.onTod (fun t => { t with slew := o * 65536, domChanged := false }) else d1
        else d1.onTod (fun t => { t with domChanged := true })
      | none => d1.onTod (fun t => { t with domChanged := true }))
    ((d.put 0x60014 1 1 x).ev 0x60018 1)

/-- AUTO (R516): the active domain left QUALIFIED while the other is QUALIFIED. -/
def Device.domAuto (d : Device) (was : Nat) : Device :=
  if d.bit 0x60010 2 && was == 3 && d.domState d.activeIdx != 3 && d.domState (1 - d.activeIdx) == 3 then d.domSelect (1 - d.activeIdx)
  else d

/-- A domain is lost for want of edges (R512, R516). -/
def Device.domainLost (d : Device) (x : Nat) : Device :=
  if 2 ≤ d.domState x then
    (fun d1 : Device => if x = d.activeIdx then d1.domAuto (d.domState x) else d1) (d.domLost x)
  else d

/-- A measurement of the active domain is applied (R513). -/
def Device.domApply (d : Device) (secs : Nat) (off : Int) (delay : Int) (stepOk : Bool) : Device :=
  (fun slewed : Device =>
    if d.tod.valid && decide (off.natAbs ≤ d.get 0x60020 0 30) then slewed
    else if d.tod.valid && !stepOk then slewed.ev 0x60018 6
    else if delay < 0 then d.todStep ((secs + 2 ^ 48 - 1) % 2 ^ 48) (delay + 1000000000).toNat (if d.tod.domChanged then 3 else 1)
    else d.todStep secs delay.toNat (if d.tod.domChanged then 3 else 1))
  (d.onTod (fun t => { t with slew := off * 65536, slewRem := 0, domChanged := false }))

/-- The domain's state machine at an accepted edge (R512): `m` the message seconds of its measurement.
DEDUCED, log entry 45. -/
def Device.domEdge (d : Device) (x : Nat) (m : Option Nat) : Device :=
  (fun (v : TodDom) (st : Nat) =>
    match m with
    | some secs =>
      (fun good : Nat =>
        if st = 1 then (d.setDom x { v with good := 0, noMeas := 0, lastSec := secs }).domTo x 2
        else if st = 2 ∧ 3 ≤ good then ((d.setDom x { v with good := good, noMeas := 0, lastSec := secs }).domTo x 3).ev 0x60018 (2 + 2 * x)
        else d.setDom x { v with good := good, noMeas := 0, lastSec := secs })
      (if 0 < v.good ∧ secs = (v.lastSec + 1) % 2 ^ 48 then v.good + 1 else 1)
    | none =>
      if 2 ≤ st ∧ 2 ≤ v.noMeas then (d.setDom x { v with good := 0, noMeas := 0 }).domLost x
      else d.setDom x { v with good := 0, noMeas := v.noMeas + 1 })
  (d.dom x) (d.domState x)

/-- An accepted edge (R510 to R513).
DEDUCED, log entry 45. -/
def Device.ppsAccept (d : Device) (x : Nat) : Device :=
  (fun (msg : Option (Nat × Bool × Bool)) (d1 : Device) =>
    match msg with
    | some (secs, true, stepOk) =>
      (fun (ds : Int) (dn : Int) =>
        (fun d2 : Device =>
          if d2.bit 0x60010 0 && decide (x = d2.activeIdx) && decide (d2.domState x = 3) then
            d2.domApply secs (ds * 1000000000 + dn) (d2.domDelay x) stepOk
          else d2)
        ((d1.domEdge x (some secs)).wrs (domBase x + 0x10)
          [wd (unsigned 32 dn), wd (unsigned 48 ds), wd (unsigned 48 ds / 2 ^ 32), 1]))
      (secDiff secs d.tod.sec) (d.domDelay x - d.tod.ns)
    | _ => (fun d2 : Device => if x = d2.activeIdx then d2.domAuto (d.domState x) else d2) (d1.domEdge x none))
  (d.dom x).msg ((d.wrStamp (domBase x + 0x20)).setDom x { d.dom x with msg := none, seen := true, acc := true })

/-- A PPS rising edge (R510): its high time in ns, and the Hearth clocks since the previous edge of adequate width.
DESIGN CHOICE, log entry 44; DEDUCED, log entry 45. -/
def Device.ppsEdge (d : Device) (x width since : Nat) : Device :=
  if !d.bit (domBase x) 0 then d
  else if 100 ≤ width ∧ (d.dom x).seen = true ∧ 199800000 ≤ since ∧ since ≤ 200200000 then d.ppsAccept x
  else (d.setDom x { d.dom x with msg := none, seen := (d.dom x).seen || decide (100 ≤ width) }).inc (domBase x + 0x30)

/-- A time message (R509, R511): its bytes, no gap above 1 ms, its end in milliseconds after the previous accepted edge.
DESIGN CHOICE, log entry 44; DEDUCED, log entry 45. -/
def Device.todMessage (d : Device) (x : Nat) (bytes : List Byte) (gapOk : Bool) (after : Nat) : Device :=
  if !d.bit (domBase x) 0 then d
  else
    (fun b : Nat → Nat =>
      if b 0 ≠ 0xA7 ∨ gapOk = false ∨ bytes.length ≠ 16 ∨ b 1 ≠ 1 ∨ b 12 ≠ 0 ∨ b 13 ≠ 0 ∨ 15 < b 11 ∨ 16 ≤ b 8 then d.inc (domBase x + 0x3C)
      else if crc16 (bytes.take 14) ≠ 256 * b 14 + b 15 then d.inc (domBase x + 0x34)
      else if (d.dom x).acc = false ∨ after < 100 ∨ 900 < after then d.inc (domBase x + 0x38)
      else
        (d.setDom x { d.dom x with
            msg := some (bytesNat ((bytes.drop 2).take 6), b 8 % 2 == 1, b 8 / 2 % 2 == 1)
            stepOk := b 8 / 2 % 2 == 1, leapPending := b 8 / 4 % 2 == 1, leapSign := b 8 / 8 % 2 == 1, qclass := b 11 }).wr
          (domBase x + 4) (wd (d.domState x + 4 * (b 8 / 2 % 8) + 2 ^ 8 * b 11 + 2 ^ 16 * (256 * b 9 + b 10))))
    (fun i => (bytes.getD i 0).toNat)

/-! Writes (R513 to R518, R522). -/

/-- A refusal recorded by TOD (R522): objects 0 to 3 TPULSE, 4 and 5 domains, 7 the block. -/
def Device.todRefuse (d : Device) (cause obj : Nat) : Device := ((d.inc 0x60064).wr 0x60068 (wd (cause + 16 * obj))).ev 0x60018 7

/-- DOM_CFG takes effect (R512). -/
def Device.domCfgWrite (d : Device) (x : Nat) (v : Word) : Device :=
  (fun d1 : Device =>
    if bitAt v 0 && d.domState x == 0 then (d1.setDom x {}).domTo x 2
    else if !bitAt v 0 && d.domState x != 0 then
      (fun d2 : Device => if x = d2.activeIdx then d2.domAuto (d.domState x) else d2)
        (((d1.domTo x 0).setBit (domBase x + 0x1C) 0 false).setDom x {})
    else d1)
  (d.wr (domBase x) v)

/-- TOD_CFG takes effect (R516): a new DOMAIN_SEL changes the active domain.
DEDUCED, log entry 45. -/
def Device.todCfgWrite (d : Device) (v : Word) : Device :=
  (fun d1 : Device => if fld v 1 1 ≠ d.get 0x60010 1 1 then d1.domSelect (fld v 1 1) else d1) (d.wr 0x60010 v)

/-- TOD_SET takes effect (R514). -/
def Device.todSet (d : Device) (ws : List Word) : Device :=
  d.todStep ((ws.getD 1 0).toNat + 2 ^ 32 * fld (ws.getD 2 0) 0 16) (fld (ws.getD 0 0) 0 30) 2

/-- The words of TOD_SET or TP_TIME are refused (R514, R522). -/
def timeWordsBad (ws : List Word) : Bool :=
  decide (999999999 < (ws.getD 0 0).toNat) || decide (fld (ws.getD 2 0) 16 16 ≠ 0) || decide (ws.getD 3 0 ≠ 0)

/-- The words of TP_PERIOD are refused by the bridge. -/
def periodWordsBad (ws : List Word) : Bool :=
  decide (999999999 < (ws.getD 0 0).toNat) || decide (3600 < (ws.getD 1 0).toNat) || decide (ws.getD 2 0 ≠ 0) || decide (ws.getD 3 0 ≠ 0)

/-- The cause that refuses a mode, width and period together (R522). -/
def tpCause (mode width period : Nat) : Option Nat :=
  if mode ≠ 2 then none
  else if period < 1000 ∨ 3600000000000 < period then some 1
  else if period ≤ width then some 2 else none

/-- A write of TP_CFG, TP_WIDTH or TP_PERIOD is judged: `d1` is the device with the write made. -/
def Device.tpJudge (d : Device) (r : Nat) (d1 : Device) : Status × Device :=
  match tpCause (d1.tpMode r) (d1.get (tpBase r + 4) 0 30) (d1.tpPeriod r) with
  | some c => (.range, d.todRefuse c r)
  | none => (.ok, d1)

/-- TP_CFG takes effect or is refused (R517, R518).
DEDUCED, log entry 45. -/
def Device.tpCfgWrite (d : Device) (r : Nat) (v : Word) : Status × Device :=
  match d.tpJudge r (d.wr (tpBase r) v) with
  | (.ok, d1) =>
    (.ok,
      if d.tpMode r = 0 ∧ fld v 0 2 ≠ 0 then d1.tpArm r
      else if fld v 0 2 = 0 then d1.setPulse r { d1.pulse r with armed := false, active := false } else d1)
  | (st, d1) => (st, d1)

/-- CNT_CLR of TOD (R521). -/
def Device.todCntClr (d : Device) : Device :=
  d.zero ([0x60060, 0x60064] ++ (List.range 2).flatMap (fun x => (List.range 4).map (fun i => domBase x + 0x30 + 4 * i)))

/-! Views. -/

/-- TOD_STATUS (R521). -/
def Device.todStatus (d : Device) : Word :=
  wd (b2n d.tod.valid + 2 * d.activeIdx + 4 * b2n d.tracking + 8 * b2n (d.tod.slew != 0) + 16 * b2n d.suspect)

/-- TP_STATUS and TP_NEXT (R521). -/
def Device.tpStatus (d : Device) (r : Nat) : Word :=
  wd (b2n (d.pulse r).armed + 2 * b2n (d.pulse r).fired + 4 * b2n (d.pulse r).active)
/-- TP_NEXT. -/
def Device.tpNext (d : Device) (r : Nat) : List Word :=
  if (d.pulse r).armed then
    [wd ((d.pulse r).due % 1000000000), wd ((d.pulse r).due / 1000000000), wd ((d.pulse r).due / 1000000000 / 2 ^ 32), 1]
  else [0, 0, 0, 0]

/-- The level of a TPULSE pin (R517, R561): inactive while OFF, while VALID is 0 and in SAFE_STATE. -/
def Device.tpLevel (d : Device) (r : Nat) : Bool :=
  decide (d.bit (tpBase r) 2 = ((d.pulse r).active && d.tod.valid && decide (d.tpMode r ≠ 0) && !d.fc.safe)) == false

end Sys2Proof.Machine
end

