-- ==== Sys2Proof/Machine/TxLane.lean ====
section
/-! DEFINITION. The frame a lane transmits: its section overhead, the payload of its groups, B1 and B2, the scrambler, the OTU2 wrapper,
and what leaves on the line (R95, R98, R110, R111, R116, R122, R123, R134, R135, R141, R142, R150, R192, R355). -/

namespace Sys2Proof.Machine
open Sys2Proof

/-! The payload (R187 to R192, R355). -/

/-- The lane whose outgoing containers lane `n` sends: of the protect lane of an enabled pair the working lane (R355). -/
def Device.txFrom (d : Device) (n : Nat) : Nat :=
  match d.pairs.find? (fun p => p.ena && p.prot == n) with | some p => p.work | none => n

/-- A group whose transmit side runs: its head, its first slot and its size. -/
structure TxGroup where
  head : Nat
  slot : Nat
  size : Nat
  deriving DecidableEq, Repr

/-- The groups that lane `w` sends. -/
def Device.txGroups (d : Device) (w : Nat) : List TxGroup :=
  ((tabKeys d.hos).filter (fun h => laneOfHo h == w && (d.ho h).tx.runs)).map (fun h =>
    { head := h, slot := h % 192, size := groupSize (d.hoType h) })

/-- The group that covers a slot. -/
def groupAt (gs : List TxGroup) (s : Nat) : Option TxGroup := gs.find? (fun g => decide (g.slot ≤ s) && decide (s < g.slot + g.size))

/-- The concatenation indication of a member, 1001 SS 11 1111 1111 (R192). -/
def concWord (sonet : Bool) : Nat := if sonet then 0x93FF else 0x9BFF

/-- Byte `col` of the pointer bytes of row 4: H1 of every slot, H2 of every slot, H3 of every slot; all ones in AU-AIS (R192). -/
def Device.auByte (d : Device) (sonet : Bool) (nn : Nat) (gs : List TxGroup) (col : Nat) : Byte :=
  (fun s : Nat =>
    match groupAt gs s with
    | none => 0xFF
    | some g =>
      (fun (r : Regen) (w : Nat) =>
        if r.ais then 0xFF
        else if col ≤ 3 * nn then BitVec.ofNat 8 (w / 256)
        else if col ≤ 6 * nn then BitVec.ofNat 8 w
        else r.opp.getD ((groupTimes nn g.slot g.size).idxOf ((col - 1) % (3 * nn))) 0)
      (d.ho g.head).gen (if g.slot = s then (d.ho g.head).gen.word else concWord sonet))
  (timeSlot nn ((col - 1) % (3 * nn)))

/-- A byte of the payload columns; all ones in AU-AIS (R192). Rows 1 to 3 end the payload area of the frame before. -/
def Device.payByte (d : Device) (nn : Nat) (gs : List TxGroup) (row col : Nat) : Byte :=
  (fun t q : Nat =>
    match groupAt gs (timeSlot nn t) with
    | none => 0xFF
    | some g =>
      (fun (r : Regen) (p : Nat) =>
        if r.ais then 0xFF
        else (if row < 4 then r.last else r.pay).getD (g.size * p + (groupTimes nn g.slot g.size).idxOf t) 0)
      (d.ho g.head).gen (if row < 4 then 522 + 87 * (row - 1) + q else 87 * (row - 4) + q))
  ((col - 9 * nn - 1) % (3 * nn)) ((col - 9 * nn - 1) / (3 * nn))

/-! The section overhead (R141, R142). -/

/-- A byte of the section overhead: the sources of R141, the relay's selections, and 0x00 for every other. -/
def TxOh.byte (o : TxOh) (nn : Nat) (b2 : List Byte) (sel : List (Nat × Nat)) (row col : Nat) : Byte :=
  if row = 1 ∧ col ≤ 3 * nn then 0xF6
  else if row = 1 ∧ col ≤ 6 * nn then 0x28
  else if row = 1 ∧ col = 6 * nn + 1 then o.j0
  else if row = 5 ∧ col ≤ 3 * nn then (if o.invB2 then ~~~(b2.getD (col - 1) 0) else b2.getD (col - 1) 0)
  else if row = 5 ∧ col = 3 * nn + 1 then o.k1
  else if row = 5 ∧ col = 6 * nn + 1 then o.k2
  else if row = 9 ∧ col = 1 then o.s1
  else if row = 9 ∧ nn = 64 ∧ col = 3 * nn + 2 then o.m0
  else if row = 9 ∧ col = m1Col nn then o.m1
  else
    match sel.findIdx? (fun x => x == (row, col)) with
    | some i => o.relay.getD i 0
    | none => 0

/-- A frame before scrambling, B1 put in (R135, R141, R142, R192): in MS-AIS everything but the regenerator section overhead is all
ones. -/
def Device.txFrameBytes (d : Device) (n nn : Nat) (o : TxOh) : List Byte :=
  (fun (gs : List TxGroup) (sonet : Bool) (sel : List (Nat × Nat)) (x : LaneTx) =>
    ((List.range (2430 * nn)).map (fun i =>
      (fun row col : Nat =>
        if o.msAis && !(decide (row < 4) && decide (col ≤ 9 * nn)) then 0xFF
        else if row = 2 ∧ col = 1 then (if o.invB1 then ~~~x.b1 else x.b1)
        else if 9 * nn < col then d.payByte nn gs row col
        else if row = 4 then d.auByte sonet nn gs col
        else o.byte nn x.b2 sel row col)
      (i / (270 * nn) + 1) (i % (270 * nn) + 1))))
  (d.txGroups (d.txFrom n)) (d.bit (laneBase (d.txFrom n) + 0x10) 7) ((d.ohSelected n).map (fun v => (fld v 1 4, fld v 5 10))) (d.lane n).txb

/-- A frame scrambled (R134). -/
def scrambled (off : Bool) (nn : Nat) (l : List Byte) : List Byte := l.zipIdx.map (fun x => scramble off nn x.2 x.1)

/-- A byte string by place. -/
def bytesAt (l : List Byte) : Nat → Byte := (fun (a : Array Byte) (i : Nat) => a.getD i 0) l.toArray

/-! The OTU2 wrapper (R116, R119, R122, R123, R142, R324). -/

/-- The overhead of an OTU2 frame: FAS and MFAS, SM in row 1, PM in row 3, JC 00, PSI in row 4; 0x00 elsewhere. -/
def TxOh.otuByte (o : TxOh) (mfas : Nat) (smTti pmTti bip : Byte) (row col : Nat) : Byte :=
  if row = 1 ∧ col ≤ 3 then 0xF6
  else if row = 1 ∧ col ≤ 6 then 0x28
  else if row = 1 ∧ col = 7 then BitVec.ofNat 8 mfas
  else if row = 1 ∧ col = 8 then smTti
  else if row = 1 ∧ col = 9 then (if o.invSm then ~~~bip else bip)
  else if row = 1 ∧ col = 10 then
    BitVec.ofNat 8 (16 * (if o.smBiae then 11 else o.smBei) + 8 * b2n o.smBdi + 4 * b2n o.iae)
  else if row = 3 ∧ col = 10 then pmTti
  else if row = 3 ∧ col = 11 then bip
  else if row = 3 ∧ col = 12 then BitVec.ofNat 8 (16 * o.pmBei + 8 * b2n o.pmBdi + o.stat)
  else if col = 16 ∧ row ≤ 3 then BitVec.ofNat 8 o.jc
  else if row = 4 ∧ col = 15 ∧ mfas = 0 then o.pt
  else 0

/-- An OTU2 frame around 15,168 bytes of the STM-64, its FEC columns zero; JC 00 leaves NJO unused and PJO data. -/
def TxOh.otuFrame (o : TxOh) (mfas : Nat) (smTti pmTti bip : Byte) (pay : List Byte) : List Byte :=
  (fun p : Nat → Byte =>
    (List.range 16320).map (fun i =>
      (fun r c : Nat =>
        if c < 16 then o.otuByte mfas smTti pmTti bip (r + 1) (c + 1)
        else if c < 1904 then p (3792 * r + (c - 16))
        else if c < 1920 then 0
        else if c < 3824 then p (3792 * r + (c - 32))
        else 0)
      (i / 4080) (i % 4080)))
  (bytesAt pay)

/-- The transmitter wraps what waits into OTU2 frames: what it becomes, and the scrambled frames (R114, R116, R123). -/
def Device.otuWrap (d : Device) (n : Nat) (o : TxOh) : Nat → LaneTx → List Byte → LaneTx × List Byte
  | 0, x, acc => (x, acc)
  | c + 1, x, acc =>
    if x.map.length < 15168 then (x, acc)
    else
      (fun f : List Byte =>
        d.otuWrap n o c { x with map := x.map.drop 15168, mfas := (x.mfas + 1) % 256, bip := (otuBip f :: x.bip).take 2 }
          (acc ++ otuScramble (if o.fecZero then f else otuEncode f)))
      (o.otuFrame x.mfas (d.traceByte (laneBase n + 0x140) 2 x.mfas) (d.traceByte (laneBase n + 0x180) 2 x.mfas) (x.bip.getD 1 0)
        (x.map.take 15168))

/-! The line. -/

/-- What the transmitter becomes with a frame: B1 over the scrambled frame, B2 over the frame, and what leaves on the line (R98, R110,
R135). -/
def Device.txLine (d : Device) (n nn : Nat) (o : TxOh) : LaneTx :=
  (fun f : List Byte =>
    (fun (s : List Byte) (x : LaneTx) =>
      (fun y : LaneTx × List Byte =>
        { y.1 with line := (fun l : List Byte => if d.bit (laneBase n + 0x20) 15 then l.map (fun b => ~~~b) else l) y.2 })
      (if d.isOtu n then d.otuWrap n o 16 { x with map := x.map ++ s } []
       else (x, if d.laneMode n = 0 then oversample s else s)))
    (scrambled (d.bit (laneBase n + 0x10) 9) nn f)
    { (d.lane n).txb with
      b1 := bip8 (scrambled (d.bit (laneBase n + 0x10) 9) nn f), b2 := b2Of nn (bytesAt f) })
  (d.txFrameBytes n nn o)

/-- A frame leaves a lane with its overhead: on the line, and in terminal loopback into the lane's own receiver (R111). -/
def Device.txSend (d : Device) (n : Nat) (o : TxOh) : Device :=
  (fun x : LaneTx =>
    d.onLane n (fun l => { l with
      tx := o, txFrame := l.txFrame + 1, txb := x
      rxb := { l.rxb with loop := if d.bit (laneBase n + 0x10) 10 && l.rxOn then l.rxb.loop ++ x.line else [] } }))
  (d.txLine n (if d.isOtu n then 64 else stmN (d.laneMode n)) o)

/-- Drops the first frame of the relay queue (R150).
DEDUCED, log entry 25. -/
def relayNext : List TxRecord → List TxRecord
  | (_ :: []) :: t => t
  | (_ :: fs) :: t => fs :: t
  | l => l.drop 1

/-- The relay's bytes of the next frame: from the queue, else each selection's TX_IDLE (R150). -/
def Device.relayBytes (d : Device) (n : Nat) : List Byte :=
  match (d.lane n).relayTx with
  | (f :: _) :: _ => f
  | _ => (d.ohSelected n).map (fun w => BitVec.ofNat 8 (fld w 24 8))

/-- The relay queue has given a frame its bytes, or has none for it (R150). -/
def Device.relayTaken (d : Device) (n : Nat) : Device :=
  match (d.lane n).relayTx with
  | (_ :: _) :: _ => d.onLane n (fun l => { l with relayTx := relayNext l.relayTx })
  | _ => (d.inc (laneBase n + 0xA4)).ev (laneBase n + 0x18) 2

/-- The transmitter assembles a frame (R141, R150): a relay without a selection takes nothing from the queue.
DESIGN CHOICE, log entry 83. -/
def Device.laneTxFrame (d : Device) (n : Nat) : Device :=
  if (d.lane n).txOn then
    if d.bit (laneBase n + 0x90) 1 && !(d.ohSelected n).isEmpty then
      (d.txSend n { d.txOverhead n with relay := d.relayBytes n }).relayTaken n
    else d.txSend n (d.txOverhead n)
  else d.onLane n (fun l => { l with tx := {}, txb := { l.txb with line := [] } })

end Sys2Proof.Machine
end

