-- ==== Sys2Proof/Machine/View.lean ====
section
/-! DEFINITION. What a read of each register shows (R46, R47): the stored word, or the live value computed from the state. -/

namespace Sys2Proof.Machine
open Sys2Proof

/-- Word `i` of a list of words, 0 past its end. -/
def nthWord (l : List Word) (i : Nat) : Word := l.getD i 0

/-- An entry of a dual-clock queue is a posted write, not an RMW (R68, R70, R73). -/
def Posted.isWrite (p : Posted) : Bool := match p.kind with | .rmw _ _ => false | _ => true

/-- A posted write waits in a dual-clock queue for an address that meets a test (R43, R69). -/
def Device.pendingAt (d : Device) (f : Loc → Bool) : Bool :=
  (d.bus.xqHk ++ d.bus.xqPcie).any (fun p => p.isWrite && (match locOf p.addr with | some l => f l | none => false))

/-- Some operation record is RUNNING. -/
def Device.opAny (d : Device) : Bool := (List.range 16).any d.opRunning

/-- GLOBAL (R91). -/
def Device.viewGlobal (d : Device) (o : Nat) (raw : Word) : Word :=
  if o = 0x50 then wd (raw.toNat + 16 * b2n d.opAny)
  else if 0x60 ≤ o ∧ o < 0x70 then nthWord d.irqWords ((o - 0x60) / 4)
  else if o = 0xC0 then
    wd (b2n (d.pendingAt (fun l => l.blk == .hearth)) + 2 * b2n (d.pendingAt (fun l => l.blk == .tod))
      + 4 * b2n (d.pendingAt (fun l => l.blk == .attic)) + 8 * b2n (d.pendingAt (fun l => l.blk == .lane)))
  else raw

/-- FAULT (R573). -/
def Device.viewFault (d : Device) (o : Nat) (raw : Word) : Word :=
  if o = 0x10 then d.fcStatus
  else if 0x100 ≤ o ∧ o < 0x140 then d.severeMap ((o - 0x100) / 4)
  else if 0x1000 ≤ o ∧ o < 0x3000 ∧ o % 0x10 = 8 then d.srcStatus ((o - 0x1000) / 0x10)
  else raw

/-- PANTRY (R594, R609). -/
def Device.viewPantry (d : Device) (o : Nat) (raw : Word) : Word :=
  if o = 0x10 then d.bootStatus
  else if 0x50 ≤ o ∧ o < 0x60 then d.slotStatus ((o - 0x50) / 4)
  else if 0x100 ≤ o ∧ o < 0x130 then nthWord d.boot.otp ((o - 0x100) / 4)
  else raw

/-- HEARTH (R479, R481, R502). -/
def Device.viewHearth (d : Device) (o : Nat) (raw : Word) : Word :=
  if o = 0x14 then d.hearthStatus
  else if 0x100 ≤ o ∧ o < 0x300 ∧ o % 0x40 = 8 then d.refStatus ((o - 0x100) / 0x40)
  else if 0x100 ≤ o ∧ o < 0x300 ∧ o % 0x40 = 0x14 then d.refWtrRemain ((o - 0x100) / 0x40)
  else if 0x1100 ≤ o ∧ o < 0x1200 ∧ 0x10 ≤ o % 0x20 then nthWord (d.filtView ((o - 0x1100) / 0x20)) (o % 0x10 / 4)
  else raw

/-- TOD (R521). -/
def Device.viewTod (d : Device) (o : Nat) (raw : Word) : Word :=
  if o = 0x14 then d.todStatus
  else if 0x30 ≤ o ∧ o < 0x40 then nthWord d.stamp (o % 0x10 / 4)
  else if 0x200 ≤ o ∧ o < 0x300 ∧ o % 0x40 = 8 then d.tpStatus ((o - 0x200) / 0x40)
  else if 0x200 ≤ o ∧ o < 0x300 ∧ 0x30 ≤ o % 0x40 then nthWord (d.tpNext ((o - 0x200) / 0x40)) (o % 0x10 / 4)
  else raw

/-- CELLAR (R399, R401). -/
def Device.viewCellar (d : Device) (o : Nat) (raw : Word) : Word :=
  if o = 0x30 then wd d.unitsUsed
  else if o = 0x34 then wd d.histUsed
  else if o = 0x38 then wd d.ringUsed
  else if o = 0x3C then wd (d.rateUsed / 1000000)
  else if o = 0x40 then wd (d.capTotal none / 1000000)
  else if o = 0x44 then wd (d.buildRate / 1000000)
  else if o = 0x58 then wd d.hpairs.length
  else if o = 0x5C then wd (d.hpairs.filter (fun e => decide (e.2.st = 4))).length
  else if 0xB0 ≤ o ∧ o < 0xC0 then nthWord d.pairView (o % 0x10 / 4)
  else raw

/-- TRACER (R661, R666). -/
def Device.viewTracer (d : Device) (o : Nat) (raw : Word) : Word :=
  if o = 0x14 then d.trcStatus else if 0x100 ≤ o ∧ o < 0x120 then nthWord d.trcHead ((o - 0x100) / 4) else raw

/-- LANDING (R369, R370). -/
def Device.viewLanding (d : Device) (o : Nat) (raw : Word) : Word :=
  if o = 0x10 then wd (b2n d.land.group.isSome + 2 * b2n d.cores.mc0Away)
  else if o = 0x20 then d.selCount (fun i s => decide (i < 131072) && decide (s.st = 1))
  else if o = 0x24 then d.selCount (fun i s => decide (131072 ≤ i) && decide (s.st = 1))
  else if o = 0x28 then d.selCount (fun _ s => s.c.applied)
  else if o = 0x34 then (match d.land.queue with | i :: _ => wd (i + 2 ^ 31) | [] => 0)
  else if o = 0x3C then wd d.land.queue.length
  else if 0x1000 ≤ o ∧ o < 0x1400 ∧ o % 0x20 = 0xC then d.mspStatus ((o - 0x1000) / 0x20)
  else if 0x1000 ≤ o ∧ o < 0x1400 ∧ o % 0x20 = 0x10 then d.mspK ((o - 0x1000) / 0x20)
  else if 0x1000 ≤ o ∧ o < 0x1400 ∧ o % 0x20 = 0x14 then (d.msp ((o - 0x1000) / 0x20)).c.timer
  else raw

/-- PM control (R430). -/
def Device.viewPm (d : Device) (o : Nat) (raw : Word) : Word :=
  if o = 0x10 then wd (b2n d.pm.running + 2 * d.pm.waiting.length)
  else if o = 0x80 then d.pm.tca.headD 0
  else if o = 0x88 then wd d.pm.tca.length
  else raw

/-- LANE_STATUS (R156, R158). -/
def Device.laneStatus (d : Device) (n : Nat) : Word :=
  wd (b2n (d.laneEna n) + 2 * b2n (d.laneDrained n) + 4 * b2n (d.lane n).txOn + 16 * b2n (!d.laneEna n)
    + 32 * b2n (d.bit (laneBase n + 0x10) 11) + 64 * b2n (d.faultSquelch n) + 128 * b2n (decide (d.bootPhase ≠ 0) && !d.acting))

/-- The code of a framer state (R160). -/
def FrmState.code : FrmState → Nat | .hunt => 0 | .presync => 1 | .sync => 2

/-- RX_STATUS (R160): the states of the framers are added. -/
def Device.rxStatus (d : Device) (n : Nat) : Word :=
  wd ((d.rd (laneBase n + 0x4000)).toNat + 4 * b2n (d.rxOn n && decide ((d.lane n).sdh.st ≠ .sync))
    + 16 * b2n (d.rxOn n && d.isOtu n && decide ((d.lane n).otu.st ≠ .sync))
    + 2 ^ 10 * (d.lane n).sdh.st.code + 2 ^ 12 * (d.lane n).otu.st.code)

/-- FRM_STATUS (R124, R158). -/
def Device.frmStatus (d : Device) (n : Nat) : Word :=
  if d.rxOn n then
    (fun top : Nat =>
      wd (min (d.get (laneBase n + 0x4010) 0 4) top + 16 * min (d.get (laneBase n + 0x4010) 4 4) top
        + 2 ^ 8 * (d.lane n).sdh.cands.length + 2 ^ 12 * (d.lane n).otu.cands.length))
    (3 * stmN (d.laneMode n))
  else 0

/-- LANE (R158, R328). -/
def Device.viewLane (d : Device) (n o : Nat) (raw : Word) : Word :=
  if o = 0x14 then d.laneStatus n
  else if o = 0x98 then
    wd ((d.lane n).relayRx.length + 16 * (d.lane n).relayTx.length + 2 ^ 8 * (d.ohSelected n).length)
  else if o = 0x4000 then d.rxStatus n
  else if o = 0x4004 then (d.laneDef n).word
  else if o = 0x4014 then d.frmStatus n
  else raw

/-- An object of CLIENT_VIEW: a TC or an entry is selected and monitored by configuration (R272). -/
def Device.cliShown (d : Device) (s : Nat) (ho : Bool) (i : Nat) : Bool :=
  if ho then decide (i < 32) && bitAt (d.rd (entryAddr s i)) 0
  else sliceOfLane (d.tcLane i) == s && decide (d.get (tcBase i + 8) 0 3 ≠ 0)

/-- CLIENT_VIEW of a slice (R272). -/
def Device.clientView (d : Device) (s : Nat) : List Word :=
  (fun v : Word =>
    (fun (i : Nat) (ho : Bool) =>
      (fun j : Nat =>
        if d.cliShown s ho i then
          (fun (c : Cli) (df : Bool × Bool × Bool) (r : Retimer) =>
            [wd (i + 2 ^ 18 * b2n ho + 2 ^ 19 * (d.cliKind j).1 + 2 ^ 22 * (d.cliKind j).2
                + 2 ^ 24 * b2n (!ho && d.cliConflict i) + 2 ^ 31),
             wd (b2n (d.cliRuns j && decide (c.st ≠ .sync)) + 2 * b2n df.1 + 4 * b2n df.2.1 + 8 * b2n df.2.2 + 16 * b2n c.noCrc4
                + 32 * b2n c.aic + 2 ^ 8 * c.st.code + 2 ^ 10 * c.cands.length + 2 ^ 16 * b2n (d.cliRuns j)),
             wd (c.sa % 2 ^ 20 + 2 ^ 20 * b2n c.n),
             wd (if ho then 0 else r.fill + 2 ^ 8 * r.st + 2 ^ 16 * unsigned 8 r.p)])
          (d.cli j) (d.cliDef j) (d.rt i)
        else [wd (i + 2 ^ 18 * b2n ho), 0, 0, 0])
      (if ho then entryNo s i else i))
    (fld v 0 18) (bitAt v 31))
  (tabGet 0 d.cliSel s)

/-- The TCs that are enabled or draining, and their count in a slice (R239). -/
def Device.loActive (d : Device) (s : Nat) : Nat :=
  (d.tcActive.filter (fun k => sliceOfLane (d.tcLane k) == s)).length

/-- SLICE (R239, R271, R304). -/
def Device.viewSlice (d : Device) (s o : Nat) (raw : Word) : Word :=
  if o = 0x400 then wd (d.loActive s)
  else if o = 0x410 then (match d.tcQueue s with | k :: _ => wd (k + 2 ^ 31) | [] => 0)
  else if o = 0x418 then wd (d.tcQueue s).length
  else if 0x510 ≤ o ∧ o < 0x520 then nthWord (d.clientView s) (o % 0x10 / 4)
  else if o = 0x534 then
    wd (d.rts.filter (fun e => sliceOfLane (d.tcLane e.1) == s && (decide (e.2.st = 1) || decide (e.2.st = 2)))).length
  else if o = 0x540 then wd (maskOf 32 (fun i => d.cliAny (entryNo s i)))
  else if o = 0x700 then wd (raw.toNat % 16 + 16 * b2n (d.sliceHeld s))
  else if o = 0x70C then wd (d.hallOwned s)
  else if o = 0x710 then wd (d.misList s).length
  else if o = 0x714 then d.misFirst s
  else raw

/-- HO_CFG of a claimed member reads TYPE MEMBER and its head's slot (R166). -/
def Device.hoCfgView (d : Device) (h : Nat) (raw : Word) : Word :=
  match (d.ho h).claim with
  | some c => setFld (setFld raw 1 3 5) 16 8 (c % 192)
  | none => raw

/-- HO_REGEN (R192, R197, R355): code 3 while the lane sends no frames, 1 where its slot carries AU-AIS. -/
def Device.hoRegen (d : Device) (h : Nat) : Word :=
  if (d.lane (laneOfHo h)).txOn then
    match groupAt (d.txGroups (d.txFrom (laneOfHo h))) (h % 192) with
    | some g =>
      wd ((if g.slot = h % 192 then (d.ho g.head).gen.value + 2 ^ 10 * (d.ho g.head).gen.fill else 0) + 2 ^ 14 * b2n (d.hoTxAis g.head))
    | none => wd (2 ^ 14)
  else wd (3 * 2 ^ 14)

/-- A high-order context (R196, R197): the other words of a member read 0.
DEDUCED, log entry 23. -/
def Device.viewHo (d : Device) (h o : Nat) (raw : Word) : Word :=
  if o = 0 then d.hoCfgView h raw
  else if (d.ho h).claim.isSome && o != 0x20 && o != 0x2C then 0
  else if o = 0x20 then wd ((d.hoDef h).word + 2 ^ 16 * b2n ((d.ho h).rx.runs && (d.ho h).tx.runs))
  else if o = 0x2C then
    (fun p : Pi => wd (p.active + 2 ^ 10 * p.st.code + 2 ^ 13 * p.lastChange + 2 ^ 16 * p.since)) (d.ho h).pi
  else if o = 0x30 then wd (raw.toNat % 2 ^ 11 + 2 ^ 12 * ((d.ho h).h4Exp % 4) + 2 ^ 14 * b2n (d.ho h).inMf)
  else if o = 0x38 then d.hoRegen h
  else raw

/-- TC_STATUS (R208). -/
def Device.tcStatus (d : Device) (k : Nat) : Word :=
  wd ((d.tcDef k).word + 2 ^ 10 * b2n (d.tcClientDefect k) + 2 ^ 16 * b2n ((d.tc k).rx.runs && (d.tc k).tx.runs)
    + 2 ^ 17 * b2n (d.tcDrained k) + 2 ^ 18 * b2n (d.tcFrozen k)
    + 2 ^ 19 * b2n (d.tcEna k && (decide ((d.tc k).tx = .starting) || d.tcTxAis k)))

/-- A tributary (R204, R208, R210). -/
def Device.viewTc (d : Device) (k o : Nat) (raw : Word) : Word :=
  if o = 0x20 then d.tcStatus k
  else if o = 0x28 then
    (fun x : TcSt =>
      wd (x.pi.active + 2 ^ 10 * x.pi.st.code + 2 ^ 13 * x.pi.lastChange + 2 ^ 16 * x.pi.since
        + 2 ^ 24 * (if x.tx = .off ∨ x.tx = .starting then 0 else x.gen.fill)))
    (d.tc k)
  else raw

/-- The PM store window (R427, R429). -/
def Device.viewPmStore (d : Device) (o : Nat) (raw : Word) : Word :=
  if 0xF00000 ≤ o then nthWord (d.rawView ((o - 0xF00000) / 0x10)) (o % 0x10 / 4)
  else if o % 0x20 = 0 then d.pmNow (o / 0x20)
  else raw

/-- A Landing selector (R367). -/
def Device.viewSelector (d : Device) (i o : Nat) (raw : Word) : Word :=
  if o = 0xC then d.selStatus i else if o = 0x10 then (d.sel i).c.timer else raw

/-- The live value of the register word at a place, given its stored word. -/
def Device.viewLoc (d : Device) (l : Loc) (raw : Word) : Word :=
  match l.blk with
  | .global => d.viewGlobal l.off raw
  | .fault => d.viewFault l.off raw
  | .pantry => d.viewPantry l.off raw
  | .porch => if l.off = 0x14 then d.porchStatus else raw
  | .measure => if l.off = 0x10 then wd (raw.toNat + 2 ^ 10 * b2n d.meas.busy) else raw
  | .hearth => d.viewHearth l.off raw
  | .tod => d.viewTod l.off raw
  | .partywall => if l.off = 0x14 then d.pwStatus else raw
  | .attic => raw
  | .cellar => d.viewCellar l.off raw
  | .tracer => d.viewTracer l.off raw
  | .landing => d.viewLanding l.off raw
  | .hall => if l.off = 0x10 then d.hallStatus else raw
  | .pm => d.viewPm l.off raw
  | .lane => d.viewLane l.idx l.off raw
  | .slice => d.viewSlice l.idx l.off raw
  | .ho => d.viewHo l.idx l.off raw
  | .tc => d.viewTc l.idx l.off raw
  | .pmStore => d.viewPmStore l.off raw
  | .page => raw
  | .trace => raw
  | .sel => d.viewSelector l.idx l.off raw

/-- BLOCK_LOCK shows WRITE_PENDING of its block (R43, R69). -/
def Device.lockView (d : Device) (l : Loc) (raw : Word) : Word :=
  wd (raw.toNat + 2 ^ 8 * b2n (d.pendingAt (fun x => x.blk == l.blk && x.idx == l.idx)))

/-- What a read of the word at `a` shows (R41, R46).
DESIGN CHOICE, log entry 12. -/
def Device.view (d : Device) (a : Nat) : Word :=
  match locOf a with
  | none => 0
  | some l =>
    match (rowsAt l).find? (·.has l.off) with
    | none => 0
    | some r => if r.acc = .wo then 0 else if r.acc = .lock then d.lockView l (d.rd a) else d.viewLoc l (d.rd a)

end Sys2Proof.Machine
end

