-- ==== Sys2Proof/Machine/Bus.lean ====
section
/-! DEFINITION. The register bridge (R41 to R82): reads with their snapshots, writes with their judgement, staging, posting into
other clock domains, read-modify-write, and what an accepted write does in its block. -/

namespace Sys2Proof.Machine
open Sys2Proof

/-! Domains and queues (R66 to R73). -/

/-- The target domain that holds a register (R66). BLOCK_LOCK, whose WRITE_PENDING and WRITE_LOST speak of the way to the domain,
stands in the bridge.
DEDUCED, log entry 17. -/
def domainOf (l : Loc) : Option Domain :=
  match l.blk with
  | .hearth => if l.off = 0xC then none else some .hearth
  | .tod => if l.off = 0xC then none else some .hearth
  | .attic => if l.off = 0xC then none else some .pcie
  | .lane => if 0x4000 ≤ l.off ∧ l.off < 0x8000 then some (.laneRx l.idx) else none
  | _ => none

/-- Updates the bridge. -/
def Device.onBus (d : Device) (f : Bus → Bus) : Device := { d with bus := f d.bus }

/-- The dual-clock queue of a domain (R73). -/
def Device.queueOf (d : Device) (m : Domain) : List Posted := if m = .pcie then d.bus.xqPcie else d.bus.xqHk

/-- Stores the dual-clock queue of a domain. -/
def Device.setQueue (d : Device) (m : Domain) (q : List Posted) : Device :=
  d.onBus (fun b => if m = .pcie then { b with xqPcie := q } else { b with xqHk := q })

/-- An entry is posted; a full queue refuses it with TIMEOUT and reports its overflow (R30, R68, R73).
DEDUCED, log entry 18. -/
def Device.post (d : Device) (p : Posted) : Status × Device :=
  if 32 ≤ (d.queueOf p.dom).length then (.timeout, d.raise { src := if p.dom = .pcie then 316 else 314, syndrome := 32 })
  else (.ok, d.setQueue p.dom (d.queueOf p.dom ++ [p]))

/-! Covered configuration and its commit (R76 to R79). -/

/-- An accepted write to covered configuration (R77, R79, R80). -/
def Device.covered (d : Device) : Device :=
  (({ d with crc := { d.crc with dirtyPass := true } } : Device).setBit 0x50 1 true).setBit 0x50 3 false

/-- A write of CFG_COMMIT (R78).
DESIGN CHOICE, log entry 20. -/
def Device.commit (d : Device) (m : Nat) (v : Word) : Status × Device :=
  if !bitAt v 0 || d.bit 0x50 2 then (.ok, d)
  else
    match d.opOpen 0x0A m 1 with
    | (some k, d1) =>
      (.ok, ({ d1 with crc := { d1.crc with latchThis := false, commitRec := some k } } : Device).setBit 0x50 2 true)
    | (none, d1) => (.busy, d1)

/-! What an accepted write does. -/

/-- Stores a written value, leaving the read-only bits of the register. -/
def Device.store (d : Device) (a : Nat) (r : RegRow) (v : Word) : Device :=
  d.wr a ((v &&& ~~~(wd r.roBits)) ||| (d.rd a &&& wd r.roBits))

/-- The SF/SD profile a layer names and its values (R318). -/
def Device.sfWords (d : Device) (l : SfLayer) : List Nat :=
  [d.sfProfile l, (d.rd (d.sfProfile l)).toNat, (d.rd (d.sfProfile l + 4)).toNat, (d.rd (d.sfProfile l + 8)).toNat]

/-- The windows of every layer whose profile or profile field a write changed begin again (R318). -/
def sfChange (d0 d : Device) : Device :=
  d.sfLayers.foldl (fun e l => if d0.sfWords l = d.sfWords l then e else e.sfRestart l false) d

/-- GLOBAL (R78, R91, R583). -/
def Device.applyGlobal (d : Device) (m a : Nat) (r : RegRow) (v : Word) : Status × Device :=
  if a = 0x20 then if v = 0 then (.ok, d) else if v = 0xA501 then (.ok, d.warmReset 2 none) else (.range, d)
  else if a = 0x30 then d.commit m v
  else if a = 0xA0 then
    (.ok, d.when (bitAt v 0) (·.zero [0x80, 0x84, 0x88, 0x8C, 0x90, 0x94, 0x98, 0x9C, 0xA4, 0xA8]))
  else (.ok, d.store a r v)

/-- FAULT (R573). -/
def Device.applyFault (d : Device) (a o : Nat) (r : RegRow) (v : Word) : Status × Device :=
  if o = 0x1C then d.fcCmd v
  else if 0x1000 ≤ o ∧ o < 0x3000 ∧ o % 0x10 = 0xC then (.ok, d.srcInj ((o - 0x1000) / 0x10) v)
  else (.ok, d.store a r v)

/-- PANTRY (R609). -/
def Device.applyPantry (d : Device) (m a o : Nat) (r : RegRow) (v : Word) : Status × Device :=
  if o = 0x80 then d.flashCmd m v
  else if o = 0xB0 then d.enroll v
  else if 0x8000 ≤ o ∧ d.winBusy = true then (.busy, d.pantryRefuse 1)
  else (.ok, d.store a r v)

/-- MEASURE (R654). -/
def Device.applyMeasure (d : Device) (m a o : Nat) (r : RegRow) (v : Word) : Status × Device :=
  if o = 0x30 then d.hostExtend v
  else if o = 0x80 then d.swapCmd m v
  else if o = 0x90 then d.mateAttestGo m v
  else (.ok, d.store a r v)

/-- HEARTH (R479, R481, R501, R502).
DEDUCED, log entry 21. -/
def Device.applyHearth (d : Device) (a o : Nat) (r : RegRow) (v : Word) : Status × Device :=
  if o = 0x10 then (.ok, d.hearthCfgWrite v)
  else if o = 0x38 then d.phaseStep v
  else if o = 0x68 then (.ok, d.when (bitAt v 0) Device.hearthCntClr)
  else if 0x100 ≤ o ∧ o < 0x300 ∧ o % 0x40 = 0 then d.refCfgWrite ((o - 0x100) / 0x40) v
  else if 0x100 ≤ o ∧ o < 0x300 ∧ o % 0x40 = 0x10 then
    (.ok, (d.store a r v).when (decide (d.rd (a - 4) &&& d.rd a = 0) && decide (d.rd (a - 4) &&& v ≠ 0)) (·.ev 0x50018 7))
  else if o = 0x1000 then d.filtCmdWrite v
  else if 0x1100 ≤ o ∧ o < 0x1200 ∧ o % 0x20 = 0 then (.ok, d.filtCfgWrite ((o - 0x1100) / 0x20) v)
  else if 0x1400 ≤ o ∧ o < 0x1700 then d.coefWrite a v
  else (.ok, d.store a r v)

/-- TOD (R521).
DEDUCED, log entry 21. -/
def Device.applyTod (d : Device) (a o : Nat) (r : RegRow) (v : Word) : Status × Device :=
  if o = 0x10 then (.ok, d.todCfgWrite v)
  else if o = 0x1C then
    (.ok, (d.store a r v).when ((List.range 4).any (fun i =>
      !bitAt (d.rd a) (12 + i) && bitAt v (12 + i) && decide (d.rd (tpBase i + 0xC) ≠ 0))) (·.ev 0x60018 8))
  else if o = 0x6C then (.ok, d.when (bitAt v 0) Device.todCntClr)
  else if 0x100 ≤ o ∧ o < 0x180 ∧ o % 0x40 = 0 then (.ok, d.domCfgWrite ((o - 0x100) / 0x40) v)
  else if 0x200 ≤ o ∧ o < 0x300 ∧ o % 0x40 = 0 then d.tpCfgWrite ((o - 0x200) / 0x40) v
  else if 0x200 ≤ o ∧ o < 0x300 ∧ o % 0x40 = 4 then d.tpJudge ((o - 0x200) / 0x40) (d.store a r v)
  else (.ok, d.store a r v)

/-- PARTYWALL (R550). -/
def Device.applyPartywall (d : Device) (m a o : Nat) (r : RegRow) (v : Word) : Status × Device :=
  if o = 0x20 then d.pwCmd m v
  else if o = 0x6C then (.ok, d.when (bitAt v 0) Device.pwCntClr)
  else (.ok, d.store a r v)

/-- ATTIC (R455, R456): an immediate SMART read brings values the model leaves free. -/
def Device.applyAttic (d : Device) (m a o : Nat) (r : RegRow) (v : Word) : Status × Device :=
  if o = 0x10 then d.atticCfgWrite m v
  else if o = 0x14 then d.atticCmd m v Device.smartFree
  else if o = 0x80 then (.ok, d.when (bitAt v 0) Device.atticCntClr)
  else (.ok, d.store a r v)

/-- CELLAR (R399, R401, R402). -/
def Device.applyCellar (d : Device) (m a o : Nat) (r : RegRow) (v : Word) : Status × Device :=
  if o = 0x1C then if bitAt v 0 then d.celRetrain else (.ok, d)
  else if o = 0x84 then (.ok, d.when (bitAt v 0) Device.celCntClr)
  else if o = 0xA0 then (.ok, { d with cel := { d.cel with sel := v.toNat } })
  else if 0x1000 ≤ o ∧ o < 0x2000 ∧ o % 0x10 = 0 then d.ringCfgWrite ((o - 0x1000) / 0x10) v
  else if 0x1000 ≤ o ∧ o < 0x2000 ∧ o % 0x10 = 0xC then
    (fun x : Status × Device => (x.1, x.2.exportsReserve)) (d.ringCmd m ((o - 0x1000) / 0x10) v.toNat)
  else (.ok, d.store a r v)

/-- TRACER (R666). -/
def Device.applyTracer (d : Device) (a o : Nat) (r : RegRow) (v : Word) : Status × Device :=
  if o = 0x10 then (.ok, d.trcCfgWrite v)
  else if o = 0x20 then (.ok, d.trcCmd v)
  else if o = 0x44 then (.ok, d.when (bitAt v 0) Device.trcCntClr)
  else (.ok, d.store a r v)

/-- LANDING (R369, R370).
DEDUCED, log entry 21. -/
def Device.applyLanding (d : Device) (m a o : Nat) (r : RegRow) (v : Word) : Status × Device :=
  if o = 0x38 then (.ok, d.when (bitAt v 0) Device.selEventPop)
  else if o = 0x54 then (.ok, d.when (bitAt v 0) Device.landCntClr)
  else if o = 0x30 then (.ok, selRequeue d (d.store a r v))
  else if o = 0x58 then
    (.ok, (d.store a r v).when ((List.range 32).any (fun i =>
      decide (d.rd (mspBase i + 0x1C) &&& d.rd a = 0) && decide (d.rd (mspBase i + 0x1C) &&& v ≠ 0))) (·.ev 0xB0014 4))
  else if o = 0x100 then d.groupGo m v
  else if 0x1000 ≤ o ∧ o < 0x1400 ∧ o % 0x20 = 0 then d.mspCfgWrite ((o - 0x1000) / 0x20) v
  else if 0x1000 ≤ o ∧ o < 0x1400 ∧ o % 0x20 = 4 then (.ok, d.mspCfg2Write ((o - 0x1000) / 0x20) v)
  else if 0x1000 ≤ o ∧ o < 0x1400 ∧ o % 0x20 = 8 then d.mspCmdWrite m ((o - 0x1000) / 0x20) v.toNat
  else (.ok, d.store a r v)

/-- HALL (R301). -/
def Device.applyHall (d : Device) (m a o : Nat) (r : RegRow) (v : Word) : Status × Device :=
  if o = 0x24 then d.switchCmd m v
  else if o = 0x84 then (.ok, d.when (bitAt v 0) Device.hallCntClr)
  else (.ok, d.store a r v)

/-- PM (R430). -/
def Device.applyPm (d : Device) (a o : Nat) (r : RegRow) (v : Word) : Status × Device :=
  if o = 0x50 then d.viewSel v
  else if o = 0x54 then d.rawSel v
  else if o = 0x84 then (.ok, d.when (bitAt v 0) Device.tcaPop)
  else (.ok, d.store a r v)

/-- LANE (R158): a comparison that is switched off ends its mismatch (R311). -/
def Device.applyLane (d : Device) (n a o : Nat) (r : RegRow) (v : Word) : Status × Device :=
  if o = 0x10 then d.laneCtlWrite n v
  else if o = 0x94 then if bitAt v 0 then d.ohTxPush n else (.ok, d)
  else if o = 0xAC then (.ok, d.when (bitAt v 0) (·.ohCntClr n))
  else if o = 0x4044 then d.sdsCmd n v
  else if o = 0x4058 then (.ok, (d.store a r v).onLane n (fun l => { l with rsTim := l.rsTim && bitAt v 0 }))
  else if o = 0x4020 then
    (.ok, (d.store a r v).onLane n (fun l =>
      { l with smTim := l.smTim && decide (fld v 4 2 ≠ 0), pmTim := l.pmTim && decide (fld v 6 2 ≠ 0) }))
  else (.ok, d.store a r v)

/-- SLICE (R239, R271, R330, R665). -/
def Device.applySlice (d : Device) (s a o : Nat) (r : RegRow) (v : Word) : Status × Device :=
  if o = 0x40C then (.ok, tcRequeue d (d.store a r v))
  else if o = 0x414 then (.ok, d.when (bitAt v 0) (·.tcEventPop s))
  else if o = 0x500 then (.ok, { d with cliSel := tabPut 0 d.cliSel s v })
  else if 0x600 ≤ o ∧ o < 0x680 then d.hoClientWrite s ((o - 0x600) / 4) v
  else if o = 0xA00 then (.ok, d.when (bitAt v 0) (·.slotSnap s))
  else (.ok, d.store a r v)

/-- A high-order context (R196, R197): the words of a member ignore writes. -/
def Device.applyHo (d : Device) (h a o : Nat) (r : RegRow) (v : Word) : Status × Device :=
  if o = 0 then d.hoCfgWrite h v
  else if (d.ho h).claim.isSome then (.ok, d)
  else if o = 0x10 then d.protWrite (262144 + h) v
  else if o = 0x18 then d.captureWrite (262144 + h) v
  else (.ok, d.store a r v)

/-- A tributary context (R204). -/
def Device.applyTc (d : Device) (k a o : Nat) (r : RegRow) (v : Word) : Status × Device :=
  if o = 0 then (fun x : Status × Device => (x.1, if x.1 = .ok then tcRequeue d x.2 else x.2)) (d.tcCfgWrite k v)
  else if o = 4 then d.tcMonWrite k v
  else if o = 8 then d.clientWrite k v
  else if o = 0xC then d.protWrite k v
  else if o = 0x14 then d.captureWrite k v
  else (.ok, d.store a r v)

/-- A Landing selector (R367). -/
def Device.applySel (d : Device) (m i a o : Nat) (r : RegRow) (v : Word) : Status × Device :=
  if o = 0 then d.selCfgWrite i v else if o = 8 then d.selCmdWrite m i v.toNat else (.ok, d.store a r v)

/-- A write the bridge has judged, in its block; a block's own refusal leaves its cause. -/
def Device.applyBlk (d : Device) (m a : Nat) (l : Loc) (r : RegRow) (v : Word) : Status × Device :=
  match l.blk with
  | .global => d.applyGlobal m a r v
  | .fault => d.applyFault a l.off r v
  | .pantry => d.applyPantry m a l.off r v
  | .porch =>
    (.ok, if l.off = 0x10 then d.porchCfg v else if l.off = 0x44 then d.when (bitAt v 0) Device.porchCntClr else d.store a r v)
  | .measure => d.applyMeasure m a l.off r v
  | .hearth => d.applyHearth a l.off r v
  | .tod => d.applyTod a l.off r v
  | .partywall => d.applyPartywall m a l.off r v
  | .attic => d.applyAttic m a l.off r v
  | .cellar => d.applyCellar m a l.off r v
  | .tracer => d.applyTracer a l.off r v
  | .landing => d.applyLanding m a l.off r v
  | .hall => d.applyHall m a l.off r v
  | .pm => d.applyPm a l.off r v
  | .lane => d.applyLane l.idx a l.off r v
  | .slice => d.applySlice l.idx a l.off r v
  | .ho => d.applyHo l.idx a l.off r v
  | .tc => d.applyTc l.idx a l.off r v
  | .pmStore => (.ok, d)
  | .page => d.pageWrite l.idx l.off v
  | .trace => (.ok, d.store a r v)
  | .sel => d.applySel m l.idx a l.off r v

/-- A word of a claimed member that ignores writes (R196). -/
def Device.memberWord (d : Device) (l : Loc) : Bool := l.blk == .ho && l.off != 0 && (d.ho l.idx).claim.isSome

/-- An accepted write of one word: sticky bits clear (R46, R48), other registers take the value or perform the command. -/
def Device.applyLoc (d : Device) (m a : Nat) (l : Loc) (r : RegRow) (v : Word) : Status × Device :=
  if d.memberWord l then (.ok, d)
  else if r.acc = .w1c then (.ok, d.wr a (d.rd a &&& ~~~v)) else d.applyBlk m a l r v

/-- A write of a whole wide register in its block (R61). -/
def Device.applyWide (d : Device) (a : Nat) (l : Loc) (ws : List Word) : Status × Device :=
  match l.blk with
  | .tod =>
    if l.off = 0x40 then (.ok, d.todSet ws)
    else if l.off % 0x40 = 0x10 then (.ok, (d.wrs a ws).tpArm ((l.off - 0x200) / 0x40))
    else d.tpJudge ((l.off - 0x200) / 0x40) (d.wrs a ws)
  | .cellar => d.pairSet (nthWord ws 0) (nthWord ws 1) (nthWord ws 2) (nthWord ws 3)
  | .pm => d.cntPreset (nthWord ws 0) (nthWord ws 1) (nthWord ws 2) (nthWord ws 3)
  | _ => (.ok, d.wrs a ws)

/-! What the bridge refuses (R57, R74, R539 and the blocks' own lists). -/

/-- A STANDBY device refuses these writes before anything else is judged (R539).
DEDUCED, log entry 15. -/
def Device.standbyBars (d : Device) (l : Loc) (v : Word) : Bool :=
  d.standby &&
    (match l.blk with
     | .sel => l.off == 8
     | .landing => (decide (0x1000 ≤ l.off) && decide (l.off < 0x1400) && l.off % 0x20 == 8) || l.off == 0x100
     | .hall => l.off == 0x24 && decide (fld v 0 2 ≠ 0)
     | .hearth => l.off == 0x10 && decide (fld v 0 2 ≠ d.hMode)
     | _ => false)

/-- Whether a value is refused with RANGE by the bridge: its row's bits and ranges, and what a block adds. -/
def Device.bridgeBad (d : Device) (l : Loc) (r : RegRow) (v : Word) : Bool :=
  (match l.blk with
   | .tc => !r.legal v.toNat && !(l.off == 8 && (d.clientCause l.idx v).isSome)
   | _ => !r.legal v.toNat) ||
  (match l.blk with
   | .lane => decide (0x60 ≤ l.off) && decide (l.off < 0x90) && ohSelBad (stmN (d.laneMode l.idx)) v
   | .slice => decide (0x800 ≤ l.off) && decide (l.off < 0x900) && l.off % 0x10 == 0 && decide (fld v 4 4 < fld v 0 3)
   | .hearth =>
     (l.off == 0x10 && !d.bit (refBase (fld v 5 3)) 0) ||
     (decide (0x100 ≤ l.off) && decide (l.off < 0x300) && l.off % 0x40 == 0 && refCfgBad ((l.off - 0x100) / 0x40) v) ||
     (decide (0x1100 ≤ l.off) && decide (l.off < 0x1200) && (l.off % 0x20 == 4 || l.off % 0x20 == 8)
        && decide (fld v 0 16 < fld v 16 16))
   | .attic => l.off == 0x14 && v == 3
   | _ => false)

/-- The cause that refuses a FAULT write, with its source (R574). FC_CMD judges itself.
DEDUCED, log entry 69. -/
def faultCause (l : Loc) (r : RegRow) (v : Word) : Option (Nat × Nat) :=
  if l.off = 0x1C then none
  else if 0x1000 ≤ l.off ∧ l.off < 0x3000 ∧ l.off % 0x10 ≠ 8 then
    (srcCause ((l.off - 0x1000) / 0x10) (l.off % 0x10) v (r.legal v.toNat)).map (fun c => ((l.off - 0x1000) / 0x10, c))
  else if r.legal v.toNat && !(l.off == 0x68 && decide ((if Config.gradeXE then 115 else 110) < v.toNat)) then none else some (0, 0)

/-- The record a block keeps of a FIELD refusal: the lowest cause the write meets (R354, R433, R456, R701).
DEDUCED, log entry 15; DEDUCED, log entry 16. -/
def Device.fieldRefuse (d : Device) (l : Loc) (r : RegRow) (v : Word) : Device :=
  match l.blk with
  | .pantry => d.when (l.off == 0x80 || l.off == 0xB0) (·.pantryRefuse 0)
  | .measure => d.when (l.off == 0x80 || l.off == 0x90) (·.measRefuse 0)
  | .hearth =>
    d.hearthRefuse 0
      (if l.off = 0x10 then fld v 5 3
       else if 0x100 ≤ l.off ∧ l.off < 0x300 then (l.off - 0x100) / 0x40
       else if 0x1010 ≤ l.off ∧ l.off < 0x101C then (l.off - 0x1010) / 4
       else if 0x1100 ≤ l.off ∧ l.off < 0x1200 then (l.off - 0x1100) / 0x20
       else if 0x1400 ≤ l.off then (l.off - 0x1400) / 0x100 else 0)
  | .tod =>
    d.todRefuse 0
      (if 0x100 ≤ l.off ∧ l.off < 0x180 then 4 + (l.off - 0x100) / 0x40
       else if 0x200 ≤ l.off ∧ l.off < 0x300 then (l.off - 0x200) / 0x40 else 7)
  | .partywall => d.pwRefuse 0
  | .attic =>
    d.when (l.off == 0x10 || l.off == 0x14)
      (·.atticRefuse (if l.off = 0x14 ∧ bitAt v 0 = true ∧ d.atticState ≠ 3 then 1 else 2))
  | .pm =>
    d.pmRefuse 0 (if r.reserved v.toNat then 0 else if l.off = 0x20 then 4 else if 0x100 ≤ l.off ∧ l.off < 0x300 then 3 else 0)
  | .landing =>
    if 0x1000 ≤ l.off ∧ l.off < 0x1400 ∧ l.off % 0x20 < 8 then d.landRefuse 3 ((l.off - 0x1000) / 0x20) 0 else d
  | .sel => if l.off = 0 then d.landRefuse 2 l.idx 0 else d
  | .tc =>
    if l.off = 0 then d.tcRefuse (sliceOfLane (fld v 4 6)) l.idx 0
    else if l.off = 4 then d.tcRefuse (sliceOfLane (d.tcLane l.idx)) l.idx 0 else d
  | .lane =>
    d.when (l.off == 0x10 && modeDiffers (d.rd (laneBase l.idx + 0x10)) v && (d.pairOf l.idx).isSome) (·.landRefuse 3 l.idx 6)
  | .ho => d.when (l.off == 0 && bitAt v 0 && d.hoProtect l.idx) (·.landRefuse 1 l.idx 6)
  | _ => d

/-- LOCK of the block of an address (R43). -/
def Device.blockLocked (d : Device) (a : Nat) (l : Loc) : Bool := d.bit (a - l.off + 0xC) 0

/-- What the bridge refuses, with the record it leaves; none for a write it accepts.
DEDUCED, log entry 15; DEDUCED, log entry 23; DEDUCED, log entry 40. -/
def Device.refusal (d : Device) (a : Nat) (l : Loc) (r : RegRow) (v : Word) : Option (Status × Device) :=
  if d.standbyBars l v then some (.unsupported, d.pwRefuse 4)
  else if r.acc = .rwl ∧ d.blockLocked a l = true then some (.locked, d)
  else if r.acc = .w1c then none
  else
    match l.blk with
    | .fault => (faultCause l r v).map (fun c => (.range, d.fcRefuse c.1 c.2))
    | _ => if d.bridgeBad l r v && !d.memberWord l then some (.range, d.fieldRefuse l r v) else none

/-- The words of a wide register the bridge refuses with RANGE (R289, R514, R522). -/
def Device.wideRefusal (d : Device) (l : Loc) (ws : List Word) : Option (Status × Device) :=
  match l.blk with
  | .tod =>
    if (if l.off % 0x40 = 0x20 then periodWordsBad ws else timeWordsBad ws) then
      some (.range, d.todRefuse 0 (if l.off = 0x40 then 7 else (l.off - 0x200) / 0x40))
    else none
  | .hall => if timeWordsBad ws then some (.range, d) else none
  | _ => none

/-- A write of BLOCK_LOCK (R43, R75): a spent lock is judged before the reserved bits.
DEDUCED, log entry 15; DEDUCED, log entry 17. -/
def Device.lockWrite (d : Device) (a : Nat) (r : RegRow) (v : Word) : Status × Device :=
  if d.bit a 0 && !(bitAt v 0 && bitAt v 9) then (.locked, d)
  else if !r.legal v.toNat then (.range, d)
  else if d.bit a 0 then (.ok, d.setBit a 9 false)
  else (.ok, (d.when (bitAt v 0) (·.setBit a 0 true)).when (bitAt v 9) (·.setBit a 9 false))

/-! Staging and snapshots (R59 to R64). -/

/-- What a master has staged. -/
def Device.staged (d : Device) (m : Nat) : Option Staging := tabGet none d.bus.stages m

/-- Stores a master's staging. -/
def Device.setStaged (d : Device) (m : Nat) (s : Option Staging) : Device :=
  d.onBus (fun b => { b with stages := tabPut none b.stages m s })

/-- A staged write is discarded (R62). -/
def Device.discard (d : Device) (m : Nat) : Device := ((d.setStaged m none).inc 0x98).ev 0x54 3

/-- An access of a master at `a` discards what it has staged (R62): "any other address" is an address outside the 16 bytes of the
staged register.
DESIGN CHOICE, log entry 71. -/
def Device.discards (d : Device) (m a : Nat) : Bool :=
  match d.staged m with
  | some s => !(decide (s.base ≤ a) && decide (a < s.base + 16))
  | none => false

/-- A master accesses an address: a staging of another register is discarded (R62).
DESIGN CHOICE, log entry 71. -/
def Device.touch (d : Device) (m a : Nat) : Device := if d.discards m a then d.discard m else d

/-- The access that discarded is over: WIDE_DISCARD stays 1 where the same access clears it (R48, R62). -/
def Device.touched (d : Device) (m a : Nat) (d1 : Device) : Device := if d.discards m a then d1.ev 0x54 3 else d1

/-- The WRAP flag of a counter clears at its snapshot (R49, R425). -/
def Device.wrapClear (d : Device) (a : Nat) : Device :=
  if isWrapCounter a then d.setBit (a + 4) 16 false
  else
    match rawCounter a with
    | some i => d.rawSet (d.rd 0xD0054).toNat i (d.rawGet (d.rd 0xD0054).toNat i % 2 ^ 48)
    | none => d

/-- A snapshot of a wide register is taken into the reading master's buffer (R59). -/
def Device.snapshot (d : Device) (m base : Nat) : Device :=
  (d.onBus (fun b =>
    { b with snaps := tabPut [] b.snaps m ((List.range 4).map (fun i => d.view (base + 4 * i))) })).wrapClear base

/-- The row of a place. -/
def rowAt (l : Loc) : Option RegRow := (rowsAt l).find? (·.has l.off)

/-- A read of the word at `a` (R41, R46, R49, R59, R72). Words 1 to 3 of any wide register, one of access WO among them, read the
master's snapshot buffer as R59 states; word 0 of a WO register reads zero as R46 states.
DESIGN CHOICE, log entry 72. -/
def Device.readAt (d : Device) (m a : Nat) : Status × Word × Device :=
  match locOf a with
  | none => (.ok, 0, d)
  | some l =>
    match rowAt l with
    | none => (.ok, 0, d)
    | some r =>
      if (match domainOf l with | some x => d.bus.stopped.contains x | none => false) then
        (.timeout, 0, d.raise { src := 22, addr := a, master := m, access := 0, syndrome := 5 })
      else if r.wide then
        if a % 16 < 4 then (.ok, d.view a, d.snapshot m (a / 16 * 16))
        else (.ok, nthWord (tabGet [] d.bus.snaps m) (a % 16 / 4), d)
      else (.ok, d.view a, d)

/-- A read of one word by a master.
DEDUCED, log entry 18. -/
def Device.readWord (d : Device) (m a : Nat) : Status × Word × Device := (d.touch m a).readAt m a

/-! Writes. -/

/-- An accepted write sets CFG_DIRTY when it meets covered configuration (R77). -/
def noteCovered (cov : Bool) (x : Status × Device) : Status × Device := if x.1 = .ok ∧ cov = true then (.ok, x.2.covered) else x

/-- A whole wide register is written (R61): judged, then posted or applied.
DEDUCED, log entry 22. -/
def Device.wideWhole (d : Device) (direct : Bool) (m a : Nat) (l : Loc) (r : RegRow) (ws : List Word) : Status × Device :=
  match d.wideRefusal l ws with
  | some x => x
  | none =>
    noteCovered r.cov
      (match domainOf l with
       | some dom => if direct then d.applyWide a l ws else d.post ⟨m, a, dom, .wide ws⟩
       | none => d.applyWide a l ws)

/-- A write of one word of a wide register (R61 to R63).
DEDUCED, log entry 66. -/
def Device.wideWord (d : Device) (direct : Bool) (m a : Nat) (l : Loc) (r : RegRow) (v : Word) : Status × Device :=
  if a % 16 < 4 then
    (.ok, (if (d.staged m).isSome then d.discard m else d).setStaged m (some ⟨a / 16 * 16, [v]⟩))
  else
    match d.staged m with
    | none => (.narrow, d)
    | some s =>
      if s.base = a / 16 * 16 ∧ s.words.length = a % 16 / 4 then
        if a % 16 / 4 < 3 then (.ok, d.setStaged m (some ⟨s.base, s.words ++ [v]⟩))
        else
          (d.setStaged m none).wideWhole direct m s.base ⟨l.blk, l.idx, l.off - 12⟩ r (s.words ++ [v])
      else (.narrow, d.discard m)

/-- What an accepted write brings with it: windows that begin again and, for the places it can touch, the defects. -/
def settleAt (a : Nat) (d0 d : Device) : Device :=
  match locOf a with
  | some l =>
    match l.blk with
    | .lane | .slice | .ho | .tc => Device.settle d0 (sfChange d0 d)
    | .sel | .landing | .pm => Device.settle d0 d
    | _ => d
  | none => d

/-- A write that is accepted takes effect in place, and what follows it.
DEDUCED, log entry 11. -/
def Device.takeWrite (d : Device) (m a : Nat) (l : Loc) (r : RegRow) (v : Word) : Status × Device :=
  (fun x : Status × Device => (x.1, if x.1 = .ok then settleAt a d x.2 else x.2)) (noteCovered r.cov (d.applyLoc m a l r v))

/-- A write of one word where it falls: `direct` when the target domain has it already. A posted write of covered configuration sets
CFG_DIRTY when the bridge accepts it, whatever its domain answers later.
DEDUCED, log entry 66; DESIGN CHOICE, log entry 73. -/
def Device.writeAt (d : Device) (direct : Bool) (m a : Nat) (v : Word) : Status × Device :=
  match locOf a with
  | none => (.ok, d)
  | some l =>
    match rowAt l with
    | none => (.ok, d)
    | some r =>
      if r.acc = .ro ∨ r.acc = .rs then (.ok, d)
      else if r.acc = .lock then d.lockWrite a r v
      else if r.wide then d.wideWord direct m a l r v
      else
        match d.refusal a l r v with
        | some x => x
        | none =>
          match domainOf l with
          | some dom => if direct then d.takeWrite m a l r v else noteCovered r.cov (d.post ⟨m, a, dom, .word v⟩)
          | none => d.takeWrite m a l r v

/-- The domain of an address. -/
def domainAt (a : Nat) : Option Domain := match locOf a with | some l => domainOf l | none => none

/-- A write of one word by a master. -/
def Device.writeWord (d : Device) (direct : Bool) (m a : Nat) (v : Word) : Status × Device :=
  (fun x : Status × Device => (x.1, d.touched m a x.2)) ((d.touch m a).writeAt direct m a v)

/-- Bytes of a word replaced where enabled: enable `k` covers bits [8k+7:8k]. -/
def mergeBytes (old new : Word) (be : Nat) : Word :=
  (List.range 4).foldl (fun w k => if be / 2 ^ k % 2 = 1 then setFld w (8 * k) 8 (fld new (8 * k) 8) else w) old

/-- A write with byte enables (R53): partial only where the region is byte-writable. -/
def Device.writeBytes (d : Device) (direct : Bool) (m a be : Nat) (v : Word) : Status × Device :=
  if be % 16 = 15 then d.writeWord direct m a v
  else
    match rowOf a with
    | none => (.ok, d.touch m a)
    | some r => if r.byteW then d.writeWord direct m a (mergeBytes (d.rd a) v be) else (.narrow, d.touch m a)

/-- The address is word 0 of a wide register that takes writes. -/
def wideAt (a : Nat) : Option (Loc × RegRow) :=
  match locOf a with
  | none => none
  | some l =>
    match rowAt l with
    | some r => if r.wide && r.acc != .rs && r.acc != .ro && a % 16 == 0 then some (l, r) else none
    | none => none

/-- One 16-byte write of a wide register (R64): what the master held staged is discarded. -/
def Device.wideOnce (d : Device) (m a : Nat) (l : Loc) (r : RegRow) (ws : List Word) : Status × Device :=
  (if (d.staged m).isSome then d.discard m else d).wideWhole false m a l r ws

/-- Whether the register that holds an address is wide. -/
def wideReg (a : Nat) : Bool := match rowOf a with | some r => r.wide | none => false

/-- A multi-word write (R56, R64): its status, the words written, the device, and whether the refused word was wide.
DEDUCED, log entry 22. -/
def Device.writeWords (d : Device) (m a : Nat) : Nat → List Word → Status × Nat × Bool × Device
  | n, [] => (.ok, n, false, d)
  | n, w0 :: w1 :: w2 :: w3 :: t =>
    match wideAt (a + 4 * n) with
    | some (l, r) =>
      match d.wideOnce m (a + 4 * n) l r [w0, w1, w2, w3] with
      | (.ok, d1) => d1.writeWords m a (n + 4) t
      | (st, d1) => (st, n, true, d1)
    | none =>
      match d.writeWord false m (a + 4 * n) w0 with
      | (.ok, d1) => d1.writeWords m a (n + 1) (w1 :: w2 :: w3 :: t)
      | (st, d1) => (st, n, false, d1)
  | n, w0 :: t =>
    match d.writeWord false m (a + 4 * n) w0 with
    | (.ok, d1) => d1.writeWords m a (n + 1) t
    | (st, d1) => (st, n, wideReg (a + 4 * n), d1)

/-- A multi-word read (R32, R55): status and index of the first failing word, the words, the device. `ecc` lists the words
that meet an uncorrectable memory error.
DEDUCED, log entry 22. -/
def Device.readWords (d : Device) (m a : Nat) (ecc : List Nat) : Nat → Nat → Status × Nat × List Word × Device
  | _, 0 => (.ok, 0xFFFF, [], d)
  | i, n + 1 =>
    (fun x : Status × Word × Device =>
      (fun st : Status =>
        (fun y : Status × Nat × List Word × Device =>
          if st = .ok then (y.1, y.2.1, x.2.1 :: y.2.2.1, y.2.2.2) else (st, i, (0 : Word) :: y.2.2.1, y.2.2.2))
        (x.2.2.readWords m a ecc (i + 1) n))
      (if x.1 = .ok ∧ ecc.contains i = true then .ecc else x.1))
    (d.readWord m (a + 4 * i))

/-! Whole accesses: a refusal is counted once (R51), the completion stands for its master. -/

/-- The completion of a master's access. -/
def Device.complete (d : Device) (m : Nat) (c : Completion) : Device :=
  d.onBus (fun b => { b with done := tabPut {} b.done m c })

/-- An access ends: a refusal is recorded, the completion stored.
DEDUCED, log entry 65. -/
def Device.ended (x : Access) (a : Nat) (r : Status × Device) : Device :=
  (r.2.refused x r.1 a).complete x.master { status := r.1 }

/-- A 32-bit write by a master, as it reaches the bridge: `be` are its byte enables. -/
def Device.busWrite (d : Device) (m a be : Nat) (v : Word) : Device :=
  Device.ended { master := m, wide := wideReg a } a
    (if a % 4 ≠ 0 then (.unaligned, d.touch m a) else d.writeBytes false m a be v)

/-- A read of one word that meets an uncorrectable memory error or does not (R32): ECC, and zero in its place. -/
def Device.readEcc (d : Device) (m a : Nat) (ecc : Bool) : Status × Word × Device :=
  match d.readWord m a with
  | (.ok, v, d1) => if ecc then (.ecc, 0, d1) else (.ok, v, d1)
  | x => x

/-- A read-modify-write in one go (R58): the status, the value read and the device. A read that meets an uncorrectable error ends
it with nothing written (R32).
DEDUCED, log entry 22. -/
def Device.rmwNow (d : Device) (m a : Nat) (mask val : Word) (ecc : Bool) : Status × Word × Device :=
  match d.readEcc m a ecc with
  | (.ok, old, d1) =>
    (fun x : Status × Device => (x.1, old, d.touched m a x.2)) (d1.writeWord true m a ((old &&& ~~~mask) ||| (val &&& mask)))
  | (st, _, d1) => (st, 0, d1)

/-! The target domains (R68 to R73). -/

/-- The first entry of a queue for a domain, and the queue without it. -/
def popFor (m : Domain) : List Posted → Option (Posted × List Posted)
  | [] => none
  | p :: t => if p.dom = m then some (p, t) else (popFor m t).map (fun x => (x.1, p :: x.2))

/-- A posted entry takes effect in its domain; a refusal there is counted and its posted completion stays OK (R482).
DEDUCED, log entry 18. -/
def Device.takeEffect (d : Device) (p : Posted) : Device :=
  match locOf p.addr with
  | none => d
  | some l =>
    match rowAt l with
    | none => d
    | some r =>
      (fun x : Status × Device =>
        if x.1 = .ok then settleAt p.addr d x.2 else x.2.refused { master := p.master, wide := r.wide } x.1 p.addr)
      (match p.kind with
       | .word v => d.applyLoc p.master p.addr l r v
       | .wide ws => d.applyWide p.addr l ws
       | .rmw _ _ => (.ok, d))

/-- A domain takes its oldest posted write (R68, R69).
DEDUCED, log entry 10. -/
def Device.takePosted (d : Device) (m : Domain) : Device :=
  match popFor m (d.queueOf m) with
  | some (p, q) =>
    (match p.kind with
     | .rmw _ _ => d
     | _ => ((d.setQueue m q).domRun m).takeEffect p)
  | none => d

/-- A stopped domain loses its oldest posted write (R72).
DEDUCED, log entry 10; DEDUCED, log entry 17; DEDUCED, log entry 18. -/
def Device.losePosted (d : Device) (m : Domain) : Device :=
  match popFor m (d.queueOf m) with
  | some (p, q) =>
    (match p.kind with
     | .rmw _ _ => d
     | _ =>
       ((((match locOf p.addr with
           | some l => ((d.setQueue m q).domStop m).setBit (p.addr - l.off + 0xC) 9 true
           | none => d).inc 0x90).ev 0x54 4).raise
         { src := 22, addr := p.addr, master := p.master, access := 1, syndrome := 5 }))
  | none => d

/-- The oldest posted entry of a domain is an RMW: it is executed there (R70). -/
def Device.rmwAnswer (d : Device) (m : Domain) (ecc : Bool) : Option (Posted × Status × Word × Device) :=
  match popFor m (d.queueOf m) with
  | some (p, q) =>
    (match p.kind with
     | .rmw mask val =>
       (fun x : Status × Word × Device =>
         some (p, x.1, x.2.1, x.2.2.refused { master := p.master, rmw := true, wide := wideReg p.addr } x.1 p.addr))
       (((d.setQueue m q).domRun m).rmwNow p.master p.addr mask val ecc)
     | _ => none)
  | none => none

/-- The oldest posted entry of a domain is an RMW and nothing answers (R70): it has had no effect. -/
def Device.rmwLost (d : Device) (m : Domain) : Option (Posted × Device) :=
  match popFor m (d.queueOf m) with
  | some (p, q) =>
    (match p.kind with
     | .rmw _ _ =>
       some (p, ((d.setQueue m q).refused { master := p.master, rmw := true, wide := wideReg p.addr } .timeout p.addr).raise
         { src := 22, addr := p.addr, master := p.master, access := 2, syndrome := 5 })
     | _ => none)
  | none => none

/-- Every posted write waiting for a domain takes effect, oldest first: the queue is at most `n` long. -/
def Device.drainDomain (d : Device) (m : Domain) : Nat → Device
  | 0 => d
  | n + 1 => (d.takePosted m).drainDomain m n

/-- A register command to the domain of an address: every write posted before it takes effect first (R69), while the domain runs.
DEDUCED, log entry 10. -/
def Device.drainFor (d : Device) (a : Nat) : Device :=
  match domainAt a with
  | some m => if d.bus.stopped.contains m then d else d.drainDomain m (d.queueOf m).length
  | none => d

/-- A 32-bit write that has its effect in the same command, in whichever domain the register stands: the writes posted before it
take effect first, then it is accepted and takes effect. In a stopped domain it stays posted.
DEDUCED, log entry 10. -/
def Device.cmdWrite (d : Device) (m a : Nat) (v : Word) : Device := ((d.drainFor a).busWrite m a 15 v).drainFor a

/-! The configuration CRC (R76 to R82). -/

/-- The address is covered configuration (R76). -/
def coveredAt (a : Nat) : Bool :=
  match rowOf a with
  | some r => r.cov && (r.acc == .rw || r.acc == .rwl)
  | none => false

/-- The CRC over all covered configuration in ascending address order.
PRESUMED, log entry 19. -/
def Device.cfgCrc (d : Device) : Word :=
  wd (crc32c (((List.range 0x190C000).map (4 * ·)).filter coveredAt |>.flatMap (fun a => wordBytesLE (d.rd a))))

/-- A bit error in the memory of covered configuration.
PRESUMED, log entry 19. -/
def Device.upset (d : Device) (e : Nat × Word) : Device := if coveredAt e.1 then d.wr e.1 (d.rd e.1 ^^^ e.2) else d

/-- The pass is the one to latch (R78).
DESIGN CHOICE, log entry 20. -/
def Device.crcLatch (d : Device) (crc : Word) : Device :=
  (fun d1 : Device =>
    (match d.crc.commitRec with | some k => (d1.opSteps k 1).opClose k .ok | none => d1).when (decide (d.bootPhase = 7))
      (·.extend 0x10 3 (sha12 (wordBytes crc))))
  ((((((({ d with crc := { d.crc with latchThis := false, commitRec := none } } : Device).wr 0x38 crc).setBit 0x50 0 true).setBit
    0x50 1 false).setBit 0x50 2 false).setBit 0x50 3 false).ev 0x54 0)

/-- A pass that is compared (R80, R82). -/
def Device.crcCompare (d : Device) (crc : Word) : Device :=
  if d.bit 0x50 0 && !d.bit 0x50 1 && !d.crc.dirtyPass then
    if crc = d.rd 0x38 then d.setBit 0x50 3 false
    else (((d.setBit 0x50 3 true).ev 0x54 1).inc 0x44).raiseSrc 25
  else d

/-- The end of a pass, with the bit errors since the last one.
PRESUMED, log entry 19. -/
def Device.passEnds (d : Device) (upsets : List (Nat × Word)) : Device :=
  (fun d1 : Device =>
    (fun crc : Word =>
      (fun d2 : Device =>
        { d2 with crc := { d2.crc with dirtyPass := false, latchThis := d2.bit 0x50 2 } })
      (if d1.bit 0x50 2 && d1.crc.latchThis && !d1.crc.dirtyPass then ((d1.wr 0x3C crc).incWrap 0x40).crcLatch crc
       else ((d1.wr 0x3C crc).incWrap 0x40).crcCompare crc))
    d1.cfgCrc)
  ((fun d1 : Device => tcRequeue d (selRequeue d d1)) (upsets.foldl Device.upset d))

/-- CFG_DIRTY has stayed 1 beyond CFG_DIRTY_LIMIT (R81).
DESIGN CHOICE, log entry 62. -/
def Device.dirtyLong (d : Device) : Device := if d.bit 0x50 1 then (d.ev 0x54 2).raiseSrc 26 else d

end Sys2Proof.Machine
end

