-- ==== Sys2Proof/Machine/PorchTxn.lean ====
section
/-! DEFINITION. The register transactions of the Porch (R622 to R624), the answers of other clock domains (R70), and the I2C
target (R632 to R634). -/

namespace Sys2Proof.Machine
open Sys2Proof

/-- The bytes of a word that byte enables select, the others zero (R52). -/
def maskBytes (w : Word) (be : Nat) : Word := mergeBytes 0 w be

/-- A READ (R55, R623). -/
def Device.txnRead (d : Device) (tag a n be : Nat) (ecc : List Nat) : Device :=
  if a % 4 ≠ 0 ∨ n % 4 ≠ 0 then
    ((d.touch 0 a).refused { master := 0, write := false } .unaligned a).porchReply 1 tag .unaligned a 0xFFFF []
  else if n = 0 ∨ 256 < n ∨ (be ≠ 15 ∧ 4 < n) then
    ((d.touch 0 a).refused { master := 0, write := false } .range a).porchReply 1 tag .range a 0xFFFF []
  else
    (fun x : Status × Nat × List Word × Device =>
      (fun ws : List Word =>
        ((x.2.2.2.refused { master := 0, write := false, wide := wideReg (a + 4 * x.2.1) } x.1 (a + 4 * x.2.1)).complete 0
          { status := x.1, words := ws, failIdx := x.2.1 }).porchReply 1 tag x.1 a x.2.1 (ws.flatMap wordBytes))
      (if n = 4 then x.2.2.1.map (fun w => maskBytes w be) else x.2.2.1))
    (d.readWords 0 a ecc 0 (n / 4))

/-- A WRITE (R53, R56, R623). -/
def Device.txnWrite (d : Device) (tag a be : Nat) (ws : List Word) : Device :=
  if a % 4 ≠ 0 then ((d.touch 0 a).refused { master := 0 } .unaligned a).porchReply 2 tag .unaligned a 0 []
  else if ws.length = 0 ∨ 64 < ws.length ∨ (be ≠ 15 ∧ 1 < ws.length) then
    ((d.touch 0 a).refused { master := 0 } .range a).porchReply 2 tag .range a 0 []
  else
    (fun x : Status × Nat × Bool × Device =>
      ((x.2.2.2.refused { master := 0, wide := x.2.2.1 } x.1 (a + 4 * x.2.1)).complete 0
        { status := x.1, failIdx := x.2.1 }).porchReply 2 tag x.1 a x.2.1 [])
    (if be = 15 then d.writeWords 0 a 0 ws
     else
       (fun y : Status × Device => (y.1, if y.1 = .ok then 1 else 0, wideReg a, y.2)) (d.writeBytes false 0 a be (nthWord ws 0)))

/-- An RMW (R58, R70, R623): one into another clock domain waits for its answer. -/
def Device.txnRmw (d : Device) (tag a : Nat) (ws : List Word) (ecc : Bool) : Device :=
  if a % 4 ≠ 0 then ((d.touch 0 a).refused { master := 0, rmw := true } .unaligned a).porchReply 3 tag .unaligned a 0 (wordBytes 0)
  else if ws.length ≠ 2 then ((d.touch 0 a).refused { master := 0, rmw := true } .range a).porchReply 3 tag .range a 0 (wordBytes 0)
  else
    match domainAt a with
    | some m =>
      match (d.touch 0 a).post ⟨0, a, m, .rmw (nthWord ws 0) (nthWord ws 1)⟩ with
      | (.ok, d1) => d1.onPorch (fun p => { p with rmw := some tag })
      | (st, d1) => (d1.refused { master := 0, rmw := true, wide := wideReg a } st a).porchReply 3 tag st a 0 (wordBytes 0)
    | none =>
      (fun x : Status × Word × Device =>
        ((x.2.2.refused { master := 0, rmw := true, wide := wideReg a } x.1 a).complete 0
          { status := x.1, words := [x.2.1] }).porchReply 3 tag x.1 a 0 (wordBytes x.2.1))
      (d.rmwNow 0 a (nthWord ws 0) (nthWord ws 1) ecc)

/-- The pairs of a WRITE_BULK, each a single 4-byte write, up to the first refused (R624): its status, the pairs done. -/
def Device.bulkPairs (d : Device) : Nat → List Word → Status × Nat × Device
  | n, a :: v :: t =>
    (fun x : Status × Device =>
      match x.1 with
      | .ok => x.2.bulkPairs (n + 1) t
      | st => (st, n, x.2.refused { master := 0, wide := wideReg a.toNat } st a.toNat))
    (if a.toNat % 4 ≠ 0 then (.unaligned, d.touch 0 a.toNat) else d.writeWord false 0 a.toNat v)
  | n, _ => (.ok, n, d)

/-- A WRITE_BULK (R623, R624).
DEDUCED, log entry 56. -/
def Device.txnBulk (d : Device) (tag : Nat) (ws : List Word) : Device :=
  if ws.length = 0 ∨ ws.length % 2 ≠ 0 then (d.refused { master := 0 } .range 0).porchReply 4 tag .range 0 0 []
  else
    match d.opOpen 3 0 (ws.length / 2) with
    | (none, d1) => (d1.refused { master := 0 } .busy 0).porchReply 4 tag .busy 0 0 []
    | (some k, d1) =>
      (fun x : Status × Nat × Device =>
        (fun d2 : Device =>
          (d2.complete 0 { status := x.1, failIdx := x.2.1, opId := (d2.opId k).toNat }).porchReply 4 tag x.1 0 x.2.1
            (wordBytes (d2.opId k)))
        (if x.1 = .ok then (x.2.2.opSteps k x.2.1).opClose k .ok
         else
           ((((x.2.2.opSteps k x.2.1).opFail k x.2.1).opDetail k x.1.code).opClose k
             (if x.2.1 = 0 then .abandoned else .partly))))
      (d1.bulkPairs 0 ws)

/-- A register transaction is executed.
DEDUCED, log entry 56. -/
def Device.runTxn (d : Device) (tag : Nat) : PTxn → Device
  | .rd a n be ecc => d.txnRead tag a n be ecc
  | .wr a be ws => d.txnWrite tag a be ws
  | .rmw a ws ecc => d.txnRmw tag a ws ecc
  | .bulk ws => d.txnBulk tag ws

/-- A register transaction arrives: executed in SEQ order, behind an RMW that waits for its domain (R622).
DEDUCED, log entry 56. -/
def Device.porchTxn (d : Device) (h : PHead) (t : PTxn) : Device :=
  match d.porchRequest h (ptxnCode t) with
  | (false, d1) => d1
  | (true, d1) =>
    if d1.porch.rmw.isSome then d1.onPorch (fun p => { p with waiting := p.waiting ++ [(h.tag, t)] }) else d1.runTxn h.tag t

/-- The transactions behind an answered RMW are executed, up to the next RMW that waits.
DEDUCED, log entry 56. -/
def Device.runWaiting (d : Device) : Nat → Device
  | 0 => d
  | n + 1 =>
    match d.porch.rmw, d.porch.waiting with
    | none, x :: t => ((d.onPorch (fun p => { p with waiting := t })).runTxn x.1 x.2).runWaiting n
    | _, _ => d

/-- An RMW of the Porch has its answer. -/
def Device.rmwReply (d : Device) (p : Posted) (st : Status) (old : Word) : Device :=
  (fun d1 : Device =>
    match d1.porch.rmw with
    | some tag =>
      if p.master = 0 then
        (fun d2 : Device => d2.runWaiting d2.porch.waiting.length)
          ((d1.onPorch (fun q => { q with rmw := none })).porchReply 3 tag st p.addr 0 (wordBytes old))
      else d1
    | none => d1)
  (d.complete p.master { status := st, words := [old] })

/-- A target domain executes the RMW at the head of its writes and answers (R70).
DEDUCED, log entry 56. -/
def Device.crossAnswer (d : Device) (m : Domain) (ecc : Bool) : Device :=
  match d.rmwAnswer m ecc with
  | some (p, st, old, d1) => d1.rmwReply p st old
  | none => d

/-- No answer within 10 us (R70, R72). -/
def Device.crossTimeout (d : Device) (m : Domain) : Device :=
  match d.rmwLost m with
  | some (p, d1) => d1.rmwReply p .timeout 0
  | none => d

/-! The I2C target. -/

/-- An I2C write of 4 bytes (R633): the pointer; `stop` ends the transfer. -/
def Device.i2cPointer (d : Device) (v : Nat) (stop : Bool) : Device :=
  d.onPorch (fun p => { p with ptr := v % 2 ^ 32, ptrSet := !stop })

/-- An access of the I2C target ends with its status.
DEDUCED, log entry 57. -/
def Device.i2cEnd (d : Device) (st : Status) : Device :=
  (d.when (decide (st = .ok)) (·.incWrap 0x30070)).onPorch (fun p => { p with i2c := st, ptrSet := false })

/-- A refusal by the target itself (R633, R634). -/
def Device.i2cRefuse (d : Device) (st : Status) (a : Nat) (write : Bool) : Device :=
  ((d.inc 0x30074).refused { master := 6, write := write } st a).complete 6 { status := st }

/-- An I2C read of `n` words from the pointer (R633, R634): the words of GLOBAL and FAULT are served, the others are zeros.
DEDUCED, log entry 57. -/
def Device.i2cRead (d : Device) (n : Nat) (ecc : List Nat) : Device :=
  (fun (a : Nat) (d1 : Device) =>
    if a < 0x20000 ∧ a % 4 ≠ 0 then
      ((d1.refused { master := 6, write := false } .unaligned a).complete 6 { status := .unaligned }).i2cEnd .unaligned
    else if a + 4 * n ≤ 0x20000 then
      (fun x : Status × Nat × List Word × Device =>
        ((x.2.2.2.refused { master := 6, write := false } x.1 (a + 4 * x.2.1)).complete 6
          { status := x.1, words := x.2.2.1, failIdx := x.2.1 }).i2cEnd x.1)
      (d1.readWords 6 a ecc 0 n)
    else
      (fun (k : Nat) (x : Status × Nat × List Word × Device) =>
        (fun st : Status =>
          ((x.2.2.2.i2cRefuse st (a + 4 * min x.2.1 k) false).complete 6
            { status := st, words := x.2.2.1 ++ List.replicate (n - k) 0 }).i2cEnd st)
        (if x.1 = .ok then .unsupported else x.1))
      ((0x20000 - a) / 4) (d1.readWords 6 a ecc 0 ((0x20000 - a) / 4)))
  d.porch.ptr (d.onPorch (fun p => { p with ptr := (p.ptr + 4 * n) % 2 ^ 32 }))

/-- The registers the I2C target may write (R634). -/
def i2cWritable (a : Nat) : Bool := [0x20, 0x54, 0xA0, 0x1001C, 0x10014].contains a

/-- An I2C write of 8 bytes (R633, R634). -/
def Device.i2cWrite (d : Device) (a : Nat) (v : Word) : Device :=
  (fun d1 : Device =>
    if i2cWritable a then (fun d2 : Device => d2.i2cEnd (tabGet {} d2.bus.done 6).status) (d1.busWrite 6 a 15 v)
    else (d1.i2cRefuse .unsupported a true).i2cEnd .unsupported)
  (d.i2cPointer a false)

/-- A 1-byte read with no pointer set in the transfer: the status of the last access; after a pointer it is a read there, which may
meet an uncorrectable error (R32).
DEDUCED, log entry 57. -/
def Device.i2cStatus (d : Device) (ecc : Bool) : Device :=
  if d.porch.ptrSet then d.i2cRead 1 (if ecc then [0] else []) else d.complete 6 { status := .ok, words := [wd d.porch.i2c.code] }

/-- A write of a wrong length (R633).
DEDUCED, log entry 57. -/
def Device.i2cBad (d : Device) : Device := (d.i2cRefuse .range d.porch.ptr true).i2cEnd .range

/-- SCL low for more than 35 ms (R634). -/
def Device.i2cScl (d : Device) (ms : Nat) : Device :=
  if ms ≤ 35 then d else (d.onPorch (fun p => { p with ptrSet := false })).inputEnter 10 2 ms

end Sys2Proof.Machine
end

