-- ==== Sys2Proof/Machine/BootLoad.lean ====
section
/-! DEFINITION. The configuration load (R590, R591, R600 to R603): the records of the image being applied, one by one. -/

namespace Sys2Proof.Machine
open Sys2Proof

/-- Updates the load in progress. -/
def Device.onLoad (d : Device) (f : Load → Load) : Device := d.onBoot (fun b => { b with load := b.load.map f })

/-- The load in progress, while its image is applied. -/
def Device.loading (d : Device) : Option Load := if d.bootPhase = 5 then d.boot.load else none

/-- A record fails (R590, R591, R602): `kind` and `st` with the payload word `pw` in DETAIL.
DEDUCED, log entry 59. -/
def Device.loadFail (d : Device) (l : Load) (kind : Nat) (st : Status) (pw : Nat) : Device :=
  (fun d1 : Device =>
    (fun d2 : Device =>
      if l.fallback || !d2.bit 0x20040 3 then (d2.onBoot (fun b => { b with load := none })).bootDone
      else (d2.onBoot (fun b => { b with load := some { l with wait := none } })).phaseTo 6)
    ((d1.ev 0x20014 1).safeEnter 0 2))
  (match l.op with
   | some k =>
     ((d.opFail k l.idx).opDetail k (st.code + 16 * kind + 256 * (pw % 2 ^ 24))).opClose k
       (if l.idx = 0 then .abandoned else .partly)
   | none => d)

/-- TYPE and PAYLOAD_WORDS of a record's header word (R600). -/
def recType (w : Word) : Nat := fld w 0 8

/-- The payload words of each record type; none for a reserved type. BLOCK has 2 or more. -/
def recWords : Nat → Option Nat
  | 1 => some 2 | 2 => some 3 | 3 => some 5 | 4 => some 3 | 5 => some 2 | 6 => some 4 | 7 => some 1 | 8 => some 0 | 9 => some 1
  | 15 => some 0 | _ => none

/-- The base address of a register block of R40. -/
def isBlockBase (a : Nat) : Bool :=
  match locOf a with
  | some l => l.off == 0 && (match l.blk with | .ho | .tc | .pmStore | .page | .trace | .sel => false | _ => true)
  | none => false

/-- Whether the record at the front of the body is malformed (R602 FORMAT).
DEDUCED, log entry 61. -/
def Load.malformed (l : Load) : Bool :=
  match l.body with
  | [] => true
  | w :: t =>
    (fun (n typ : Nat) (pl : List Word) =>
      (match recWords typ with
       | none => true
       | some k => if typ = 5 then decide (n < 2) else decide (n ≠ k)) ||
      decide (fld w 24 8 ≠ 0) || decide (t.length < n) || ((typ == 15) != (l.idx + 1 == l.count)) ||
      ((typ == 1 || typ == 2 || typ == 4 || typ == 5 || typ == 6) && (nthWord pl 0).toNat % 4 != 0) ||
      (typ == 3 && (nthWord pl 0).toNat % 16 != 0) ||
      (typ == 4 && ((nthWord pl 1 == 0) || decide (16777216 < (nthWord pl 1).toNat))) ||
      (typ == 6 && ((nthWord pl 3 == 0) || decide (10000000 < (nthWord pl 3).toNat))) ||
      (typ == 7 && ((nthWord pl 0 == 0) || decide (10000000 < (nthWord pl 0).toNat))) ||
      (typ == 9 && !isBlockBase (nthWord pl 0).toNat))
    (fld w 8 16) (recType w) (t.take (fld w 8 16))

/-- The next record is looked at: a malformed one fails before it acts. -/
def Device.loadPeek (d : Device) : Device :=
  match d.loading with
  | some l => if l.malformed then d.loadFail l 1 .range 0 else d
  | none => d

/-- The payload of the record of a type that stands next, while nothing waits. -/
def Device.nextRec (d : Device) (typ : Nat) : Option (Load × List Word) :=
  match d.loading with
  | some l =>
    match l.body with
    | w :: t => if recType w = typ ∧ l.wait = none then some (l, t.take (fld w 8 16)) else none
    | [] => none
  | none => none

/-- The record in hand is applied: the next one is looked at. -/
def Device.loadOk (d : Device) : Device :=
  match d.loading with
  | some l =>
    (match l.op with | some k => d.opSteps k (l.idx + 1) | none => d).onLoad (fun l =>
      { l with idx := l.idx + 1, body := l.body.drop (1 + (match l.body with | w :: _ => fld w 8 16 | [] => 0)), wait := none })
    |>.loadPeek
  | none => d

/-- A word of a record is written (R601): into another clock domain as an RMW of all its bits, after what is posted there.
DEDUCED, log entry 61. -/
def Device.loadWord (d : Device) (a : Nat) (v : Word) : Status × Device :=
  match domainAt a with
  | some _ =>
    (fun x : Status × Word × Device => (x.1, x.2.2.refused { master := 3, rmw := true, wide := wideReg a } x.1 a))
      ((d.drainFor a).rmwNow 3 a 0xFFFFFFFF v false)
  | none =>
    (fun x : Status × Device => (x.1, x.2.refused { master := 3, wide := wideReg a } x.1 a)) (d.writeWord false 3 a v)

/-- Consecutive words are written up to the first refused: its status and index.
DEDUCED, log entry 61. -/
def Device.loadWords (d : Device) (a : Nat) : Nat → List Word → Status × Nat × Device
  | n, [] => (.ok, n, d)
  | n, v :: t =>
    match d.loadWord (a + 4 * n) v with
    | (.ok, d1) => d1.loadWords a (n + 1) t
    | (st, d1) => (st, n, d1)

/-- The accesses of a record are over: it is applied, or it fails at payload word `pw`. A reset that it caused ends the load. -/
def Device.loadDone (d : Device) (st : Status) (pw : Nat) : Device :=
  if st = .ok then d.loadOk
  else
    match d.loading with
    | some l => d.loadFail l 0 st pw
    | none => d

/-- WR32 (R600). -/
def Device.recWr32 (d : Device) : Device :=
  match d.nextRec 1 with
  | some (_, pl) => (fun x : Status × Device => x.2.loadDone x.1 1) (d.loadWord (nthWord pl 0).toNat (nthWord pl 1))
  | none => d

/-- WRM32 (R58, R600); its read may meet an uncorrectable error (R32). -/
def Device.recWrm32 (d : Device) (ecc : Bool) : Device :=
  match d.nextRec 2 with
  | some (_, pl) =>
    (fun a : Nat =>
      (fun x : Status × Word × Device =>
        (x.2.2.refused { master := 3, rmw := true, wide := wideReg a } x.1 a).loadDone x.1 2)
      ((d.drainFor a).rmwNow 3 a (nthWord pl 1) (nthWord pl 2) ecc))
    (nthWord pl 0).toNat
  | none => d

/-- WR128 (R64, R600): one 16-byte write; its words go one by one into another clock domain.
DEDUCED, log entry 61. -/
def Device.recWr128 (d : Device) : Device :=
  match d.nextRec 3 with
  | some (_, pl) =>
    (fun a : Nat =>
      match domainAt a with
      | some _ => (fun x : Status × Nat × Device => x.2.2.loadDone x.1 (1 + x.2.1)) (d.loadWords a 0 (pl.drop 1))
      | none =>
        (fun x : Status × Nat × Bool × Device =>
          (x.2.2.2.refused { master := 3, wide := x.2.2.1 } x.1 (a + 4 * x.2.1)).loadDone x.1 (1 + x.2.1))
        (d.writeWords 3 a 0 (pl.drop 1)))
    (nthWord pl 0).toNat
  | none => d

/-- FILL (R600). -/
def Device.recFill (d : Device) : Device :=
  match d.nextRec 4 with
  | some (_, pl) =>
    (fun x : Status × Nat × Device => x.2.2.loadDone x.1 2)
      (d.loadWords (nthWord pl 0).toNat 0 (List.replicate (nthWord pl 1).toNat (nthWord pl 2)))
  | none => d

/-- BLOCK (R600). -/
def Device.recBlock (d : Device) : Device :=
  match d.nextRec 5 with
  | some (_, pl) =>
    (fun x : Status × Nat × Device => x.2.2.loadDone x.1 (1 + x.2.1)) (d.loadWords (nthWord pl 0).toNat 0 (pl.drop 1))
  | none => d

/-- One read of a POLL (R32, R600): a match ends the record. -/
def Device.pollRead (d : Device) (a : Nat) (mask val : Word) (till : Nat) (ecc : Bool) : Device :=
  (fun x : Status × Word × Device =>
    (fun d1 : Device =>
      if x.1 = .ok then
        if x.2.1 &&& mask = val then d1.loadOk else d1.onLoad (fun l => { l with wait := some (.poll a mask val till) })
      else d1.loadDone x.1 0)
    (x.2.2.refused { master := 3, write := false } x.1 a))
  (d.readEcc 3 a ecc)

/-- POLL begins, or reads again. -/
def Device.recPoll (d : Device) (ecc : Bool) : Device :=
  match d.loading with
  | some l =>
    (match l.wait with
     | some (.poll a mask val till) => d.pollRead a mask val till ecc
     | _ =>
       match d.nextRec 6 with
       | some (_, pl) => d.pollRead (nthWord pl 0).toNat (nthWord pl 1) (nthWord pl 2) (d.uptime + 200 * (nthWord pl 3).toNat) ecc
       | none => d)
  | none => d

/-- The timeout of a POLL elapses (R602). -/
def Device.pollTimeout (d : Device) : Device :=
  match d.loading with
  | some l => (match l.wait with | some (.poll _ _ _ till) => (d.reach till).loadFail l 2 .timeout 0 | _ => d)
  | none => d

/-- DELAY begins (R600). -/
def Device.recDelay (d : Device) : Device :=
  match d.nextRec 7 with
  | some (_, pl) => d.onLoad (fun l => { l with wait := some (.delay (d.uptime + 200 * (nthWord pl 0).toNat)) })
  | none => d

/-- The wait of a DELAY ends. -/
def Device.delayElapsed (d : Device) : Device :=
  match d.loading with
  | some l => (match l.wait with | some (.delay till) => (d.reach till).loadOk | _ => d)
  | none => d

/-- COMMIT_CFG writes CFG_COMMIT and waits (R78, R600). -/
def Device.recCommit (d : Device) : Device :=
  match d.nextRec 8 with
  | some _ =>
    (fun x : Status × Device =>
      if x.1 = .ok then x.2.onLoad (fun l => { l with wait := some (.commit (d.uptime + ms 100)) }) else x.2.loadDone x.1 0)
    (d.loadWord 0x30 1)
  | none => d

/-- A COMMIT_CFG that waits ends when COMMITTED is 1 and no commit is pending. -/
def Device.commitCheck (d : Device) : Device :=
  match d.loading with
  | some l =>
    (match l.wait with
     | some (.commit _) => if d.bit 0x50 0 = true ∧ d.bit 0x50 2 = false then d.loadOk else d
     | _ => d)
  | none => d

/-- COMMITTED is not 1 within 100 ms (R602). -/
def Device.commitTimeout (d : Device) : Device :=
  match d.loading with
  | some l => (match l.wait with | some (.commit till) => (d.reach till).loadFail l 3 .timeout 0 | _ => d)
  | none => d

/-- LOCK is recorded (R590, R600). -/
def Device.recLock (d : Device) : Device :=
  match d.nextRec 9 with
  | some (_, pl) => (d.onLoad (fun l => { l with locks := l.locks ++ [(nthWord pl 0).toNat] })).loadOk
  | none => d

/-- The recorded locks are applied, each block once (R603): the status of the first that is refused otherwise than as set. -/
def Device.applyLocks (d : Device) : List Nat → Status × Device
  | [] => (.ok, d)
  | b :: t =>
    match d.loadWord (b + 0xC) 1 with
    | (.ok, d1) => d1.applyLocks t
    | (.locked, d1) => d1.applyLocks t
    | (st, d1) => (st, d1)

/-- The image in hand, as the verification pass read it. -/
def Device.loadImage (d : Device) (l : Load) : SlotObs := if l.slot = 3 then d.boot.cfgB else d.boot.cfgA

/-- The load has ended OK (R590, R591). -/
def Device.loadEnd (d : Device) (l : Load) : Device :=
  (fun d1 : Device =>
    (fun d2 : Device => (d2.onBoot (fun b => { b with load := none })).bootDone)
      (if l.fallback then (d1.busWrite 3 0x1001C 15 1).setBit 0x20010 7 true else d1))
  ((((match l.op with | some k => (d.opSteps k (l.idx + 1)).opClose k .ok | none => d).setBit 0x20010 6 true).setBit 0x20010 5
    (decide (l.slot = 3))).wr 0x20024 (wd (slotGen (d.loadImage l))))

/-- END (R602, R603): the SHA-384 over the image as the apply pass read it must be its DIGEST.
DEDUCED, log entry 61. -/
def Device.recEnd (d : Device) (o : SlotObs) : Device :=
  match d.nextRec 15 with
  | some (l, _) =>
    if slotSum o = slotDigest (d.loadImage l) then
      (fun x : Status × Device => if x.1 = .ok then x.2.loadEnd l else x.2.loadFail l 0 x.1 0) (d.applyLocks l.locks.eraseDups)
    else d.loadFail l 4 .ecc 0
  | none => d

end Sys2Proof.Machine
end

