-- ==== Sys2Proof/Machine/Tap.lean ====
section
/-! DEFINITION. The test access port (R680 to R682). -/

namespace Sys2Proof.Machine
open Sys2Proof

/-- The IDCODE register (R680). -/
def idcode : Word := 0x164409A7

/-- The cells of the boundary register (R681). -/
def boundaryCells : Nat := 1642

/-- The instruction codes of R680; every other value acts as BYPASS. -/
def tapCodes : List Nat := [0x00, 0x01, 0x02, 0x04, 0x05, 0x09, 0x0A, 0xFF]

/-- Update-IR loads an instruction (R680). -/
def TapSt.load (t : TapSt) (ir : Nat) : TapSt := { t with ir := if tapCodes.contains ir then ir else 0xFF }

/-- The boundary register takes what was shifted into it or what the pins show (R681). -/
def TapSt.cells (t : TapSt) (l : List Bool) : TapSt :=
  { t with boundary := l.take boundaryCells ++ List.replicate (boundaryCells - l.length) false }

/-- The register the instruction selects (R680). -/
def TapSt.reg (t : TapSt) : TapReg :=
  if t.ir = 0x01 then .idcode else if t.ir = 0x04 ∨ t.ir = 0x05 ∨ t.ir = 0xFF then .bypass else .boundary

/-- The boundary register alone sets the covered pins (R682). -/
def TapSt.drives (t : TapSt) : Bool := [0x00, 0x04, 0x05, 0x09, 0x0A].contains t.ir

/-- Every covered output is high-impedance (R682). -/
def TapSt.highz (t : TapSt) : Bool := t.ir == 0x04

end Sys2Proof.Machine
end

