-- ==== Sys2Proof/Machine/Run.lean ====
section
/-! DEFINITION. How a command runs: what every command brings with it, what acts while reset is held, the period of an idle block. -/

namespace Sys2Proof.Machine
open Sys2Proof

/-- A command's effect, and what every command brings with it: an interrupt summary that becomes pending (R90, R626, R627). Pins,
power and reset act at any time.
DESIGN CHOICE, log entry 8. -/
def State.pins (s : State) (f : Device → Device) : Host.Outcome State Fault Refusal :=
  .next { s with dev := irqSettle s.dev (f s.dev) }

/-- A command of a device that is not held in reset; while reset is held nothing acts (R577, R580, R583).
DESIGN CHOICE, log entry 8. -/
def State.live (s : State) (f : Device → Device) : Host.Outcome State Fault Refusal := s.pins (fun d => if d.boot.held then d else f d)

/-- A command of the Porch, whose link layer acts during the hold of a warm reset as well (R583, R631).
DESIGN CHOICE, log entry 8. -/
def State.link (s : State) (f : Device → Device) : Host.Outcome State Fault Refusal :=
  s.pins (fun d => if d.boot.held && !d.boot.warm then d else f d)

/-- A command that may change the reported defects, and what follows them (R307, R352, R388, R404).
DEDUCED, log entry 11. -/
def State.path (s : State) (f : Device → Device) : Host.Outcome State Fault Refusal := s.live (fun d => d.settled f)

/-- A command of the test access port, which runs whatever reset, boot or SAFE_STATE hold (R680). -/
def State.test (s : State) (f : TapSt → TapSt) : Host.Outcome State Fault Refusal := .next { s with tap := f s.tap }

/-- A read of a word by a master, with its completion (R32, R46, R51, R59). -/
def Device.busRead (d : Device) (m a : Nat) (ecc : Bool) : Device :=
  (fun x : Status × Word × Device =>
    (x.2.2.refused { master := m, write := false, wide := wideReg a } x.1 a).complete m { status := x.1, words := [x.2.1] })
  (d.readEcc m a ecc)

/-- The address of the command word of a selector or an MSP pair (R367, R370). -/
def landCmdAt (msp : Bool) (i : Nat) : Nat := (if msp then mspBase i else selBase i) + 8

/-- A posted REF_CFG write at the head of the Hearth queue is judged (R482). -/
def Device.judgeRefCfg (d : Device) : Device :=
  match popFor .hearth (d.queueOf .hearth) with
  | some (p, _) => if 0x50100 ≤ p.addr ∧ p.addr < 0x50300 ∧ p.addr % 0x40 = 0 then d.takePosted .hearth else d
  | none => d

/-- ACT_IN takes a filtered level: while reset is held only the level is kept (R524). -/
def Device.actInPin (d : Device) (low : Bool) : Device :=
  if d.boot.held then d.onPw (fun p => { p with actIn := low, lowAt := if low then some d.uptime else none })
  else d.settled (fun d => d.actInChange low)

/-- One HK period of an idle block, eight Hearth clocks: the time of day counts (R504), an extend finishes (R637), the Fault Collector
evaluates a slot (R556), a queued receive record goes to the Porch (R147, R628), the slot counters count (R655).
DESIGN CHOICE, log entry 3; DESIGN CHOICE, log entry 52. -/
def Device.hkTick (d : Device) : Device :=
  (fun d1 : Device =>
    if d1.boot.held then (if d1.boot.warm then d1.todTick else d1)
    else (((d1.todTick.onMeas (fun m => { m with busy := false })).settled Device.fcSlot).relaySend).slotTicks)
  { d with uptime := d.uptime + 8 }

end Sys2Proof.Machine
end

