-- ==== Sys2Proof/Machine/CmdBoots.lean ====
section
/-! DEFINITION. Commands: Power, reset, boot and the configuration load (R575 to R603). -/

namespace Sys2Proof.Machine
open Sys2Proof

/-- The rails have had these voltages without a break for 1 ms and 10 ms more (R575, R577). -/
def execPowerGood (mv : List Nat) (s : State) : Host.Outcome State Fault Refusal := s.pins (fun d => d.powerGood mv)

/-- A rail has had a voltage for 10 us (R575, R578). -/
def execRailFail (rail mv : Nat) (s : State) : Host.Outcome State Fault Refusal := s.pins (fun d => d.railFail rail mv)

/-- RST_N is low for at least 1 us (R580). -/
def execColdReset (s : State) : Host.Outcome State Fault Refusal := s.pins (fun d => d.rstLow)

/-- Reset ends and the straps are sampled (R580 to R582, R586). -/
def execResetRelease (straps : Nat) (s : State) : Host.Outcome State Fault Refusal := s.pins (fun d => d.resetRelease straps)

/-- The 100 us warm reset hold ends (R583). -/
def execWarmResetHoldEnd (s : State) : Host.Outcome State Fault Refusal := s.pins (fun d => d.warmEnd)

/-- SFDP and the boot directory have been read (R579, R586, R596). -/
def execFlashDiscoveryDone (o : FlashObs) (s : State) : Host.Outcome State Fault Refusal := s.live (fun d => d.flashFound o)

/-- The firmware slots have been read (R586, R587). -/
def execFwImageLoaded (a b : SlotObs) (s : State) : Host.Outcome State Fault Refusal := s.live (fun d => d.fwLoaded a b)

/-- Both management cores report started (R586). -/
def execCoreStartReport (s : State) : Host.Outcome State Fault Refusal := s.live (fun d => d.coresReport)

/-- A core does not report within 1,000 ms (R586). -/
def execCoreStartTimeout (s : State) : Host.Outcome State Fault Refusal := s.live (fun d => d.coresTimeout)

/-- The configuration slots have been verified (R586, R588, R590). -/
def execCfgImageVerified (a b : SlotObs) (s : State) : Host.Outcome State Fault Refusal := s.live (fun d => (d.cfgVerified a b).loadPeek)

/-- The fallback configuration clear completes (R591). -/
def execCfgClearDone (s : State) : Host.Outcome State Fault Refusal := s.live (fun d => d.cfgCleared.loadPeek)

/-- A WR32 record (R600). -/
def execCfgWr32 (s : State) : Host.Outcome State Fault Refusal := s.live (fun d => d.recWr32)

/-- A WRM32 record, whose read may meet an uncorrectable error (R32, R600). -/
def execCfgWrm32 (ecc : Bool) (s : State) : Host.Outcome State Fault Refusal := s.live (fun d => d.recWrm32 ecc)

/-- A WR128 record (R600). -/
def execCfgWr128 (s : State) : Host.Outcome State Fault Refusal := s.live (fun d => d.recWr128)

/-- A FILL record (R600). -/
def execCfgFill (s : State) : Host.Outcome State Fault Refusal := s.live (fun d => d.recFill)

/-- A BLOCK record (R600). -/
def execCfgBlock (s : State) : Host.Outcome State Fault Refusal := s.live (fun d => d.recBlock)

/-- A POLL record reads its word, which may meet an uncorrectable error (R32, R600). -/
def execCfgPoll (ecc : Bool) (s : State) : Host.Outcome State Fault Refusal := s.live (fun d => d.recPoll ecc)

/-- A POLL timeout elapses (R602). -/
def execPollTimeout (s : State) : Host.Outcome State Fault Refusal := s.live (fun d => d.pollTimeout)

/-- A DELAY record starts its wait (R600). -/
def execCfgDelay (s : State) : Host.Outcome State Fault Refusal := s.live (fun d => d.recDelay)

/-- A DELAY record's wait ends (R600). -/
def execDelayElapsed (s : State) : Host.Outcome State Fault Refusal := s.live (fun d => d.delayElapsed)

/-- A COMMIT_CFG record (R600). -/
def execCommitCfg (s : State) : Host.Outcome State Fault Refusal := s.live (fun d => d.recCommit)

/-- COMMITTED is not 1 within 100 ms (R602). -/
def execCommitCfgTimeout (s : State) : Host.Outcome State Fault Refusal := s.live (fun d => d.commitTimeout)

/-- A LOCK record (R600). -/
def execCfgLock (s : State) : Host.Outcome State Fault Refusal := s.live (fun d => d.recLock)

/-- An END record; the image as the apply pass read it (R602, R603). -/
def execCfgEnd (o : SlotObs) (s : State) : Host.Outcome State Fault Refusal := s.live (fun d => d.recEnd o)

end Sys2Proof.Machine
end

