-- ==== Sys2Proof/Machine/CmdClock.lean ====
section
/-! DEFINITION. Commands: Time of day (R504 to R521). -/

namespace Sys2Proof.Machine
open Sys2Proof

/-- A PPS rising edge of a domain: high time in ns, Hearth clocks since the last one (R510). -/
def execPpsEdge (x width since : Nat) (s : State) : Host.Outcome State Fault Refusal := s.live (fun d => d.ppsEdge x width since)

/-- A time message, whether its bytes kept together, and the ms since the PPS edge (R511). -/
def execTodMessage (x : Nat) (bytes : List Byte) (gapOk : Bool) (after : Nat) (s : State) : Host.Outcome State Fault Refusal :=
  s.live (fun d => d.todMessage x bytes gapOk after)

/-- 2,500 ms without an accepted edge (R512). -/
def execDomainLost (x : Nat) (s : State) : Host.Outcome State Fault Refusal := s.live (fun d => d.domainLost x)

/-- A write of DOM_CFG with ENA 1 (R512). -/
def execDomainEnable (m x : Nat) (v : Word) (s : State) : Host.Outcome State Fault Refusal :=
  s.live (fun d => d.cmdWrite m (domBase x) (setFld v 0 1 1))

/-- A write of DOM_CFG with ENA 0 (R512). -/
def execDomainDisable (m x : Nat) (v : Word) (s : State) : Host.Outcome State Fault Refusal :=
  s.live (fun d => d.cmdWrite m (domBase x) (setFld v 0 1 0))

/-- A write of TOD_CFG that may change the active domain (R516). -/
def execTodDomainSelect (m : Nat) (v : Word) (s : State) : Host.Outcome State Fault Refusal := s.live (fun d => d.cmdWrite m 0x60010 v)

/-- A write of word 3 of TOD_SET (R514). -/
def execTodSet (m : Nat) (v : Word) (s : State) : Host.Outcome State Fault Refusal := s.live (fun d => d.cmdWrite m 0x6004C v)

/-- A write of TP_CFG, or of word 3 of TP_TIME, of a pulse output (R518). -/
def execTpArm (m r : Nat) (cfg : Bool) (v : Word) (s : State) : Host.Outcome State Fault Refusal :=
  s.live (fun d => d.cmdWrite m (if cfg then tpBase r else tpBase r + 0x1C) v)

/-- The counter reaches a pulse's due time (R517). -/
def execTpPulseDue (r : Nat) (s : State) : Host.Outcome State Fault Refusal := s.live (fun d => d.tpDue r)

/-- TP_WIDTH has elapsed (R517). -/
def execTpPulseEnd (r : Nat) (s : State) : Host.Outcome State Fault Refusal := s.live (fun d => d.tpEnd r)

/-- A write of 1 to CNT_CLR (R521). -/
def execTodCntClr (m : Nat) (s : State) : Host.Outcome State Fault Refusal := s.live (fun d => d.cmdWrite m 0x6006C 1)

end Sys2Proof.Machine
end

