-- ==== Sys2Proof/Machine/CmdCollector.lean ====
section
/-! DEFINITION. Commands: The Fault Collector (R553 to R574, R675). -/

namespace Sys2Proof.Machine
open Sys2Proof

/-- An evaluation slot: the reports, the live sources whose condition ended, a temperature reading, voltages (R556 to R572). -/
def execFaultSourceEvent (reps : List FaultRep) (ended : List Nat) (temp : Option Int) (volts : List (Nat × Nat)) (s : State) :
    Host.Outcome State Fault Refusal :=
  s.path (fun d => d.faultSlot reps ended temp volts)

/-- A source's counting window ends (R556). -/
def execFaultWindowExpiry (i : Nat) (s : State) : Host.Outcome State Fault Refusal := s.live (fun d => d.windowExpiry i)

/-- A reaction's cooldown ends (R558). -/
def execCooldownEnd (i : Nat) (s : State) : Host.Outcome State Fault Refusal := s.live (fun d => d.cooldownEnd i)

/-- A consequence mask's MASK_MS elapses (R564). -/
def execMaskEnd (s : State) : Host.Outcome State Fault Refusal := s.live (fun d => d.maskEnd)

/-- ISOLATE_HOLD elapses (R560). -/
def execIsolateHoldEnd (s : State) : Host.Outcome State Fault Refusal := s.path (fun d => d.isolateEnd)

/-- A management core's watchdog expires, `since` ms after its last service (R554). -/
def execWdogExpiry (core since : Nat) (s : State) : Host.Outcome State Fault Refusal := s.live (fun d => d.wdogExpiry core since)

/-- A write of SRC_INJ (R566). -/
def execSrcInj (m i : Nat) (v : Word) (s : State) : Host.Outcome State Fault Refusal := s.live (fun d => d.cmdWrite m (srcBase i + 0xC) v)

/-- The next injected event of a source (R566). -/
def execInjectedEvent (i : Nat) (s : State) : Host.Outcome State Fault Refusal := s.live (fun d => d.injected i)

/-- The SAFE_EXIT command (R562). -/
def execSafeExit (m : Nat) (s : State) : Host.Outcome State Fault Refusal := s.live (fun d => d.cmdWrite m 0x1001C 1)

/-- The LOG_CLEAR command (R571). -/
def execLogClear (m : Nat) (s : State) : Host.Outcome State Fault Refusal := s.live (fun d => d.cmdWrite m 0x1001C 2)

/-- The REARM command for the selected classes (R568). -/
def execFcRearm (m classes : Nat) (s : State) : Host.Outcome State Fault Refusal :=
  s.live (fun d => d.cmdWrite m 0x1001C (wd (2 ^ 16 * (classes % 2 ^ 10))))

/-- An indexed external input enters a failure (R675). -/
def execInputConditionEnter (i timeout value : Nat) (s : State) : Host.Outcome State Fault Refusal :=
  s.live (fun d => d.inputEnter i timeout value)

end Sys2Proof.Machine
end

