-- ==== Sys2Proof/Machine/CmdFlash.lean ====
section
/-! DEFINITION. Commands: Pantry images (R595 to R609). -/

namespace Sys2Proof.Machine
open Sys2Proof

/-- The ERASE command (R606). -/
def execFlashErase (m target : Nat) (s : State) : Host.Outcome State Fault Refusal :=
  s.live (fun d => d.cmdWrite m 0x20080 (wd (1 + 16 * (target % 8))))

/-- The PROGRAM command (R606). -/
def execFlashProgram (m target : Nat) (s : State) : Host.Outcome State Fault Refusal :=
  s.live (fun d => d.cmdWrite m 0x20080 (wd (2 + 16 * (target % 8))))

/-- The READ command (R606). -/
def execFlashRead (m target : Nat) (s : State) : Host.Outcome State Fault Refusal :=
  s.live (fun d => d.cmdWrite m 0x20080 (wd (3 + 16 * (target % 8))))

/-- The VERIFY command (R606). -/
def execFlashVerify (m target : Nat) (s : State) : Host.Outcome State Fault Refusal :=
  s.live (fun d => d.cmdWrite m 0x20080 (wd (4 + 16 * (target % 8))))

/-- The DIR_WRITE command (R606). -/
def execDirWrite (m : Nat) (s : State) : Host.Outcome State Fault Refusal := s.live (fun d => d.cmdWrite m 0x20080 (wd (5 + 16 * 4)))

/-- A flash step finishes (R607). -/
def execFlashStepDone (o : StepObs) (s : State) : Host.Outcome State Fault Refusal := s.live (fun d => d.flashStep o)

/-- The flash does not finish a step in time (R607). -/
def execFlashStepTimeout (s : State) : Host.Outcome State Fault Refusal := s.live (fun d => d.flashTimeout)

/-- A byte write to the flash window (R53, R608). -/
def execFlashWinWrite (m off : Nat) (b : Byte) (s : State) : Host.Outcome State Fault Refusal :=
  s.live (fun d => d.busWrite m (0x28000 + off / 4 * 4) (2 ^ (off % 4)) (wd (b.toNat * 2 ^ (8 * (off % 4)))))

/-- The ENROLL command (R604). -/
def execEnroll (m : Nat) (s : State) : Host.Outcome State Fault Refusal := s.live (fun d => d.cmdWrite m 0x200B0 0x5A01)

/-- Owner key programming ends (R604). -/
def execEnrollDone (s : State) : Host.Outcome State Fault Refusal := s.live (fun d => d.enrollDone)

end Sys2Proof.Machine
end

