-- ==== Sys2Proof/Machine/CmdGlobal.lean ====
section
/-! DEFINITION. Commands: GLOBAL and the register bridge (R46 to R93, R583). -/

namespace Sys2Proof.Machine
open Sys2Proof

/-- A write by master `m` at `a` with byte enables `be` (R46, R51, R53, R77). -/
def execRegisterWrite (m a be : Nat) (v : Word) (s : State) : Host.Outcome State Fault Refusal := s.live (fun d => d.busWrite m a be v)

/-- A read of word 0 of the wide or RS register at `a`, which may meet an uncorrectable error (R32, R59). -/
def execWideSnapshotRead (m a : Nat) (ecc : Bool) (s : State) : Host.Outcome State Fault Refusal :=
  s.live (fun d => d.busRead m (a / 16 * 16) ecc)

/-- A write of word `i`, 0 to 2, of the wide register at `a` (R61 to R63). -/
def execWideStageWrite (m a i : Nat) (v : Word) (s : State) : Host.Outcome State Fault Refusal :=
  s.live (fun d => d.busWrite m (a / 16 * 16 + 4 * (i % 3)) 15 v)

/-- A write of word 3 of the wide register at `a` (R61). -/
def execWideApplyWrite (m a : Nat) (v : Word) (s : State) : Host.Outcome State Fault Refusal :=
  s.live (fun d => d.cmdWrite m (a / 16 * 16 + 12) v)

/-- A domain takes its oldest posted write (R68, R69). -/
def execPostedWriteTakesEffect (dom : Domain) (s : State) : Host.Outcome State Fault Refusal := s.live (fun d => d.takePosted dom)

/-- A stopped domain loses its oldest posted write (R72). -/
def execPostedWriteLost (dom : Domain) (s : State) : Host.Outcome State Fault Refusal := s.live (fun d => d.losePosted dom)

/-- A domain executes the RMW after the writes posted before it and answers; its read may meet an uncorrectable error (R32, R70). -/
def execCrossDomainRmwAnswer (dom : Domain) (ecc : Bool) (s : State) : Host.Outcome State Fault Refusal :=
  s.live (fun d => d.crossAnswer dom ecc)

/-- A domain does not answer an RMW within 10 us (R70). -/
def execCrossDomainRmwTimeout (dom : Domain) (s : State) : Host.Outcome State Fault Refusal := s.live (fun d => d.crossTimeout dom)

/-- A write of BLOCK_LOCK of the block at `base` (R75). -/
def execBlockLockWrite (m base : Nat) (v : Word) (s : State) : Host.Outcome State Fault Refusal :=
  s.live (fun d => d.cmdWrite m (base + 0xC) v)

/-- A write of 1 to CFG_COMMIT (R78). -/
def execCfgCommit (m : Nat) (s : State) : Host.Outcome State Fault Refusal := s.live (fun d => d.cmdWrite m 0x30 1)

/-- A configuration CRC pass ends; `upsets` are the bit errors in covered words since the last one (R76 to R80). -/
def execCfgCrcPassEnd (upsets : List (Nat × Word)) (s : State) : Host.Outcome State Fault Refusal :=
  s.live (fun d => (d.passEnds upsets).commitCheck)

/-- CFG_DIRTY has been held longer than CFG_DIRTY_LIMIT (R81). -/
def execCfgDirtyLong (s : State) : Host.Outcome State Fault Refusal := s.live (fun d => d.dirtyLong)

/-- A write of 1 to ACC_CNT_CLR (R91). -/
def execAccCntClr (m : Nat) (s : State) : Host.Outcome State Fault Refusal := s.live (fun d => d.cmdWrite m 0xA0 1)

/-- A write of 0xA5 with bit 0 to RESET_CTL (R91, R583). -/
def execWarmResetCmd (m : Nat) (s : State) : Host.Outcome State Fault Refusal := s.live (fun d => d.cmdWrite m 0x20 0xA501)

end Sys2Proof.Machine
end

