-- ==== Sys2Proof/Machine/CmdHigh.lean ====
section
/-! DEFINITION. Commands: High-order paths (R159 to R197). -/

namespace Sys2Proof.Machine
open Sys2Proof

/-- A write of HO_CFG with ENABLE 1 (R165, R193). -/
def execHoEnable (m h : Nat) (v : Word) (s : State) : Host.Outcome State Fault Refusal :=
  s.live (fun d => d.cmdWrite m (hoBase h) (setFld v 0 1 1))

/-- The receive side of a head starts (R177). -/
def execHoRxStart (h : Nat) (s : State) : Host.Outcome State Fault Refusal := s.path (fun d => d.hoRxStart h)

/-- The transmit side of a head starts (R190). -/
def execHoTxStart (h : Nat) (s : State) : Host.Outcome State Fault Refusal := s.path (fun d => d.hoTxStart h)

/-- A write of HO_CFG with ENABLE 0 (R194). -/
def execHoDisable (m h : Nat) (v : Word) (s : State) : Host.Outcome State Fault Refusal :=
  s.live (fun d => d.cmdWrite m (hoBase h) (setFld v 0 1 0))

/-- Both side boundaries have passed (R194). -/
def execHoDrainDone (h : Nat) (s : State) : Host.Outcome State Fault Refusal := s.path (fun d => d.hoDrainDone h)

/-- 1 ms of persistent OOM (R185). -/
def execHoLomDeclare (h : Nat) (s : State) : Host.Outcome State Fault Refusal := s.path (fun d => d.hoLomDeclare h)

/-- 1 ms in multiframe (R185). -/
def execHoLomClear (h : Nat) (s : State) : Host.Outcome State Fault Refusal := s.path (fun d => d.hoLomClear h)

/-- A transmit frame of a head; its store gained `delta` units (R188 to R192). -/
def execHoRegenFrame (h : Nat) (delta : Int) (s : State) : Host.Outcome State Fault Refusal := s.path (fun d => d.hoRegenFrame h delta)

end Sys2Proof.Machine
end

