-- ==== Sys2Proof/Machine/CmdHistory.lean ====
section
/-! DEFINITION. Commands: The Attic (R433 to R456). -/

namespace Sys2Proof.Machine
open Sys2Proof

/-- A write of ATTIC_CFG with ENA 1 (R450). -/
def execAtticEnable (m : Nat) (v : Word) (s : State) : Host.Outcome State Fault Refusal :=
  s.live (fun d => d.cmdWrite m 0x80010 (setFld v 0 1 1))

/-- A write of ATTIC_CFG with ENA 0 (R450). -/
def execAtticDisable (m : Nat) (v : Word) (s : State) : Host.Outcome State Fault Refusal :=
  s.live (fun d => d.cmdWrite m 0x80010 (setFld v 0 1 0))

/-- The ADOPT command (R451). -/
def execAdopt (m : Nat) (s : State) : Host.Outcome State Fault Refusal := s.live (fun d => d.cmdWrite m 0x80014 1)

/-- The SMART_NOW command (R437). -/
def execSmartNow (m : Nat) (s : State) : Host.Outcome State Fault Refusal := s.live (fun d => d.cmdWrite m 0x80014 2)

/-- The SMART/health log is read: Get Log Page is issued, or brings its words (R437). -/
def execSmartPoll (ws : List Word) (s : State) : Host.Outcome State Fault Refusal := s.live (fun d => d.smartPoll ws)

/-- The adoption steps end (R451). -/
def execAdoptionEnd (o : DriveObs) (s : State) : Host.Outcome State Fault Refusal := s.live (fun d => d.adoptionEnd o)

/-- MC1 builds a second frame (R449). -/
def execAtticFrameBuild (s : State) : Host.Outcome State Fault Refusal := s.live (fun d => d.frameBuild)

/-- A frame is not started within 1 s of its commit (R449). -/
def execAtticFrameDrop (s : State) : Host.Outcome State Fault Refusal := s.live (fun d => d.frameDrop)

/-- The command at place `i` of the I/O queue completes (R448). -/
def execNvmeCommandComplete (i : Nat) (ok : Bool) (s : State) : Host.Outcome State Fault Refusal := s.live (fun d => d.nvmeComplete i ok)

/-- The oldest Flush completes (R448). -/
def execNvmeFlushComplete (s : State) : Host.Outcome State Fault Refusal := s.live (fun d => d.flushComplete)

/-- The drive is lost (R450). -/
def execAtticLoss (cause : LossCause) (s : State) : Host.Outcome State Fault Refusal := s.live (fun d => d.atticLoss (cause == .linkDown))

/-- A write of 1 to CNT_CLR (R455). -/
def execAtticCntClr (m : Nat) (s : State) : Host.Outcome State Fault Refusal := s.live (fun d => d.cmdWrite m 0x80080 1)

end Sys2Proof.Machine
end

