-- ==== Sys2Proof/Machine/CmdHost.lean ====
section
/-! DEFINITION. Commands: The Porch and the I2C target (R610 to R635). -/

namespace Sys2Proof.Machine
open Sys2Proof

/-- The lanes gain or lose code-group synchronisation (R614). -/
def execPorchLaneSync (s0 s1 : Bool) (s : State) : Host.Outcome State Fault Refusal := s.link (fun d => d.porchSync s0 s1)

/-- An alignment marker is received, with its skew in UI (R613, R614). -/
def execPorchAlignMarker (skew : Nat) (s : State) : Host.Outcome State Fault Refusal := s.link (fun d => d.porchMarker skew)

/-- 1 ms without a valid frame (R614). -/
def execPorchLinkTimeout (s : State) : Host.Outcome State Fault Refusal := s.link (fun d => d.porchTimeout)

/-- A KEEPALIVE is sent, with the latest acknowledgement (R615, R619). -/
def execPorchKeepaliveSend (s : State) : Host.Outcome State Fault Refusal := s.link (fun d => d.porchAckSend)

/-- A frame with a bad CRC, FTYPE or length (R617). -/
def execPorchInvalidFrame (frame : List Byte) (s : State) : Host.Outcome State Fault Refusal := s.link (fun d => d.porchInvalid frame)

/-- An ACK frame arrives (R619). -/
def execPorchAckReceived (ack : Option Nat) (s : State) : Host.Outcome State Fault Refusal :=
  s.link (fun d => if d.porchUp then d.porchAck ack else d)

/-- A NAK frame arrives (R619). -/
def execPorchNakReceived (ack : Option Nat) (s : State) : Host.Outcome State Fault Refusal := s.link (fun d => d.porchNak ack)

/-- A KEEPALIVE frame arrives (R614, R619). -/
def execPorchKeepaliveReceived (ack : Option Nat) (s : State) : Host.Outcome State Fault Refusal := s.link (fun d => d.porchHear ack)

/-- An ACK is sent (R619). -/
def execPorchAckSend (s : State) : Host.Outcome State Fault Refusal := s.link (fun d => d.porchAckSend)

/-- The oldest unacknowledged frame has waited 20 us (R614, R619). -/
def execPorchReplayTimeout (s : State) : Host.Outcome State Fault Refusal := s.link (fun d => d.porchReplay)

/-- A READ transaction; `ecc` lists the words that met an uncorrectable error (R32, R623). -/
def execPorchRead (h : PHead) (a bytes be : Nat) (ecc : List Nat) (s : State) : Host.Outcome State Fault Refusal :=
  s.link (fun d => d.porchTxn h (.rd a bytes be ecc))

/-- A WRITE transaction (R623). -/
def execPorchWrite (h : PHead) (a be : Nat) (data : List Word) (s : State) : Host.Outcome State Fault Refusal :=
  s.link (fun d => d.porchTxn h (.wr a be data))

/-- An RMW transaction: the mask and the value; its read may meet an uncorrectable error (R32, R623). -/
def execPorchRmw (h : PHead) (a : Nat) (data : List Word) (ecc : Bool) (s : State) : Host.Outcome State Fault Refusal :=
  s.link (fun d => d.porchTxn h (.rmw a data ecc))

/-- A WRITE_BULK transaction: address and value pairs (R624). -/
def execWriteBulk (h : PHead) (data : List Word) (s : State) : Host.Outcome State Fault Refusal :=
  s.link (fun d => d.porchTxn h (.bulk data))

/-- A host OH_STREAM frame for lane `n` (R628). -/
def execOhStream (h : PHead) (n : Nat) (bytes : List Byte) (s : State) : Host.Outcome State Fault Refusal :=
  s.link (fun d => d.ohStream h n bytes)

/-- An ATTIC_READ transaction (R629). -/
def execAtticRead (h : PHead) (unit n : Nat) (s : State) : Host.Outcome State Fault Refusal := s.link (fun d => d.atticRead h unit n)

/-- MC0 has read the units from the drive; the first unit that failed (R629). -/
def execAtticReadServed (data : List Byte) (bad : Option Nat) (s : State) : Host.Outcome State Fault Refusal :=
  s.link (fun d => d.atticServed data bad)

/-- An ATTEST transaction (R643). -/
def execAttest (h : PHead) (nonceLen : Nat) (payload : List Byte) (s : State) : Host.Outcome State Fault Refusal :=
  s.link (fun d => d.attest h nonceLen payload)

/-- MC0 has signed the report (R643). -/
def execAttestReportReady (s : State) : Host.Outcome State Fault Refusal := s.link (fun d => d.attestReady)

/-- A request with an unknown TTYPE (R620). -/
def execPorchBadTtype (h : PHead) (ttype : Nat) (s : State) : Host.Outcome State Fault Refusal := s.link (fun d => d.porchBadType h ttype)

/-- A waiting SUMMARY EVENT is sent (R626). -/
def execEventSummarySend (s : State) : Host.Outcome State Fault Refusal := s.link (fun d => d.summarySend)

/-- MC0 sends a FOLLOW_UP EVENT (R626). -/
def execEventFollowUpSend (s : State) : Host.Outcome State Fault Refusal := s.link (fun d => d.followSend)

/-- A write of PORCH_CFG (R614). -/
def execPorchCfgWrite (m : Nat) (v : Word) (s : State) : Host.Outcome State Fault Refusal := s.live (fun d => d.cmdWrite m 0x30010 v)

/-- A write of 1 to CNT_CLR (R635). -/
def execPorchCntClr (m : Nat) (s : State) : Host.Outcome State Fault Refusal := s.live (fun d => d.cmdWrite m 0x30044 1)

/-- An I2C write of 4 bytes; whether the transfer ends there (R633). -/
def execI2cPointerWrite (v : Nat) (stop : Bool) (s : State) : Host.Outcome State Fault Refusal := s.live (fun d => d.i2cPointer v stop)

/-- An I2C write of 8 bytes (R634). -/
def execI2cWordWrite (a : Nat) (v : Word) (s : State) : Host.Outcome State Fault Refusal := s.live (fun d => d.i2cWrite a v)

/-- An I2C read of `n` words from the pointer (R633, R634). -/
def execI2cReadWords (n : Nat) (ecc : List Nat) (s : State) : Host.Outcome State Fault Refusal := s.live (fun d => d.i2cRead n ecc)

/-- A 1-byte I2C read (R633). -/
def execI2cStatusRead (ecc : Bool) (s : State) : Host.Outcome State Fault Refusal := s.live (fun d => d.i2cStatus ecc)

/-- An I2C write of a wrong length (R633). -/
def execI2cBadLengthWrite (s : State) : Host.Outcome State Fault Refusal := s.live (fun d => d.i2cBad)

/-- SCL has been low for over 35 ms (R634). -/
def execI2cSclTimeout (lowMs : Nat) (s : State) : Host.Outcome State Fault Refusal := s.live (fun d => d.i2cScl lowMs)

end Sys2Proof.Machine
end

