-- ==== Sys2Proof/Machine/CmdLane.lean ====
section
/-! DEFINITION. Commands: Line ports and section framing (R94 to R158). -/

namespace Sys2Proof.Machine
open Sys2Proof

/-- A write of LANE_CTL with ENABLE 1 (R152). -/
def execLaneEnable (m n : Nat) (v : Word) (s : State) : Host.Outcome State Fault Refusal :=
  s.live (fun d => d.cmdWrite m (laneBase n + 0x10) (setFld v 0 1 1))

/-- A write of LANE_CTL with ENABLE 0 (R153). -/
def execLaneDisable (m n : Nat) (v : Word) (s : State) : Host.Outcome State Fault Refusal :=
  s.live (fun d => d.cmdWrite m (laneBase n + 0x10) (setFld v 0 1 0))

/-- The draining frame of lane `n` ends (R153). -/
def execLaneDrainDone (n : Nat) (s : State) : Host.Outcome State Fault Refusal := s.path (fun d => d.laneDrainDone n)

/-- An enabled lane's transmitter leaves electrical idle (R152). -/
def execLaneTxStart (n : Nat) (s : State) : Host.Outcome State Fault Refusal := s.path (fun d => d.laneTxGo n)

/-- The frame in transmission ends under a squelch cause (R156). -/
def execTxIdleAtFrameEnd (n : Nat) (s : State) : Host.Outcome State Fault Refusal := s.path (fun d => d.laneTxIdle n)

/-- The next frame boundary after the last squelch cause clears (R156). -/
def execTxResume (n : Nat) (s : State) : Host.Outcome State Fault Refusal := s.path (fun d => d.laneTxGo n)

/-- A write of SDS_CMD.ADAPT_RESTART (R102). -/
def execAdaptRestart (m n : Nat) (s : State) : Host.Outcome State Fault Refusal := s.live (fun d => d.cmdWrite m (laneBase n + 0x4044) 1)

/-- The receive adaptation settles (R102). -/
def execAdaptDone (n : Nat) (s : State) : Host.Outcome State Fault Refusal := s.path (fun d => d.adaptDone n)

/-- A write of SDS_CMD.MARGIN_START (R106). -/
def execMarginStart (m n : Nat) (s : State) : Host.Outcome State Fault Refusal := s.live (fun d => d.cmdWrite m (laneBase n + 0x4044) 2)

/-- A write of SDS_CMD.MARGIN_ABORT (R109). -/
def execMarginAbort (m n : Nat) (s : State) : Host.Outcome State Fault Refusal := s.live (fun d => d.cmdWrite m (laneBase n + 0x4044) 4)

/-- One point of the scan has been compared: `errs` decisions differ (R107, R108). -/
def execMarginPointDone (n errs : Nat) (s : State) : Host.Outcome State Fault Refusal := s.path (fun d => d.marginPoint n errs)

/-- No transition for LOS_TIME (R103). -/
def execLosDeclare (n : Nat) (s : State) : Host.Outcome State Fault Refusal := s.path (fun d => d.losDeclare n)

/-- Two consecutive periods of 125 us with transitions (R103). -/
def execLosClear (n : Nat) (s : State) : Host.Outcome State Fault Refusal := s.path (fun d => d.losClear n)

/-- An offset beyond 100 ppm for 1 ms, in units of 0.01 ppm (R104). -/
def execFreqOorDeclare (n : Nat) (off : Int) (s : State) : Host.Outcome State Fault Refusal := s.path (fun d => d.oorDeclare n off)

/-- An offset within 80 ppm for 1 ms (R104). -/
def execFreqOorClear (n : Nat) (off : Int) (s : State) : Host.Outcome State Fault Refusal := s.path (fun d => d.oorClear n off)

/-- A received STM-N frame ends (R124 to R140, R171 to R185, R220 to R231, R659). -/
def execSdhFrameEnd (n : Nat) (bits : List Byte) (tags : Nat) (mem : List MemObs) (s : State) : Host.Outcome State Fault Refusal :=
  s.path (fun d => (d.sdhFrame n bits mem).tagWords n tags)

/-- 3 ms of OOF (R131). -/
def execLofDeclare (n : Nat) (otu : Bool) (s : State) : Host.Outcome State Fault Refusal := s.path (fun d => d.lofDeclare n otu)

/-- 3 ms of SYNC (R131). -/
def execLofClear (n : Nat) (otu : Bool) (s : State) : Host.Outcome State Fault Refusal := s.path (fun d => d.lofClear n otu)

/-- A received OTU2 frame ends (R112 to R121). -/
def execOtuFrameEnd (n : Nat) (bits : List Byte) (s : State) : Host.Outcome State Fault Refusal := s.path (fun d => d.rxOtu n bits)

/-- 3 ms of persistent OOM (R113). -/
def execOtuLomDeclare (n : Nat) (s : State) : Host.Outcome State Fault Refusal := s.path (fun d => d.otuLomDeclare n)

/-- 3 ms without OOM (R113). -/
def execOtuLomClear (n : Nat) (s : State) : Host.Outcome State Fault Refusal := s.path (fun d => d.otuLomClear n)

/-- The transmitter assembles a frame (R141 to R145, R149, R150). -/
def execLaneTxFrame (n : Nat) (s : State) : Host.Outcome State Fault Refusal := s.path (fun d => d.laneTxFrame n)

/-- A receive relay record is built (R146, R147). -/
def execOhRxRecordBuild (n : Nat) (s : State) : Host.Outcome State Fault Refusal := s.path (fun d => d.relayBuild n)

/-- A write of 1 to OH_TX_PUSH (R148). -/
def execOhTxPush (m n : Nat) (s : State) : Host.Outcome State Fault Refusal := s.live (fun d => d.cmdWrite m (laneBase n + 0x94) 1)

/-- A write of 1 to OH_CNT_CLR (R158). -/
def execOhCntClr (m n : Nat) (s : State) : Host.Outcome State Fault Refusal := s.live (fun d => d.cmdWrite m (laneBase n + 0xAC) 1)

end Sys2Proof.Machine
end

