-- ==== Sys2Proof/Machine/CmdLow.lean ====
section
/-! DEFINITION. Commands: Low-order tributaries and PDH clients (R198 to R272). -/

namespace Sys2Proof.Machine
open Sys2Proof

/-- A write of TC_CFG with ENABLE 1 (R212, R215). -/
def execTcEnable (m k : Nat) (v : Word) (s : State) : Host.Outcome State Fault Refusal :=
  s.live (fun d => d.cmdWrite m (tcBase k) (setFld v 0 1 1))

/-- The receive side of a tributary starts (R221). -/
def execTcRxStart (k : Nat) (s : State) : Host.Outcome State Fault Refusal := s.path (fun d => d.tcRxStart k)

/-- The transmit side of a tributary starts (R236). -/
def execTcTxStart (k : Nat) (s : State) : Host.Outcome State Fault Refusal := s.path (fun d => d.tcTxStart k)

/-- A write of TC_CFG with ENABLE 0 (R216). -/
def execTcDisable (m k : Nat) (v : Word) (s : State) : Host.Outcome State Fault Refusal :=
  s.live (fun d => d.cmdWrite m (tcBase k) (setFld v 0 1 0))

/-- Both boundaries have passed (R216). -/
def execTcDrainDone (k : Nat) (s : State) : Host.Outcome State Fault Refusal := s.path (fun d => d.tcDrainDone k)

/-- A write of 1 to TC_EVENT_POP (R240). -/
def execTcEventPop (m sl : Nat) (s : State) : Host.Outcome State Fault Refusal := s.live (fun d => d.cmdWrite m (sliceBase sl + 0x414) 1)

/-- An outgoing pointer period of a tributary (R234 to R238, R262, R266). -/
def execTcRegenPeriod (k : Nat) (delta : Int) (s : State) : Host.Outcome State Fault Refusal := s.path (fun d => d.tcRegenPeriod k delta)

/-- A write of TC_CLIENT (R242, R245). -/
def execClientConfigWrite (m k : Nat) (v : Word) (s : State) : Host.Outcome State Fault Refusal :=
  s.live (fun d => d.cmdWrite m (tcBase k + 8) v)

/-- A PDH client frame ends (R247 to R257). -/
def execClientFrameEnd (j : Nat) (s : State) : Host.Outcome State Fault Refusal := s.path (fun d => d.clientFrame j)

/-- 8 ms without a CRC-4 win of a BASIC candidate (R249). -/
def execE1Crc4CandidateTimeout (j off : Nat) (s : State) : Host.Outcome State Fault Refusal := s.path (fun d => d.crc4CandTimeout j off)

/-- 400 ms without a CRC-4 win under CRC4_AUTO (R249). -/
def execE1Crc4AutoTimeout (j : Nat) (s : State) : Host.Outcome State Fault Refusal := s.path (fun d => d.crc4AutoTimeout j)

/-- 3 ms of client OOF (R257). -/
def execClientLofDeclare (j : Nat) (s : State) : Host.Outcome State Fault Refusal := s.path (fun d => d.cliLofDeclare j)

/-- 3 ms of client SYNC (R257). -/
def execClientLofClear (j : Nat) (s : State) : Host.Outcome State Fault Refusal := s.path (fun d => d.cliLofClear j)

/-- The leak offset moves one bit towards 0 (R263). -/
def execRetimeLeak (k : Nat) (s : State) : Host.Outcome State Fault Refusal := s.path (fun d => d.retimeLeak k)

/-- A write of HO_CLIENTi (R269). -/
def execHoClientWrite (m sl i : Nat) (v : Word) (s : State) : Host.Outcome State Fault Refusal :=
  s.live (fun d => d.cmdWrite m (entryAddr sl i) v)

/-- A write of CLIENT_SEL (R272). -/
def execClientSel (m sl : Nat) (v : Word) (s : State) : Host.Outcome State Fault Refusal :=
  s.live (fun d => d.cmdWrite m (sliceBase sl + 0x500) v)

end Sys2Proof.Machine
end

