-- ==== Sys2Proof/Machine/CmdPerf.lean ====
section
/-! DEFINITION. Commands: Performance monitoring (R404 to R432). -/

namespace Sys2Proof.Machine
open Sys2Proof

/-- A PM second ends; `ecc` lists the points whose committed result met an uncorrectable error, with the channel (R405, R411, R541, R544). -/
def execPmSecondBoundary (ecc : List (Nat × Nat)) (s : State) : Host.Outcome State Fault Refusal :=
  s.live (fun d => (d.pmBoundary false ecc).pwSecond)

/-- MC1 adds a committed second to the bins; `ecc` lists bins that met an uncorrectable error (R418). -/
def execBinUpdate (ecc : List (Nat × Bool × Nat)) (s : State) : Host.Outcome State Fault Refusal := s.live (fun d => d.binUpdate ecc)

/-- A write of 1 to TCA_POP (R423). -/
def execTcaPop (m : Nat) (s : State) : Host.Outcome State Fault Refusal := s.live (fun d => d.cmdWrite m 0xD0084 1)

/-- A write of VIEW_SEL (R431); `ecc` lists the bins whose read met an uncorrectable error (R419). -/
def execViewSel (m : Nat) (v : Word) (ecc : List (Nat × Nat)) (s : State) : Host.Outcome State Fault Refusal :=
  s.live (fun d => (d.when (decide (v.toNat ≤ 274687)) (·.binsUnread v.toNat ecc)).cmdWrite m 0xD0050 v)

/-- A write of RAW_SEL (R427). -/
def execRawSel (m : Nat) (v : Word) (s : State) : Host.Outcome State Fault Refusal := s.live (fun d => d.cmdWrite m 0xD0054 v)

/-- A write of word 3 of CNT_PRESET (R426). -/
def execCntPreset (m : Nat) (v : Word) (s : State) : Host.Outcome State Fault Refusal := s.live (fun d => d.cmdWrite m 0xD006C v)

end Sys2Proof.Machine
end

