-- ==== Sys2Proof/Machine/CmdProtect.lean ====
section
/-! DEFINITION. Commands: SF and SD windows and Landing protection (R306 to R370). -/

namespace Sys2Proof.Machine
open Sys2Proof

/-- An SF or SD window of a layer ends (R318). -/
def execSfsdWindowEnd (l : SfLayer) (sd : Bool) (s : State) : Host.Outcome State Fault Refusal := s.path (fun d => d.sfWindowEnd l sd)

/-- A scan of 250 us (R349). -/
def execLandingScan (s : State) : Host.Outcome State Fault Refusal := s.path (fun d => d.landScan)

/-- The hold-off timer of a selector or MSP pair expires (R336). -/
def execHoldoffExpiry (msp : Bool) (i : Nat) (s : State) : Host.Outcome State Fault Refusal :=
  s.path (fun d => if msp then d.mspHoldExpire i else d.selHoldExpire i)

/-- The wait-to-restore timer expires (R337). -/
def execWtrExpiry (msp : Bool) (i : Nat) (s : State) : Host.Outcome State Fault Refusal :=
  s.path (fun d => if msp then d.mspWtrExpire i else d.selWtrExpire i)

/-- A new choice takes effect at its boundary (R350, R351). -/
def execSelectorChoiceApply (msp : Bool) (i : Nat) (s : State) : Host.Outcome State Fault Refusal :=
  s.path (fun d => if msp then d.mspApply i else d.selApply i)

/-- A write of TC_PROT or HO_PROT of context `c` (R344). -/
def execProtWordWrite (m c : Nat) (v : Word) (s : State) : Host.Outcome State Fault Refusal :=
  s.live (fun d => d.cmdWrite m (protAddr c) v)

/-- A write of SEL_CFG with ENA 1 (R346). -/
def execSelEnable (m i : Nat) (v : Word) (s : State) : Host.Outcome State Fault Refusal :=
  s.live (fun d => d.cmdWrite m (selBase i) (setFld v 0 1 1))

/-- A write of SEL_CFG with ENA 0 (R346). -/
def execSelDisable (m i : Nat) (v : Word) (s : State) : Host.Outcome State Fault Refusal :=
  s.live (fun d => d.cmdWrite m (selBase i) (setFld v 0 1 0))

/-- A write of SEL_CFG that leaves ENA as it is (R347). -/
def execSelCfgChange (m i : Nat) (v : Word) (s : State) : Host.Outcome State Fault Refusal :=
  s.live (fun d => d.cmdWrite m (selBase i) (setFld v 0 1 (d.get (selBase i) 0 1)))

/-- The CLEAR command (R340). -/
def execLandClear (m : Nat) (msp : Bool) (i : Nat) (s : State) : Host.Outcome State Fault Refusal :=
  s.live (fun d => d.cmdWrite m (landCmdAt msp i) 0)

/-- The LOCKOUT command (R340, R341). -/
def execLockout (m : Nat) (msp : Bool) (i : Nat) (s : State) : Host.Outcome State Fault Refusal :=
  s.live (fun d => d.cmdWrite m (landCmdAt msp i) 1)

/-- The FORCED_P command (R340, R341). -/
def execForcedP (m : Nat) (msp : Bool) (i : Nat) (s : State) : Host.Outcome State Fault Refusal :=
  s.live (fun d => d.cmdWrite m (landCmdAt msp i) 2)

/-- The FORCED_W command (R340, R341). -/
def execForcedW (m : Nat) (msp : Bool) (i : Nat) (s : State) : Host.Outcome State Fault Refusal :=
  s.live (fun d => d.cmdWrite m (landCmdAt msp i) 3)

/-- The MANUAL_P command (R340, R341). -/
def execManualP (m : Nat) (msp : Bool) (i : Nat) (s : State) : Host.Outcome State Fault Refusal :=
  s.live (fun d => d.cmdWrite m (landCmdAt msp i) 4)

/-- The MANUAL_W command (R340, R341). -/
def execManualW (m : Nat) (msp : Bool) (i : Nat) (s : State) : Host.Outcome State Fault Refusal :=
  s.live (fun d => d.cmdWrite m (landCmdAt msp i) 5)

/-- The EXERCISE command (R340, R361). -/
def execExercise (m : Nat) (msp : Bool) (i : Nat) (s : State) : Host.Outcome State Fault Refusal :=
  s.live (fun d => d.cmdWrite m (landCmdAt msp i) 6)

/-- 100 ms without an answer to an exercise (R361). -/
def execExerTimeout (i : Nat) (s : State) : Host.Outcome State Fault Refusal := s.path (fun d => d.exerTimeout i)

/-- A write of MSP_CFG with ENA 1 (R353). -/
def execMspEnable (m i : Nat) (v : Word) (s : State) : Host.Outcome State Fault Refusal :=
  s.live (fun d => d.cmdWrite m (mspBase i) (setFld v 0 1 1))

/-- A write of MSP_CFG with ENA 0 (R366). -/
def execMspDisable (m i : Nat) (v : Word) (s : State) : Host.Outcome State Fault Refusal :=
  s.live (fun d => d.cmdWrite m (mspBase i) (setFld v 0 1 0))

/-- A protocol failure cause declares FOP (R360). -/
def execFopDeclare (i cause : Nat) (s : State) : Host.Outcome State Fault Refusal := s.path (fun d => d.fopDeclare i cause)

/-- 50 ms without any FOP cause (R360). -/
def execFopClear (i : Nat) (s : State) : Host.Outcome State Fault Refusal := s.path (fun d => d.fopClear i)

/-- A write of GROUP_CMD with GO (R364). -/
def execLandingGroupGo (m : Nat) (v : Word) (s : State) : Host.Outcome State Fault Refusal :=
  s.live (fun d => d.cmdWrite m 0xB0100 (setFld v 0 1 1))

/-- MC0 has judged the group (R365). -/
def execLandingGroupDone (s : State) : Host.Outcome State Fault Refusal := s.path (fun d => d.groupDone)

/-- A write of 1 to SEL_EVENT_POP (R368). -/
def execSelEventPop (m : Nat) (s : State) : Host.Outcome State Fault Refusal := s.live (fun d => d.cmdWrite m 0xB0038 1)

/-- A write of 1 to CNT_CLR (R369). -/
def execLandingCntClr (m : Nat) (s : State) : Host.Outcome State Fault Refusal := s.live (fun d => d.cmdWrite m 0xB0054 1)

end Sys2Proof.Machine
end

