-- ==== Sys2Proof/Machine/CmdStorage.lean ====
section
/-! DEFINITION. Commands: The Cellar (R371 to R403). -/

namespace Sys2Proof.Machine
open Sys2Proof

/-- Channel training ends; `failed` lists the channels that failed (R374). -/
def execCellarTrainingDone (failed : List Nat) (s : State) : Host.Outcome State Fault Refusal := s.path (fun d => d.celTrained failed)

/-- A write of 1 to CEL_CMD.RETRAIN (R374). -/
def execCellarRetrain (m : Nat) (s : State) : Host.Outcome State Fault Refusal := s.live (fun d => d.cmdWrite m 0x9001C 1)

/-- A channel's recalibration settles or keeps its settings (R375). -/
def execCellarRecal (c : Nat) (settles : Bool) (s : State) : Host.Outcome State Fault Refusal := s.path (fun d => d.celRecal c settles)

/-- A write of word 3 of PAIR_SET (R378, R400). -/
def execPairSet (m : Nat) (v : Word) (s : State) : Host.Outcome State Fault Refusal := s.live (fun d => d.cmdWrite m 0x9009C v)

/-- The reservations of a pair change at its period boundary (R379). -/
def execPairReservationApply (i : Nat) (s : State) : Host.Outcome State Fault Refusal := s.path (fun d => d.pairApply i)

/-- A write of PAIR_SEL (R401). -/
def execPairSel (m : Nat) (v : Word) (s : State) : Host.Outcome State Fault Refusal := s.live (fun d => d.cmdWrite m 0x900A0 v)

/-- A search slot of the alignment engine (R383). -/
def execAlignSearchSlot (ecc : Option Nat) (s : State) : Host.Outcome State Fault Refusal := s.path (fun d => d.searchSlot ecc)

/-- RETRY_MS after a failed search (R384). -/
def execPairRetryDue (i : Nat) (s : State) : Host.Outcome State Fault Refusal := s.path (fun d => d.pairRetry i)

/-- The changeover to a new line (R389). -/
def execRehomeChangeover (i late : Nat) (s : State) : Host.Outcome State Fault Refusal := s.path (fun d => d.changeover i late)

/-- A write of RING_CFG with ENA 1 (R396). -/
def execRingEnable (m r : Nat) (v : Word) (s : State) : Host.Outcome State Fault Refusal :=
  s.live (fun d => d.cmdWrite m (ringBase r) (setFld v 0 1 1))

/-- A write of RING_CFG with ENA 0 (R396). -/
def execRingDisable (m r : Nat) (v : Word) (s : State) : Host.Outcome State Fault Refusal :=
  s.live (fun d => d.cmdWrite m (ringBase r) (setFld v 0 1 0))

/-- POST_MS elapses (R396). -/
def execRingPostExpiry (r : Nat) (s : State) : Host.Outcome State Fault Refusal := s.path (fun d => (d.ringPostEnd r).exportsReserve)

/-- The FREEZE command (R396). -/
def execRingFreeze (m r : Nat) (s : State) : Host.Outcome State Fault Refusal := s.live (fun d => d.cmdWrite m (ringBase r + 0xC) 1)

/-- The EXPORT command (R397). -/
def execRingExport (m r : Nat) (s : State) : Host.Outcome State Fault Refusal := s.live (fun d => d.cmdWrite m (ringBase r + 0xC) 2)

/-- The REARM command (R396). -/
def execRingRearm (m r : Nat) (s : State) : Host.Outcome State Fault Refusal := s.live (fun d => d.cmdWrite m (ringBase r + 0xC) 4)

/-- A capture export ends (R397). -/
def execCaptureExportEnd (r : Nat) (ok : Bool) (steps : Nat) (ecc : List (Nat × Nat)) (s : State) : Host.Outcome State Fault Refusal :=
  s.path (fun d => (d.when (d.ringSt r == 4) (·.exportEcc r ecc)).captureEnd r ok steps)

/-- A write of 1 to CNT_CLR (R399). -/
def execCellarCntClr (m : Nat) (s : State) : Host.Outcome State Fault Refusal := s.live (fun d => d.cmdWrite m 0x90084 1)

end Sys2Proof.Machine
end

