-- ==== Sys2Proof/Machine/CmdSwitch.lean ====
section
/-! DEFINITION. Commands: The Hall (R273 to R305). -/

namespace Sys2Proof.Machine
open Sys2Proof

/-- A system frame boundary (R274, R294, R295, R535). -/
def execSystemFrameBoundary (store page : List Nat) (s : State) : Host.Outcome State Fault Refusal :=
  s.path (fun d => (d.sysFrame { store := store, page := page }).pwFollow)

/-- A write of the entry of context `c` in page `p` (R280). -/
def execPageEntryWrite (m p c : Nat) (v : Word) (s : State) : Host.Outcome State Fault Refusal :=
  s.live (fun d => d.cmdWrite m (entryAddrOf p c) v)

/-- A write of GO to SWITCH_CMD (R290). -/
def execHallSwitchGo (m : Nat) (s : State) : Host.Outcome State Fault Refusal := s.live (fun d => d.cmdWrite m 0xC0024 1)

/-- A write of CANCEL to SWITCH_CMD (R298). -/
def execHallSwitchCancel (m : Nat) (s : State) : Host.Outcome State Fault Refusal := s.live (fun d => d.cmdWrite m 0xC0024 2)

/-- The prepare pass ends; `ecc` lists the contexts whose entries met an uncorrectable error (R291, R292). -/
def execPreparePassEnd (ecc : List Nat) (s : State) : Host.Outcome State Fault Refusal := s.live (fun d => d.prepareEnd ecc)

/-- A slice that left an ISOLATE reset ends its own pass (R293). -/
def execSlicePreparePassEnd (sl : Nat) (ecc : List Nat) (s : State) : Host.Outcome State Fault Refusal :=
  s.live (fun d => d.slicePrepareEnd sl ecc)

/-- The Hall samples the ready signals (R294, R296, R297). -/
def execHallReadySample (s : State) : Host.Outcome State Fault Refusal := s.live (fun d => d.readySample)

/-- MC0 writes the HALL_SWITCH record (R290). -/
def execHallOprecWrite (s : State) : Host.Outcome State Fault Refusal := s.live (fun d => d.hallOprec)

/-- A write of 1 to CNT_CLR (R301). -/
def execHallCntClr (m : Nat) (s : State) : Host.Outcome State Fault Refusal := s.live (fun d => d.cmdWrite m 0xC0084 1)

end Sys2Proof.Machine
end

