-- ==== Sys2Proof/Machine/CmdTap.lean ====
section
/-! DEFINITION. Commands: The test access port (R680 to R683). -/

namespace Sys2Proof.Machine
open Sys2Proof

/-- TRST_N is low (R680). -/
def execTapReset (s : State) : Host.Outcome State Fault Refusal := s.test (fun t => t.load 0x01)

/-- EXTEST with the boundary register's cells (R681, R682). -/
def execExtest (cells : List Bool) (s : State) : Host.Outcome State Fault Refusal := s.test (fun t => (t.load 0x00).cells cells)

/-- IDCODE (R680). -/
def execIdcodeLoad (s : State) : Host.Outcome State Fault Refusal := s.test (fun t => t.load 0x01)

/-- SAMPLE/PRELOAD with the cells sampled or preloaded (R680, R681). -/
def execSamplePreload (cells : List Bool) (s : State) : Host.Outcome State Fault Refusal := s.test (fun t => (t.load 0x02).cells cells)

/-- HIGHZ (R682). -/
def execHighz (s : State) : Host.Outcome State Fault Refusal := s.test (fun t => t.load 0x04)

/-- CLAMP (R682). -/
def execClamp (s : State) : Host.Outcome State Fault Refusal := s.test (fun t => t.load 0x05)

/-- EXTEST_PULSE with the boundary register's cells (R682). -/
def execExtestPulse (cells : List Bool) (s : State) : Host.Outcome State Fault Refusal := s.test (fun t => (t.load 0x09).cells cells)

/-- EXTEST_TRAIN with the boundary register's cells (R682). -/
def execExtestTrain (cells : List Bool) (s : State) : Host.Outcome State Fault Refusal := s.test (fun t => (t.load 0x0A).cells cells)

/-- BYPASS, or an undefined value of the instruction register (R680). -/
def execTapBypass (ir : Nat) (s : State) : Host.Outcome State Fault Refusal := s.test (fun t => t.load ir)

end Sys2Proof.Machine
end

