-- ==== Sys2Proof/Machine/CmdTiming.lean ====
section
/-! DEFINITION. Commands: The Hearth (R457 to R503). -/

namespace Sys2Proof.Machine
open Sys2Proof

/-- A selection tick of 1 ms (R463 to R474, R478). -/
def execHearthTick (o : DpllObs) (a b : XrefObs) (s : State) : Host.Outcome State Fault Refusal := s.live (fun d => d.hearthTick o a b)

/-- A write of REF_CFG with ENA 1 (R463, R482). -/
def execRefEnable (m r : Nat) (v : Word) (s : State) : Host.Outcome State Fault Refusal :=
  s.live (fun d => d.cmdWrite m (refBase r) (setFld v 0 1 1))

/-- A write of REF_CFG with ENA 0 (R463, R482). -/
def execRefDisable (m r : Nat) (v : Word) (s : State) : Host.Outcome State Fault Refusal :=
  s.live (fun d => d.cmdWrite m (refBase r) (setFld v 0 1 0))

/-- A posted REF_CFG write is judged in the Hearth domain (R482). -/
def execRefCfgDomainJudge (s : State) : Host.Outcome State Fault Refusal := s.live (fun d => d.judgeRefCfg)

/-- The WTR of a reference elapses (R463). -/
def execRefWtrExpiry (r : Nat) (s : State) : Host.Outcome State Fault Refusal := s.live (fun d => d.refWtrExpiry r)

/-- 100 ms within LOCK_BOUND or 1 s in SWITCH (R467). -/
def execHearthSwitchSettle (s : State) : Host.Outcome State Fault Refusal := s.live (fun d => d.switchSettle)

/-- 10 s within LOCK_BOUND (R469). -/
def execDpllLock (s : State) : Host.Outcome State Fault Refusal := s.live (fun d => d.dpllLock)

/-- HO_TIME exceeds HOLDOVER_LIMIT (R469). -/
def execHoldoverLimitExpiry (s : State) : Host.Outcome State Fault Refusal := s.live (fun d => d.holdoverLimit)

/-- A write of HEARTH_CFG with MODE AUTO (R465). -/
def execHearthAuto (m : Nat) (v : Word) (s : State) : Host.Outcome State Fault Refusal :=
  s.live (fun d => d.cmdWrite m 0x50010 (setFld v 0 2 0))

/-- A write of HEARTH_CFG with MODE MANUAL (R465). -/
def execHearthManual (m : Nat) (v : Word) (s : State) : Host.Outcome State Fault Refusal :=
  s.live (fun d => d.cmdWrite m 0x50010 (setFld v 0 2 1))

/-- A write of HEARTH_CFG with MODE FORCED_HOLDOVER (R465). -/
def execForcedHoldover (m : Nat) (v : Word) (s : State) : Host.Outcome State Fault Refusal :=
  s.live (fun d => d.cmdWrite m 0x50010 (setFld v 0 2 2))

/-- A write of HEARTH_CFG with MODE FREE_RUN (R465, R469). -/
def execFreeRun (m : Nat) (v : Word) (s : State) : Host.Outcome State Fault Refusal :=
  s.live (fun d => d.cmdWrite m 0x50010 (setFld v 0 2 3))

/-- A write of PHASE_STEP (R474). -/
def execPhaseStep (m : Nat) (v : Word) (s : State) : Host.Outcome State Fault Refusal := s.live (fun d => d.cmdWrite m 0x50038 v)

/-- PHASE_REMAIN reaches 0 (R474). -/
def execStepDone (s : State) : Host.Outcome State Fault Refusal := s.live (fun d => d.stepDone)

/-- A write of 1 to CNT_CLR (R479). -/
def execHearthCntClr (m : Nat) (s : State) : Host.Outcome State Fault Refusal := s.live (fun d => d.cmdWrite m 0x50068 1)

/-- Phase samples of a slot enter its filter chain (R483 to R495). -/
def execFilterOutput (r : Nat) (xs : List Int) (s : State) : Host.Outcome State Fault Refusal := s.live (fun d => d.samples r xs)

/-- A FILT_CMD RESTART bit (R491). -/
def execFilterRestart (m r : Nat) (s : State) : Host.Outcome State Fault Refusal := s.live (fun d => d.cmdWrite m 0x51000 (wd (2 ^ r)))

/-- A FILT_CMD FADE bit (R496, R497). -/
def execFilterFade (m p : Nat) (s : State) : Host.Outcome State Fault Refusal := s.live (fun d => d.cmdWrite m 0x51000 (wd (2 ^ (8 + p))))

end Sys2Proof.Machine
end

