-- ==== Sys2Proof/Machine/CmdTrace.lean ====
section
/-! DEFINITION. Commands: Slot accounting and the tracer (R655 to R666). -/

namespace Sys2Proof.Machine
open Sys2Proof

/-- A write of 1 to SLOT_SNAP (R658). -/
def execSlotSnap (m sl : Nat) (s : State) : Host.Outcome State Fault Refusal := s.live (fun d => d.cmdWrite m (sliceBase sl + 0xA00) 1)

/-- The SLOT_SNAP_ALL command (R658). -/
def execSlotSnapAll (m : Nat) (s : State) : Host.Outcome State Fault Refusal := s.live (fun d => d.cmdWrite m 0xA0020 4)

/-- The POP command (R661). -/
def execTracerPop (m : Nat) (s : State) : Host.Outcome State Fault Refusal := s.live (fun d => d.cmdWrite m 0xA0020 1)

/-- The HIST_CLR command (R662). -/
def execHistClr (m : Nat) (s : State) : Host.Outcome State Fault Refusal := s.live (fun d => d.cmdWrite m 0xA0020 2)

/-- A write of TRC_CFG with ENA 1 (R659). -/
def execTracerEnable (m : Nat) (v : Word) (s : State) : Host.Outcome State Fault Refusal :=
  s.live (fun d => d.cmdWrite m 0xA0010 (setFld v 0 1 1))

/-- A write of TRC_CFG with ENA 0 (R663). -/
def execTracerDisable (m : Nat) (v : Word) (s : State) : Host.Outcome State Fault Refusal :=
  s.live (fun d => d.cmdWrite m 0xA0010 (setFld v 0 1 0))

/-- A tag reaches egress or is dropped in the path (R661). -/
def execTagEnd (o : TagObs) (s : State) : Host.Outcome State Fault Refusal := s.live (fun d => d.tagEnd o)

/-- A tag without S5 after 2^26 clocks (R660). -/
def execTagTimeout (o : TagObs) (s : State) : Host.Outcome State Fault Refusal := s.live (fun d => d.tagTimeout o)

/-- A write of 1 to CNT_CLR (R666). -/
def execTracerCntClr (m : Nat) (s : State) : Host.Outcome State Fault Refusal := s.live (fun d => d.cmdWrite m 0xA0044 1)

end Sys2Proof.Machine
end

