-- ==== Sys2Proof/Machine/CmdTrust.lean ====
section
/-! DEFINITION. Commands: Measurement, attestation and the firmware swap (R636 to R654). -/

namespace Sys2Proof.Machine
open Sys2Proof

/-- The EXTEND command (R638). -/
def execHostExtend (m : Nat) (s : State) : Host.Outcome State Fault Refusal := s.live (fun d => d.cmdWrite m 0x40030 1)

/-- The SWAP command (R646). -/
def execFwSwap (m : Nat) (s : State) : Host.Outcome State Fault Refusal := s.live (fun d => d.cmdWrite m 0x40080 0xA501)

/-- The inactive firmware slot has been read (R647). -/
def execSwapPrecheckDone (o : SlotObs) (s : State) : Host.Outcome State Fault Refusal := s.live (fun d => d.swapPrecheck o)

/-- The cores begin to quiesce (R647). -/
def execSwapQuiesceStart (s : State) : Host.Outcome State Fault Refusal := s.live (fun d => d.swapQuiesce)

/-- The cores have stopped (R647). -/
def execSwapQuiesceDone (s : State) : Host.Outcome State Fault Refusal := s.live (fun d => d.swapQuiesced)

/-- The new image has been read, or the read has failed (R647). -/
def execSwapLoadDone (readOk : Bool) (o : SlotObs) (s : State) : Host.Outcome State Fault Refusal :=
  s.live (fun d => d.swapLoaded readOk o)

/-- Both cores report within 10 ms (R647). -/
def execSwapStartReport (s : State) : Host.Outcome State Fault Refusal := s.live (fun d => d.swapReport)

/-- A core does not report within 10 ms (R647). -/
def execSwapStartTimeout (s : State) : Host.Outcome State Fault Refusal := s.live (fun d => d.swapStartTimeout)

/-- A GO to MATE_ATTEST_CMD (R645). -/
def execMateAttestGo (m nonceLen : Nat) (s : State) : Host.Outcome State Fault Refusal :=
  s.live (fun d => d.cmdWrite m 0x40090 (wd (1 + 2 * (nonceLen % 64))))

/-- No ATTEST_RSP within 100 ms (R645). -/
def execMateAttestTimeout (s : State) : Host.Outcome State Fault Refusal := s.live (fun d => d.mateTimeout)

end Sys2Proof.Machine
end

