-- ==== Sys2Proof/Machine/CmdWall.lean ====
section
/-! DEFINITION. Commands: The Party Wall (R522 to R552). -/

namespace Sys2Proof.Machine
open Sys2Proof

/-- A management cycle begins: the IDLE messages heard in the last one and the slices without a digest (R531, R537, R541 to R543). -/
def execManagementCycleBoundary (idles held : Nat) (s : State) : Host.Outcome State Fault Refusal :=
  s.path (fun d => d.cycleBoundary idles held)

/-- A LEASE arrives (R530, R531, R536). -/
def execLeaseReceived (num time : Nat) (side : Bool) (cycle : Nat) (inBound : Bool) (s : State) : Host.Outcome State Fault Refusal :=
  s.path (fun d => d.leaseReceived num time side cycle inBound)

/-- A LEASE_ACK arrives (R531, R532). -/
def execLeaseAckReceived (num : Nat) (fit side : Bool) (s : State) : Host.Outcome State Fault Refusal :=
  s.path (fun d => d.leaseAck num fit side)

/-- A RELEASE arrives (R530). -/
def execReleaseReceived (s : State) : Host.Outcome State Fault Refusal := s.path (fun d => d.releaseReceived)

/-- A MIRROR_DELTA arrives (R528, R538). -/
def execMirrorDeltaReceived (seq cycle : Nat) (last : Bool) (recs : List MirRec) (s : State) : Host.Outcome State Fault Refusal :=
  s.path (fun d => d.mirrorDelta seq cycle last recs)

/-- A PM_SNAP arrives (R541). -/
def execPmSnapReceived (seq : Nat) (last : Bool) (off : Nat) (data : List Word) (s : State) : Host.Outcome State Fault Refusal :=
  s.live (fun d => d.pmSnap seq last off data)

/-- A BULK_REQ arrives (R545). -/
def execBulkReqReceived (s : State) : Host.Outcome State Fault Refusal := s.live (fun d => d.bulkReq d.view)

/-- A BULK_DATA arrives (R546). -/
def execBulkDataReceived (seq cycle off : Nat) (data : List Word) (recs : List MirRec) (s : State) : Host.Outcome State Fault Refusal :=
  s.live (fun d => d.bulkData seq cycle off data recs)

/-- A BULK_END arrives (R546). -/
def execBulkEndReceived (len : Nat) (crc : Word) (s : State) : Host.Outcome State Fault Refusal := s.path (fun d => d.bulkEnd len crc)

/-- A DIGEST arrives (R543). -/
def execDigestReceived (cycle mask : Nat) (sums : List Word) (s : State) : Host.Outcome State Fault Refusal :=
  s.live (fun d => d.digestReceived cycle mask sums)

/-- An ATTEST_REQ arrives (R643, R644). -/
def execAttestReqReceived (id nonceLen : Nat) (nonce : List Byte) (s : State) : Host.Outcome State Fault Refusal :=
  s.live (fun d => d.attestReq id nonceLen nonce)

/-- An ATTEST_RSP arrives (R645). -/
def execAttestRspReceived (id status : Nat) (report : List Byte) (s : State) : Host.Outcome State Fault Refusal :=
  s.live (fun d => d.attestRsp id status report)

/-- A message with a bad TYPE, LENGTH or CRC (R527). -/
def execPwBadMessage (msg : List Byte) (s : State) : Host.Outcome State Fault Refusal := s.live (fun d => d.pwBad msg)

/-- 100 us without sending (R525). -/
def execPwIdleSend (s : State) : Host.Outcome State Fault Refusal := s.live (fun d => d.pwIdle)

/-- 1 ms without a valid message (R525). -/
def execPwLinkDown (s : State) : Host.Outcome State Fault Refusal := s.live (fun d => d.pwLinkDown)

/-- No LEASE for LEASE_TIME (R530). -/
def execLeaseExpiry (s : State) : Host.Outcome State Fault Refusal := s.live (fun d => d.leaseExpiry)

/-- The guard of 2 ms passes (R530). -/
def execGuardExpiry (s : State) : Host.Outcome State Fault Refusal := s.path (fun d => d.guardExpiry)

/-- An established lease is unacknowledged for LEASE_TIME (R530, R532). -/
def execLeaseUnacked (s : State) : Host.Outcome State Fault Refusal := s.path (fun d => d.leaseUnacked)

/-- ACT_IN takes a filtered level (R524, R530). -/
def execActInChange (low : Bool) (s : State) : Host.Outcome State Fault Refusal := s.pins (fun d => d.actInPin low)

/-- MATE_PRESENT_IN takes a filtered level (R524). -/
def execMatePresentChange (low : Bool) (s : State) : Host.Outcome State Fault Refusal := s.pins (fun d => d.matePresent low)

/-- Every lane of a stopping device is in electrical idle (R534). -/
def execPwStopComplete (s : State) : Host.Outcome State Fault Refusal := s.live (fun d => d.pwStopDone)

/-- The HANDOVER command (R548). -/
def execHandover (m : Nat) (s : State) : Host.Outcome State Fault Refusal := s.live (fun d => d.cmdWrite m 0x70020 1)

/-- The RESYNC command (R550). -/
def execResync (m : Nat) (s : State) : Host.Outcome State Fault Refusal := s.live (fun d => d.cmdWrite m 0x70020 2)

/-- A write of 1 to CNT_CLR (R550). -/
def execPwCntClr (m : Nat) (s : State) : Host.Outcome State Fault Refusal := s.live (fun d => d.cmdWrite m 0x7006C 1)

/-- An IDLE arrives (R525). -/
def execIdleReceived (s : State) : Host.Outcome State Fault Refusal := s.live (fun d => d.pwBegin.pwHear 1)

/-- ACT_IN has stayed low for more than 2 ms while side A acts (R549). -/
def execDualActDetected (s : State) : Host.Outcome State Fault Refusal := s.live (fun d => d.dualTick)

end Sys2Proof.Machine
end

