-- ==== Sys2Proof/Machine/Dispatch.lean ====
section
/-! DEFINITION. Every command's meaning: one arm per constructor. -/

namespace Sys2Proof.Machine
open Sys2Proof

def exec (i : Instr) (s : State) : Host.Outcome State Fault Refusal :=
  match i with
  | .registerWrite m a be v => Sys2Proof.Machine.execRegisterWrite m a be v s
  | .wideSnapshotRead m a ecc => Sys2Proof.Machine.execWideSnapshotRead m a ecc s
  | .wideStageWrite m a ix v => Sys2Proof.Machine.execWideStageWrite m a ix v s
  | .wideApplyWrite m a v => Sys2Proof.Machine.execWideApplyWrite m a v s
  | .postedWriteTakesEffect dom => Sys2Proof.Machine.execPostedWriteTakesEffect dom s
  | .postedWriteLost dom => Sys2Proof.Machine.execPostedWriteLost dom s
  | .crossDomainRmwAnswer dom ecc => Sys2Proof.Machine.execCrossDomainRmwAnswer dom ecc s
  | .crossDomainRmwTimeout dom => Sys2Proof.Machine.execCrossDomainRmwTimeout dom s
  | .blockLockWrite m base v => Sys2Proof.Machine.execBlockLockWrite m base v s
  | .cfgCommit m => Sys2Proof.Machine.execCfgCommit m s
  | .cfgCrcPassEnd upsets => Sys2Proof.Machine.execCfgCrcPassEnd upsets s
  | .cfgDirtyLong => Sys2Proof.Machine.execCfgDirtyLong s
  | .accCntClr m => Sys2Proof.Machine.execAccCntClr m s
  | .warmResetCmd m => Sys2Proof.Machine.execWarmResetCmd m s
  | .laneEnable m n v => Sys2Proof.Machine.execLaneEnable m n v s
  | .laneDisable m n v => Sys2Proof.Machine.execLaneDisable m n v s
  | .laneDrainDone n => Sys2Proof.Machine.execLaneDrainDone n s
  | .laneTxStart n => Sys2Proof.Machine.execLaneTxStart n s
  | .txIdleAtFrameEnd n => Sys2Proof.Machine.execTxIdleAtFrameEnd n s
  | .txResume n => Sys2Proof.Machine.execTxResume n s
  | .adaptRestart m n => Sys2Proof.Machine.execAdaptRestart m n s
  | .adaptDone n => Sys2Proof.Machine.execAdaptDone n s
  | .marginStart m n => Sys2Proof.Machine.execMarginStart m n s
  | .marginAbort m n => Sys2Proof.Machine.execMarginAbort m n s
  | .marginPointDone n errs => Sys2Proof.Machine.execMarginPointDone n errs s
  | .losDeclare n => Sys2Proof.Machine.execLosDeclare n s
  | .losClear n => Sys2Proof.Machine.execLosClear n s
  | .freqOorDeclare n off => Sys2Proof.Machine.execFreqOorDeclare n off s
  | .freqOorClear n off => Sys2Proof.Machine.execFreqOorClear n off s
  | .sdhFrameEnd n bits tags mem => Sys2Proof.Machine.execSdhFrameEnd n bits tags mem s
  | .lofDeclare n otu => Sys2Proof.Machine.execLofDeclare n otu s
  | .lofClear n otu => Sys2Proof.Machine.execLofClear n otu s
  | .otuFrameEnd n bits => Sys2Proof.Machine.execOtuFrameEnd n bits s
  | .otuLomDeclare n => Sys2Proof.Machine.execOtuLomDeclare n s
  | .otuLomClear n => Sys2Proof.Machine.execOtuLomClear n s
  | .laneTxFrame n => Sys2Proof.Machine.execLaneTxFrame n s
  | .ohRxRecordBuild n => Sys2Proof.Machine.execOhRxRecordBuild n s
  | .ohTxPush m n => Sys2Proof.Machine.execOhTxPush m n s
  | .ohCntClr m n => Sys2Proof.Machine.execOhCntClr m n s
  | .hoEnable m h v => Sys2Proof.Machine.execHoEnable m h v s
  | .hoRxStart h => Sys2Proof.Machine.execHoRxStart h s
  | .hoTxStart h => Sys2Proof.Machine.execHoTxStart h s
  | .hoDisable m h v => Sys2Proof.Machine.execHoDisable m h v s
  | .hoDrainDone h => Sys2Proof.Machine.execHoDrainDone h s
  | .hoLomDeclare h => Sys2Proof.Machine.execHoLomDeclare h s
  | .hoLomClear h => Sys2Proof.Machine.execHoLomClear h s
  | .hoRegenFrame h delta => Sys2Proof.Machine.execHoRegenFrame h delta s
  | .tcEnable m k v => Sys2Proof.Machine.execTcEnable m k v s
  | .tcRxStart k => Sys2Proof.Machine.execTcRxStart k s
  | .tcTxStart k => Sys2Proof.Machine.execTcTxStart k s
  | .tcDisable m k v => Sys2Proof.Machine.execTcDisable m k v s
  | .tcDrainDone k => Sys2Proof.Machine.execTcDrainDone k s
  | .tcEventPop m sl => Sys2Proof.Machine.execTcEventPop m sl s
  | .tcRegenPeriod k delta => Sys2Proof.Machine.execTcRegenPeriod k delta s
  | .clientConfigWrite m k v => Sys2Proof.Machine.execClientConfigWrite m k v s
  | .clientFrameEnd j => Sys2Proof.Machine.execClientFrameEnd j s
  | .e1Crc4CandidateTimeout j off => Sys2Proof.Machine.execE1Crc4CandidateTimeout j off s
  | .e1Crc4AutoTimeout j => Sys2Proof.Machine.execE1Crc4AutoTimeout j s
  | .clientLofDeclare j => Sys2Proof.Machine.execClientLofDeclare j s
  | .clientLofClear j => Sys2Proof.Machine.execClientLofClear j s
  | .retimeLeak k => Sys2Proof.Machine.execRetimeLeak k s
  | .hoClientWrite m sl ix v => Sys2Proof.Machine.execHoClientWrite m sl ix v s
  | .clientSel m sl v => Sys2Proof.Machine.execClientSel m sl v s
  | .systemFrameBoundary store page => Sys2Proof.Machine.execSystemFrameBoundary store page s
  | .pageEntryWrite m p c v => Sys2Proof.Machine.execPageEntryWrite m p c v s
  | .hallSwitchGo m => Sys2Proof.Machine.execHallSwitchGo m s
  | .hallSwitchCancel m => Sys2Proof.Machine.execHallSwitchCancel m s
  | .preparePassEnd ecc => Sys2Proof.Machine.execPreparePassEnd ecc s
  | .slicePreparePassEnd sl ecc => Sys2Proof.Machine.execSlicePreparePassEnd sl ecc s
  | .hallReadySample => Sys2Proof.Machine.execHallReadySample s
  | .hallOprecWrite => Sys2Proof.Machine.execHallOprecWrite s
  | .hallCntClr m => Sys2Proof.Machine.execHallCntClr m s
  | .sfsdWindowEnd l sd => Sys2Proof.Machine.execSfsdWindowEnd l sd s
  | .landingScan => Sys2Proof.Machine.execLandingScan s
  | .holdoffExpiry msp ix => Sys2Proof.Machine.execHoldoffExpiry msp ix s
  | .wtrExpiry msp ix => Sys2Proof.Machine.execWtrExpiry msp ix s
  | .selectorChoiceApply msp ix => Sys2Proof.Machine.execSelectorChoiceApply msp ix s
  | .protWordWrite m c v => Sys2Proof.Machine.execProtWordWrite m c v s
  | .selEnable m ix v => Sys2Proof.Machine.execSelEnable m ix v s
  | .selDisable m ix v => Sys2Proof.Machine.execSelDisable m ix v s
  | .selCfgChange m ix v => Sys2Proof.Machine.execSelCfgChange m ix v s
  | .landClear m msp ix => Sys2Proof.Machine.execLandClear m msp ix s
  | .lockout m msp ix => Sys2Proof.Machine.execLockout m msp ix s
  | .forcedP m msp ix => Sys2Proof.Machine.execForcedP m msp ix s
  | .forcedW m msp ix => Sys2Proof.Machine.execForcedW m msp ix s
  | .manualP m msp ix => Sys2Proof.Machine.execManualP m msp ix s
  | .manualW m msp ix => Sys2Proof.Machine.execManualW m msp ix s
  | .exercise m msp ix => Sys2Proof.Machine.execExercise m msp ix s
  | .exerTimeout ix => Sys2Proof.Machine.execExerTimeout ix s
  | .mspEnable m ix v => Sys2Proof.Machine.execMspEnable m ix v s
  | .mspDisable m ix v => Sys2Proof.Machine.execMspDisable m ix v s
  | .fopDeclare ix cause => Sys2Proof.Machine.execFopDeclare ix cause s
  | .fopClear ix => Sys2Proof.Machine.execFopClear ix s
  | .landingGroupGo m v => Sys2Proof.Machine.execLandingGroupGo m v s
  | .landingGroupDone => Sys2Proof.Machine.execLandingGroupDone s
  | .selEventPop m => Sys2Proof.Machine.execSelEventPop m s
  | .landingCntClr m => Sys2Proof.Machine.execLandingCntClr m s
  | .cellarTrainingDone failed => Sys2Proof.Machine.execCellarTrainingDone failed s
  | .cellarRetrain m => Sys2Proof.Machine.execCellarRetrain m s
  | .cellarRecal c settles => Sys2Proof.Machine.execCellarRecal c settles s
  | .pairSet m v => Sys2Proof.Machine.execPairSet m v s
  | .pairReservationApply ix => Sys2Proof.Machine.execPairReservationApply ix s
  | .pairSel m v => Sys2Proof.Machine.execPairSel m v s
  | .alignSearchSlot ecc => Sys2Proof.Machine.execAlignSearchSlot ecc s
  | .pairRetryDue ix => Sys2Proof.Machine.execPairRetryDue ix s
  | .rehomeChangeover ix late => Sys2Proof.Machine.execRehomeChangeover ix late s
  | .ringEnable m r v => Sys2Proof.Machine.execRingEnable m r v s
  | .ringDisable m r v => Sys2Proof.Machine.execRingDisable m r v s
  | .ringPostExpiry r => Sys2Proof.Machine.execRingPostExpiry r s
  | .ringFreeze m r => Sys2Proof.Machine.execRingFreeze m r s
  | .ringExport m r => Sys2Proof.Machine.execRingExport m r s
  | .ringRearm m r => Sys2Proof.Machine.execRingRearm m r s
  | .captureExportEnd r ok steps ecc => Sys2Proof.Machine.execCaptureExportEnd r ok steps ecc s
  | .cellarCntClr m => Sys2Proof.Machine.execCellarCntClr m s
  | .pmSecondBoundary ecc => Sys2Proof.Machine.execPmSecondBoundary ecc s
  | .binUpdate ecc => Sys2Proof.Machine.execBinUpdate ecc s
  | .tcaPop m => Sys2Proof.Machine.execTcaPop m s
  | .viewSel m v ecc => Sys2Proof.Machine.execViewSel m v ecc s
  | .rawSel m v => Sys2Proof.Machine.execRawSel m v s
  | .cntPreset m v => Sys2Proof.Machine.execCntPreset m v s
  | .atticEnable m v => Sys2Proof.Machine.execAtticEnable m v s
  | .atticDisable m v => Sys2Proof.Machine.execAtticDisable m v s
  | .adopt m => Sys2Proof.Machine.execAdopt m s
  | .smartNow m => Sys2Proof.Machine.execSmartNow m s
  | .smartPoll ws => Sys2Proof.Machine.execSmartPoll ws s
  | .adoptionEnd o => Sys2Proof.Machine.execAdoptionEnd o s
  | .atticFrameBuild => Sys2Proof.Machine.execAtticFrameBuild s
  | .atticFrameDrop => Sys2Proof.Machine.execAtticFrameDrop s
  | .nvmeCommandComplete ix ok => Sys2Proof.Machine.execNvmeCommandComplete ix ok s
  | .nvmeFlushComplete => Sys2Proof.Machine.execNvmeFlushComplete s
  | .atticLoss cause => Sys2Proof.Machine.execAtticLoss cause s
  | .atticCntClr m => Sys2Proof.Machine.execAtticCntClr m s
  | .hearthTick o a b => Sys2Proof.Machine.execHearthTick o a b s
  | .refEnable m r v => Sys2Proof.Machine.execRefEnable m r v s
  | .refDisable m r v => Sys2Proof.Machine.execRefDisable m r v s
  | .refCfgDomainJudge => Sys2Proof.Machine.execRefCfgDomainJudge s
  | .refWtrExpiry r => Sys2Proof.Machine.execRefWtrExpiry r s
  | .hearthSwitchSettle => Sys2Proof.Machine.execHearthSwitchSettle s
  | .dpllLock => Sys2Proof.Machine.execDpllLock s
  | .holdoverLimitExpiry => Sys2Proof.Machine.execHoldoverLimitExpiry s
  | .hearthAuto m v => Sys2Proof.Machine.execHearthAuto m v s
  | .hearthManual m v => Sys2Proof.Machine.execHearthManual m v s
  | .forcedHoldover m v => Sys2Proof.Machine.execForcedHoldover m v s
  | .freeRun m v => Sys2Proof.Machine.execFreeRun m v s
  | .phaseStep m v => Sys2Proof.Machine.execPhaseStep m v s
  | .stepDone => Sys2Proof.Machine.execStepDone s
  | .hearthCntClr m => Sys2Proof.Machine.execHearthCntClr m s
  | .filterOutput r xs => Sys2Proof.Machine.execFilterOutput r xs s
  | .filterRestart m r => Sys2Proof.Machine.execFilterRestart m r s
  | .filterFade m p => Sys2Proof.Machine.execFilterFade m p s
  | .ppsEdge x width since => Sys2Proof.Machine.execPpsEdge x width since s
  | .todMessage x bytes gapOk after => Sys2Proof.Machine.execTodMessage x bytes gapOk after s
  | .domainLost x => Sys2Proof.Machine.execDomainLost x s
  | .domainEnable m x v => Sys2Proof.Machine.execDomainEnable m x v s
  | .domainDisable m x v => Sys2Proof.Machine.execDomainDisable m x v s
  | .todDomainSelect m v => Sys2Proof.Machine.execTodDomainSelect m v s
  | .todSet m v => Sys2Proof.Machine.execTodSet m v s
  | .tpArm m r cfg v => Sys2Proof.Machine.execTpArm m r cfg v s
  | .tpPulseDue r => Sys2Proof.Machine.execTpPulseDue r s
  | .tpPulseEnd r => Sys2Proof.Machine.execTpPulseEnd r s
  | .todCntClr m => Sys2Proof.Machine.execTodCntClr m s
  | .managementCycleBoundary idles held => Sys2Proof.Machine.execManagementCycleBoundary idles held s
  | .leaseReceived num time side cycle inBound => Sys2Proof.Machine.execLeaseReceived num time side cycle inBound s
  | .leaseAckReceived num fit side => Sys2Proof.Machine.execLeaseAckReceived num fit side s
  | .releaseReceived => Sys2Proof.Machine.execReleaseReceived s
  | .mirrorDeltaReceived seq cycle last recs => Sys2Proof.Machine.execMirrorDeltaReceived seq cycle last recs s
  | .pmSnapReceived seq last off data => Sys2Proof.Machine.execPmSnapReceived seq last off data s
  | .bulkReqReceived => Sys2Proof.Machine.execBulkReqReceived s
  | .bulkDataReceived seq cycle off data recs => Sys2Proof.Machine.execBulkDataReceived seq cycle off data recs s
  | .bulkEndReceived len crc => Sys2Proof.Machine.execBulkEndReceived len crc s
  | .digestReceived cycle mask sums => Sys2Proof.Machine.execDigestReceived cycle mask sums s
  | .attestReqReceived id nonceLen nonce => Sys2Proof.Machine.execAttestReqReceived id nonceLen nonce s
  | .attestRspReceived id status report => Sys2Proof.Machine.execAttestRspReceived id status report s
  | .pwBadMessage msg => Sys2Proof.Machine.execPwBadMessage msg s
  | .pwIdleSend => Sys2Proof.Machine.execPwIdleSend s
  | .pwLinkDown => Sys2Proof.Machine.execPwLinkDown s
  | .leaseExpiry => Sys2Proof.Machine.execLeaseExpiry s
  | .guardExpiry => Sys2Proof.Machine.execGuardExpiry s
  | .leaseUnacked => Sys2Proof.Machine.execLeaseUnacked s
  | .actInChange low => Sys2Proof.Machine.execActInChange low s
  | .matePresentChange low => Sys2Proof.Machine.execMatePresentChange low s
  | .pwStopComplete => Sys2Proof.Machine.execPwStopComplete s
  | .handover m => Sys2Proof.Machine.execHandover m s
  | .resync m => Sys2Proof.Machine.execResync m s
  | .pwCntClr m => Sys2Proof.Machine.execPwCntClr m s
  | .idleReceived => Sys2Proof.Machine.execIdleReceived s
  | .dualActDetected => Sys2Proof.Machine.execDualActDetected s
  | .faultSourceEvent reps ended temp volts => Sys2Proof.Machine.execFaultSourceEvent reps ended temp volts s
  | .faultWindowExpiry ix => Sys2Proof.Machine.execFaultWindowExpiry ix s
  | .cooldownEnd ix => Sys2Proof.Machine.execCooldownEnd ix s
  | .maskEnd => Sys2Proof.Machine.execMaskEnd s
  | .isolateHoldEnd => Sys2Proof.Machine.execIsolateHoldEnd s
  | .wdogExpiry core since => Sys2Proof.Machine.execWdogExpiry core since s
  | .srcInj m ix v => Sys2Proof.Machine.execSrcInj m ix v s
  | .injectedEvent ix => Sys2Proof.Machine.execInjectedEvent ix s
  | .safeExit m => Sys2Proof.Machine.execSafeExit m s
  | .logClear m => Sys2Proof.Machine.execLogClear m s
  | .fcRearm m classes => Sys2Proof.Machine.execFcRearm m classes s
  | .inputConditionEnter ix timeout value => Sys2Proof.Machine.execInputConditionEnter ix timeout value s
  | .powerGood mv => Sys2Proof.Machine.execPowerGood mv s
  | .railFail rail mv => Sys2Proof.Machine.execRailFail rail mv s
  | .coldReset => Sys2Proof.Machine.execColdReset s
  | .resetRelease straps => Sys2Proof.Machine.execResetRelease straps s
  | .warmResetHoldEnd => Sys2Proof.Machine.execWarmResetHoldEnd s
  | .flashDiscoveryDone o => Sys2Proof.Machine.execFlashDiscoveryDone o s
  | .fwImageLoaded a b => Sys2Proof.Machine.execFwImageLoaded a b s
  | .coreStartReport => Sys2Proof.Machine.execCoreStartReport s
  | .coreStartTimeout => Sys2Proof.Machine.execCoreStartTimeout s
  | .cfgImageVerified a b => Sys2Proof.Machine.execCfgImageVerified a b s
  | .cfgClearDone => Sys2Proof.Machine.execCfgClearDone s
  | .cfgWr32 => Sys2Proof.Machine.execCfgWr32 s
  | .cfgWrm32 ecc => Sys2Proof.Machine.execCfgWrm32 ecc s
  | .cfgWr128 => Sys2Proof.Machine.execCfgWr128 s
  | .cfgFill => Sys2Proof.Machine.execCfgFill s
  | .cfgBlock => Sys2Proof.Machine.execCfgBlock s
  | .cfgPoll ecc => Sys2Proof.Machine.execCfgPoll ecc s
  | .pollTimeout => Sys2Proof.Machine.execPollTimeout s
  | .cfgDelay => Sys2Proof.Machine.execCfgDelay s
  | .delayElapsed => Sys2Proof.Machine.execDelayElapsed s
  | .commitCfg => Sys2Proof.Machine.execCommitCfg s
  | .commitCfgTimeout => Sys2Proof.Machine.execCommitCfgTimeout s
  | .cfgLock => Sys2Proof.Machine.execCfgLock s
  | .cfgEnd o => Sys2Proof.Machine.execCfgEnd o s
  | .flashErase m target => Sys2Proof.Machine.execFlashErase m target s
  | .flashProgram m target => Sys2Proof.Machine.execFlashProgram m target s
  | .flashRead m target => Sys2Proof.Machine.execFlashRead m target s
  | .flashVerify m target => Sys2Proof.Machine.execFlashVerify m target s
  | .dirWrite m => Sys2Proof.Machine.execDirWrite m s
  | .flashStepDone o => Sys2Proof.Machine.execFlashStepDone o s
  | .flashStepTimeout => Sys2Proof.Machine.execFlashStepTimeout s
  | .flashWinWrite m off b => Sys2Proof.Machine.execFlashWinWrite m off b s
  | .enroll m => Sys2Proof.Machine.execEnroll m s
  | .enrollDone => Sys2Proof.Machine.execEnrollDone s
  | .porchLaneSync s0 s1 => Sys2Proof.Machine.execPorchLaneSync s0 s1 s
  | .porchAlignMarker skew => Sys2Proof.Machine.execPorchAlignMarker skew s
  | .porchLinkTimeout => Sys2Proof.Machine.execPorchLinkTimeout s
  | .porchKeepaliveSend => Sys2Proof.Machine.execPorchKeepaliveSend s
  | .porchInvalidFrame frame => Sys2Proof.Machine.execPorchInvalidFrame frame s
  | .porchAckReceived ack => Sys2Proof.Machine.execPorchAckReceived ack s
  | .porchNakReceived ack => Sys2Proof.Machine.execPorchNakReceived ack s
  | .porchKeepaliveReceived ack => Sys2Proof.Machine.execPorchKeepaliveReceived ack s
  | .porchAckSend => Sys2Proof.Machine.execPorchAckSend s
  | .porchReplayTimeout => Sys2Proof.Machine.execPorchReplayTimeout s
  | .porchRead h a bytes be ecc => Sys2Proof.Machine.execPorchRead h a bytes be ecc s
  | .porchWrite h a be data => Sys2Proof.Machine.execPorchWrite h a be data s
  | .porchRmw h a data ecc => Sys2Proof.Machine.execPorchRmw h a data ecc s
  | .writeBulk h data => Sys2Proof.Machine.execWriteBulk h data s
  | .ohStream h n bytes => Sys2Proof.Machine.execOhStream h n bytes s
  | .atticRead h unit n => Sys2Proof.Machine.execAtticRead h unit n s
  | .atticReadServed data bad => Sys2Proof.Machine.execAtticReadServed data bad s
  | .attest h nonceLen payload => Sys2Proof.Machine.execAttest h nonceLen payload s
  | .attestReportReady => Sys2Proof.Machine.execAttestReportReady s
  | .porchBadTtype h ttype => Sys2Proof.Machine.execPorchBadTtype h ttype s
  | .eventSummarySend => Sys2Proof.Machine.execEventSummarySend s
  | .eventFollowUpSend => Sys2Proof.Machine.execEventFollowUpSend s
  | .porchCfgWrite m v => Sys2Proof.Machine.execPorchCfgWrite m v s
  | .porchCntClr m => Sys2Proof.Machine.execPorchCntClr m s
  | .i2cPointerWrite v stop => Sys2Proof.Machine.execI2cPointerWrite v stop s
  | .i2cWordWrite a v => Sys2Proof.Machine.execI2cWordWrite a v s
  | .i2cReadWords n ecc => Sys2Proof.Machine.execI2cReadWords n ecc s
  | .i2cStatusRead ecc => Sys2Proof.Machine.execI2cStatusRead ecc s
  | .i2cBadLengthWrite => Sys2Proof.Machine.execI2cBadLengthWrite s
  | .i2cSclTimeout lowMs => Sys2Proof.Machine.execI2cSclTimeout lowMs s
  | .hostExtend m => Sys2Proof.Machine.execHostExtend m s
  | .fwSwap m => Sys2Proof.Machine.execFwSwap m s
  | .swapPrecheckDone o => Sys2Proof.Machine.execSwapPrecheckDone o s
  | .swapQuiesceStart => Sys2Proof.Machine.execSwapQuiesceStart s
  | .swapQuiesceDone => Sys2Proof.Machine.execSwapQuiesceDone s
  | .swapLoadDone readOk o => Sys2Proof.Machine.execSwapLoadDone readOk o s
  | .swapStartReport => Sys2Proof.Machine.execSwapStartReport s
  | .swapStartTimeout => Sys2Proof.Machine.execSwapStartTimeout s
  | .mateAttestGo m nonceLen => Sys2Proof.Machine.execMateAttestGo m nonceLen s
  | .mateAttestTimeout => Sys2Proof.Machine.execMateAttestTimeout s
  | .slotSnap m sl => Sys2Proof.Machine.execSlotSnap m sl s
  | .slotSnapAll m => Sys2Proof.Machine.execSlotSnapAll m s
  | .tracerPop m => Sys2Proof.Machine.execTracerPop m s
  | .histClr m => Sys2Proof.Machine.execHistClr m s
  | .tracerEnable m v => Sys2Proof.Machine.execTracerEnable m v s
  | .tracerDisable m v => Sys2Proof.Machine.execTracerDisable m v s
  | .tagEnd o => Sys2Proof.Machine.execTagEnd o s
  | .tagTimeout o => Sys2Proof.Machine.execTagTimeout o s
  | .tracerCntClr m => Sys2Proof.Machine.execTracerCntClr m s
  | .tapReset => Sys2Proof.Machine.execTapReset s
  | .extest cells => Sys2Proof.Machine.execExtest cells s
  | .idcodeLoad => Sys2Proof.Machine.execIdcodeLoad s
  | .samplePreload cells => Sys2Proof.Machine.execSamplePreload cells s
  | .highz => Sys2Proof.Machine.execHighz s
  | .clamp => Sys2Proof.Machine.execClamp s
  | .extestPulse cells => Sys2Proof.Machine.execExtestPulse cells s
  | .extestTrain cells => Sys2Proof.Machine.execExtestTrain cells s
  | .tapBypass ir => Sys2Proof.Machine.execTapBypass ir s

end Sys2Proof.Machine
end

