-- ==== Sys2Proof/Machine/Step.lean ====
section
/-! DEFINITION. One step of the block: the command at the front of the queue, or an HK period of an idle block. -/

namespace Sys2Proof.Machine
open Sys2Proof

/-- The command at the front of the queue runs with the queue's rest; on an empty queue the block idles for one HK period.
DESIGN CHOICE, log entry 1; DESIGN CHOICE, log entry 3. -/
def step (s : State) : Host.Outcome State Fault Refusal :=
  match s.pending with
  | c :: rest => exec c { s with pending := rest }
  | [] => .next { s with dev := irqSettle s.dev s.dev.hkTick }

/-- The command a word spells, put at the front of the queue: the table spells none.
DESIGN CHOICE, log entry 1. -/
def State.withFetchWord (s : State) (nbits w : Nat) : State :=
  match decodeTableWord nbits w with
  | some c => { s with pending := c :: s.pending }
  | none => s

end Sys2Proof.Machine
end

