-- ==== Sys2Proof/Machine/Pins.lean ====
section
/-! DEFINITION. What the outputs of the device show (R677, R682). -/

namespace Sys2Proof.Machine
open Sys2Proof

/-- The outputs of R677: a lane's transmitter, the three links' transmitters, the drive's reset, a Cellar channel's reset and its
buses, the flash, the clock and pulse outputs, the open-drain pins, TDO. -/
inductive OutPin
  | ltx (n : Nat) | enTx | pwTx | pcieTx | perst | celRst (c : Nat) | celBus (c : Nat)
  | nvmCs | nvmSck | nvmIo23 | xclk (b : Bool) | tpulse (r : Nat) | irqN | actOut | i2c | tdo
  deriving DecidableEq, Repr

/-- What an output shows: not driven, an open drain that is released, a level, electrical idle (R690), a clock with its XCLK_CFG
value, driven by the unit behind it, or driven by the boundary register. -/
inductive PinShow
  | highZ | released | low | high | idle | clock (f : Nat) | running | scan
  deriving DecidableEq, Repr

/-- The boundary register has a cell for the output (R681). -/
def OutPin.covered (p : OutPin) : Bool := p != .tdo

/-- An output of an unpowered device, and of one in reset (R677).
DESIGN CHOICE, log entry 70. -/
def OutPin.undriven : OutPin → PinShow
  | .irqN | .actOut | .i2c => .released
  | _ => .highZ

/-- A level. -/
def PinShow.level (b : Bool) : PinShow := if b then .high else .low

/-- The device is in reset: before reset release, or in the hold of a warm reset (R677). -/
def Device.pinsInReset (d : Device) : Bool := d.boot.held || decide (d.bootPhase = 0)

/-- An output after reset release (R677).
DESIGN CHOICE, log entry 70. -/
def Device.outPin (d : Device) : OutPin → PinShow
  | .ltx n => if (d.lane n).txOn then .running else .idle
  | .enTx | .pwTx | .pcieTx | .celRst _ | .celBus _ | .i2c | .tdo => .running
  | .perst => .level d.attic.perst
  | .nvmCs => if d.flashBusy then .running else .high
  | .nvmSck => if d.flashBusy then .running else .low
  | .nvmIo23 => if d.flashBusy then .running else .high
  | .xclk b => if d.xclk b = 0 then .low else .clock (d.xclk b)
  | .tpulse r => .level (d.tpLevel r)
  | .irqN => if d.irqLow then .low else .released
  | .actOut => if d.pw.actOut then .low else .released

/-- What an output shows (R677): with power, the boundary register alone sets a covered output while the test access port's instruction
says so (R682).
DESIGN CHOICE, log entry 70. -/
def State.outPin (s : State) (p : OutPin) : PinShow :=
  if !s.dev.boot.power then p.undriven
  else if p.covered && s.tap.drives then (if s.tap.highz then .highZ else .scan)
  else if p = .tdo then .running
  else if s.dev.pinsInReset then p.undriven
  else s.dev.outPin p

end Sys2Proof.Machine
end

