-- ==== Sys2Proof/WellFormed.lean ====
section
/-! DEFINITION. The commands that name an object the device has: masters, lanes, contexts, slots and addresses in range, messages
of the length the spec gives them (R9, R10, R40, R89, R173, R511, R527, R616, R644, R681). -/

namespace Sys2Proof

/-- A master that writes (R89): Porch, cores, loader, Attic engine, Party Wall, I2C target. -/
def masterOk (m : Nat) : Bool := decide (m < 7)
/-- One of the 64 lanes. -/
def laneOk (n : Nat) : Bool := decide (n < 64)
/-- A 32-bit address (R40). -/
def addrOk (a : Nat) : Bool := decide (a < 2 ^ 32)
/-- A context of the Hall: a low-order one, or 262,144 and a high-order one. -/
def ctxOk (c : Nat) : Bool := decide (c < 274432)
/-- A client monitor: of a tributary, or 262,144 and a high-order entry. -/
def clientOk (j : Nat) : Bool := decide (j < 262656)
/-- A target domain (R66). -/
def Domain.ok : Domain → Bool
  | .hearth => true
  | .pcie => true
  | .laneRx n => laneOk n
/-- A layer with SF and SD (R316). -/
def SfLayer.ok : SfLayer → Bool
  | .ms n => laneOk n
  | .sm n => laneOk n
  | .ho h => decide (h < 12288)
  | .tc k => decide (k < 262144)
/-- Frame header fields in their widths (R616). -/
def PHead.ok (h : PHead) : Bool :=
  decide (h.seq < 4096) && decide (h.tag < 64) && (match h.ack with | some a => decide (a < 4096) | none => true)

/-- A command names what the device has, and carries messages of the spec's length.
DESIGN CHOICE, log entry 4. -/
def Instr.wf : Instr → Bool
  | .registerWrite m a be _ => masterOk m && addrOk a && decide (be < 16)
  | .wideSnapshotRead m a _ => masterOk m && addrOk a
  | .wideStageWrite m a i _ => masterOk m && addrOk a && decide (i < 3)
  | .wideApplyWrite m a _ => masterOk m && addrOk a
  | .postedWriteTakesEffect dom => dom.ok
  | .postedWriteLost dom => dom.ok
  | .crossDomainRmwAnswer dom _ => dom.ok
  | .crossDomainRmwTimeout dom => dom.ok
  | .blockLockWrite m base _ => masterOk m && addrOk base && base % 0x10000 == 0
  | .cfgCommit m => masterOk m
  | .cfgCrcPassEnd upsets => upsets.all (fun u => addrOk u.1 && u.1 % 4 == 0)
  | .cfgDirtyLong => true
  | .accCntClr m => masterOk m
  | .warmResetCmd m => masterOk m
  | .laneEnable m n _ => masterOk m && laneOk n
  | .laneDisable m n _ => masterOk m && laneOk n
  | .laneDrainDone n => laneOk n
  | .laneTxStart n => laneOk n
  | .txIdleAtFrameEnd n => laneOk n
  | .txResume n => laneOk n
  | .adaptRestart m n => masterOk m && laneOk n
  | .adaptDone n => laneOk n
  | .marginStart m n => masterOk m && laneOk n
  | .marginAbort m n => masterOk m && laneOk n
  | .marginPointDone n _ => laneOk n
  | .losDeclare n => laneOk n
  | .losClear n => laneOk n
  | .freqOorDeclare n _ => laneOk n
  | .freqOorClear n _ => laneOk n
  | .sdhFrameEnd n bits _ mem => laneOk n && decide (bits.length ≤ 155520) && mem.all (fun m => ctxOk m.ctx)
  | .lofDeclare n _ => laneOk n
  | .lofClear n _ => laneOk n
  | .otuFrameEnd n bits => laneOk n && decide (bits.length ≤ 16320)
  | .otuLomDeclare n => laneOk n
  | .otuLomClear n => laneOk n
  | .laneTxFrame n => laneOk n
  | .ohRxRecordBuild n => laneOk n
  | .ohTxPush m n => masterOk m && laneOk n
  | .ohCntClr m n => masterOk m && laneOk n
  | .hoEnable m h _ => masterOk m && decide (h < 12288)
  | .hoRxStart h => decide (h < 12288)
  | .hoTxStart h => decide (h < 12288)
  | .hoDisable m h _ => masterOk m && decide (h < 12288)
  | .hoDrainDone h => decide (h < 12288)
  | .hoLomDeclare h => decide (h < 12288)
  | .hoLomClear h => decide (h < 12288)
  | .hoRegenFrame h _ => decide (h < 12288)
  | .tcEnable m k _ => masterOk m && decide (k < 262144)
  | .tcRxStart k => decide (k < 262144)
  | .tcTxStart k => decide (k < 262144)
  | .tcDisable m k _ => masterOk m && decide (k < 262144)
  | .tcDrainDone k => decide (k < 262144)
  | .tcEventPop m sl => masterOk m && decide (sl < 16)
  | .tcRegenPeriod k _ => decide (k < 262144)
  | .clientConfigWrite m k _ => masterOk m && decide (k < 262144)
  | .clientFrameEnd j => clientOk j
  | .e1Crc4CandidateTimeout j _ => clientOk j
  | .e1Crc4AutoTimeout j => clientOk j
  | .clientLofDeclare j => clientOk j
  | .clientLofClear j => clientOk j
  | .retimeLeak k => decide (k < 262144)
  | .hoClientWrite m sl i _ => masterOk m && decide (sl < 16) && decide (i < 32)
  | .clientSel m sl _ => masterOk m && decide (sl < 16)
  | .systemFrameBoundary store page => store.all ctxOk && page.all ctxOk
  | .pageEntryWrite m p c _ => masterOk m && decide (p < 2) && ctxOk c
  | .hallSwitchGo m => masterOk m
  | .hallSwitchCancel m => masterOk m
  | .preparePassEnd ecc => ecc.all ctxOk
  | .slicePreparePassEnd sl ecc => decide (sl < 16) && ecc.all ctxOk
  | .hallReadySample => true
  | .hallOprecWrite => true
  | .hallCntClr m => masterOk m
  | .sfsdWindowEnd l _ => l.ok
  | .landingScan => true
  | .holdoffExpiry msp i => decide (i < if msp then 32 else 137216)
  | .wtrExpiry msp i => decide (i < if msp then 32 else 137216)
  | .selectorChoiceApply msp i => decide (i < if msp then 32 else 137216)
  | .protWordWrite m c _ => masterOk m && ctxOk c
  | .selEnable m i _ => masterOk m && decide (i < 137216)
  | .selDisable m i _ => masterOk m && decide (i < 137216)
  | .selCfgChange m i _ => masterOk m && decide (i < 137216)
  | .landClear m msp i => masterOk m && decide (i < if msp then 32 else 137216)
  | .lockout m msp i => masterOk m && decide (i < if msp then 32 else 137216)
  | .forcedP m msp i => masterOk m && decide (i < if msp then 32 else 137216)
  | .forcedW m msp i => masterOk m && decide (i < if msp then 32 else 137216)
  | .manualP m msp i => masterOk m && decide (i < if msp then 32 else 137216)
  | .manualW m msp i => masterOk m && decide (i < if msp then 32 else 137216)
  | .exercise m msp i => masterOk m && decide (i < if msp then 32 else 137216)
  | .exerTimeout i => decide (i < 32)
  | .mspEnable m i _ => masterOk m && decide (i < 32)
  | .mspDisable m i _ => masterOk m && decide (i < 32)
  | .fopDeclare i _ => decide (i < 32)
  | .fopClear i => decide (i < 32)
  | .landingGroupGo m _ => masterOk m
  | .landingGroupDone => true
  | .selEventPop m => masterOk m
  | .landingCntClr m => masterOk m
  | .cellarTrainingDone failed => failed.all (fun c => decide (c < 12))
  | .cellarRetrain m => masterOk m
  | .cellarRecal c _ => decide (c < 12)
  | .pairSet m _ => masterOk m
  | .pairReservationApply i => decide (i < 137216)
  | .pairSel m _ => masterOk m
  | .alignSearchSlot ecc => ecc.all (fun c => decide (c < 12))
  | .pairRetryDue i => decide (i < 137216)
  | .rehomeChangeover i _ => decide (i < 137216)
  | .ringEnable m r _ => masterOk m && decide (r < 256)
  | .ringDisable m r _ => masterOk m && decide (r < 256)
  | .ringPostExpiry r => decide (r < 256)
  | .ringFreeze m r => masterOk m && decide (r < 256)
  | .ringExport m r => masterOk m && decide (r < 256)
  | .ringRearm m r => masterOk m && decide (r < 256)
  | .captureExportEnd r _ _ ecc => decide (r < 256) && ecc.all (fun x => decide (x.2 < 12))
  | .cellarCntClr m => masterOk m
  | .pmSecondBoundary ecc => ecc.all (fun e => decide (e.2 < 12))
  | .binUpdate ecc => ecc.all (fun e => decide (e.2.2 < 12))
  | .tcaPop m => masterOk m
  | .viewSel m _ ecc => masterOk m && ecc.all (fun e => decide (e.1 < 4 ∧ e.2 < 12))
  | .rawSel m _ => masterOk m
  | .cntPreset m _ => masterOk m
  | .atticEnable m _ => masterOk m
  | .atticDisable m _ => masterOk m
  | .adopt m => masterOk m
  | .smartNow m => masterOk m
  | .smartPoll ws => ws.length == 4 || ws.isEmpty
  | .adoptionEnd _ => true
  | .atticFrameBuild => true
  | .atticFrameDrop => true
  | .nvmeCommandComplete _ _ => true
  | .nvmeFlushComplete => true
  | .atticLoss _ => true
  | .atticCntClr m => masterOk m
  | .hearthTick _ _ _ => true
  | .refEnable m r _ => masterOk m && decide (r < 8)
  | .refDisable m r _ => masterOk m && decide (r < 8)
  | .refCfgDomainJudge => true
  | .refWtrExpiry r => decide (r < 8)
  | .hearthSwitchSettle => true
  | .dpllLock => true
  | .holdoverLimitExpiry => true
  | .hearthAuto m _ => masterOk m
  | .hearthManual m _ => masterOk m
  | .forcedHoldover m _ => masterOk m
  | .freeRun m _ => masterOk m
  | .phaseStep m _ => masterOk m
  | .stepDone => true
  | .hearthCntClr m => masterOk m
  | .filterOutput r _ => decide (r < 8)
  | .filterRestart m r => masterOk m && decide (r < 8)
  | .filterFade m p => masterOk m && decide (p < 3)
  | .ppsEdge x _ _ => decide (x < 2)
  | .todMessage x bytes _ _ => decide (x < 2) && bytes.length == 16
  | .domainLost x => decide (x < 2)
  | .domainEnable m x _ => masterOk m && decide (x < 2)
  | .domainDisable m x _ => masterOk m && decide (x < 2)
  | .todDomainSelect m _ => masterOk m
  | .todSet m _ => masterOk m
  | .tpArm m r _ _ => masterOk m && decide (r < 4)
  | .tpPulseDue r => decide (r < 4)
  | .tpPulseEnd r => decide (r < 4)
  | .todCntClr m => masterOk m
  | .managementCycleBoundary _ held => decide (held < 2 ^ 16)
  | .leaseReceived num _ _ cycle _ => decide (num < 2 ^ 32) && decide (cycle < 2 ^ 28)
  | .leaseAckReceived _ _ _ => true
  | .releaseReceived => true
  | .mirrorDeltaReceived seq _ _ _ => decide (seq < 2 ^ 32)
  | .pmSnapReceived seq _ _ _ => decide (seq < 2 ^ 32)
  | .bulkReqReceived => true
  | .bulkDataReceived seq _ _ _ _ => decide (seq < 2 ^ 32)
  | .bulkEndReceived _ _ => true
  | .digestReceived _ mask sums => decide (mask < 2 ^ 16) && sums.length == 16
  | .attestReqReceived _ _ nonce => nonce.length == 32
  | .attestRspReceived _ _ report => report.length == 512
  | .pwBadMessage _ => true
  | .pwIdleSend => true
  | .pwLinkDown => true
  | .leaseExpiry => true
  | .guardExpiry => true
  | .leaseUnacked => true
  | .actInChange _ => true
  | .matePresentChange _ => true
  | .pwStopComplete => true
  | .handover m => masterOk m
  | .resync m => masterOk m
  | .pwCntClr m => masterOk m
  | .idleReceived => true
  | .dualActDetected => true
  | .faultSourceEvent reps _ _ volts => reps.all (fun r => decide (r.src < 512)) && volts.all (fun v => decide (v.1 < 7))
  | .faultWindowExpiry i => decide (i < 512)
  | .cooldownEnd i => decide (i < 512)
  | .maskEnd => true
  | .isolateHoldEnd => true
  | .wdogExpiry core _ => decide (core < 2)
  | .srcInj m i _ => masterOk m && decide (i < 512)
  | .injectedEvent i => decide (i < 512)
  | .safeExit m => masterOk m
  | .logClear m => masterOk m
  | .fcRearm m classes => masterOk m && decide (classes < 2 ^ 10)
  | .inputConditionEnter i code _ => decide (i < 12) && (code == 1 || code == 2)
  | .powerGood mv => mv.length == 7
  | .railFail rail _ => decide (rail < 7)
  | .coldReset => true
  | .resetRelease straps => decide (straps < 64)
  | .warmResetHoldEnd => true
  | .flashDiscoveryDone _ => true
  | .fwImageLoaded _ _ => true
  | .coreStartReport => true
  | .coreStartTimeout => true
  | .cfgImageVerified _ _ => true
  | .cfgClearDone => true
  | .cfgWr32 => true
  | .cfgWrm32 _ => true
  | .cfgWr128 => true
  | .cfgFill => true
  | .cfgBlock => true
  | .cfgPoll _ => true
  | .pollTimeout => true
  | .cfgDelay => true
  | .delayElapsed => true
  | .commitCfg => true
  | .commitCfgTimeout => true
  | .cfgLock => true
  | .cfgEnd _ => true
  | .flashErase m target => masterOk m && decide (target < 8)
  | .flashProgram m target => masterOk m && decide (target < 8)
  | .flashRead m target => masterOk m && decide (target < 8)
  | .flashVerify m target => masterOk m && decide (target < 8)
  | .dirWrite m => masterOk m
  | .flashStepDone _ => true
  | .flashStepTimeout => true
  | .flashWinWrite m off _ => masterOk m && decide (off < 32768)
  | .enroll m => masterOk m
  | .enrollDone => true
  | .porchLaneSync _ _ => true
  | .porchAlignMarker _ => true
  | .porchLinkTimeout => true
  | .porchKeepaliveSend => true
  | .porchInvalidFrame _ => true
  | .porchAckReceived _ => true
  | .porchNakReceived _ => true
  | .porchKeepaliveReceived _ => true
  | .porchAckSend => true
  | .porchReplayTimeout => true
  | .porchRead h a bytes be _ => h.ok && addrOk a && decide (bytes < 2 ^ 16) && decide (be < 16)
  | .porchWrite h a be data => h.ok && addrOk a && decide (be < 16) && decide (data.length ≤ 64)
  | .porchRmw h a data _ => h.ok && addrOk a && decide (data.length ≤ 64)
  | .writeBulk h data => h.ok && decide (data.length ≤ 64)
  | .ohStream h _ bytes => h.ok && decide (bytes.length ≤ 256)
  | .atticRead h _ _ => h.ok
  | .atticReadServed _ _ => true
  | .attest h _ payload => h.ok && decide (payload.length ≤ 256)
  | .attestReportReady => true
  | .porchBadTtype h _ => h.ok
  | .eventSummarySend => true
  | .eventFollowUpSend => true
  | .porchCfgWrite m _ => masterOk m
  | .porchCntClr m => masterOk m
  | .i2cPointerWrite v _ => addrOk v
  | .i2cWordWrite a _ => addrOk a
  | .i2cReadWords _ _ => true
  | .i2cStatusRead _ => true
  | .i2cBadLengthWrite => true
  | .i2cSclTimeout _ => true
  | .hostExtend m => masterOk m
  | .fwSwap m => masterOk m
  | .swapPrecheckDone _ => true
  | .swapQuiesceStart => true
  | .swapQuiesceDone => true
  | .swapLoadDone _ _ => true
  | .swapStartReport => true
  | .swapStartTimeout => true
  | .mateAttestGo m nonceLen => masterOk m && decide (nonceLen < 64)
  | .mateAttestTimeout => true
  | .slotSnap m sl => masterOk m && decide (sl < 16)
  | .slotSnapAll m => masterOk m
  | .tracerPop m => masterOk m
  | .histClr m => masterOk m
  | .tracerEnable m _ => masterOk m
  | .tracerDisable m _ => masterOk m
  | .tagEnd _ => true
  | .tagTimeout _ => true
  | .tracerCntClr m => masterOk m
  | .tapReset => true
  | .extest cells => cells.length == 1642
  | .idcodeLoad => true
  | .samplePreload cells => cells.length == 1642
  | .highz => true
  | .clamp => true
  | .extestPulse cells => cells.length == 1642
  | .extestTrain cells => cells.length == 1642
  | .tapBypass ir => ir == 0xFF || (decide (ir < 256) && !([0x00, 0x01, 0x02, 0x04, 0x05, 0x09, 0x0A].contains ir))

end Sys2Proof
end

