-- ==== Sys2Proof/Safety.lean ====
section
/-! DEFINITION. The terms statements use: a running device, a master that may write, what a command leaves behind, which registers
stay, and what counts as a safe run. -/

namespace Sys2Proof.Safety
open Sys2Proof Sys2Proof.Machine

/-- The device is not held in reset. -/
def Live (s : State) : Prop := s.dev.boot.held = false

/-- The device runs and the master has no wide write staged (R61). -/
structure Ready (s : State) (m : Nat) : Prop where
  live : Live s
  master : m < 7
  unstaged : s.dev.staged m = none

/-- Nothing waits in the dual-clock queue of a target domain, and the domain runs (R66 to R73). -/
structure DomainReady (s : State) (dom : Domain) : Prop where
  empty : s.dev.queueOf dom = []
  runs : s.dev.bus.stopped.contains dom = false

/-- The state after a command whose own effect gives the device `d`: an interrupt summary that became pending waits (R90, R626). -/
def after (s : State) (d : Device) : State := { s with dev := irqSettle s.dev d }

/-- The state after an accepted register command of master `m`: its effect, its OK completion (R50). -/
def accepted (s : State) (m : Nat) (d : Device) : State := after s (d.complete m {})

/-- The state after a command that may change reported defects: its effect, then what follows the defects (R240, R307, R352, R388). -/
def followed (s : State) (d : Device) : State := after s (Device.settle s.dev d)

/-- The state after an accepted register command of master `m` in a place that can touch reported defects or SF and SD windows: its
effect, the windows that begin again, what follows the defects, its OK completion. -/
def acceptedFollowed (s : State) (m : Nat) (d : Device) : State := accepted s m (Device.settle s.dev (sfChange s.dev d))

/-- The state after an accepted register command of LANDING, a selector or PM: its effect, what follows the defects, its OK
completion. -/
def acceptedSettled (s : State) (m : Nat) (d : Device) : State := accepted s m (Device.settle s.dev d)

/-- The state after a register command of master `m` in a lane's receive domain: it is posted and completed with OK, then takes
effect in its domain with the windows that begin again and what follows the defects. -/
def postedFollowed (s : State) (m : Nat) (d : Device) : State :=
  after s (Device.settle (s.dev.complete m {}) (sfChange (s.dev.complete m {}) d))

/-- Every register but those listed reads as before. -/
def KeepsBut (l : List Nat) (d d' : Device) : Prop := ∀ a, a ∉ l → d'.rd a = d.rd a

/-- The register file alone may have changed. -/
def OnlyRegs (d d' : Device) : Prop := d' = { d with regs := d'.regs }

/-- The register file alone may have changed, and of it only the registers listed. -/
def Only (l : List Nat) (d d' : Device) : Prop := OnlyRegs d d' ∧ KeepsBut l d d'

/-- A real condition of a Fault Collector source waits for its evaluation slot (R556). -/
def Raised (d : Device) (src : Nat) : Prop := ∃ r ∈ d.fc.raised, r.src = src ∧ r.real = true

/-- The Party Wall link is up, and the record of a bulk transfer is one of the sixteen (R83, R525, R546). -/
structure WallUp (s : State) : Prop where
  up : s.dev.pw.up = true
  op : ∀ k, s.dev.pw.op = some k → k < 16

/-- A configuration load behind the record at its front (R590). -/
def afterRecord (l : Load) : Load := { l with idx := l.idx + 1, body := l.body.drop (1 + fld (l.body.headD 0) 8 16), wait := none }

/-- The record at the front of the image has been applied: from the device `d0` its accesses left, the load moves to the next record
and its operation record counts it (R590). -/
structure RecordApplied (l : Load) (d0 d : Device) : Prop where
  load : d.boot.load = some (afterRecord l)
  phase : d.get 0x20010 0 4 = 5
  steps : ∀ k, l.op = some k → d.rd (oprecBase k + 0xC) = wd (max (l.idx + 1) (d0.rd (oprecBase k + 0xC)).toNat)
  keeps : KeepsBut (match l.op with | some k => [oprecBase k + 0xC] | none => []) d0 d

/-- A record has failed with a kind, a status and the payload word (R590, R591, R602): SAFE_STATE, the operation record closed, and the
configuration clear next when the directory allows a fallback and none was tried. -/
structure RecordFailed (l : Load) (kind : Nat) (st : Status) (pw : Nat) (d : Device) : Prop where
  event : d.bit 0x20014 1 = true
  safe : d.fc.safe = true
  clear : l.fallback = false → d.bit 0x20040 3 = true → d.get 0x20010 0 4 = 6 ∧ d.boot.load = some { l with wait := none }
  ends : l.fallback = true ∨ d.bit 0x20040 3 = false → d.get 0x20010 0 4 = 7 ∧ d.boot.load = none
  record : ∀ k, l.op = some k → k < 16 →
    d.get (oprecBase k + 4) 12 2 = 2 ∧ d.get (oprecBase k + 4) 8 4 = (if l.idx = 0 then 9 else 10) ∧ d.rd (oprecBase k + 0x10) = wd l.idx ∧
      d.rd (oprecBase k + 0x14) = wd (st.code + 16 * kind + 256 * (pw % 2 ^ 24))

/-- The TRANSACTION frames on their way to the host, oldest first: those unacknowledged, then those that wait (R618). -/
def outgoing (d : Device) : List PFrame := d.porch.unacked.map (·.frame) ++ d.porch.queue

/-- A request of the host that expects a response, with its header and TTYPE (R620, R621). -/
def HostRequest (c : Instr) (h : PHead) (ttype : Nat) : Prop :=
  (∃ a n be ecc, c = .porchRead h a n be ecc ∧ ttype = 1) ∨ (∃ a be ws, c = .porchWrite h a be ws ∧ ttype = 2) ∨
  (∃ a ws ecc, c = .porchRmw h a ws ecc ∧ ttype = 3) ∨ (∃ ws, c = .writeBulk h ws ∧ ttype = 4) ∨
  (∃ unit n, c = .atticRead h unit n ∧ ttype = 0x20) ∨ (∃ n p, c = .attest h n p ∧ ttype = 0x21) ∨ c = .porchBadTtype h ttype

/-- The device once it has taken a request: the frames acknowledged, SEQ moved on, the TAG held (R618, R619, R621). -/
def taken (d : Device) (h : PHead) : Device :=
  { d.porchAck h.ack with
      porch :=
        { (d.porchAck h.ack).porch with
            rxNext := ((d.porchAck h.ack).porch.rxNext + 1) % 4096, nak := false, unsent := (d.porchAck h.ack).porch.unsent + 1
            tags := (d.porchAck h.ack).porch.tags ++ [h.tag] } }

/-- A request the Porch takes and serves at once: the link UP, its SEQ the next, its TAG free, no RMW waiting (R618, R621, R622). -/
structure PorchFresh (s : State) (h : PHead) : Prop where
  live : Live s
  up : s.dev.porchUp = true
  seq : h.seq = s.dev.porch.rxNext
  tag : h.tag ∉ (s.dev.porchAck h.ack).porch.tags
  wire : h.tag < 64
  free : s.dev.porch.rmw = none

/-- The Enien link went down (R614, R630): counted, an event, reported; frames and tags gone; lanes that are synchronised align anew. -/
structure PorchLost (d0 d : Device) : Prop where
  state : d.get 0x30014 0 2 = (if d.porch.sync0 = true ∧ d.porch.sync1 = true then 1 else 0)
  count : d.rd 0x30030 = wd (satAdd 32 (d0.rd 0x30030).toNat 1)
  event : d.bit 0x30018 1 = true
  source : Raised d 27
  frames : outgoing d = [] ∧ d.porch.tags = [] ∧ d.porch.nak = false
  reads : d.porch.reads = d0.porch.reads.map (fun r => (r.1, r.2.1, r.2.2.1, false))
  mates : (d0.porch.atts = [] ∨ d0.opPick.isSome = true ∨ ∃ r k, d0.porch.atts.head? = some r ∧ r.op = some k ∧ k < 16) →
    d.porch.atts.map (·.src) = (d0.porch.atts.map (·.src)).filter (fun x => match x with | .porch _ => false | .mate _ => true)

/-- What the last message sent carries. -/
def lastSent (d : Device) : Option PwBody := d.pw.out.getLast?.map (·.body)

/-- No programming of an owner key is under way once one is enrolled (R604, R605). -/
def EnrolledOnce (s : State) : Prop := s.dev.boot.otp = [] ∨ s.dev.pantry.enrolling = none

/-- The test access port holds one of the instructions of R680 and the 1,642 cells of R681. -/
structure TapLegal (t : TapSt) : Prop where
  code : t.ir ∈ tapCodes
  cells : t.boundary.length = 1642

/-- A run of `k` steps from `s` meets no stop. -/
def RunsFor (k : Nat) (s : State) : Prop := ∃ t, Host.Core.run Sys2Proof.core k s = .next t

end Sys2Proof.Safety
end

