-- ==== Sys2Proof/Certificates/Slice0/Obligations.lean ====
section
/-! DEFINITION. The statements for the provers. -/

open Sys2Proof Sys2Proof.Machine Sys2Proof.Safety

/-- A step is the front command's meaning with the queue's rest (log entry 1), or one HK period of eight Hearth clocks on an empty queue:
the model's choice (log entry 3). -/
def Obligations.StepRunsTheFrontCommandOrOneHkPeriod : Prop :=
  (∀ (s : State) (c : Instr) (rest : List Instr), step { s with pending := c :: rest } = exec c { s with pending := rest }) ∧
  ∀ s : State, s.pending = [] → ∃ t, step s = .next t ∧ t.pending = [] ∧ t.tap = s.tap ∧
    t.dev.uptime = s.dev.uptime + 8 ∧
    (s.dev.boot.held = true → s.dev.boot.warm = false → t.dev = irqSettle s.dev { s.dev with uptime := s.dev.uptime + 8 })

/-- No command stops the machine, none touches the commands that wait behind it, and no run stops.
Where the rules leave a point open it follows the model's own choice, log entries 1 and 3. -/
def Obligations.EveryCommandAnswersAndKeepsTheQueue : Prop :=
  (∀ (c : Instr) (s : State), ∃ t, exec c s = .next t ∧ t.pending = s.pending) ∧ ∀ (k : Nat) (s : State), RunsFor k s

/-- The instruction register holds one of the eight instructions and the boundary register 1,642 cells, over every step. -/
def Obligations.TestPortStaysLegal : Prop :=
  ∀ s t : State, TapLegal s.tap → step s = .next t → TapLegal t.tap

/-- At reset IDCODE is selected and no pin is driven by the port. -/
def Obligations.TestPortLegalAtReset : Prop :=
  TapLegal State.reset.tap ∧ State.reset.tap.ir = 0x01 ∧ State.reset.tap.reg = .idcode ∧ State.reset.tap.drives = false

/-- Resets leave the test access port; the drive of the pins follows the instruction alone. -/
def Obligations.OnlyTestPortCommandsTouchThePort : Prop :=
  ∀ s t : State,
    (∀ c : Instr, (c = .coldReset ∨ (∃ r v, c = .railFail r v) ∨ (∃ l, c = .powerGood l) ∨ c = .warmResetHoldEnd ∨ (∃ straps, c = .resetRelease straps) ∨
        (∃ m, c = .warmResetCmd m) ∨ (∃ reps ended temp volts, c = .faultSourceEvent reps ended temp volts)) → exec c s = .next t → t.tap = s.tap) ∧
    (s.pending = [] → step s = .next t → t.tap = s.tap) ∧
    (s.tap.drives = true ↔ s.tap.ir ∈ [0x00, 0x04, 0x05, 0x09, 0x0A])

/-- The nine rows of the test access port, whatever state the device is in.
Where the rules leave a point open it follows the model's own choice, log entry 70. -/
def Obligations.TestPortInstructionsLoad : Prop :=
  ∀ (s : State) (cells : List Bool), cells.length = 1642 →
    exec .tapReset s = .next { s with tap := { s.tap with ir := 0x01 } } ∧
    exec .idcodeLoad s = .next { s with tap := { s.tap with ir := 0x01 } } ∧
    exec (.samplePreload cells) s = .next { s with tap := { ir := 0x02, boundary := cells } } ∧
    exec (.extest cells) s = .next { s with tap := { ir := 0x00, boundary := cells } } ∧
    exec (.extestPulse cells) s = .next { s with tap := { ir := 0x09, boundary := cells } } ∧
    exec (.extestTrain cells) s = .next { s with tap := { ir := 0x0A, boundary := cells } } ∧
    exec .highz s = .next { s with tap := { s.tap with ir := 0x04 } } ∧
    exec .clamp s = .next { s with tap := { s.tap with ir := 0x05 } } ∧
    (∀ ir, ir = 0xFF ∨ ir ∉ tapCodes → exec (.tapBypass ir) s = .next { s with tap := { s.tap with ir := 0xFF } }) ∧
    (∀ b, (TapSt.mk 0x00 b).drives = true ∧ (TapSt.mk 0x09 b).drives = true ∧ (TapSt.mk 0x0A b).drives = true ∧
      (TapSt.mk 0x04 b).drives = true ∧ (TapSt.mk 0x04 b).highz = true ∧ (TapSt.mk 0x05 b).drives = true ∧
      (TapSt.mk 0x05 b).reg = .bypass ∧ (TapSt.mk 0x05 b).highz = false ∧ (TapSt.mk 0x02 b).drives = false ∧
      (TapSt.mk 0x02 b).reg = .boundary ∧ (TapSt.mk 0xFF b).drives = false ∧ (TapSt.mk 0xFF b).reg = .bypass ∧
      (TapSt.mk 0x01 b).reg = .idcode) ∧
    (s.dev.boot.power = true → ∀ p, p ≠ .tdo →
      (s.tap.ir ∈ [0x00, 0x05, 0x09, 0x0A] → s.outPin p = .scan) ∧ (s.tap.ir = 0x04 → s.outPin p = .highZ) ∧
      (s.tap.drives = false → s.dev.boot.held = true → s.outPin p = p.undriven) ∧
      (s.tap.drives = false → s.dev.boot.held = false → s.dev.bootPhase ≠ 0 → s.outPin p = s.dev.outPin p))

/-- What a write does by the access type of what it addresses.
Where the rules leave a point open it follows the model's own choice, log entries 12 and 15. -/
def Obligations.ReservedReadOnlyAndStickyWritesDoWhatTheirAccessSays : Prop :=
  ∀ (s : State) (m a : Nat) (v : Word), Ready s m → a % 4 = 0 →
    (rowOf a = none ∨ (∃ r, rowOf a = some r ∧ (r.acc = .ro ∨ r.acc = .rs)) →
      exec (.registerWrite m a 15 v) s = .next (accepted s m s.dev)) ∧
    (∀ l r, locOf a = some l → rowAt l = some r → r.acc = .w1c → r.wide = false → r.cov = false → domainOf l = none →
      l.blk ∈ [.global, .fault, .pantry, .porch, .measure, .partywall, .cellar, .tracer, .hall] → s.dev.refusal a l r v = none →
      exec (.registerWrite m a 15 v) s = .next (accepted s m (s.dev.wr a (s.dev.rd a &&& ~~~v))) ∧
      (s.dev.wr a (s.dev.rd a &&& ~~~v)).rd a = s.dev.rd a &&& ~~~v ∧ KeepsBut [a] s.dev (s.dev.wr a (s.dev.rd a &&& ~~~v)))

/-- An unaligned write changes the refusal registers of GLOBAL alone.
Where the rules leave a point open it follows the model's own choice, log entries 15 and 65. -/
def Obligations.RefusedWriteOnlyLeavesItsRecord : Prop :=
  ∀ (s : State) (m a be : Nat) (v : Word), Live s → a % 4 ≠ 0 →
    (s.dev.staged m = none → ∃ d : Device,
      exec (.registerWrite m a be v) s = .next (after s (d.complete m { status := .unaligned })) ∧
      d.rd 0x84 = wd (satAdd 32 (s.dev.rd 0x84).toNat 1) ∧ d.bit 0x54 4 = true ∧ d.rd 0xB0 = wd a ∧ d.get 0xB4 0 4 = 1 ∧
      KeepsBut [0x84, 0x54, 0xB0, 0xB4] s.dev d ∧ Raised d 24 ∧
      d = { s.dev with regs := d.regs, fc := d.fc }) ∧
    (∀ g, s.dev.staged m = some g → a < g.base ∨ g.base + 16 ≤ a → ∃ d : Device,
      exec (.registerWrite m a be v) s = .next (after s (d.complete m { status := .unaligned })) ∧
      d.staged m = none ∧ d.bit 0x54 3 = true)

/-- Staging of a wide register, word by word, and its application by word 3.
Where the rules leave a point open it follows the model's own choice, log entries 22 and 66. -/
def Obligations.WideWriteIsStagedThenAppliedAtOnce : Prop :=
  ∀ (s : State) (m : Nat) (w0 w1 w2 w3 : Word), Live s → m < 7 →
    (s.dev.staged m = none →
      exec (.wideStageWrite m 0xC0030 0 w0) s = .next (accepted s m (s.dev.setStaged m (some ⟨0xC0030, [w0]⟩)))) ∧
    (s.dev.staged m = some ⟨0xC0030, [w0]⟩ →
      exec (.wideStageWrite m 0xC0030 1 w1) s = .next (accepted s m (s.dev.setStaged m (some ⟨0xC0030, [w0, w1]⟩)))) ∧
    (s.dev.staged m = some ⟨0xC0030, [w0, w1]⟩ →
      exec (.wideStageWrite m 0xC0030 2 w2) s = .next (accepted s m (s.dev.setStaged m (some ⟨0xC0030, [w0, w1, w2]⟩)))) ∧
    (s.dev.staged m = some ⟨0xC0030, [w0, w1, w2]⟩ →
      s.dev.wideRefusal ⟨.hall, 0, 0x30⟩ [w0, w1, w2, w3] = none →
      ∃ d, exec (.wideApplyWrite m 0xC0030 w3) s = .next (accepted s m d) ∧ d.staged m = none ∧
        d.rds 0xC0030 4 = [w0, w1, w2, w3] ∧ KeepsBut [0xC0030, 0xC0034, 0xC0038, 0xC003C, 0x50] s.dev d) ∧
    (s.dev.staged m = none → ∃ d, exec (.wideApplyWrite m 0xC0030 w3) s = .next (after s (d.complete m { status := .narrow })) ∧
      d.rd 0x80 = wd (satAdd 32 (s.dev.rd 0x80).toNat 1) ∧ KeepsBut [0x80, 0x54, 0xB0, 0xB4] s.dev d)

/-- The snapshot of a wide register.
Where the rules leave a point open it follows the model's own choice, log entry 22. -/
def Obligations.SnapshotHoldsAllFourWords : Prop :=
  ∀ (s : State) (m a : Nat) (l : Loc) (r : RegRow), Ready s m → a % 16 = 0 → locOf a = some l → rowAt l = some r → r.wide = true →
    domainOf l = none → (∃ t, exec (.wideSnapshotRead m a false) s = .next t ∧
      tabGet {} t.dev.bus.done m = { status := .ok, words := [s.dev.view a] } ∧
      tabGet [] t.dev.bus.snaps m = [s.dev.view a, s.dev.view (a + 4), s.dev.view (a + 8), s.dev.view (a + 12)] ∧
      (∀ k, k ≠ m → tabGet [] t.dev.bus.snaps k = tabGet [] s.dev.bus.snaps k) ∧
      t.dev.regs = (s.dev.wrapClear a).regs) ∧
    ∃ t, exec (.wideSnapshotRead m a true) s = .next t ∧ tabGet {} t.dev.bus.done m = { status := .ecc, words := [0] }

/-- The write-once lock of a block, and what it protects.
Where the rules leave a point open it follows the model's own choice, log entries 15 and 17. -/
def Obligations.LockedRegistersRefuseWrites : Prop :=
  ∀ (s : State) (m : Nat), Ready s m →
    (∀ b, b < 14 → s.dev.bit (0x10000 * b + 0xC) 0 = false →
      exec (.blockLockWrite m (0x10000 * b) 1) s = .next (accepted s m (s.dev.setBit (0x10000 * b + 0xC) 0 true))) ∧
    (∀ b, b < 14 → s.dev.bit (0x10000 * b + 0xC) 0 = true →
      exec (.blockLockWrite m (0x10000 * b) 0) s = .next (after s ((s.dev.refused { master := m } .locked (0x10000 * b + 0xC)).complete m
        { status := .locked }))) ∧
    (∀ (a : Nat) (v : Word) (l : Loc) (r : RegRow), a % 4 = 0 → locOf a = some l → rowAt l = some r → r.acc = .rwl → r.wide = false →
      s.dev.blockLocked a l = true → s.dev.standby = false →
      exec (.registerWrite m a 15 v) s = .next (after s ((s.dev.refused { master := m } .locked a).complete m { status := .locked })) ∧
      (s.dev.refused { master := m } .locked a).rd 0x88 = wd (satAdd 32 (s.dev.rd 0x88).toNat 1) ∧
      KeepsBut [0x88, 0x54, 0xB0, 0xB4] s.dev (s.dev.refused { master := m } .locked a))

/-- The commands of the dual-clock queues.
Where the rules leave a point open it follows the model's own choice, log entries 10, 17 and 18. -/
def Obligations.PostedWritesAreTakenOrLost : Prop :=
  ∀ (s : State), Live s →
    (∀ (m : Nat) (v : Word) (q : List Posted),
      popFor .hearth (s.dev.queueOf .hearth) = some (⟨m, 0x50024, .hearth, .word v⟩, q) →
      ∃ d, exec (.postedWriteTakesEffect .hearth) s = .next (after s d) ∧ d.rd 0x50024 = v ∧ KeepsBut [0x50024] s.dev d ∧
        d.queueOf .hearth = q ∧ d.bus.stopped.contains .hearth = false) ∧
    (∀ (dom : Domain) (p : Posted) (q : List Posted), popFor dom (s.dev.queueOf dom) = some (p, q) →
      (∀ mask v, p.kind ≠ .rmw mask v) →
      exec (.postedWriteTakesEffect dom) s = .next (after s (((s.dev.setQueue dom q).domRun dom).takeEffect p)) ∧
      (((s.dev.setQueue dom q).domRun dom).queueOf dom = q ∧ ((s.dev.setQueue dom q).domRun dom).bus.stopped.contains dom = false)) ∧
    (∀ (dom : Domain) (p : Posted) (l : Loc) (q : List Posted), popFor dom (s.dev.queueOf dom) = some (p, q) →
      (∀ mask v, p.kind ≠ .rmw mask v) → locOf p.addr = some l →
      ∃ d, exec (.postedWriteLost dom) s = .next (after s d) ∧ d.bit (p.addr - l.off + 0xC) 9 = true ∧ d.bit 0x54 4 = true ∧
        KeepsBut [p.addr - l.off + 0xC, 0x90, 0x54] s.dev d ∧ d.queueOf dom = q ∧ d.bus.stopped.contains dom = true ∧
        Raised d 22) ∧
    (∀ (m : Nat) (mask v : Word), 0 < m → m < 7 → s.dev.staged m = none → s.dev.bus.stopped.contains .hearth = false →
      s.dev.queueOf .hearth = [⟨m, 0x50024, .hearth, .rmw mask v⟩] → s.dev.porch.rmw = none →
      (∀ r, rowOf 0x50024 = some r → r.legal ((s.dev.rd 0x50024 &&& ~~~mask) ||| (v &&& mask)).toNat = true) →
      ∃ d, exec (.crossDomainRmwAnswer .hearth false) s = .next (after s d) ∧
        d.rd 0x50024 = (s.dev.rd 0x50024 &&& ~~~mask) ||| (v &&& mask) ∧ d.queueOf .hearth = [] ∧
        tabGet {} d.bus.done m = { status := .ok, words := [s.dev.rd 0x50024] }) ∧
    (∀ (dom : Domain) (ecc : Bool) (m a : Nat) (mask v : Word) (q : List Posted), 0 < m →
      popFor dom (s.dev.queueOf dom) = some (⟨m, a, dom, .rmw mask v⟩, q) →
      ∃ (x : Status × Word × Device) (d : Device),
        x = ((s.dev.setQueue dom q).domRun dom).rmwNow m a mask v ecc ∧
        exec (.crossDomainRmwAnswer dom ecc) s = .next (after s d) ∧
        d = (x.2.2.refused { master := m, rmw := true, wide := wideReg a } x.1 a).complete m { status := x.1, words := [x.2.1] } ∧
        tabGet {} d.bus.done m = { status := x.1, words := [x.2.1] }) ∧
    (∀ (dom : Domain) (ecc : Bool) (a tag : Nat) (mask v : Word) (q : List Posted), s.dev.porch.rmw = some tag → tag < 64 →
      s.dev.porch.waiting = [] → popFor dom (s.dev.queueOf dom) = some (⟨0, a, dom, .rmw mask v⟩, q) →
      ∃ (x : Status × Word × Device) (d : Device),
        x = ((s.dev.setQueue dom q).domRun dom).rmwNow 0 a mask v ecc ∧
        exec (.crossDomainRmwAnswer dom ecc) s = .next (after s d) ∧
        (x.2.2.porch = s.dev.porch → d.porch.rmw = none ∧
          (x.2.2.porchUp = true → outgoing d = outgoing s.dev ++
            [{ ttype := 3, tag := tag, status := x.1.code, addr := a, payload := wordBytes x.2.1 }]))) ∧
    (∀ (dom : Domain) (m a : Nat) (mask v : Word) (q : List Posted), 0 < m →
      popFor dom (s.dev.queueOf dom) = some (⟨m, a, dom, .rmw mask v⟩, q) →
      ∃ d, exec (.crossDomainRmwTimeout dom) s = .next (after s d) ∧ d.queueOf dom = q ∧ Raised d 22 ∧
        KeepsBut [0x90, 0x54, 0xB0, 0xB4] s.dev d ∧ tabGet {} d.bus.done m = { status := .timeout, words := [0] }) ∧
    (∀ (m : Nat) (mask v : Word), 0 < m → m < 7 →
      s.dev.queueOf .hearth = [⟨m, 0x50024, .hearth, .rmw mask v⟩] → s.dev.porch.rmw = none →
      ∃ d, exec (.crossDomainRmwTimeout .hearth) s = .next (after s d) ∧ d.rd 0x50024 = s.dev.rd 0x50024 ∧ d.queueOf .hearth = [] ∧
        tabGet {} d.bus.done m = { status := .timeout, words := [0] })

/-- The configuration CRC.
Where the rules leave a point open it follows the model's own choice, log entries 9, 19 and 20. -/
def Obligations.CrcPassLatchesComparesOrWaits : Prop :=
  ∀ (s : State), Live s → s.dev.boot.load = none →
    (∀ m k, Ready s m → s.dev.bit 0x50 2 = false → s.dev.opPick = some k →
      ∃ d, exec (.cfgCommit m) s = .next (accepted s m d) ∧ d.bit 0x50 2 = true ∧ d.crc.commitRec = some k ∧
        d.get (oprecBase k + 4) 0 8 = 0x0A ∧ d.get (oprecBase k + 4) 12 2 = 1) ∧
    (∀ m, Ready s m → s.dev.bit 0x50 2 = true → exec (.cfgCommit m) s = .next (accepted s m s.dev)) ∧
    (s.dev.bit 0x50 2 = true → s.dev.crc.latchThis = true → s.dev.crc.dirtyPass = false →
      ∃ d, exec (.cfgCrcPassEnd []) s = .next (after s d) ∧ d.rd 0x38 = s.dev.cfgCrc ∧ d.rd 0x3C = s.dev.cfgCrc ∧
        d.bit 0x50 0 = true ∧ d.bit 0x50 1 = false ∧ d.bit 0x50 2 = false ∧ d.bit 0x54 0 = true ∧ d.crc.commitRec = none) ∧
    (s.dev.bit 0x50 2 = true → s.dev.crc.dirtyPass = true →
      ∃ d, exec (.cfgCrcPassEnd []) s = .next (after s d) ∧ d.rd 0x38 = s.dev.rd 0x38 ∧ d.bit 0x50 2 = true ∧
        d.crc.latchThis = true ∧ d.crc.dirtyPass = false ∧ d.crc.commitRec = s.dev.crc.commitRec) ∧
    (s.dev.bit 0x50 0 = true → s.dev.bit 0x50 1 = false → s.dev.bit 0x50 2 = false → s.dev.crc.dirtyPass = false →
      s.dev.cfgCrc ≠ s.dev.rd 0x38 →
      ∃ d, exec (.cfgCrcPassEnd []) s = .next (after s d) ∧ d.bit 0x50 3 = true ∧ d.bit 0x54 1 = true ∧
        d.rd 0x44 = wd (satAdd 32 (s.dev.rd 0x44).toNat 1) ∧ Raised d 25 ∧
        KeepsBut [0x3C, 0x40, 0x44, 0x50, 0x54] s.dev d) ∧
    (s.dev.bit 0x50 0 = false → s.dev.bit 0x50 2 = false →
      ∃ d, exec (.cfgCrcPassEnd []) s = .next (after s d) ∧ KeepsBut [0x3C, 0x40] s.dev d ∧ d.fc = s.dev.fc) ∧
    (s.dev.bit 0x50 1 = true →
      ∃ d, exec .cfgDirtyLong s = .next (after s d) ∧ d.bit 0x54 2 = true ∧ KeepsBut [0x54] s.dev d ∧
        Raised d 26)

/-- OP_ID and OPREC_NEXT_ID. -/
def Obligations.OperationRecordTakesNextId : Prop :=
  (∀ (d : Device) (k kind origin total : Nat), k < 16 →
    (d.opOpenAt k kind origin total).rd (oprecBase k) = d.rd 0x104 ∧
    (d.opOpenAt k kind origin total).rd 0x104 = (if d.rd 0x104 = 0xFFFFFFFF then 1 else d.rd 0x104 + 1) ∧
    (d.rd 0x104 ≠ 0 → (d.opOpenAt k kind origin total).rd 0x104 ≠ 0)) ∧
  State.reset.dev.rd 0x104 = 1 ∧ (∀ k, k < 16 → State.reset.dev.rd (oprecBase k) = 0)

/-- A warm reset by RESET_CTL and the end of its hold.
Where the rules leave a point open it follows the model's own choice, log entries 8 and 51. -/
def Obligations.WarmResetKeepsOnlyItsList : Prop :=
  ∀ (s : State),
    (∀ m, Ready s m → ∃ d, exec (.warmResetCmd m) s = .next (accepted s m d) ∧ d.boot.held = true ∧ d.boot.warm = true ∧
      d.rd 0x24 = 2 ∧ d.boot.otp = s.dev.boot.otp ∧ d.lanes = [] ∧ d.hall = {} ∧ d.hearth = {} ∧
      (∀ a, a ≠ 0x24 → keptReg a = false → d.rd a = resetWord a) ∧ (∀ a, keptReg a = true → d.rd a = s.dev.rd a)) ∧
    (s.dev.boot.held = true → s.dev.boot.warm = true → s.dev.porch.busy = [] →
      ∃ d, exec .warmResetHoldEnd s = .next (after s d) ∧ d.boot.held = false ∧ d.boot.warm = false ∧ d.get 0x20010 0 4 = 1 ∧
        d.bit 0x90010 1 = true ∧ d.cores = ⟨true, true⟩)

/-- The counter clears of every block. -/
def Obligations.CounterClearsZeroTheirBlock : Prop :=
  ∀ (s : State) (m : Nat), Ready s m →
    (∀ c ∈ [(Instr.accCntClr m, [0x80, 0x84, 0x88, 0x8C, 0x90, 0x94, 0x98, 0x9C, 0xA4, 0xA8]),
        (.porchCntClr m, [0x30020, 0x30024, 0x30028, 0x3002C, 0x30030, 0x30034, 0x30038, 0x3003C, 0x30040, 0x30074]),
        (.pwCntClr m, [0x70038, 0x7003C, 0x70040, 0x70044, 0x70048, 0x7004C, 0x70050, 0x70054, 0x70058, 0x7005C]),
        (.cellarCntClr m, [0x90060, 0x90064, 0x90068, 0x9006C, 0x90070, 0x90074, 0x90078, 0x9007C, 0x90080]),
        (.tracerCntClr m, [0xA0030, 0xA0034, 0xA0038, 0xA003C, 0xA0040]), (.hallCntClr m, [0xC0070, 0xC0074, 0xC0078, 0xC007C])],
      ∃ d, exec c.1 s = .next (accepted s m d) ∧ (∀ a ∈ c.2, d.rd a = 0) ∧ Only c.2 s.dev d) ∧
    (∃ d, exec (.landingCntClr m) s = .next (acceptedSettled s m d) ∧
      (∀ a ∈ [0xB0040, 0xB0044, 0xB0048, 0xB004C, 0xB0050], d.rd a = 0) ∧ Only [0xB0040, 0xB0044, 0xB0048, 0xB004C, 0xB0050] s.dev d) ∧
    (∀ n, n < 64 → ∃ d, exec (.ohCntClr m n) s = .next (acceptedFollowed s m d) ∧
      (∀ a ∈ [0xA0, 0xA4, 0xA8], d.rd (laneBase n + a) = 0) ∧
      Only [laneBase n + 0xA0, laneBase n + 0xA4, laneBase n + 0xA8] s.dev d) ∧
    (DomainReady s .pcie → ∃ d, exec (.atticCntClr m) s = .next (accepted s m d) ∧
      (∀ a ∈ [0x80064, 0x80068, 0x8006C, 0x80070, 0x80078], d.rd a = 0) ∧
      Only [0x80064, 0x80068, 0x8006C, 0x80070, 0x80078] s.dev d) ∧
    (DomainReady s .hearth →
      (∃ d, exec (.hearthCntClr m) s = .next (accepted s m d) ∧ d.rd 0x50058 = 0 ∧ d.rd 0x5005C = 0 ∧ d.rd 0x50060 = 0 ∧
        (∀ r, r < 8 → d.rd (refBase r + 0x1C) = 0) ∧
        Only ([0x50058, 0x5005C, 0x50060] ++ (List.range 8).map (fun r => refBase r + 0x1C)) s.dev d) ∧
      (∃ d, exec (.todCntClr m) s = .next (accepted s m d) ∧ d.rd 0x60060 = 0 ∧ d.rd 0x60064 = 0 ∧
        (∀ x i, x < 2 → i < 4 → d.rd (domBase x + 0x30 + 4 * i) = 0) ∧
        Only ([0x60060, 0x60064] ++ (List.range 8).map (fun j => domBase (j / 4) + 0x30 + 4 * (j % 4))) s.dev d))

/-- The pop commands. -/
def Obligations.QueuesPopTheirOldestEntry : Prop :=
  ∀ (s : State) (m : Nat), Ready s m →
    (∀ sl, sl < 16 → ∃ d, exec (.tcEventPop m sl) s = .next (acceptedFollowed s m d) ∧ d.tcQueue sl = (s.dev.tcQueue sl).drop 1 ∧
      (∀ k, k ≠ sl → d.tcQueue k = s.dev.tcQueue k) ∧ d = { s.dev with tcQueues := d.tcQueues }) ∧
    (∃ d, exec (.selEventPop m) s = .next (acceptedSettled s m d) ∧ d.land.queue = s.dev.land.queue.drop 1 ∧
      d = { s.dev with land := { s.dev.land with queue := d.land.queue } }) ∧
    (∃ d, exec (.tcaPop m) s = .next (acceptedSettled s m d) ∧ d.pm.tca = s.dev.pm.tca.drop 1 ∧
      d = { s.dev with pm := { s.dev.pm with tca := d.pm.tca } }) ∧
    (∃ d, exec (.tracerPop m) s = .next (accepted s m d) ∧ d.tracer.fifo = s.dev.tracer.fifo.drop 1 ∧
      d = { s.dev with tracer := { s.dev.tracer with fifo := d.tracer.fifo } })

/-- The tracer's tags, the snapshots of the slot counters, and the histogram clear.
Where the rules leave a point open it follows the model's own choice, log entries 2 and 58. -/
def Obligations.TagsEndInTheFifoAndSnapshotsCopyTheSlots : Prop :=
  ∀ (s : State), Live s →
    (∀ m, Ready s m →
      (∀ sl, sl < 16 → ∃ d, exec (.slotSnap m sl) s = .next (acceptedFollowed s m d) ∧
        d.rds (sliceBase sl + 0xA10) 30 = (s.dev.slot sl).words ∧ d.rd (sliceBase sl + 0xA04) = s.dev.rd (sliceBase sl + 0xA04) + 1 ∧
        d.bit 0xA0018 3 = true ∧ OnlyRegs s.dev d ∧
        (∀ a, a ≠ 0xA0018 → a ≠ sliceBase sl + 0xA04 → (a < sliceBase sl + 0xA10 ∨ sliceBase sl + 0xA88 ≤ a) → d.rd a = s.dev.rd a)) ∧
      (∃ d, exec (.slotSnapAll m) s = .next (accepted s m d) ∧ d.bit 0xA0018 3 = true ∧ OnlyRegs s.dev d ∧
        (∀ sl, sl < 16 → d.rds (sliceBase sl + 0xA10) 30 = (s.dev.slot sl).words ∧
          d.rd (sliceBase sl + 0xA04) = s.dev.rd (sliceBase sl + 0xA04) + 1)) ∧
      (∃ d, exec (.histClr m) s = .next (accepted s m d) ∧ (∀ p b, p < 5 → b < 64 → d.rd (histAddr p b) = 0) ∧
        OnlyRegs s.dev d ∧ (∀ a, (a < 0xA1000 ∨ 0xA1500 ≤ a) → d.rd a = s.dev.rd a)) ∧
      (∀ x : SlotSt, x.words.length = 30)) ∧
    (∀ m v r, Ready s m → rowOf 0xA0010 = some r → s.dev.refusal 0xA0010 ⟨.tracer, 0, 0x10⟩ r (setFld v 0 1 1) = none →
      ∃ d, exec (.tracerEnable m v) s = .next (accepted s m d) ∧ d.rd 0xA0010 = setFld v 0 1 1 ∧ d.bit 0xA0010 0 = true ∧
        d.tracer = s.dev.tracer ∧ KeepsBut [0xA0010, 0x50] s.dev d) ∧
    (∀ m v r, Ready s m → rowOf 0xA0010 = some r → s.dev.refusal 0xA0010 ⟨.tracer, 0, 0x10⟩ r (setFld v 0 1 0) = none →
      s.dev.bit 0xA0010 0 = true →
      ∃ d, exec (.tracerDisable m v) s = .next (accepted s m d) ∧ d.rd 0xA0010 = setFld v 0 1 0 ∧ d.tracer.flying = [] ∧
        d.rd 0xA003C = wd (satAdd 32 (s.dev.rd 0xA003C).toNat s.dev.tracer.flying.length) ∧ d.bit 0xA0018 2 = true ∧
        d.tracer.fifo = s.dev.tracer.fifo ∧ KeepsBut [0xA0010, 0xA003C, 0xA0018, 0x50] s.dev d) ∧
    (∀ (o : TagObs) sl n, s.dev.tracer.flying.find? (fun t => t.1 == o.id) = some (o.id, sl, n) →
      ∃ d, exec (.tagEnd o) s = .next (after s d) ∧ d.tracer.flying = s.dev.tracer.flying.filter (fun t => t.1 != o.id) ∧
        (s.dev.tracer.fifo.length < 4096 → ∃ e, d.tracer.fifo = s.dev.tracer.fifo ++ [e] ∧ e.length = 8 ∧
          fld (nthWord e 0) 0 16 = o.id % 65536 ∧ (∀ j, j < 6 → nthWord e (j + 1) = wd ((o.stamps.getD j none).getD 0)) ∧
          bitAt (nthWord e 7) 19 = false) ∧
        (4096 ≤ s.dev.tracer.fifo.length → d.tracer.fifo = s.dev.tracer.fifo ∧
          d.rd 0xA0038 = wd (satAdd 32 (s.dev.rd 0xA0038).toNat 1) ∧ d.bit 0xA0018 1 = true) ∧
        (∀ p a b, p < 5 → o.stamps.getD p none = some a → o.stamps.getD (p + 1) none = some b →
          d.rd (histAddr p (min 63 ((b + 2 ^ 32 - a % 2 ^ 32) % 2 ^ 32 / 2 ^ s.dev.get 0xA0024 (5 * p) 5))) =
            wd (satAdd 32 (s.dev.rd (histAddr p (min 63 ((b + 2 ^ 32 - a % 2 ^ 32) % 2 ^ 32 / 2 ^ s.dev.get 0xA0024 (5 * p) 5)))).toNat 1)) ∧
        OnlyRegs s.dev { d with tracer := s.dev.tracer }) ∧
    (∀ (o : TagObs) sl n, s.dev.tracer.flying.find? (fun t => t.1 == o.id) = some (o.id, sl, n) → s.dev.tracer.fifo.length < 4096 →
      ∃ d, exec (.tagTimeout o) s = .next (after s d) ∧ d.rd 0xA0040 = wd (satAdd 32 (s.dev.rd 0xA0040).toNat 1) ∧
        ∃ e, d.tracer.fifo = s.dev.tracer.fifo ++ [e] ∧ bitAt (nthWord e 7) 19 = true ∧ nthWord e 6 = 0)
/-- Enabling, draining and the transmitter of a lane.
Where the rules leave a point open it follows the model's own choice, log entries 11 and 24. -/
def Obligations.LaneEnablesDrainsAndTransmits : Prop :=
  ∀ (s : State) (n : Nat), Live s → n < 64 →
    (∀ m v r, Ready s m → rowOf (laneBase n + 0x10) = some r →
      s.dev.refusal (laneBase n + 0x10) ⟨.lane, n, 0x10⟩ r (setFld v 0 1 1) = none → s.dev.laneCtlBad n (setFld v 0 1 1) = false →
      s.dev.laneEna n = false → (s.dev.lane n).draining = false →
      ∃ d, exec (.laneEnable m n v) s = .next (acceptedFollowed s m d) ∧ d.rd (laneBase n + 0x10) = setFld v 0 1 1 ∧
        (d.lane n).rxOn = true ∧ (d.lane n).sdh.st = .hunt ∧ d.bit (laneBase n + 0x14) 1 = false ∧
        (∀ o ∈ [0x4000, 0x4024, 0x4028], d.rd (laneBase n + o) = 0) ∧ (∀ k, k ≠ n → d.lane k = s.dev.lane k) ∧
        KeepsBut ([0x10, 0x14, 0x4000, 0x4024, 0x4028, 0x4054].map (laneBase n + ·) ++ [0x50]) s.dev d) ∧
    (∀ m v r, Ready s m → rowOf (laneBase n + 0x10) = some r →
      s.dev.refusal (laneBase n + 0x10) ⟨.lane, n, 0x10⟩ r (setFld v 0 1 0) = none → s.dev.laneCtlBad n (setFld v 0 1 0) = false →
      s.dev.laneEna n = true →
      ∃ d, exec (.laneDisable m n v) s = .next (acceptedFollowed s m d) ∧ d.rd (laneBase n + 0x10) = setFld v 0 1 0 ∧
        (d.lane n).draining = true ∧ (d.lane n).margin = none ∧ (∀ k, k ≠ n → d.lane k = s.dev.lane k) ∧
        KeepsBut ([0x10, 0x4000, 0x4048].map (laneBase n + ·) ++ [0x50]) s.dev d) ∧
    ((s.dev.lane n).draining = true →
      ∃ d, exec (.laneDrainDone n) s = .next (followed s d) ∧ d.bit (laneBase n + 0x14) 1 = true ∧ d.bit (laneBase n + 0x18) 0 = true ∧
        (∀ o ∈ [0x4000, 0x4024, 0x4028], d.rd (laneBase n + o) = 0) ∧ (d.lane n).rxOn = false ∧ (d.lane n).txOn = false ∧
        (d.lane n).draining = false ∧ (d.lane n).sdh.st = .hunt ∧ (∀ k, k ≠ n → d.lane k = s.dev.lane k)) ∧
    (s.dev.laneEna n = true → s.dev.squelched n = false →
      ∃ d, exec (.laneTxStart n) s = .next (followed s d) ∧ exec (.txResume n) s = .next (followed s d) ∧
        (d.lane n).txOn = true ∧ d = s.dev.setLane n { s.dev.lane n with txOn := true }) ∧
    ((s.dev.bit (laneBase n + 0x10) 11 = true ∨ s.dev.acting = false) →
      ∃ d, exec (.txIdleAtFrameEnd n) s = .next (followed s d) ∧ (d.lane n).txOn = false ∧
        d = s.dev.setLane n (s.dev.lane n).idle)

/-- The receive adaptation and the margin scan of a lane.
Where the rules leave a point open it follows the model's own choice, log entries 2, 9 and 24. -/
def Obligations.AdaptationAndMarginScan : Prop :=
  ∀ (s : State) (n : Nat), Live s → n < 64 →
    (∀ m, Ready s m → DomainReady s (.laneRx n) →
      (∃ d, exec (.adaptRestart m n) s = .next (postedFollowed s m d) ∧ d.bit (laneBase n + 0x4000) 9 = false ∧
        (d.lane n).sdh.st = .hunt ∧ (d.lane n).otu.st = .hunt) ∧
      (s.dev.laneEna n = true → s.dev.bit (laneBase n + 0x4000) 0 = false → s.dev.bit (laneBase n + 0x4000) 1 = false →
        (s.dev.lane n).margin = none →
        ∃ d, exec (.marginStart m n) s = .next (postedFollowed s m d) ∧ (d.lane n).margin = some {} ∧
          d.get (laneBase n + 0x4048) 0 3 = 1 ∧ KeepsBut [laneBase n + 0x4048] s.dev d) ∧
      ((s.dev.lane n).margin.isSome = true →
        ∃ d, exec (.marginStart m n) s = .next (after s d) ∧ d.lanes = s.dev.lanes ∧ tabGet {} d.bus.done m = {} ∧
          d.rd 0x8C = wd (satAdd 32 (s.dev.rd 0x8C).toNat 1) ∧ KeepsBut [0x8C, 0x54, 0xB0, 0xB4] s.dev d) ∧
      ((s.dev.lane n).margin.isSome = true →
        ∃ d, exec (.marginAbort m n) s = .next (postedFollowed s m d) ∧ (d.lane n).margin = none ∧
          d.get (laneBase n + 0x4048) 0 3 = 3 ∧ KeepsBut [laneBase n + 0x4048] s.dev d)) ∧
    (s.dev.laneEna n = true → s.dev.bit (laneBase n + 0x4000) 0 = false → s.dev.bit (laneBase n + 0x4000) 1 = false →
      ∃ d, exec (.adaptDone n) s = .next (followed s d) ∧ d.bit (laneBase n + 0x4000) 9 = true ∧
        d.lane n = { s.dev.lane n with taps := (d.lane n).taps } ∧ (∀ k, k ≠ n → d.lane k = s.dev.lane k) ∧
        KeepsBut [laneBase n + 0x4000, laneBase n + 0x4054] s.dev d ∧
        (s.dev.bit (laneBase n + 0x4050) 0 = true → d = s.dev.setBit (laneBase n + 0x4000) 9 true)) ∧
    (∀ g errs, (s.dev.lane n).margin = some g → g.dir < 4 → errs ≤ s.dev.get (laneBase n + 0x4040) 8 8 →
      g.steps + 1 < (if g.dir < 2 then 32 else 100) →
      ∃ d, exec (.marginPointDone n errs) s = .next (followed s d) ∧
        d = s.dev.setLane n { s.dev.lane n with margin := some { g with steps := g.steps + 1 } }) ∧
    (∀ a b c k errs, (s.dev.lane n).margin = some ⟨3, k, [a, b, c]⟩ → s.dev.get (laneBase n + 0x4040) 8 8 < errs →
      ∃ d, exec (.marginPointDone n errs) s = .next (followed s d) ∧ (d.lane n).margin = none ∧
        d.rd (laneBase n + 0x404C) = wd (a + 2 ^ 8 * b + 2 ^ 16 * c + 2 ^ 24 * k) ∧ d.get (laneBase n + 0x4048) 0 3 = 2 ∧
        d.bit (laneBase n + 0x4008) 13 = true ∧
        KeepsBut ([0x404C, 0x4048, 0x4008].map (laneBase n + ·)) s.dev d)

/-- The defects a lane declares and clears by time.
Where the rules leave a point open it follows the model's own choice, log entries 9 and 24. -/
def Obligations.SignalAndFramingDefectsOfALane : Prop :=
  ∀ (s : State) (n : Nat), Live s → n < 64 →
    ((s.dev.lane n).rxOn = true → s.dev.bit (laneBase n + 0x4000) 0 = false → s.dev.looped n = false →
      ∃ d, exec (.losDeclare n) s = .next (followed s d) ∧ d.bit (laneBase n + 0x4000) 0 = true ∧ d.bit (laneBase n + 0x4000) 1 = false ∧
        d.bit (laneBase n + 0x4000) 9 = false ∧
        d.rd (laneBase n + 0x4030) = 0 ∧ d.bit (laneBase n + 0x4008) 0 = true ∧ (d.lane n).sdh.st = .hunt ∧ (d.lane n).margin = none) ∧
    (∃ d, exec (.losClear n) s = .next (followed s d) ∧ d.bit (laneBase n + 0x4000) 0 = false ∧ Only [laneBase n + 0x4000] s.dev d) ∧
    (∀ off : Int, (s.dev.lane n).rxOn = true → s.dev.bit (laneBase n + 0x4000) 0 = false →
      (10000 < off.natAbs → s.dev.looped n = false → ∃ d, exec (.freqOorDeclare n off) s = .next (followed s d) ∧ d.bit (laneBase n + 0x4000) 1 = true ∧
        d.rd (laneBase n + 0x4030) = wd (unsigned 32 off) ∧ d.bit (laneBase n + 0x4008) 1 = true ∧ (d.lane n).sdh.st = .hunt) ∧
      (off.natAbs ≤ 8000 → ∃ d, exec (.freqOorClear n off) s = .next (followed s d) ∧ d.bit (laneBase n + 0x4000) 1 = false ∧
        d.rd (laneBase n + 0x4030) = wd (unsigned 32 off) ∧ Only [laneBase n + 0x4000, laneBase n + 0x4030] s.dev d)) ∧
    (∀ otu : Bool, s.dev.laneEna n = true →
      (if otu then s.dev.isOtu n = true ∧ (s.dev.lane n).otu.st ≠ .sync else (s.dev.lane n).sdh.st ≠ .sync) →
      ∃ d, exec (.lofDeclare n otu) s = .next (followed s d) ∧ d.bit (laneBase n + 0x4000) (if otu then 5 else 3) = true ∧
        (s.dev.bit (laneBase n + 0x4000) (if otu then 5 else 3) = false →
          d.bit (laneBase n + 0x4008) (if otu then 5 else 3) = true) ∧
        Only [laneBase n + 0x4000, laneBase n + 0x4008] s.dev d) ∧
    (∀ otu : Bool, (if otu then (s.dev.lane n).otu.st else (s.dev.lane n).sdh.st) = .sync →
      ∃ d, exec (.lofClear n otu) s = .next (followed s d) ∧ d.bit (laneBase n + 0x4000) (if otu then 5 else 3) = false ∧
        Only [laneBase n + 0x4000] s.dev d) ∧
    (s.dev.laneEna n = true → s.dev.isOtu n = true → s.dev.bit (laneBase n + 0x4000) 6 = true →
      ∃ d, exec (.otuLomDeclare n) s = .next (followed s d) ∧ d.bit (laneBase n + 0x4000) 7 = true ∧
        (s.dev.bit (laneBase n + 0x4000) 7 = false → d.bit (laneBase n + 0x4008) 7 = true) ∧
        Only [laneBase n + 0x4000, laneBase n + 0x4008] s.dev d) ∧
    (s.dev.bit (laneBase n + 0x4000) 6 = false →
      ∃ d, exec (.otuLomClear n) s = .next (followed s d) ∧ d.bit (laneBase n + 0x4000) 7 = false ∧ Only [laneBase n + 0x4000] s.dev d)

/-- A received STM-N frame and a received OTU2 frame at the framers.
Where the rules leave a point open it follows the model's own choice, log entries 9, 11, 25 and 27. -/
def Obligations.FramersJudgeReceivedFrames : Prop :=
  ∀ (s : State) (n : Nat), Live s → n < 64 → (s.dev.lane n).rxOn = true →
    (∀ (bits cur : List Byte) (tags : Nat) (mem : List MemObs) (d1 : Device) (o : SdhObs),
      d1 = (s.dev.adaptStep n).freqStep n → cur = d1.sdhIn n bits → o = d1.sdhObs n cur (d1.sdhStream n cur) →
      s.dev.sliceHeld (sliceOfLane n) = false → s.dev.huntHeld n true = false →
      ((s.dev.lane n).sdh.st = .sync → o.ok = true →
        ∃ d, exec (.sdhFrameEnd n bits tags mem) s = .next (followed s d) ∧ (d.lane n).sdh.st = .sync ∧ (d.lane n).sdh.errRun = 0 ∧
          (d.rd (laneBase n + 0x4430)).toNat = ((s.dev.rd (laneBase n + 0x4430)).toNat + o.b1) % 2 ^ 32 ∧
          ((s.dev.lane n).kRun = ⟨o.k1.toNat * 256 + o.k2.toNat, 2⟩ →
            d.rd (laneBase n + 0x4024) = wd (o.k1.toNat * 256 + o.k2.toNat))) ∧
      ((s.dev.lane n).sdh.st = .sync → o.ok = false → s.dev.oofCount n ≤ (s.dev.lane n).sdh.errRun + 1 →
        ∃ d, exec (.sdhFrameEnd n bits tags mem) s = .next (followed s d) ∧ (d.lane n).sdh.st = .hunt ∧ d.bit (laneBase n + 0x4008) 2 = true ∧
          (d.rd (laneBase n + 0x4420)).toNat = ((s.dev.rd (laneBase n + 0x4420)).toNat + 1) % 2 ^ 32) ∧
      ((s.dev.lane n).sdh.st = .hunt → (s.dev.lane n).sdh.cands = [] → o.offs = [] →
        ∃ d, exec (.sdhFrameEnd n bits tags mem) s = .next (followed s d) ∧ (d.lane n).sdh.st = .hunt)) ∧
    (∀ (bits cur : List Byte) (f : Nat → Byte) (half : Nat) (ok : Bool), cur = s.dev.lineIn n 16320 bits → f = s.dev.otuStream n cur →
      half = s.dev.get (laneBase n + 0x4010) 16 3 / 2 →
      ok = windowAt f 0xF6 0x28 half half (2 * otuBits + (s.dev.lane n).otu.lock + 1 - 24) →
      s.dev.isOtu n = true → s.dev.huntHeld n false = false →
      ((s.dev.lane n).otu.st = .sync → ok = true →
        ∃ d, exec (.otuFrameEnd n bits) s = .next (followed s d) ∧ (d.lane n).otu.st = .sync ∧ (d.lane n).otu.errRun = 0 ∧
          (d.lane n).mfas =
          (((if s.dev.bit (laneBase n + 0x4020) 0 then (otuDecode (s.dev.otuFrameOf n f)).1 else s.dev.otuFrameOf n f).getD 6 0).toNat + 1) % 256) ∧
      ((s.dev.lane n).otu.st = .sync → ok = false → s.dev.oofCount n ≤ (s.dev.lane n).otu.errRun + 1 →
        ∃ d, exec (.otuFrameEnd n bits) s = .next (followed s d) ∧ (d.lane n).otu.st = .hunt ∧ (d.lane n).sdh.st = .hunt ∧
          d.bit (laneBase n + 0x4008) 4 = true ∧
          (d.rd (laneBase n + 0x4480)).toNat = ((s.dev.rd (laneBase n + 0x4480)).toNat + 1) % 2 ^ 32))

/-- The transmitted overhead and the overhead relay.
Where the rules leave a point open it follows the model's own choice, log entries 25 and 26. -/
def Obligations.LaneTransmitsItsOverheadAndRelay : Prop :=
  ∀ (s : State) (n : Nat), Live s → n < 64 →
    ((s.dev.lane n).txOn = true →
      ∃ d, exec (.laneTxFrame n) s = .next (followed s d) ∧ (d.lane n).tx.sent = true ∧ (d.lane n).txFrame = (s.dev.lane n).txFrame + 1 ∧
        (s.dev.bit (laneBase n + 0x24) 1 = false → (d.lane n).tx.s1 = BitVec.ofNat 8 (s.dev.get (laneBase n + 0x2C) 0 8)) ∧
        (s.dev.bit (laneBase n + 0x24) 0 = false → s.dev.bit (laneBase n + 0x30) 1 = false → s.dev.bit (laneBase n + 0x4058) 3 = false →
          (d.lane n).tx.k1.toNat * 256 + (d.lane n).tx.k2.toNat = s.dev.get (laneBase n + 0x28) 0 16) ∧
        (s.dev.bit (laneBase n + 0x90) 1 = true → s.dev.ohSelected n ≠ [] → (s.dev.lane n).relayTx = [] →
          (d.lane n).tx.relay = (s.dev.ohSelected n).map (fun w => BitVec.ofNat 8 (fld w 24 8)) ∧
          d.rd (laneBase n + 0xA4) = wd (satAdd 32 (s.dev.rd (laneBase n + 0xA4)).toNat 1) ∧ d.bit (laneBase n + 0x18) 2 = true) ∧
        KeepsBut [laneBase n + 0xA4, laneBase n + 0x18] s.dev d ∧ (∀ k, k ≠ n → d.lane k = s.dev.lane k)) ∧
    ((s.dev.lane n).txOn = false →
      ∃ d, exec (.laneTxFrame n) s = .next (followed s d) ∧ 
        d = s.dev.setLane n { s.dev.lane n with tx := {}, txb := { (s.dev.lane n).txb with line := [] } }) ∧
    (s.dev.bit (laneBase n + 0x90) 0 = true → 16 ≤ (s.dev.lane n).relayBuf.length →
      ∃ d, exec (.ohRxRecordBuild n) s = .next (followed s d) ∧ (d.lane n).relayBuf = [] ∧
        (s.dev.porchUp = true → (s.dev.lane n).relayRx.length < 4 →
          (d.lane n).relayRx.length = (s.dev.lane n).relayRx.length + 1 ∧ (d.lane n).relayGap = false ∧
          d.rd (laneBase n + 0xA0) = s.dev.rd (laneBase n + 0xA0)) ∧
        (s.dev.porchUp = false ∨ 4 ≤ (s.dev.lane n).relayRx.length → (d.lane n).relayRx = (s.dev.lane n).relayRx ∧
          (d.lane n).relayGap = true ∧ d.rd (laneBase n + 0xA0) = wd (satAdd 32 (s.dev.rd (laneBase n + 0xA0)).toNat 1) ∧
          d.bit (laneBase n + 0x18) 1 = true)) ∧
    (∀ m, Ready s m → s.dev.bit (laneBase n + 0x90) 1 = true → 4 ≤ (s.dev.lane n).relayTx.length →
      ∃ t, exec (.ohTxPush m n) s = .next t ∧ t.dev.lanes = s.dev.lanes ∧
        t.dev.rd (laneBase n + 0xA8) = wd (satAdd 32 (s.dev.rd (laneBase n + 0xA8)).toNat 1) ∧
        tabGet {} t.dev.bus.done m = { status := .range }) ∧
    (∀ m, Ready s m → s.dev.bit (laneBase n + 0x90) 1 = true → (s.dev.lane n).relayTx.length < 4 →
      s.dev.get (laneBase n + 0x3100) 24 8 = 1 → s.dev.get (laneBase n + 0x3100) 0 8 = (s.dev.ohSelected n).length →
      1 ≤ s.dev.get (laneBase n + 0x3108) 24 8 → s.dev.get (laneBase n + 0x3108) 24 8 ≤ 16 →
      ∃ d rec, exec (.ohTxPush m n) s = .next (acceptedFollowed s m d) ∧ (d.lane n).relayTx = (s.dev.lane n).relayTx ++ [rec] ∧
        rec.length = s.dev.get (laneBase n + 0x3108) 24 8 ∧ (∀ f ∈ rec, f.length = (s.dev.ohSelected n).length) ∧ d.regs = s.dev.regs)
/-- Enabling, starting, stopping and the multiframe defect of a high-order head.
Where the rules leave a point open it follows the model's own choice, log entry 23. -/
def Obligations.HighOrderHeadsStartAndStop : Prop :=
  ∀ (s : State) (h : Nat), Live s → h < 12288 →
    (∀ m v r, Ready s m → rowOf (hoBase h) = some r → s.dev.refusal (hoBase h) ⟨.ho, h, 0⟩ r (setFld v 0 1 1) = none →
      s.dev.hoCfgBad h (setFld v 0 1 1) = false → s.dev.hoEna h = false →
      ∃ d, exec (.hoEnable m h v) s = .next (acceptedFollowed s m d) ∧ d.rd (hoBase h) = setFld v 0 1 1 &&& 0x7F ∧
        (d.ho h).rx = (s.dev.ho h).rx.rise ∧ (d.ho h).tx = (s.dev.ho h).tx.rise ∧ (∀ k, k ≠ h → d.ho k = s.dev.ho k) ∧
        KeepsBut [hoBase h, 0x50] s.dev d) ∧
    (∀ m v r, Ready s m → rowOf (hoBase h) = some r → s.dev.refusal (hoBase h) ⟨.ho, h, 0⟩ r (setFld v 0 1 0) = none →
      s.dev.hoCfgBad h (setFld v 0 1 0) = false → s.dev.hoEna h = true →
      ∃ d, exec (.hoDisable m h v) s = .next (acceptedFollowed s m d) ∧ d.rd (hoBase h) = setFld v 0 1 0 &&& 0x7F ∧
        (d.ho h).rx = (s.dev.ho h).rx.fall ∧ (d.ho h).tx = (s.dev.ho h).tx.fall ∧ (∀ k, k ≠ h → d.ho k = s.dev.ho k) ∧
        KeepsBut [hoBase h, 0x50] s.dev d) ∧
    (∀ m v r, Ready s m → rowOf (hoBase h) = some r → s.dev.refusal (hoBase h) ⟨.ho, h, 0⟩ r (setFld v 0 1 1) = none →
      s.dev.hoCfgBad h (setFld v 0 1 1) = true → s.dev.hoProtect h = false →
      ∃ t, exec (.hoEnable m h v) s = .next t ∧ tabGet {} t.dev.bus.done m = { status := .range } ∧ t.dev.hos = s.dev.hos ∧
        KeepsBut [0x8C, 0x54, 0xB0, 0xB4] s.dev t.dev) ∧
    (s.dev.hoEna h = true → (s.dev.ho h).rx = .starting →
      ∃ d, exec (.hoRxStart h) s = .next (followed s d) ∧ (d.ho h).rx = .on ∧ (d.ho h).pi.st = .norm ∧ (d.ho h).pi.active = 0 ∧
        (d.ho h).rxMon = s.dev.rd (hoBase h + 4) ∧
        (∀ k, 1 ≤ k → k < groupSize (s.dev.hoType h) → (d.ho (h + k)).claim = some h ∧ (d.ho (h + k)).pi.st = .conc)) ∧
    (s.dev.hoEna h = true → (s.dev.ho h).tx = .starting →
      ∃ d, exec (.hoTxStart h) s = .next (followed s d) ∧ (d.ho h).tx = .on ∧ (d.ho h).gen.newPtr = true ∧
        (d.ho h).txMon = s.dev.rd (hoBase h + 4) ∧ (d.ho h).tx1 = s.dev.rd (hoBase h + 8) ∧ (d.ho h).tx2 = s.dev.rd (hoBase h + 0xC) ∧
        d.regs = s.dev.regs ∧ (∀ k, k ≠ h → d.ho k = s.dev.ho k)) ∧
    (s.dev.hoEna h = false → s.dev.hoDrained h = false →
      ∃ d, exec (.hoDrainDone h) s = .next (followed s d) ∧ d.bit (hoBase h) 7 = true ∧ d.bit (hoBase h + 0x24) 19 = true ∧
        (∀ k, k < groupSize (s.dev.hoType h) → (d.ho (h + k)).claim = none ∧ (d.ho (h + k)).rx = .off ∧ (d.ho (h + k)).tx = .off)) ∧
    ((s.dev.ho h).oom = true →
      ∃ d, exec (.hoLomDeclare h) s = .next (followed s d) ∧ d = s.dev.setHo h { s.dev.ho h with lom := true }) ∧
    ((s.dev.ho h).oom = false →
      ∃ d, exec (.hoLomClear h) s = .next (followed s d) ∧ d = s.dev.setHo h { s.dev.ho h with lom := false })

/-- The pointer generators of heads and tributaries.
Where the rules leave a point open it follows the model's own choice, log entry 28. -/
def Obligations.PointerGeneratorsJustifyAndSlip : Prop :=
  ∀ (s : State), Live s →
    (∀ (h : Nat) (delta : Int), h < 12288 → ∃ d, exec (.hoRegenFrame h delta) s = .next (followed s d) ∧
      (d.ho h).txPos = (s.dev.ho h).txPos + 1 ∧ (d.ho h).txMon = s.dev.rd (hoBase h + 4) ∧
      (s.dev.hoTxAis h = true → (d.ho h).gen.ais = true ∧ (d.ho h).gen.newPtr = true ∧ (d.ho h).poh = {} ∧
        (d.ho h).gen.word = 0xFFFF) ∧
      (s.dev.hoTxAis h = false → (s.dev.ho h).gen.newPtr = false →
        (((s.dev.ho h).gen.fill : Int) + delta ≤ 0 ∨ ((s.dev.ho h).gen.fill : Int) + delta ≥ 8 →
          (d.ho h).gen.fill = 4 ∧ (d.ho h).gen.ndf = true ∧ d.bit (hoBase h + 0x24) 18 = true ∧
          (d.rd (hoBase h + 0xC0)).toNat = ((s.dev.rd (hoBase h + 0xC0)).toNat + 1) % 2 ^ 32) ∧
        (0 < ((s.dev.ho h).gen.fill : Int) + delta → ((s.dev.ho h).gen.fill : Int) + delta < 8 →
          (0 < (s.dev.ho h).gen.bar → (d.ho h).gen.value = (s.dev.ho h).gen.value ∧ (d.ho h).gen.bar = (s.dev.ho h).gen.bar - 1 ∧
            d.regs = s.dev.regs) ∧
          ((s.dev.ho h).gen.bar = 0 → ((s.dev.ho h).gen.fill : Int) + delta ≤ 2 →
            (d.ho h).gen.value = (if (s.dev.ho h).gen.value = 782 then 0 else (s.dev.ho h).gen.value + 1) ∧ (d.ho h).gen.bar = 3 ∧
            (d.rd (hoBase h + 0x80)).toNat = ((s.dev.rd (hoBase h + 0x80)).toNat + 1) % 2 ^ 32) ∧
          ((s.dev.ho h).gen.bar = 0 → 6 ≤ ((s.dev.ho h).gen.fill : Int) + delta →
            (d.ho h).gen.value = (if (s.dev.ho h).gen.value = 0 then 782 else (s.dev.ho h).gen.value - 1) ∧ (d.ho h).gen.bar = 3 ∧
            (d.rd (hoBase h + 0x90)).toNat = ((s.dev.rd (hoBase h + 0x90)).toNat + 1) % 2 ^ 32)))) ∧
    (∀ (k : Nat) (gain : Int) (d1 : Device), k < 262144 → d1 = s.dev.free.2.tcLoadTx k → ∀ delta : Int, delta = (if d1.rtActs k then 0 else gain) →
      ∃ d, exec (.tcRegenPeriod k gain) s = .next (followed s d) ∧ (d.tc k).txPos = (s.dev.tc k).txPos + 1 ∧
      (s.dev.tcTxAis k = true → (d.tc k).gen.ais = true ∧ (d.tc k).gen.newPtr = true ∧ (d.tc k).poh = {} ∧ (d.tc k).gen.word = 0xFFFF) ∧
      (s.dev.tcTxAis k = false → (d1.tc k).gen.newPtr = false → (s.dev.tc k).gen.bar = 0 →
        (((s.dev.tc k).gen.fill : Int) + delta ≤ 0 ∨ ((s.dev.tc k).gen.fill : Int) + delta ≥ 8 →
          (d.tc k).gen.fill = 4 ∧ (d.tc k).gen.ndf = true ∧ d.rawGet k 8 % 2 ^ 48 = (s.dev.rawGet k 8 + 1) % 2 ^ 48 ∧
          d.bit (tcBase k + 0x24) 19 = true) ∧
        (0 < ((s.dev.tc k).gen.fill : Int) + delta → ((s.dev.tc k).gen.fill : Int) + delta ≤ 2 →
          (d.tc k).gen.value = (if (s.dev.tc k).gen.value = tcTop (s.dev.tcType k) then 0 else (s.dev.tc k).gen.value + 1) ∧
          d.rawGet k 4 % 2 ^ 48 = (s.dev.rawGet k 4 + 1) % 2 ^ 48) ∧
        (6 ≤ ((s.dev.tc k).gen.fill : Int) + delta → ((s.dev.tc k).gen.fill : Int) + delta < 8 →
          (d.tc k).gen.value = (if (s.dev.tc k).gen.value = 0 then tcTop (s.dev.tcType k) else (s.dev.tc k).gen.value - 1) ∧
          d.rawGet k 5 % 2 ^ 48 = (s.dev.rawGet k 5 + 1) % 2 ^ 48)))

/-- Enabling, starting and stopping of a tributary.
Where the rules leave a point open it follows the model's own choice, log entry 29. -/
def Obligations.TributariesStartAndStop : Prop :=
  ∀ (s : State) (k : Nat), Live s → k < 262144 →
    (∀ m v r, Ready s m → rowOf (tcBase k) = some r → s.dev.refusal (tcBase k) ⟨.tc, k, 0⟩ r (setFld v 0 1 1) = none →
      s.dev.tcCfgCause k (setFld v 0 1 1) = none → s.dev.tcEna k = false →
      ∃ d, exec (.tcEnable m k v) s = .next (acceptedFollowed s m d) ∧ d.rd (tcBase k) = setFld v 0 1 1 ∧
        d.bit (tcBase k + 0x20) 17 = false ∧ (d.tc k).rx = (s.dev.tc k).rx.rise ∧ (d.tc k).tx = (s.dev.tc k).tx.rise ∧
        (∀ j, j ≠ k → d.tc j = s.dev.tc j)) ∧
    (∀ m v r, Ready s m → rowOf (tcBase k) = some r → s.dev.refusal (tcBase k) ⟨.tc, k, 0⟩ r (setFld v 0 1 0) = none →
      s.dev.tcCfgCause k (setFld v 0 1 0) = none → s.dev.tcEna k = true →
      ∃ d, exec (.tcDisable m k v) s = .next (acceptedFollowed s m d) ∧ d.rd (tcBase k) = setFld v 0 1 0 ∧
        (d.tc k).rx = (s.dev.tc k).rx.fall ∧ (d.tc k).tx = (s.dev.tc k).tx.fall ∧ (∀ j, j ≠ k → d.tc j = s.dev.tc j)) ∧
    (∀ m v r c, Ready s m → rowOf (tcBase k) = some r → s.dev.refusal (tcBase k) ⟨.tc, k, 0⟩ r (setFld v 0 1 1) = none →
      s.dev.tcCfgCause k (setFld v 0 1 1) = some c →
      ∃ t, exec (.tcEnable m k v) s = .next t ∧ tabGet {} t.dev.bus.done m = { status := .range } ∧ t.dev.tcs = s.dev.tcs ∧
        t.dev.rd (sliceBase (sliceOfLane (fld v 4 6)) + 0x408) = wd (k + 2 ^ 20 * c) ∧ t.dev.rd (tcBase k) = s.dev.rd (tcBase k)) ∧
    (s.dev.tcEna k = true → (s.dev.tc k).rx = .starting → s.dev.tcPhase k = true →
      ∃ d, exec (.tcRxStart k) s = .next (followed s d) ∧ (d.tc k).rx = .on ∧ (d.tc k).pi.st = .norm ∧ (d.tc k).pi.active = 0 ∧
        (d.tc k).rxCfg = s.dev.rd (tcBase k) ∧ (d.tc k).rxMon = s.dev.rd (tcBase k + 4) ∧ (d.tc k).rxCli = s.dev.rd (tcBase k + 8) ∧
        d.bit (tcBase k + 0x2C) 16 = false ∧ KeepsBut [tcBase k + 0x2C] s.dev d) ∧
    (s.dev.tcEna k = true → (s.dev.tc k).tx = .starting →
      ∃ d, exec (.tcTxStart k) s = .next (followed s d) ∧ (d.tc k).tx = .on ∧ (d.tc k).gen.newPtr = true ∧
        (d.tc k).txCfg = s.dev.rd (tcBase k) ∧ d.regs = s.dev.regs) ∧
    (s.dev.tcEna k = false → s.dev.tcDrained k = false →
      ∃ d, exec (.tcDrainDone k) s = .next (followed s d) ∧ d.bit (tcBase k + 0x20) 17 = true ∧ d.bit (tcBase k + 0x24) 20 = true ∧
        (d.tc k).rx = .off ∧ (d.tc k).tx = .off ∧ d.rt k = {} ∧ d.cli k = {}) ∧
    (s.dev.leakEvery k ≤ (s.dev.rt k).leak →
      ∃ d, exec (.retimeLeak k) s = .next (followed s d) ∧ (d.rt k).p = (s.dev.rt k).p - (s.dev.rt k).p.sign ∧
        (d.rt k).fill = (s.dev.rt k).fill ∧ (∀ j, j ≠ k → d.rt j = s.dev.rt j) ∧ d.regs = s.dev.regs) ∧
    ((s.dev.rt k).leak < s.dev.leakEvery k → exec (.retimeLeak k) s = .next (followed s s.dev))

/-- Client configuration, frames and time-outs.
Where the rules leave a point open it follows the model's own choice, log entry 30. -/
def Obligations.ClientMonitorsFollowTheirConfigurationAndFrames : Prop :=
  ∀ (s : State), Live s →
    (∀ m k v r, Ready s m → k < 262144 → rowOf (tcBase k + 8) = some r → s.dev.refusal (tcBase k + 8) ⟨.tc, k, 8⟩ r v = none →
      (s.dev.clientCause k v = none →
        ∃ d, exec (.clientConfigWrite m k v) s = .next (acceptedFollowed s m d) ∧ d.rd (tcBase k + 8) = v ∧
          d.clis = s.dev.clis ∧ (d.tc k).conflict = false ∧ KeepsBut [tcBase k + 8, 0x50] s.dev d) ∧
      (∀ c, s.dev.clientCause k v = some c →
        ∃ t, exec (.clientConfigWrite m k v) s = .next t ∧ tabGet {} t.dev.bus.done m = { status := .range } ∧
          t.dev.rd (tcBase k + 8) = s.dev.rd (tcBase k + 8) ∧ t.dev.clis = s.dev.clis ∧
          t.dev.rd (sliceBase (sliceOfLane (s.dev.tcLane k)) + 0x53C) = wd (k + 2 ^ 20 * c))) ∧
    (∀ m sl i v r, Ready s m → sl < 16 → i < 32 → rowOf (entryAddr sl i) = some r →
      s.dev.refusal (entryAddr sl i) ⟨.slice, sl, 0x600 + 4 * i⟩ r v = none → s.dev.hoClientBad sl i v = false →
      ∃ d, exec (.hoClientWrite m sl i v) s = .next (acceptedFollowed s m d) ∧ d.rd (entryAddr sl i) = v ∧
        (s.dev.rd (entryAddr sl i) ≠ v → d.cli (entryNo sl i) = {}) ∧ KeepsBut [entryAddr sl i, 0x50] s.dev d) ∧
    (∀ m sl v r, Ready s m → sl < 16 → rowOf (sliceBase sl + 0x500) = some r →
      s.dev.refusal (sliceBase sl + 0x500) ⟨.slice, sl, 0x500⟩ r v = none →
      ∃ d, exec (.clientSel m sl v) s = .next (acceptedFollowed s m d) ∧ tabGet 0 d.cliSel sl = v ∧ d = { s.dev with cliSel := d.cliSel }) ∧
    (∀ k, k < 262144 → fld (s.dev.tc k).rxCli 0 5 ≠ s.dev.get (tcBase k + 8) 0 5 →
      (s.dev.tcLoadRx k).cli k = {} ∧ ((s.dev.tcLoadRx k).tc k).rxCli = s.dev.rd (tcBase k + 8)) ∧
    (∀ j, s.dev.cliRuns j = false → exec (.clientFrameEnd j) s = .next (followed s (s.dev.setCli j {}))) ∧
    (∀ j, s.dev.cliRuns j = true → (s.dev.cli j).fifo.length < cliLen (s.dev.cliKind j).1 (s.dev.cliKind j).2 →
      exec (.clientFrameEnd j) s = .next (followed s s.dev)) ∧
    (∀ j (o : ClientObs), j < 262144 → s.dev.cliRuns j = true → (s.dev.cliKind j).1 = 1 → (s.dev.cli j).st = .sync →
      cliLen 1 (s.dev.cliKind j).2 ≤ (s.dev.cli j).fifo.length →
      o = (s.dev.cli j).read 1 (s.dev.cliKind j).2 ((s.dev.cli j).fifo.take (cliLen 1 (s.dev.cliKind j).2)) →
      (s.dev.cli j).crcWin = false →
      (o.fas = true → o.bit2 = true →
        ∃ d, exec (.clientFrameEnd j) s = .next (followed s d) ∧ (d.cli j).st = .sync ∧ (d.cli j).fasRun = 0 ∧
          (d.cli j).frame = (s.dev.cli j).frame + 1) ∧
      (o.fas = false → (s.dev.cli j).fasRun = 2 →
        ∃ d, exec (.clientFrameEnd j) s = .next (followed s d) ∧ (d.cli j).st = .hunt ∧ (d.cli j).noCrc4 = false ∧
          d.rawGet j 13 % 2 ^ 48 = (s.dev.rawGet j 13 + 1) % 2 ^ 48)) ∧
    (∀ j off, s.dev.cliRuns j = true → s.dev.cliKind j = (1, 0) →
      (s.dev.cli j).cands.any (fun c => c.off == off && c.basic.isSome) = true →
      ∃ d, exec (.e1Crc4CandidateTimeout j off) s = .next (followed s d) ∧ (d.cli j).cands = (s.dev.cli j).cands.filter (·.off != off)) ∧
    (∀ j c, s.dev.cliRuns j = true → s.dev.cliKind j = (1, 2) → (s.dev.cli j).st ≠ .sync → c.basic.isSome = true →
      (s.dev.cli j).cands = [c] →
      ∃ d, exec (.e1Crc4AutoTimeout j) s = .next (followed s d) ∧ (d.cli j).st = .sync ∧ (d.cli j).lock = c.off ∧
        (d.cli j).noCrc4 = true ∧ (d.cli j).crcWin = false) ∧
    (∀ j, s.dev.cliRuns j = true → (s.dev.cli j).st ≠ .sync →
      ∃ d, exec (.clientLofDeclare j) s = .next (followed s d) ∧ d = s.dev.setCli j { s.dev.cli j with lof := true }) ∧
    (∀ j, (s.dev.cli j).st = .sync →
      ∃ d, exec (.clientLofClear j) s = .next (followed s d) ∧ d = s.dev.setCli j { s.dev.cli j with lof := false })
/-- Writes of page entries.
Where the rules leave a point open it follows the model's own choice, log entry 31. -/
def Obligations.PageEntriesAreJudgedAndStored : Prop :=
  ∀ (s : State) (m p c : Nat) (v : Word) (r : RegRow), Ready s m → p < 2 → c < 274432 → rowOf (entryAddrOf p c) = some r →
    (s.dev.pageCause p c v = none →
      ∃ d, exec (.pageEntryWrite m p c v) s = .next (accepted s m d) ∧ d.rd (entryAddrOf p c) = v ∧ d.bit 0xC0068 p = false ∧
        d.hall = s.dev.hall ∧ KeepsBut [entryAddrOf p c, 0xC0068, 0x50] s.dev d) ∧
    (∀ k, s.dev.pageCause p c v = some k →
      ∃ d, exec (.pageEntryWrite m p c v) s = .next (after s (d.complete m { status := .range })) ∧
        d.rd 0xC007C = wd (satAdd 32 (s.dev.rd 0xC007C).toNat 1) ∧ d.get 0xC0080 0 4 = k % 16 ∧
        d.get 0xC0080 4 18 = (if c < 262144 then c else c - 262144) ∧ d.get 0xC0080 25 1 = p ∧ d.bit 0xC0014 2 = true ∧
        d.hall = s.dev.hall ∧ KeepsBut [0xC007C, 0xC0080, 0xC0014, 0x8C, 0x54, 0xB0, 0xB4] s.dev d)

/-- GO and CANCEL of the Hall.
Where the rules leave a point open it follows the model's own choice, log entry 31. -/
def Obligations.HallGoOpensAndCancelAbandons : Prop :=
  ∀ (s : State) (m : Nat), Ready s m → s.dev.standby = false →
    (∀ k, s.dev.hall.sw = none → s.dev.todRange = false → s.dev.cores.mc0Away = false → s.dev.opPick = some k → k < 16 →
      ∃ d, exec (.hallSwitchGo m) s = .next (accepted s m d) ∧
        d.hall.sw = some { cfg := s.dev.rd 0xC0020, sec := (s.dev.rd 0xC0034).toNat + 2 ^ 32 * s.dev.get 0xC0038 0 16,
                           ns := s.dev.get 0xC0030 0 30, crc := s.dev.rd 0xC0028, op := k, page := 1 - s.dev.activePage,
                           missed := (List.range 16).filter s.dev.sliceHeld } ∧
        d.hall.passed = [] ∧ d.rd (oprecBase k) = s.dev.rd 0x104 ∧ d.get (oprecBase k + 4) 0 8 = 1 ∧
        d.get (oprecBase k + 4) 12 2 = 1 ∧ (∀ sl, sl < 16 → d.rd (sliceBase sl + 0x700) = 0)) ∧
    (s.dev.hall.sw.isSome = true →
      ∃ d, exec (.hallSwitchGo m) s = .next (after s (d.complete m { status := .range })) ∧ d.hall = s.dev.hall ∧ d.rd 0xC0080 = 5 ∧
        d.rd 0xC0078 = wd (satAdd 32 (s.dev.rd 0xC0078).toNat 1) ∧ d.bit 0xC0014 3 = true ∧
        KeepsBut [0xC0078, 0xC0080, 0xC0014, 0x8C, 0x54, 0xB0, 0xB4] s.dev d) ∧
    (∀ w, s.dev.hall.sw = some w → w.committing = false → w.deferred = false →
      ∃ d o, exec (.hallSwitchCancel m) s = .next (accepted s m d) ∧ d.hall.sw = none ∧ d.hall.outcomes = s.dev.hall.outcomes ++ [o] ∧
        o.op = w.op ∧ o.abandoned = true ∧ d.rd 0xC0074 = wd (satAdd 32 (s.dev.rd 0xC0074).toNat 1) ∧ d.bit 0xC0014 1 = true ∧
        d.get 0xC0040 0 4 = 9 ∧ d.rd 0xC0048 = s.dev.rd (oprecBase w.op) ∧
        d.activePage = s.dev.activePage) ∧
    (s.dev.hall.sw = none → exec (.hallSwitchCancel m) s = .next (accepted s m s.dev))

/-- From the prepare pass to the record of a page switch.
Where the rules leave a point open it follows the model's own choice, log entry 31. -/
def Obligations.HallPreparesSamplesAndCommits : Prop :=
  ∀ (s : State), Live s →
    (∀ w, s.dev.hall.sw = some w → w.page < 2 → s.dev.bit 0xC0010 2 = false → (∀ sl, sl < 16 → s.dev.sliceHeld sl = false) →
      (s.dev.pageCrc w.page = w.crc → s.dev.hall.passed = [] → w.missed = [] →
        ∃ d, exec (.preparePassEnd []) s = .next (after s d) ∧ d.hall.passed = List.range 16 ∧ d.hall.sw = some w ∧
          d.bit 0xC0010 2 = true ∧ d.rd (0xC0060 + 4 * w.page) = w.crc ∧ d.bit 0xC0068 w.page = true ∧
          d.readyMask = 0xFFFF) ∧
      (s.dev.pageCrc w.page ≠ w.crc →
        ∃ d o, exec (.preparePassEnd []) s = .next (after s d) ∧ d.hall.sw = none ∧ d.hall.outcomes = s.dev.hall.outcomes ++ [o] ∧
          o.op = w.op ∧ o.abandoned = true ∧ bitAt o.detail 16 = true ∧ d.bit 0xC0010 3 = true ∧
          d.rd 0xC0074 = wd (satAdd 32 (s.dev.rd 0xC0074).toNat 1)) ∧
      (∀ c1 c2, c1 / 72 < c2 / 72 → c2 < 274432 → s.dev.fc.later = [] → w.missed = [] →
        ∃ d, exec (.preparePassEnd [c1, c2]) s = .next (after s d) ∧ d.hall.sw = none ∧ d.bit 0xC0010 3 = true ∧ Raised d 14 ∧
          d.fc.later = [[{ src := 14, addr := entryAddrOf w.page c2 }]])) ∧
    (∀ w sl, s.dev.hall.sw = some w → w.committing = false → w.deferred = false → sl < 16 → s.dev.sliceHeld sl = false →
      s.dev.hall.passed.contains sl = false → w.missed.contains sl = true → s.dev.pageCrc w.page = w.crc →
      ∃ d, exec (.slicePreparePassEnd sl []) s = .next (after s d) ∧ d.hall.passed = s.dev.hall.passed ++ [sl] ∧ d.hall.sw = some w) ∧
    (∀ w, s.dev.hall.sw = some w → w.committing = false → w.deferred = false → s.dev.boundaryAllowed w = true →
      (s.dev.readyMask = 0xFFFF →
        ∃ d, exec .hallReadySample s = .next (after s d) ∧
          d.hall.sw = some { w with committing := true, ready := 0xFFFF } ∧ d.regs = s.dev.regs) ∧
      (s.dev.readyMask ≠ 0xFFFF → fld w.cfg 0 2 ≠ 2 → w.waited + 1 < fld w.cfg 8 5 →
        ∃ d, exec .hallReadySample s = .next (after s d) ∧
          d.hall.sw = some { w with ready := s.dev.readyMask } ∧ d.regs = s.dev.regs) ∧
      (s.dev.readyMask ≠ 0xFFFF → fld w.cfg 0 2 = 2 ∨ fld w.cfg 8 5 ≤ w.waited + 1 →
        ∃ d, exec .hallReadySample s = .next (after s d) ∧ d.hall.sw = none ∧
          d.rd 0xC0074 = wd (satAdd 32 (s.dev.rd 0xC0074).toNat 1) ∧ d.activePage = s.dev.activePage)) ∧
    (∀ store page : List Nat, s.dev.pw.follow = false →
      (s.dev.hall.sw = none →
        ∃ d, exec (.systemFrameBoundary store page) s = .next (followed s d) ∧ d.rd 0xC001C = s.dev.rd 0xC001C + 1 ∧
          d.activePage = s.dev.activePage ∧ d.hall.rd = s.dev.hall.wr ∧
          (store ≠ [] → Raised d 10) ∧ (page ≠ [] → Raised d 14)) ∧
      (∀ w, s.dev.hall.sw = some w → w.committing = false → w.deferred = false → kindCounts w.cfg (s.dev.rd 0xC001C + 1) = true →
        fld w.cfg 0 2 ≠ 2 → fld w.cfg 8 5 ≤ w.waited + 1 →
        ∃ d, exec (.systemFrameBoundary store page) s = .next (followed s d) ∧ d.rd 0xC001C = s.dev.rd 0xC001C + 1 ∧ d.hall.sw = none ∧
          d.rd 0xC0074 = wd (satAdd 32 (s.dev.rd 0xC0074).toNat 1) ∧ d.activePage = s.dev.activePage) ∧
      (∀ w, s.dev.hall.sw = some w → w.committing = true → w.page < 2 →
        ∃ d, exec (.systemFrameBoundary store page) s = .next (followed s d) ∧ d.rd 0xC001C = s.dev.rd 0xC001C + 1 ∧ d.activePage = w.page ∧
          d.get 0xC0040 0 4 = 0 ∧
          ((s.dev.rd 0xC001C + 1).toNat % 4 = 0 → d.hall.sw = none ∧ d.bit 0xC0014 0 = true ∧
            d.rd 0xC0070 = wd (satAdd 32 (s.dev.rd 0xC0070).toNat 1)) ∧
          ((s.dev.rd 0xC001C + 1).toNat % 4 ≠ 0 → ∃ w', d.hall.sw = some w' ∧ w'.deferred = true))) ∧
    (∀ o t, s.dev.hall.outcomes = o :: t → s.dev.cores.mc0Away = false →
      ∃ d, exec .hallOprecWrite s = .next (after s d) ∧ d.hall.outcomes = t ∧ d.get (oprecBase o.op + 4) 12 2 = 2 ∧
        d.get (oprecBase o.op + 4) 8 4 = (if o.abandoned then 9 else 0) ∧ d.rd (oprecBase o.op + 0x14) = o.detail ∧ d.bit 0x54 5 = true)
/-- The seven external commands on a selector.
Where the rules leave a point open it follows the model's own choice, log entry 34. -/
def Obligations.SelectorCommandsArePriorityJudged : Prop :=
  ∀ (s : State) (m i : Nat), Ready s m → i < 137216 → s.dev.standby = false → s.dev.cores.mc0Away = false →
    ((s.dev.sel i).st = 1 →
      (∀ e ∈ [(Instr.lockout m false i, 1, false), (.forcedP m false i, 2, true), (.forcedW m false i, 3, false),
          (.manualP m false i, 4, true), (.manualW m false i, 5, false)],
        ((s.dev.sel i).c.accepts (s.dev.selCfg i).rev {} e.2.1 = true →
          ∃ d, exec e.1 s = .next (acceptedSettled s m d) ∧ (d.sel i).c.standing = e.2.1 ∧ (d.sel i).c.choice = e.2.2 ∧
            (d.sel i).c.lastRes = 0 ∧ d.bit (selBase i + 0x18) 1 = true ∧ (d.sel i).st = 1 ∧ ∀ k, k ≠ i → d.sel k = s.dev.sel k) ∧
        ((s.dev.sel i).c.accepts (s.dev.selCfg i).rev {} e.2.1 = false →
          ∃ d, exec e.1 s = .next (acceptedSettled s m d) ∧ d.sel i = { s.dev.sel i with c := { (s.dev.sel i).c with lastRes := 1 } } ∧
            d.bit (selBase i + 0x18) 2 = true ∧ ∀ k, k ≠ i → d.sel k = s.dev.sel k)) ∧
      (∃ d, exec (.landClear m false i) s = .next (acceptedSettled s m d) ∧ (d.sel i).c.standing = 0 ∧ (d.sel i).c.lastRes = 0 ∧
        d.bit (selBase i + 0x18) 1 = true ∧ ((s.dev.sel i).c.req = 6 → (d.sel i).c.wtr = none)) ∧
      (∃ d, exec (.exercise m false i) s = .next (acceptedSettled s m d) ∧
        d.sel i = { s.dev.sel i with c := { (s.dev.sel i).c with lastRes := 3 } } ∧ d.bit (selBase i + 0x18) 2 = true)) ∧
    ((s.dev.sel i).st ≠ 1 →
      ∀ c ∈ [Instr.landClear m false i, .lockout m false i, .forcedP m false i, .forcedW m false i, .manualP m false i, .manualW m false i,
          .exercise m false i],
        ∃ d, exec c s = .next (acceptedSettled s m d) ∧ d.sel i = { s.dev.sel i with c := { (s.dev.sel i).c with lastRes := 2 } } ∧
          d.bit (selBase i + 0x18) 2 = true)

/-- The MSP pairs.
Where the rules leave a point open it follows the model's own choice, log entry 34. -/
def Obligations.PairsAreConfiguredCommandedAndWatched : Prop :=
  ∀ (s : State) (i : Nat), Live s → i < 32 →
    (∀ m v r, Ready s m → rowOf (mspBase i) = some r → s.dev.refusal (mspBase i) ⟨.landing, 0, 0x1000 + 0x20 * i⟩ r (setFld v 0 1 1) = none →
      s.dev.pair i = none →
      (s.dev.mspCause i (fld v 1 6) (fld v 7 6) = none →
        ∃ d, exec (.mspEnable m i v) s = .next (acceptedSettled s m d) ∧ d.rd (mspBase i) = setFld v 0 1 1 ∧
          d.pair i = some ⟨i, fld v 1 6, fld v 7 6, true, false⟩ ∧ (d.msp i).c = { lastRes := (s.dev.msp i).c.lastRes }) ∧
      (∀ c, s.dev.mspCause i (fld v 1 6) (fld v 7 6) = some c →
        ∃ d : Device, exec (.mspEnable m i v) s = .next (after s (d.complete m { status := .range })) ∧ d.pairs = s.dev.pairs ∧
          d.rd 0xB0048 = wd (i + 2 ^ 18 * 3 + 2 ^ 20 * c) ∧ d.rd (mspBase i) = s.dev.rd (mspBase i))) ∧
    (∀ m v r, Ready s m → rowOf (mspBase i) = some r → s.dev.refusal (mspBase i) ⟨.landing, 0, 0x1000 + 0x20 * i⟩ r (setFld v 0 1 0) = none →
      s.dev.mspEna i = true →
      ∃ d, exec (.mspDisable m i v) s = .next (acceptedSettled s m d) ∧ d.rd (mspBase i) = setFld v 0 1 0 ∧ d.mspEna i = false ∧
        (d.msp i).c.choice = (s.dev.msp i).c.applied ∧ (d.msp i).c.standing = 0 ∧ d.rd (mspBase i + 0x10) = 0) ∧
    (∀ m p, Ready s m → s.dev.standby = false → s.dev.cores.mc0Away = false → s.dev.pair i = some p → p.ena = true →
      (s.dev.mspBidir i = false →
        (∀ e ∈ [(Instr.lockout m true i, 1, false), (.forcedP m true i, 2, true), (.forcedW m true i, 3, false),
            (.manualP m true i, 4, true), (.manualW m true i, 5, false)],
          ((s.dev.msp i).c.accepts (s.dev.mspCfg i).rev {} e.2.1 = true →
            ∃ d, exec e.1 s = .next (acceptedSettled s m d) ∧ (d.msp i).c.standing = e.2.1 ∧ (d.msp i).c.choice = e.2.2 ∧
              (d.msp i).c.lastRes = 0 ∧ d.bit (mspBase i + 0x1C) 2 = true ∧
              d.rd (mspBase i + 0x10) = wd (256 * (16 * (d.msp i).c.req + (d.msp i).c.ch) + (16 * (d.msp i).c.ch + 4)))) ∧
        (∃ d, exec (.exercise m true i) s = .next (acceptedSettled s m d) ∧ (d.msp i).c = { (s.dev.msp i).c with lastRes := 3 } ∧
          d.bit (mspBase i + 0x1C) 3 = true) ∧
        (∃ d, exec (.landClear m true i) s = .next (acceptedSettled s m d) ∧ (d.msp i).c.standing = 0 ∧ (d.msp i).c.lastRes = 0)) ∧
      (s.dev.mspBidir i = true → (s.dev.msp i).c.accepts (s.dev.mspCfg i).rev (s.dev.mspFar p) 6 = true →
        ∃ d, exec (.exercise m true i) s = .next (acceptedSettled s m d) ∧ (d.msp i).c.exer = true ∧ (d.msp i).c.lastRes = 0 ∧
          (d.msp i).exerRes = 0 ∧ d.bit (mspBase i + 0x1C) 2 = true)) ∧
    ((s.dev.msp i).c.exer = true →
      ∃ d, exec (.exerTimeout i) s = .next (followed s d) ∧ (d.msp i).c.exer = false ∧ (d.msp i).exerRes = 2 ∧
        d.bit (mspBase i + 0x1C) 5 = true) ∧
    (∀ cause, (s.dev.fopCauses i).contains cause = true → (s.dev.msp i).fop = false →
      ∃ d, exec (.fopDeclare i cause) s = .next (followed s d) ∧ (d.msp i).fop = true ∧ (d.msp i).cause = cause ∧
        d.bit (mspBase i + 0x1C) 1 = true) ∧
    ((s.dev.fopCauses i).isEmpty = true → (s.dev.msp i).fop = true →
      ∃ d, exec (.fopClear i) s = .next (followed s d) ∧ (d.msp i).fop = false ∧ (d.msp i).cause = 0 ∧ d.bit (mspBase i + 0x1C) 1 = true)

/-- Configuration of selectors and their members, and the group command.
Where the rules leave a point open it follows the model's own choice, log entries 34 and 35. -/
def Obligations.SelectorsMembersAndGroups : Prop :=
  ∀ (s : State), Live s →
    (∀ m i v r, Ready s m → i < 137216 → rowOf (selBase i) = some r →
      (s.dev.refusal (selBase i) ⟨.sel, i, 0⟩ r (setFld v 0 1 1) = none → (bitAt v 3 && !bitAt v 1) = false →
        ((s.dev.sel i).st = 0 →
          ∃ d, exec (.selEnable m i v) s = .next (acceptedSettled s m d) ∧ d.rd (selBase i) = setFld v 0 1 1 ∧ (d.sel i).st = 1 ∧
            (d.sel i).c = { lastRes := (s.dev.sel i).c.lastRes } ∧ (d.sel i).used = (s.dev.sel i).used) ∧
        ((s.dev.sel i).st = 2 →
          ∃ d, exec (.selEnable m i v) s = .next (acceptedSettled s m d) ∧ (d.sel i).st = 1 ∧
            (d.sel i).c.choice = (s.dev.sel i).c.choice ∧ (d.sel i).c.standing = 0 ∧ (d.sel i).c.reeval = false ∧
            (d.sel i).c.req = (if (s.dev.sel i).c.choice = true ∧ bitAt v 2 = false then 1 else 0))) ∧
      (s.dev.refusal (selBase i) ⟨.sel, i, 0⟩ r (setFld v 0 1 0) = none → (bitAt v 3 && !bitAt v 1) = false → (s.dev.sel i).st = 1 →
        ∃ d, exec (.selDisable m i v) s = .next (acceptedSettled s m d) ∧ d.rd (selBase i) = setFld v 0 1 0 ∧ (d.sel i).st = 2 ∧
          (d.sel i).c.choice = (s.dev.sel i).c.choice ∧ (d.sel i).c.hold = none ∧ (d.sel i).c.wtr = none ∧ (d.sel i).c.standing = 0) ∧
      (s.dev.refusal (selBase i) ⟨.sel, i, 0⟩ r (setFld v 0 1 (s.dev.get (selBase i) 0 1)) = none → (s.dev.sel i).st = 1 →
        s.dev.get (selBase i) 0 1 = 1 → fld (s.dev.rd (selBase i)) 1 20 ≠ fld v 1 20 →
        ((bitAt v 3 && !bitAt v 1) = false →
          ∃ d, exec (.selCfgChange m i v) s = .next (acceptedSettled s m d) ∧ d.rd (selBase i) = setFld v 0 1 1 ∧
            d.sel i = { s.dev.sel i with c := { (s.dev.sel i).c with reeval := true } }) ∧
        ((bitAt v 3 && !bitAt v 1) = true →
          ∃ d : Device, exec (.selCfgChange m i v) s = .next (after s (d.complete m { status := .range })) ∧ d.land = s.dev.land ∧
            d.rd 0xB0048 = wd (i + 2 ^ 18 * 2 + 2 ^ 20 * 5)))) ∧
    (∀ m c v r, Ready s m → c < 274432 → rowOf (protAddr c) = some r → (262144 ≤ c → (s.dev.ho (c - 262144)).claim = none) →
      (∀ l, locOf (protAddr c) = some l → s.dev.refusal (protAddr c) l r v = none) →
      (protEna c v = false ∨ (s.dev.sel (protSel c v)).named.side (protRole c v) = none →
        ∃ d, exec (.protWordWrite m c v) s = .next (acceptedFollowed s m d) ∧ d.rd (protAddr c) = v ∧
          (protEna c v = true → (d.sel (protSel c v)).named.side (protRole c v) = some c) ∧ KeepsBut [protAddr c, 0x50] s.dev d) ∧
      (∀ o, protEna c v = true → protSame c (s.dev.rd (protAddr c)) v = false →
        (s.dev.sel (protSel c v)).named.side (protRole c v) = some o → o ≠ c →
        ∃ d : Device, exec (.protWordWrite m c v) s = .next (after s (d.complete m { status := .range })) ∧ d.land = s.dev.land ∧
          d.rd (protAddr c) = s.dev.rd (protAddr c) ∧ d.get 0xB0048 20 3 = 1)) ∧
    (∀ m v k, Ready s m → s.dev.standby = false → s.dev.cores.mc0Away = false → s.dev.land.group = none → 1 ≤ fld v 4 11 →
      fld v 4 11 ≤ 1024 → fld v 1 3 ≠ 7 → v &&& 0xFFFF8000 = 0 → s.dev.opPick = some k → k < 16 →
      ∃ d, exec (.landingGroupGo m v) s = .next (acceptedSettled s m d) ∧ d.land.group = some (k, fld v 1 3, fld v 4 11) ∧
        d.rd 0xB010C = s.dev.rd 0x104 ∧ d.get (oprecBase k + 4) 0 8 = 2 ∧ d.rd (oprecBase k + 8) = wd (fld v 4 11)) ∧
    (∀ k cmd n, s.dev.land.group = some (k, cmd, n) → k < 16 →
      ∃ d, exec .landingGroupDone s = .next (followed s d) ∧ d.land.group = none ∧ d.bit 0xB0014 2 = true ∧
        d.get (oprecBase k + 4) 12 2 = 2) ∧
    (∀ k cmd, s.dev.land.group = some (k, cmd, 1) → k < 16 →
      ∃ d, exec .landingGroupDone s = .next (followed s d) ∧ d.land.group = none ∧ d.bit 0xB0014 2 = true ∧
        d.get (oprecBase k + 4) 12 2 = 2 ∧
        (groupEntry (s.dev.rd 0xB2000) = none → d.get 0xB3100 0 4 = 4 ∧ d.get 0xB3000 0 1 = 0 ∧ d.get (oprecBase k + 4) 8 4 = 9))

/-- What time does to selectors, pairs and SF/SD windows.
Where the rules leave a point open it follows the model's own choice, log entries 7, 33 and 34. -/
def Obligations.ScansTimersAndChoices : Prop :=
  ∀ (s : State), Live s →
    (∀ i, s.dev.standby = false → (∀ k, (s.dev.sel k).c.wtr = none) → (s.dev.sel i).st = 1 → (s.dev.sel i).moved = false →
      (s.dev.sel i).c.reeval = false →
      (s.dev.sel i).c.hold = none →
      (s.dev.sel i).c.lo = false → (s.dev.sel i).c.fs = none → (s.dev.selSig i).sfW = true → (s.dev.selSig i).sfP = false →
      (s.dev.sel i).c.sfW = false →
      ((s.dev.selCfg i).hold = 0 →
        ∃ d, exec .landingScan s = .next (followed s d) ∧ (d.sel i).c.sfW = true ∧ (d.sel i).c.choice = true ∧ (d.sel i).c.req = 12 ∧
          (d.sel i).c.applied = (s.dev.sel i).c.applied) ∧
      (0 < (s.dev.selCfg i).hold →
        ∃ d, exec .landingScan s = .next (followed s d) ∧ (d.sel i).c.hold.isSome = true ∧ (d.sel i).c.sfW = false)) ∧
    (∀ i, (s.dev.sel i).moved = true →
      ∃ d, exec .landingScan s = .next (followed s d) ∧ (d.sel i).moved = false ∧ (d.sel i).used = (s.dev.sel i).taken ∧
        ((s.dev.sel i).st ≠ 1 → (d.sel i).c = (s.dev.sel i).c) ∧
        (s.dev.standby = false → (s.dev.sel i).st = 1 →
          (d.sel i).c.ms = none ∧ (d.sel i).c.hold = none ∧ (d.sel i).c.reeval = false)) ∧
    (∀ i, s.dev.standby = false → (∀ k, (s.dev.sel k).c.wtr = none) → (s.dev.sel i).st = 1 → (s.dev.sel i).moved = false →
      (s.dev.sel i).c.reeval = false →
      (s.dev.sel i).c.hold = some 1 →
      ∃ d, exec .landingScan s = .next (followed s d) ∧ (d.sel i).c.hold = none ∧ (d.sel i).c.sfW = (s.dev.selSig i).sfW ∧
        (d.sel i).c.sfP = (s.dev.selSig i).sfP) ∧
    (∀ i p, s.dev.standby = false → (∀ k, (s.dev.sel k).c.wtr = none) → s.dev.pairs = [p] → p.idx = i → p.ena = true →
      p.work < 64 → p.prot < 64 → (s.dev.msp i).c.reeval = false → (s.dev.msp i).c.hold = none → (s.dev.mspCfg i).hold = 0 → s.dev.mspBidir i = false →
      ∃ d, exec .landingScan s = .next (followed s d) ∧ (d.msp i).c.sfW = (s.dev.mspSig p).sfW ∧
        (d.msp i).c.sfP = (s.dev.mspSig p).sfP ∧ (d.msp i).c.applied = (s.dev.msp i).c.applied) ∧
    (∀ i, (s.dev.sel i).st = 1 → (s.dev.sel i).c.hold.isSome = true →
      ∃ d, exec (.holdoffExpiry false i) s = .next (followed s d) ∧ (d.sel i).c.hold = none ∧
        (d.sel i).c.sfW = (s.dev.selSig i).sfW ∧ (d.sel i).c.sfP = (s.dev.selSig i).sfP ∧ d.regs = s.dev.regs) ∧
    (∀ i p, s.dev.pair i = some p → p.ena = true → (s.dev.msp i).c.hold.isSome = true →
      ∃ d, exec (.holdoffExpiry true i) s = .next (followed s d) ∧ (d.msp i).c.hold = none ∧
        (d.msp i).c.sfW = (s.dev.mspSig p).sfW ∧ (d.msp i).c.sfP = (s.dev.mspSig p).sfP) ∧
    (∀ i, (s.dev.sel i).st = 1 → (s.dev.sel i).c.wtr.isSome = true →
      ∃ d, exec (.wtrExpiry false i) s = .next (followed s d) ∧ (d.sel i).c.wtr = none ∧ d.bit (selBase i + 0x18) 3 = true ∧
        ((s.dev.selCfg i).rev = true → (s.dev.sel i).c.lo = false → (s.dev.sel i).c.fs = none → (s.dev.sel i).c.ms = none →
          (s.dev.sel i).c.exer = false → (s.dev.sel i).c.sfW = false → (s.dev.sel i).c.sfP = false → (s.dev.sel i).c.sdW = false →
          (s.dev.sel i).c.sdP = false → (d.sel i).c.choice = false ∧ (d.sel i).c.req = 0)) ∧
    (∀ i p, s.dev.pair i = some p → p.ena = true → (s.dev.msp i).c.wtr.isSome = true →
      ∃ d, exec (.wtrExpiry true i) s = .next (followed s d) ∧ (d.msp i).c.wtr = none ∧ d.bit (mspBase i + 0x1C) 4 = true) ∧
    (∀ i, i < 137216 → (s.dev.sel i).st ≠ 0 → (s.dev.sel i).c.choice ≠ (s.dev.sel i).c.applied →
      ∃ d, exec (.selectorChoiceApply false i) s = .next (followed s d) ∧ (d.sel i).c.applied = (s.dev.sel i).c.choice ∧
        d.rd (selBase i + 0x14) = wd (satAdd 32 (s.dev.rd (selBase i + 0x14)).toNat 1) ∧
        d.rd 0xB0050 = wd (satAdd 32 (s.dev.rd 0xB0050).toNat 1) ∧ d.bit (selBase i + 0x18) 0 = true ∧
        d.rd (selBase i + 0x1C) = wd ((s.dev.sel i).c.req + 16 * ((s.dev.sel i).c.ch % 2) + 32 * b2n (s.dev.sel i).c.choice
          + 64 * b2n (s.dev.selHitless i) + 256 * s.dev.get 0xC001C 0 24)) ∧
    (∀ i p, i < 32 → s.dev.pair i = some p → p.ena = true → (s.dev.msp i).c.choice ≠ (s.dev.msp i).c.applied →
      ∃ d, exec (.selectorChoiceApply true i) s = .next (followed s d) ∧ (d.msp i).c.applied = (s.dev.msp i).c.choice ∧
        d.pair i = some { p with sel := (s.dev.msp i).c.choice } ∧
        d.rd (mspBase i + 0x18) = wd (satAdd 32 (s.dev.rd (mspBase i + 0x18)).toNat 1) ∧
        d.rd 0xB0050 = wd (satAdd 32 (s.dev.rd 0xB0050).toNat 1) ∧ d.bit (mspBase i + 0x1C) 0 = true) ∧
    (∀ (l : SfLayer) (sd : Bool),
      ∃ d, exec (.sfsdWindowEnd l sd) s = .next (followed s d) ∧ (d.sfGet l sd).errs = 0 ∧
        ((d.sfGet l sd).decl = true ↔ s.dev.sfOpen l = true ∧ s.dev.sfEna (s.dev.sfProfile l) sd = true ∧
          s.dev.sfThreshold l sd (!(s.dev.sfGet l sd).decl) ≤ (s.dev.sfGet l sd).errs) ∧
        d.sfGet l (!sd) = s.dev.sfGet l (!sd) ∧ d.regs = s.dev.regs)
/-- Training and hitless pairs.
Where the rules leave a point open it follows the model's own choice, log entry 36. -/
def Obligations.CellarTrainsAndAlignsPairs : Prop :=
  ∀ (s : State), Live s →
    (∀ failed, s.dev.bit 0x90010 1 = true →
      ∃ d, exec (.cellarTrainingDone failed) s = .next (followed s d) ∧ (d.bit 0x90010 0 = true ↔ ∀ c, c < 12 → c ∉ failed) ∧
        d.bit 0x90010 1 = false ∧ (∀ c, c < 12 → d.bit (celChan c) 0 = !failed.contains c)) ∧
    (∀ m, Ready s m →
      (s.dev.bit 0x90010 0 = false →
        ∃ d, exec (.cellarRetrain m) s = .next (accepted s m d) ∧ d.rd 0x90010 = 2 ∧ (∀ c, c < 12 → d.rd (celChan c) = 0) ∧
          Only (0x90010 :: (List.range 12).map celChan) s.dev d) ∧
      (s.dev.bit 0x90010 0 = true →
        ∃ t, exec (.cellarRetrain m) s = .next t ∧ tabGet {} t.dev.bus.done m = { status := .range } ∧ t.dev.cel = s.dev.cel ∧
          KeepsBut [0x8C, 0x54, 0xB0, 0xB4] s.dev t.dev)) ∧
    (∀ c, s.dev.bit 0x90010 0 = true → c < 12 →
      (∃ d, exec (.cellarRecal c false) s = .next (followed s d) ∧ d.rd (celChan c + 0xC) = wd (satAdd 32 (s.dev.rd (celChan c + 0xC)).toNat 1) ∧
        d.bit 0x90014 6 = true ∧ Raised d 21 ∧ KeepsBut [celChan c + 0xC, 0x90014] s.dev d) ∧
      exec (.cellarRecal c true) s = .next (followed s s.dev)) ∧
    (∀ m w0 w1 w2 w3, m < 7 → s.dev.staged m = some ⟨0x90090, [w0, w1, w2]⟩ →
      let resv := decide (fld w0 18 14 ≠ 0) || decide (fld w1 12 20 ≠ 0) || decide (w2 ≠ 0) || decide (w3 ≠ 0)
      (s.dev.pairCause (fld w0 0 18) (fld w1 0 8) (fld w1 8 4) resv = none → s.dev.hpair (fld w0 0 18) = none → 0 < fld w1 0 8 →
        ∃ d, exec (.pairSet m w3) s = .next (accepted s m d) ∧ d.staged m = none ∧
          d.hpair (fld w0 0 18) = some { maxDelay := fld w1 0 8, ctype := fld w1 8 4 } ∧
          (∀ k, k ≠ fld w0 0 18 → d.hpair k = s.dev.hpair k) ∧ d.regs = s.dev.regs) ∧
      (∀ c, s.dev.pairCause (fld w0 0 18) (fld w1 0 8) (fld w1 8 4) resv = some c →
        ∃ t, exec (.pairSet m w3) s = .next t ∧ tabGet {} t.dev.bus.done m = { status := if c = 6 then .busy else .range } ∧
          t.dev.cel = s.dev.cel ∧ t.dev.rd 0x90054 = wd (fld w0 0 18 + 2 ^ 20 * c) ∧ t.dev.bit 0x90014 0 = true)) ∧
    (∀ i p mt, s.dev.hpair i = some p → p.next = some mt →
      ∃ d, exec (.pairReservationApply i) s = .next (followed s d) ∧
        (mt.1 = 0 → d.hpair i = none) ∧
        (mt.1 ≠ 0 → ∃ q, d.hpair i = some q ∧ q.st = 1 ∧ q.maxDelay = mt.1 ∧ q.ctype = mt.2 ∧ q.next = none ∧ q.al = none)) ∧
    (∀ m v, Ready s m → v.toNat < 2 ^ 18 →
      ∃ d, exec (.pairSel m v) s = .next (accepted s m d) ∧ d.cel.sel = v.toNat ∧ fld (d.pairView.getD 0 0) 0 18 = v.toNat ∧
        d = { s.dev with cel := { s.dev.cel with sel := d.cel.sel } }) ∧
    (∀ ecc, s.dev.buildsStart.searchPick = none → exec (.alignSearchSlot ecc) s = .next (followed s s.dev.buildsStart)) ∧
    (∀ i p a, s.dev.hpair i = some p → p.waiting = some a → (∀ j q, j ≠ i → s.dev.hpair j = some q → q.waiting = none) →
      s.dev.buildsStart = (if s.dev.canBuild p then s.dev.setHpair i (some { p with build := some (p.alignFrom a), waiting := none }) else s.dev)) ∧
    (∀ i p, s.dev.buildsStart.searchPick = some (i, p) →
      (∀ c, c < 12 → ∃ d q, exec (.alignSearchSlot (some c)) s = .next (followed s d) ∧
        d.rd (celChan c + 8) = wd (satAdd 32 (s.dev.rd (celChan c + 8)).toNat 1) ∧ d.bit 0x90014 7 = true ∧ Raised d 20 ∧ d.rd 0x90060 = wd (satAdd 32 (s.dev.rd 0x90060).toNat 1) ∧
        d.rd 0x90068 = wd (satAdd 32 (s.dev.rd 0x90068).toNat 1) ∧ d.hpair i = some q ∧ q.retry = true ∧ q.outcome = 2 ∧
        q.st = (if p.st = 6 then 6 else 1) ∧ d.cel.served = i) ∧
      (∀ l o, p.st ≠ 6 → searchFind (pairD p.maxDelay p.ctype) p.w p.p false = .found l o →
        ∃ d q, exec (.alignSearchSlot none) s = .next (followed s d) ∧ d.hpair i = some q ∧ q.st = 3 ∧ q.outcome = 1 ∧
          (∃ v, q.al = some (p.align l o v)) ∧ d.rd 0x90060 = wd (satAdd 32 (s.dev.rd 0x90060).toNat 1))) ∧
    (∀ i p, s.dev.hpair i = some p →
      ∃ d q, exec (.pairRetryDue i) s = .next (followed s d) ∧ d.hpair i = some q ∧ q.retry = false ∧ q.maxDelay = p.maxDelay ∧
        d.regs = s.dev.regs) ∧
    (∀ i p b late, s.dev.hpair i = some p → p.build = some b → b.locked = true → p.st = 6 →
      ∃ d q, exec (.rehomeChangeover i late) s = .next (followed s d) ∧ d.hpair i = some q ∧ q.st = 4 ∧ q.al = some b ∧ q.build = none ∧
        d.rd 0x9006C = wd (satAdd 32 (s.dev.rd 0x9006C).toNat 1) ∧ d.rd 0x90070 = wd (satAdd 32 (s.dev.rd 0x90070).toNat late))

/-- The capture rings.
Where the rules leave a point open it follows the model's own choice, log entries 37 and 39. -/
def Obligations.CaptureRingsRecordFreezeAndExport : Prop :=
  ∀ (s : State) (r : Nat), Live s → r < 256 →
    (∀ m v row, Ready s m → rowOf (ringBase r) = some row →
      s.dev.refusal (ringBase r) ⟨.cellar, 0, 0x1000 + 0x10 * r⟩ row (setFld v 0 1 1) = none →
      (s.dev.ringCause r (setFld v 0 1 1) = none → s.dev.ringSt r = 0 →
        ∃ d, exec (.ringEnable m r v) s = .next (accepted s m d) ∧ d.rd (ringBase r) = setFld v 0 1 1 ∧ d.ringSt r = 1 ∧ d.ring r = {} ∧
          KeepsBut [ringBase r, ringBase r + 8, 0x50] s.dev d) ∧
      (∀ c, s.dev.ringCause r (setFld v 0 1 1) = some c →
        ∃ t, exec (.ringEnable m r v) s = .next t ∧ tabGet {} t.dev.bus.done m = { status := .range } ∧ t.dev.cel = s.dev.cel ∧
          t.dev.rd 0x90054 = wd (r + 2 ^ 18 + 2 ^ 20 * c))) ∧
    (∀ m v row, Ready s m → rowOf (ringBase r) = some row →
      s.dev.refusal (ringBase r) ⟨.cellar, 0, 0x1000 + 0x10 * r⟩ row (setFld v 0 1 0) = none → s.dev.ringCause r (setFld v 0 1 0) = none →
      (s.dev.ringSt r ≠ 4 →
        ∃ d, exec (.ringDisable m r v) s = .next (accepted s m d) ∧ d.rd (ringBase r) = setFld v 0 1 0 ∧ d.ringSt r = 0 ∧ d.ring r = {}) ∧
      (s.dev.ringSt r = 4 →
        ∃ d, exec (.ringDisable m r v) s = .next (accepted s m d) ∧ d.rd (ringBase r) = setFld v 0 1 0 ∧ d.ringSt r = 4 ∧
          d.ring r = { s.dev.ring r with offAtEnd := true })) ∧
    (s.dev.bit (ringBase r) 11 = false →
      (s.dev.ringSt r = 2 →
        ∃ d, exec (.ringPostExpiry r) s = .next (followed s d) ∧ d.ringSt r = 3 ∧ d.bit 0x90014 4 = true ∧
          (d.ring r).sec = s.dev.tod.sec ∧ (d.ring r).recs = (s.dev.ring r).recs) ∧
      (∀ m, Ready s m → s.dev.ringSt r = 1 ∨ s.dev.ringSt r = 2 →
        ∃ d, exec (.ringFreeze m r) s = .next (accepted s m d) ∧ d.ringSt r = 3 ∧ (d.ring r).sec = s.dev.tod.sec ∧
          (d.ring r).epoch = s.dev.tod.epoch ∧ (d.ring r).recs = (s.dev.ring r).recs)) ∧
    (∀ m, Ready s m → s.dev.ringSt r = 3 →
      (s.dev.cores.mc1Away = true →
        ∃ t, exec (.ringExport m r) s = .next t ∧ tabGet {} t.dev.bus.done m = { status := .busy } ∧ t.dev.ringSt r = 3) ∧
      (∀ k, s.dev.cores.mc1Away = false → s.dev.opPick = some k → k < 16 →
        (s.dev.atticState = 2 → 4 * objLen (64 + (s.dev.ring r).recs.flatten.length) ≤ (s.dev.ringEnd - 16) * 4096 →
          ∃ d, exec (.ringExport m r) s = .next (accepted s m d) ∧ d.ringSt r = 4 ∧ (d.ring r).op = some k) ∧
        (s.dev.atticState ≠ 2 → s.dev.attic.reserved = [] →
          ∃ d, exec (.ringExport m r) s = .next (accepted s m d) ∧ d.ringSt r = 3 ∧ (d.ring r).op = none ∧ d.get (ringBase r + 8) 8 4 = 9 ∧
            d.bit 0x90014 5 = true)) ∧
      (∃ d, exec (.ringRearm m r) s = .next (accepted s m d) ∧ d.ringSt r = 1 ∧ d.get (ringBase r + 8) 3 2 = 0 ∧ d.ring r = {})) ∧
    (∀ k steps, s.dev.ringSt r = 4 → (s.dev.ring r).op = some k → (s.dev.ring r).offAtEnd = false → k < 16 →
      (s.dev.atticState = 2 →
        ∃ d, exec (.captureExportEnd r true steps []) s = .next (followed s d) ∧ d.bit 0x90014 5 = true ∧
          d.get (oprecBase k + 4) 12 2 = 2 ∧ d.get (oprecBase k + 4) 8 4 = 0 ∧ d.get (ringBase r + 8) 8 4 = 0 ∧
          (s.dev.bit (ringBase r) 12 = false → d.ringSt r = 3 ∧ (d.ring r).op = none) ∧
          (s.dev.bit (ringBase r) 12 = true → d.ringSt r = 1 ∧ d.ring r = {})) ∧
      (∃ d, exec (.captureExportEnd r false steps []) s = .next (followed s d) ∧ d.ringSt r = 3 ∧ (d.ring r).op = none ∧
        d.get (oprecBase k + 4) 8 4 = 9 ∧ d.rd (oprecBase k + 0x10) = wd steps ∧ d.get (ringBase r + 8) 8 4 = 9 ∧
        (∀ e ∈ d.attic.reserved, e.1 ≠ r)))
/-- The PM seconds and the bins.
Where the rules leave a point open it follows the model's own choice, log entry 38. -/
def Obligations.SecondsCommitAndEnterTheBins : Prop :=
  ∀ (s : State), Live s →
    (∀ ecc, s.dev.pm.cur = none →
      ∃ d c, exec (.pmSecondBoundary ecc) s = .next (after s d) ∧ d.pm.cur = some c ∧ c.sec = s.dev.tod.sec ∧ c.epoch = s.dev.tod.epoch ∧
        c.step = false ∧ d.pm.queue = s.dev.pm.queue ∧ d.rd 0xD0040 = s.dev.rd 0xD0040) ∧
    (∀ ecc c, s.dev.pm.cur = some c → s.dev.pm.queue.length < 10 →
      ∃ d q e, exec (.pmSecondBoundary ecc) s = .next (after s d) ∧ d.pm.queue.length = s.dev.pm.queue.length + 1 ∧
        d.pm.queue.getLast? = some q ∧ q.sec = c.sec ∧ q.epoch = c.epoch ∧ q.lost = !s.dev.celReady ∧ d.pm.cur = some e ∧
        e.sec = s.dev.tod.sec ∧ e.epoch = s.dev.tod.epoch ∧ d.pm.waiting = s.dev.pm.waiting ∧ d.rd 0xD0040 = s.dev.rd 0xD0040) ∧
    (∀ c o rest, s.dev.pm.cur = some c → s.dev.pm.queue = o :: rest → rest.length = 9 → o.lost = false → o.ts.length = 4 →
      ∃ d t, exec (.pmSecondBoundary []) s = .next (after s d) ∧ d.pm.queue.length = 10 ∧ d.rd 0xD0040 = s.dev.rd 0xD0040 + 1 ∧
        d.rds 0xD0030 4 = o.ts ∧ d.bit 0xD0014 0 = true ∧ t.sec = o.sec ∧ t.epoch = o.epoch ∧ t.seq = (s.dev.rd 0xD0040 + 1).toNat ∧
        t.results.map (·.point) = o.results.map (·.point) ∧
        ((o.results.map (·.point)).Nodup → ∀ r ∈ t.results, r.point < 274688 → d.rds (pmBase r.point + 0x10) 4 = r.words) ∧
        (s.dev.pm.waiting.length < 2 → d.pm.waiting = s.dev.pm.waiting ++ [t]) ∧
        (∀ x y, s.dev.pm.waiting = [x, y] → d.pm.waiting = [{ y with missed := x.missed ++ (x.sec, x.results.map (·.point)) :: y.missed }, t] ∧ d.bit 0xD0014 6 = true ∧
          d.rd 0xD0044 = wd (satAdd 32 (s.dev.rd 0xD0044).toNat 1))) ∧
    (∀ ecc, s.dev.cores.mc1Away = true ∨ s.dev.pm.waiting = [] → exec (.binUpdate ecc) s = .next (after s s.dev)) ∧
    (∀ ecc x rest, s.dev.pm.waiting = x :: rest → s.dev.cores.mc1Away = false →
      ∃ d, exec (.binUpdate ecc) s = .next (after s d) ∧ d.pm.waiting = rest ∧ d.pm.toFrame = (if s.dev.atticTakes then s.dev.pm.toFrame ++ [x] else s.dev.pm.toFrame) ∧
        KeepsBut (0xD0014 :: 0xD008C :: 0x90014 :: (List.range 12).map (fun c => celChan c + 8)) s.dev d ∧
        (∀ p r, x.results.find? (fun r => r.point == p) = some r →
          let b := (s.dev.bins p).cur15
          let y := (s.dev.bins p).cur24
          (b.valid = true → x.sec < b.fin → b.secs + 1 < 1800 →
            (d.bins p).cur15.valid = true ∧ (d.bins p).cur15.secs = b.secs + 1 ∧ (d.bins p).cur15.start = b.start ∧
              (d.bins p).cur15.cnt = List.zipWith (fun a c => satAdd 32 a c) b.cnt (r.ne.adds ++ r.fe.adds ++ r.cli.adds) ∧
              (d.bins p).prev15 = (s.dev.bins p).prev15) ∧
          (b.valid = true → b.fin ≤ x.sec →
            (d.bins p).prev15.secs = b.secs ∧ (d.bins p).prev15.cnt = b.cnt ∧ (d.bins p).cur15.valid = true ∧
              (d.bins p).cur15.secs = 1 ∧ (d.bins p).cur15.start = x.sec / 900 * 900 ∧
              (d.bins p).cur15.fin = x.sec / 900 * 900 + 900 ∧ d.bit 0xD0014 4 = true) ∧
          (y.valid = true → x.sec < y.fin → y.secs + 1 < 90000 →
            (d.bins p).cur24.secs = y.secs + 1 ∧ (d.bins p).cur24.start = y.start ∧ (d.bins p).prev24 = (s.dev.bins p).prev24)))

/-- The PM views and the counter preset.
Where the rules leave a point open it follows the model's own choice, log entry 16. -/
def Obligations.PmViewsAndPresetsLoad : Prop :=
  ∀ (s : State) (m : Nat) (v : Word), Live s →
    (Ready s m →
      (v.toNat ≤ 274687 →
        (∀ b ∈ [(s.dev.bins v.toNat).cur15, (s.dev.bins v.toNat).prev15, (s.dev.bins v.toNat).cur24, (s.dev.bins v.toNat).prev24],
          b.cnt.length = 12) →
        ∃ d, exec (.viewSel m v []) s = .next (acceptedSettled s m d) ∧ Only ((List.range 64).map (fun i => 0xD0300 + 4 * i)) s.dev d ∧
          d.rds 0xD0300 16 = (s.dev.bins v.toNat).cur15.words v.toNat ∧ d.rds 0xD0340 16 = (s.dev.bins v.toNat).prev15.words v.toNat ∧
          d.rds 0xD0380 16 = (s.dev.bins v.toNat).cur24.words v.toNat ∧ d.rds 0xD03C0 16 = (s.dev.bins v.toNat).prev24.words v.toNat) ∧
      (274687 < v.toNat →
        ∃ t, exec (.viewSel m v []) s = .next t ∧ tabGet {} t.dev.bus.done m = { status := .range } ∧ t.dev.rd 0xD0074 = wd (v.toNat % 2 ^ 19 + 2 ^ 20) ∧
          t.dev.bit 0xD0014 7 = true ∧ KeepsBut [0xD0070, 0xD0074, 0xD0014, 0x8C, 0x54, 0xB0, 0xB4] s.dev t.dev) ∧
      (v.toNat < 2 ^ 18 →
        ∃ d, exec (.rawSel m v) s = .next (acceptedSettled s m d) ∧ Only [0xD0054] s.dev d ∧ d.rd 0xD0054 = v ∧
          ∀ i, nthWord (d.rawView i) 0 = wd (s.dev.rawGet v.toNat i) ∧ nthWord (d.rawView i) 2 = v) ∧
      (2 ^ 18 ≤ v.toNat →
        ∃ t, exec (.rawSel m v) s = .next t ∧ tabGet {} t.dev.bus.done m = { status := .range } ∧ t.dev.rd 0xD0054 = s.dev.rd 0xD0054 ∧
          t.dev.rd 0xD0074 = wd (v.toNat % 2 ^ 19 + 2 ^ 20) ∧ t.dev.bit 0xD0014 7 = true)) ∧
    (∀ w0 w1 w2 : Word, m < 7 → s.dev.staged m = some ⟨0xD0060, [w0, w1, w2]⟩ →
      (isWrapCounter w0.toNat = true → rawCounter w0.toNat = none → fld w2 16 16 = 0 → v = 0 →
        ∃ d, exec (.cntPreset m v) s = .next (accepted s m d) ∧ d.rd w0.toNat = w1 ∧ d.rd (w0.toNat + 4) = wd (fld w2 0 16) ∧
          KeepsBut [w0.toNat, w0.toNat + 4] s.dev d ∧ d.staged m = none) ∧
      (∀ i, rawCounter w0.toNat = some i → fld w2 16 16 = 0 → fld v 18 14 = 0 →
        ∃ d, exec (.cntPreset m v) s = .next (accepted s m d) ∧ d.rawGet (fld v 0 18) i = w1.toNat + 2 ^ 32 * fld w2 0 16 ∧
          d.regs = s.dev.regs ∧ d.staged m = none) ∧
      (fld w2 16 16 ≠ 0 ∨ (isWrapCounter w0.toNat = false ∧ rawCounter w0.toNat = none) →
        ∃ t, exec (.cntPreset m v) s = .next t ∧ tabGet {} t.dev.bus.done m = { status := .range } ∧ t.dev.bit 0xD0014 7 = true ∧
          t.dev.rd 0xD0074 = wd (w0.toNat % 2 ^ 19 + 2 ^ 21) ∧ KeepsBut [0xD0070, 0xD0074, 0xD0014, 0x8C, 0x54, 0xB0, 0xB4] s.dev t.dev))

/-- The Attic's states.
Where the rules leave a point open it follows the model's own choice, log entries 2, 39 and 40. -/
def Obligations.TheAtticIsEnabledAdoptsAndIsLost : Prop :=
  ∀ (s : State), Live s →
    (∀ m v, Ready s m → DomainReady s .pcie → v.toNat < 6 →
      (∀ k, s.dev.atticState = 0 → s.dev.cores.mc1Away = false → s.dev.opPick = some k → k < 16 →
        ∃ t, exec (.atticEnable m v) s = .next t ∧ tabGet {} t.dev.bus.done m = {} ∧ t.dev.rd 0x80010 = setFld v 0 1 1 ∧
          t.dev.atticState = 1 ∧ t.dev.attic.op = some k ∧ t.dev.attic.mode = fld v 1 2 ∧ t.dev.rd 0x80084 = s.dev.rd 0x104 ∧
          t.dev.get (oprecBase k + 4) 0 8 = 8 ∧ t.dev.get (oprecBase k + 4) 12 2 = 1) ∧
      (s.dev.cores.mc1Away = true →
        ∃ t, exec (.atticEnable m v) s = .next t ∧ t.dev.rd 0x80010 = s.dev.rd 0x80010 ∧ t.dev.attic = s.dev.attic ∧
          t.dev.atticState = s.dev.atticState ∧ t.dev.get 0xB4 0 4 = 6 ∧ t.dev.rd 0xA4 = wd (satAdd 32 (s.dev.rd 0xA4).toNat 1)) ∧
      (s.dev.atticState = 2 → s.dev.attic.reserved = [] → (∀ r, r < 256 → s.dev.ringSt r ≠ 4) →
        ∃ t, exec (.atticDisable m v) s = .next t ∧ tabGet {} t.dev.bus.done m = {} ∧ t.dev.rd 0x80010 = setFld v 0 1 0 ∧
          t.dev.pm.toFrame = [] ∧ (s.dev.attic.staging ≠ [] → t.dev.atticState = 4 ∧ t.dev.attic.staging = s.dev.attic.staging) ∧
          (s.dev.attic.staging = [] → t.dev.atticState = 0 ∧ t.dev.bit 0x80018 3 = true ∧ t.dev.bit 0x8001C 5 = true)) ∧
      (s.dev.atticState = 1 ∨ s.dev.atticState = 3 → (∀ k, s.dev.attic.op = some k → k < 16) →
        ∃ t, exec (.atticDisable m v) s = .next t ∧ t.dev.rd 0x80010 = setFld v 0 1 0 ∧ t.dev.atticState = 0 ∧
          t.dev.bit 0x80018 3 = true ∧ t.dev.attic.staging = [] ∧
          t.dev.rd 0x80064 = wd (satAdd 32 (s.dev.rd 0x80064).toNat (s.dev.attic.staging.filter (fun x => x.obj.kind == 1)).length))) ∧
    (∀ m, Ready s m → DomainReady s .pcie →
      (∀ k, s.dev.atticState = 3 → s.dev.cores.mc1Away = false → s.dev.opPick = some k → k < 16 →
        ∃ t, exec (.adopt m) s = .next t ∧ tabGet {} t.dev.bus.done m = {} ∧ t.dev.atticState = 1 ∧ t.dev.attic.op = some k ∧
          t.dev.attic.mode = s.dev.get 0x80010 1 2 ∧ t.dev.attic.staging = s.dev.attic.staging) ∧
      (s.dev.atticState ≠ 3 →
        ∃ t, exec (.adopt m) s = .next t ∧ t.dev.attic = s.dev.attic ∧ t.dev.rd 0x8007C = 1 ∧ t.dev.bit 0x8001C 7 = true ∧
          t.dev.get 0xB4 0 4 = 4) ∧
      (s.dev.atticState = 2 →
        ∃ t ws, exec (.smartNow m) s = .next t ∧ tabGet {} t.dev.bus.done m = {} ∧ ws.length = 4 ∧ t.dev.rds 0x80050 4 = ws ∧
          t.dev.bit 0x80018 7 = decide (fld (nthWord ws 0) 0 8 ≠ 0)) ∧
      (s.dev.atticState ≠ 2 →
        ∃ t, exec (.smartNow m) s = .next t ∧ tabGet {} t.dev.bus.done m = {} ∧ t.dev.regs = s.dev.regs)) ∧
    (∀ a b c e,
      (s.dev.atticState = 2 →
        ∃ d, exec (.smartPoll [a, b, c, e]) s = .next (after s d) ∧ d.rds 0x80050 4 = [a, b, c, e] ∧
          (d.bit 0x80018 7 = true ↔ fld a 0 8 ≠ 0) ∧ (fld a 0 8 ≠ 0 → d.bit 0x8001C 4 = true ∧ Raised d 32) ∧
          KeepsBut [0x80050, 0x80054, 0x80058, 0x8005C, 0x80018, 0x8001C] s.dev d) ∧
      (s.dev.atticState ≠ 2 →
        ∃ d, exec (.smartPoll [a, b, c, e]) s = .next (after s d) ∧ d.regs = s.dev.regs ∧
          d.attic = { s.dev.attic with cmds := s.dev.attic.cmds.filter (fun x => x.kind != .log) })) ∧
    (s.dev.atticState = 2 → s.dev.attic.cmds.length < 64 → (∀ x ∈ s.dev.attic.cmds, x.kind ≠ .log) →
      ∃ d, exec (.smartPoll []) s = .next (after s d) ∧ d.regs = s.dev.regs ∧
        d.attic = { s.dev.attic with cmds := s.dev.attic.cmds ++ [{ kind := .log }] }) ∧
    (∀ o k, s.dev.attic.op = some k → s.dev.atticState = 1 → k < 16 →
      let cur := (currentSuper (min o.units (2 ^ 30)) o.copies).bind (fun x => if x.lba = (if o.lba4k then 4096 else 512) then some x else none)
      (∀ i, s.dev.adoptFail o cur = some i →
        ∃ d, exec (.adoptionEnd o) s = .next (after s d) ∧ d.atticState = 3 ∧ d.attic.op = none ∧ d.get (oprecBase k + 4) 12 2 = 2 ∧
          d.get (oprecBase k + 4) 8 4 = 9 ∧ d.rd (oprecBase k + 0x10) = wd i ∧ d.bit 0x80018 4 = (o.link || s.dev.bit 0x80018 4)) ∧
      (s.dev.adoptFail o cur = none →
        ∃ d, exec (.adoptionEnd o) s = .next (after s d) ∧ d.atticState = 2 ∧ d.attic.op = none ∧ d.get (oprecBase k + 4) 12 2 = 2 ∧
          d.get (oprecBase k + 4) 8 4 = 0 ∧ d.bit 0x8001C 3 = true ∧ d.bit 0x80018 4 = true ∧
          ((∀ x ∈ s.dev.attic.staging, 0 < x.freed ∨ x.staged = x.obj.len) → d.attic.staging = []) ∧
          (s.dev.attic.mode = 2 → d.rd 0x8004C = wd (min o.units (2 ^ 30))))) ∧
    (∀ c, (∀ r, r < 256 → s.dev.ringSt r ≠ 4) →
      (s.dev.atticState = 2 →
        ∃ d, exec (.atticLoss c) s = .next (after s d) ∧ d.atticState = 3 ∧ d.attic.cmds = [] ∧ d.bit 0x8001C 2 = true ∧ Raised d 30 ∧
          d.rd 0x8006C = wd (satAdd 32 (s.dev.rd 0x8006C).toNat 1) ∧
          d.attic.staging.map (·.obj) = (s.dev.attic.staging.filter (fun x => x.obj.kind == 1)).map (·.obj) ∧
          (∀ x ∈ d.attic.staging, x.placed = false) ∧ (c = .linkDown → d.bit 0x80018 4 = false)) ∧
      (s.dev.atticState = 4 →
        ∃ d, exec (.atticLoss c) s = .next (after s d) ∧ d.atticState = 0 ∧ d.bit 0x80018 3 = true ∧ d.attic.staging = [] ∧
          d.rd 0x80064 = wd (satAdd 32 (s.dev.rd 0x80064).toNat (s.dev.attic.staging.filter (fun x => x.obj.kind == 1)).length)))

/-- The frames of the Attic.
Where the rules leave a point open it follows the model's own choice, log entry 39. -/
def Obligations.FramesAreStagedWrittenAndFlushed : Prop :=
  ∀ (s : State), Live s →
    (∀ x rest, s.dev.pm.toFrame = x :: rest → s.dev.cores.mc1Away = false → s.dev.atticTakes = true →
      (s.dev.atticState = 2 → 1048576 ≤ 2097152 - s.dev.attic.held →
        ∃ d y, exec .atticFrameBuild s = .next (after s d) ∧ d.pm.toFrame = rest ∧ d.attic.dropped = 0 ∧ y ∈ d.attic.staging ∧
          y.placed = true ∧ y.obj.kind = 1 ∧ y.obj.sec = x.sec ∧ y.obj.epoch = x.epoch ∧
          y.obj.recs = (frameObj x s.dev.attic.dropped).recs) ∧
      (s.dev.atticState ≠ 2 → (frameObj x s.dev.attic.dropped).len ≤ 2097152 - s.dev.attic.held →
        ∃ d, exec .atticFrameBuild s = .next (after s d) ∧ d.pm.toFrame = rest ∧ d.attic.dropped = 0 ∧
          d.attic.staging = s.dev.attic.staging ++ [{ obj := frameObj x s.dev.attic.dropped, ena := x.attic,
                                                      staged := (frameObj x s.dev.attic.dropped).len }]) ∧
      (∃ d, exec .atticFrameDrop s = .next (after s d) ∧ d.pm.toFrame = rest ∧ d.attic.dropped = s.dev.attic.dropped + 1 ∧
        d.rd 0x80064 = wd (satAdd 32 (s.dev.rd 0x80064).toNat 1) ∧ d.bit 0x8001C 1 = true ∧ Raised d 31 ∧
        KeepsBut [0x80064, 0x8001C] s.dev d)) ∧
    (s.dev.pm.toFrame = [] → exec .atticFrameBuild s = .next (after s s.dev) ∧ exec .atticFrameDrop s = .next (after s s.dev)) ∧
    (∀ i c, i < 64 → s.dev.attic.cmds[i]? = some c →
      (c.retried = false →
        ∃ d, exec (.nvmeCommandComplete i false) s = .next (after s d) ∧ d.attic.cmds = s.dev.attic.cmds.set i { c with retried := true } ∧
          d.rd 0x80068 = wd (satAdd 32 (s.dev.rd 0x80068).toNat 1) ∧ KeepsBut [0x80068] s.dev d) ∧
      (c.retried = true → s.dev.atticState = 2 → (∀ r, r < 256 → s.dev.ringSt r ≠ 4) →
        ∃ d, exec (.nvmeCommandComplete i false) s = .next (after s d) ∧ d.atticState = 3 ∧ d.attic.cmds = [] ∧ d.bit 0x8001C 2 = true ∧
          Raised d 30) ∧
      (∀ q n x, c.kind = .write q n → s.dev.attic.staging = [x] → x.placed = true → x.obj.seq = q →
        ∃ d y, exec (.nvmeCommandComplete i true) s = .next (after s d) ∧ d.attic.staging = [y] ∧ y.done = x.done + n ∧
          y.obj = x.obj ∧ y.placed = true) ∧
      ((∃ a b, c.kind = .dealloc a b) ∨ (∃ u, c.kind = .header u) ∨ (∃ u n, c.kind = .read u n) →
        (∀ x ∈ s.dev.attic.staging, x.placed = true) →
        ∃ d, exec (.nvmeCommandComplete i true) s = .next (after s d) ∧
          d.attic.staging.map (·.obj) = s.dev.attic.staging.map (·.obj) ∧ d.attic.ring = s.dev.attic.ring ∧ KeepsBut [0x80074] s.dev d) ∧
      (c.kind = .superFlush →
        ∃ d, exec (.nvmeCommandComplete i true) s = .next (after s d) ∧ d.attic.cmds = s.dev.attic.cmds.eraseIdx i ∧ d.regs = s.dev.regs)) ∧
    (∀ x n rest rt, s.dev.attic.cmds = ⟨.flush [(x.obj.seq, n)], rt⟩ :: rest → s.dev.attic.staging = [x] → x.placed = true →
      x.obj.kind = 1 → x.obj.len ≤ n → s.dev.atticState = 2 →
      ∃ d, exec .nvmeFlushComplete s = .next (after s d) ∧ d.attic.staging = [] ∧ d.rd 0x80060 = s.dev.rd 0x80060 + 1 ∧
        d.rd 0x80030 = wd x.obj.sec ∧ d.rd 0x80038 = wd x.obj.seq ∧ d.rd 0x8003C = 1 ∧ d.bit 0x8001C 0 = true ∧
        d.attic.durSec = x.obj.sec ∧ d.attic.durEpoch = x.obj.epoch)
/-- The reference slots.
Where the rules leave a point open it follows the model's own choice, log entries 7 and 41. -/
def Obligations.ReferencesAreEnabledJudgedAndTicked : Prop :=
  ∀ (s : State), Live s →
    (∀ m r v row, Ready s m → DomainReady s .hearth → r < 8 → rowOf (refBase r) = some row →
      (s.dev.refusal (refBase r) ⟨.hearth, 0, 0x100 + 0x40 * r⟩ row (setFld v 0 1 1) = none →
        (s.dev.refCfgCause r (setFld v 0 1 1) = none → (s.dev.ref r).st = 0 →
          ∃ d, exec (.refEnable m r v) s = .next (after s d) ∧ tabGet {} d.bus.done m = {} ∧ d.rd (refBase r) = setFld v 0 1 1 ∧
            (((s.dev.covered.complete m {}).wr (refBase r) (setFld v 0 1 1)).refBad r = true → (d.ref r).st = 1) ∧
            (((s.dev.covered.complete m {}).wr (refBase r) (setFld v 0 1 1)).refBad r = false →
              (d.ref r).st = 2 ∧ (d.ref r).wtr = s.dev.wtrTicks r ∧ (d.chain r).main.settle = 35)) ∧
        (∀ c, s.dev.refCfgCause r (setFld v 0 1 1) = some c →
          ∃ d, exec (.refEnable m r v) s = .next (after s d) ∧ tabGet {} d.bus.done m = {} ∧ d.rd (refBase r) = s.dev.rd (refBase r) ∧
            d.hearth = s.dev.hearth ∧ d.rd 0x50064 = wd (c + 16 * r) ∧ d.bit 0x50018 8 = true)) ∧
      (s.dev.refusal (refBase r) ⟨.hearth, 0, 0x100 + 0x40 * r⟩ row (setFld v 0 1 0) = none →
        s.dev.refCfgCause r (setFld v 0 1 0) = none →
        ∃ d, exec (.refDisable m r v) s = .next (after s d) ∧ tabGet {} d.bus.done m = {} ∧ d.rd (refBase r) = setFld v 0 1 0 ∧
          (d.ref r).st = 0 ∧ (d.ref r).wtr = 0)) ∧
    (∀ m r v q, r < 8 → popFor .hearth (s.dev.queueOf .hearth) = some (⟨m, refBase r, .hearth, .word v⟩, q) →
      (s.dev.refCfgCause r v = none →
        ∃ d, exec .refCfgDomainJudge s = .next (after s d) ∧ d.rd (refBase r) = v ∧ d.queueOf .hearth = q) ∧
      (∀ c, s.dev.refCfgCause r v = some c →
        ∃ d, exec .refCfgDomainJudge s = .next (after s d) ∧ d.rd (refBase r) = s.dev.rd (refBase r) ∧ d.queueOf .hearth = q ∧
          d.rd 0x50064 = wd (c + 16 * r) ∧ d.rd 0x50060 = wd (satAdd 32 (s.dev.rd 0x50060).toNat 1) ∧ d.hearth = s.dev.hearth)) ∧
    (s.dev.queueOf .hearth = [] → exec .refCfgDomainJudge s = .next (after s s.dev)) ∧
    (∀ r, r < 8 →
      (s.dev.refBad r = false → (s.dev.ref r).st = 2 →
        ∃ d, exec (.refWtrExpiry r) s = .next (after s d) ∧ (d.ref r).wtr = 0 ∧
          ((s.dev.chain r).main.settle = 0 → (d.ref r).st = 3 ∧ d.bit (refBase r + 0xC) 1 = true) ∧
          ((s.dev.chain r).main.settle ≠ 0 → (d.ref r).st = 2)) ∧
      (s.dev.refBad r = true ∨ (s.dev.ref r).st ≠ 2 → exec (.refWtrExpiry r) s = .next (after s s.dev))) ∧
    (∀ o a b r, r = 6 ∨ r = 7 → s.dev.refE1 r = false →
      ∃ d, exec (.hearthTick o a b) s = .next (after s d) ∧ d.hearth.ticks = s.dev.hearth.ticks + 1 ∧
        d.rd 0x50054 = wd (unsigned 32 o.phase) ∧ ((s.dev.ref r).st = 0 → (d.ref r).st = 0) ∧
        ((if r = 6 then a else b).edges = false → 2 ≤ (s.dev.ref r).st → (s.dev.ref r).st ≤ 3 →
          (d.ref r).st = 1 ∧ (d.ref r).wtr = 0 ∧ d.bit (refBase r + 0xC) 0 = true ∧
          d.rd (refBase r + 0x1C) = wd (satAdd 32 (s.dev.rd (refBase r + 0x1C)).toNat 1) ∧
          (s.dev.hearth.sel = some r → s.dev.hearth.phase = 0 → s.dev.hMode ≠ 3 → s.dev.hearth.dpll = 1 ∨ s.dev.hearth.dpll = 2 →
            d.hearth.dpll = (if s.dev.hoValid then 3 else 4) ∧ d.bit 0x50018 (if s.dev.hoValid then 3 else 4) = true)) ∧
        ((if r = 6 then a else b).edges = true → (s.dev.ref r).st = 1 → (s.dev.chain r).disq = false → (s.dev.chain r).slope = false →
          (d.ref r).st = 2 ∧ (d.ref r).wtr = 1000 * s.dev.get (refBase r + 4) 0 10 ∧ (d.chain r).main.settle = 35))

/-- The DPLL and its switch machine.
Where the rules leave a point open it follows the model's own choice, log entries 7 and 41. -/
def Obligations.TheHearthSwitchesLocksAndFollowsItsMode : Prop :=
  ∀ (s : State), Live s →
    (s.dev.hearth.phase = 2 → (∀ r, s.dev.hearth.swFrom = some r → r < 8) → (∀ r, s.dev.hearth.cand = some r → r < 8) →
      ∃ d, exec .hearthSwitchSettle s = .next (after s d) ∧ d.hearth = { s.dev.hearth with phase := 0, cand := none } ∧ d.bit 0x50018 1 = true ∧
        d.get 0x50070 7 2 = s.dev.hearth.cause % 4 ∧ d.bit 0x50070 3 = s.dev.hearth.swFrom.isSome ∧ d.rd 0x50074 = wd s.dev.hearth.swMs ∧
        KeepsBut [0x50070, 0x50074, 0x50078, 0x5007C, 0x50018] s.dev d) ∧
    (s.dev.hearth.phase ≠ 2 → exec .hearthSwitchSettle s = .next (after s s.dev)) ∧
    (s.dev.hearth.dpll = 1 →
      ∃ d, exec .dpllLock s = .next (after s d) ∧ d.hearth = { s.dev.hearth with dpll := 2, inMs := 0 } ∧ d.bit 0x50018 0 = true ∧
        KeepsBut [0x50018] s.dev d) ∧
    (s.dev.hearth.dpll ≠ 1 → exec .dpllLock s = .next (after s s.dev)) ∧
    (s.dev.hearth.dpll = 3 → s.dev.get 0x50024 0 14 ≠ 0 →
      ∃ d, exec .holdoverLimitExpiry s = .next (after s d) ∧ d.hearth.dpll = 4 ∧ d.bit 0x50018 0 = true ∧ d.bit 0x50018 4 = true ∧
        d.rd 0x50048 = 0 ∧ 60 * s.dev.get 0x50024 0 14 < (d.rd 0x5004C).toNat ∧ KeepsBut [0x50018, 0x50048, 0x5004C] s.dev d) ∧
    (s.dev.hearth.dpll ≠ 3 ∨ s.dev.get 0x50024 0 14 = 0 → exec .holdoverLimitExpiry s = .next (after s s.dev)) ∧
    (∀ m v row k, Ready s m → rowOf 0x50010 = some row → k < 4 →
      let c : Instr := if k = 0 then .hearthAuto m v else if k = 1 then .hearthManual m v else if k = 2 then .forcedHoldover m v else .freeRun m v
      (DomainReady s .hearth → s.dev.refusal 0x50010 ⟨.hearth, 0, 0x10⟩ row (setFld v 0 2 k) = none →
        ∃ d, exec c s = .next (after s d) ∧ tabGet {} d.bus.done m = {} ∧ d.rd 0x50010 = setFld v 0 2 k ∧
          (s.dev.hearth.phase ≠ 0 ∨ k < 2 ∨ k = s.dev.hMode → d.hearth = s.dev.hearth) ∧
          (s.dev.hearth.phase = 0 → k = 2 → s.dev.hMode ≠ 2 →
            d.hearth.sel = none ∧
              (s.dev.hearth.dpll = 1 ∨ s.dev.hearth.dpll = 2 → d.hearth.dpll = (if s.dev.hoValid then 3 else 4))) ∧
          (s.dev.hearth.phase = 0 → k = 3 → s.dev.hMode ≠ 3 →
            d.hearth.sel = none ∧ d.hearth.dpll = 0 ∧ d.hearth.hist = [] ∧ d.rd 0x50048 = 0)) ∧
      (DomainReady s .hearth → s.dev.standby = true → k ≠ s.dev.hMode →
        ∃ t, exec c s = .next t ∧ tabGet {} t.dev.bus.done m = { status := .unsupported } ∧ t.dev.rd 0x50010 = s.dev.rd 0x50010 ∧
          t.dev.hearth = s.dev.hearth)) ∧
    (∀ m v, Ready s m → DomainReady s .hearth →
      (-2147483648 ≤ s.dev.phaseRemain + signed 32 v.toNat → s.dev.phaseRemain + signed 32 v.toNat ≤ 2147483647 →
        ∃ d, exec (.phaseStep m v) s = .next (after s d) ∧ tabGet {} d.bus.done m = {} ∧
          d.phaseRemain = s.dev.phaseRemain + signed 32 v.toNat ∧ d.hearth = { s.dev.hearth with stepping := true }) ∧
      (s.dev.phaseRemain + signed 32 v.toNat < -2147483648 ∨ 2147483647 < s.dev.phaseRemain + signed 32 v.toNat →
        ∃ d, exec (.phaseStep m v) s = .next (after s d) ∧ d.phaseRemain = s.dev.phaseRemain ∧ d.hearth = s.dev.hearth ∧
          d.rd 0x50064 = 3 ∧ d.bit 0x50018 8 = true)) ∧
    (s.dev.hearth.stepping = true → s.dev.phaseRemain = 0 →
      ∃ d, exec .stepDone s = .next (after s d) ∧ d.bit 0x50018 6 = true ∧ d.hearth = { s.dev.hearth with stepping := false } ∧
        KeepsBut [0x50018] s.dev d) ∧
    (s.dev.hearth.stepping = false ∨ s.dev.phaseRemain ≠ 0 → exec .stepDone s = .next (after s s.dev))

/-- The filter chains.
Where the rules leave a point open it follows the model's own choice, log entry 42. -/
def Obligations.FilterChainsRunRestartAndFade : Prop :=
  ∀ (s : State), Live s →
    (∀ r xs, s.dev.sampling r = false → exec (.filterOutput r xs) s = .next (after s s.dev)) ∧
    (∀ r x, s.dev.sampling r = true → r < 8 →
      ∃ d, exec (.filterOutput r [x]) s = .next (after s d) ∧
        (d.chain r).win = (unwrap48 (s.dev.chain r).win x :: (s.dev.chain r).win).take (s.dev.rankW r) ∧
        ((s.dev.chain r).main.cnt + 1 < presetR (s.dev.preset r) →
          (d.chain r).main.cnt = (s.dev.chain r).main.cnt + 1 ∧ (d.chain r).main.outs = (s.dev.chain r).main.outs ∧
            (d.chain r).main.y = (if (s.dev.chain r).main.fir = [] then medianInt (d.chain r).win * 65536 else (s.dev.chain r).main.y) ∧
            d.rd (refBase r + 0x18) = s.dev.rd (refBase r + 0x18)) ∧
        (presetR (s.dev.preset r) ≤ (s.dev.chain r).main.cnt + 1 →
          (d.chain r).main.cnt = 0 ∧ (d.chain r).main.outs = (s.dev.chain r).main.outs + 1 ∧
            (d.chain r).main.settle = (s.dev.chain r).main.settle - 1 ∧
            d.rd (refBase r + 0x18) = wd (unsigned 32 (d.chain r).main.f) ∧
            (s.dev.fadeOf (s.dev.preset r) = none →
              (d.chain r).main.y = roundDiv (s.dev.firSum (s.dev.preset r) (s.dev.activeBank (s.dev.preset r)) (d.chain r).main.fir)
                ((presetR (s.dev.preset r) : Int) ^ 3)))) ∧
    (∀ m r, Ready s m → DomainReady s .hearth → r < 8 →
      (s.dev.sampling r = true →
        ∃ d, exec (.filterRestart m r) s = .next (after s d) ∧ tabGet {} d.bus.done m = {} ∧
          d.chain r = { main := Branch.fresh, hold := Branch.fresh }) ∧
      (s.dev.sampling r = false →
        ∃ d, exec (.filterRestart m r) s = .next (after s d) ∧ tabGet {} d.bus.done m = {} ∧ d.hearth = s.dev.hearth ∧ d.regs = s.dev.regs)) ∧
    (∀ m p, Ready s m → DomainReady s .hearth → p < 3 →
      let sum := ((List.range 32).map (fun t => s.dev.coef p (1 - s.dev.activeBank p) t)).sum
      ((s.dev.fadeOf p).isSome = true →
        ∃ d, exec (.filterFade m p) s = .next (after s d) ∧ d.hearth = s.dev.hearth ∧ d.rd 0x50064 = wd (4 + 16 * p) ∧ d.bit 0x50018 8 = true) ∧
      (s.dev.fadeOf p = none → sum ≠ 65536 →
        ∃ d, exec (.filterFade m p) s = .next (after s d) ∧ d.hearth = s.dev.hearth ∧ d.rd 0x50064 = wd (6 + 16 * p) ∧ d.bit 0x50018 8 = true) ∧
      (s.dev.fadeOf p = none → sum = 65536 → s.dev.branchesOf p ≠ [] →
        ∃ d, exec (.filterFade m p) s = .next (after s d) ∧ tabGet {} d.bus.done m = {} ∧
          d.hearth.fades = s.dev.hearth.fades ++ [⟨p, s.dev.get (0x51010 + 4 * p) 0 11, s.dev.branchesOf p⟩] ∧
          d.bit 0x51004 (4 + p) = true ∧ d.activeBank p = s.dev.activeBank p) ∧
      (s.dev.fadeOf p = none → sum = 65536 → s.dev.branchesOf p = [] →
        ∃ d, exec (.filterFade m p) s = .next (after s d) ∧ tabGet {} d.bus.done m = {} ∧ d.fadeOf p = none ∧
          d.bit 0x51004 (4 + p) = false ∧ d.activeBank p = 1 - s.dev.activeBank p ∧ d.bit 0x51008 p = true))

/-- The time domains.
Where the rules leave a point open it follows the model's own choice, log entries 44 and 45. -/
def Obligations.TimeDomainsAreMeasuredQualifiedAndLost : Prop :=
  ∀ (s : State) (x : Nat), Live s → x < 2 →
    (∀ w n, s.dev.bit (domBase x) 0 = false → exec (.ppsEdge x w n) s = .next (after s s.dev)) ∧
    (∀ w n, s.dev.bit (domBase x) 0 = true →
      (w < 100 ∨ (s.dev.dom x).seen = false ∨ n < 199800000 ∨ 200200000 < n →
        ∃ d, exec (.ppsEdge x w n) s = .next (after s d) ∧ d.rd (domBase x + 0x30) = wd (satAdd 32 (s.dev.rd (domBase x + 0x30)).toNat 1) ∧
          d.dom x = { s.dev.dom x with msg := none, seen := (s.dev.dom x).seen || decide (100 ≤ w) } ∧ KeepsBut [domBase x + 0x30] s.dev d) ∧
      (100 ≤ w → (s.dev.dom x).seen = true → 199800000 ≤ n → n ≤ 200200000 →
        ∃ d, exec (.ppsEdge x w n) s = .next (after s d) ∧ (d.dom x).acc = true ∧ (d.dom x).msg = none ∧
          d.rds (domBase x + 0x20) 4 = s.dev.stamp ∧
          (∀ c ok, (s.dev.dom x).msg = some (c, true, ok) →
            d.bit (domBase x + 0x1C) 0 = true ∧ d.rd (domBase x + 0x10) = wd (unsigned 32 (s.dev.domDelay x - s.dev.tod.ns)) ∧
            (s.dev.domState x = 1 → d.domState x = 2) ∧
            (s.dev.domState x = 2 → 2 ≤ (s.dev.dom x).good → c = ((s.dev.dom x).lastSec + 1) % 2 ^ 48 →
              d.domState x = 3 ∧ d.bit 0x60018 (2 + 2 * x) = true)) ∧
          ((s.dev.dom x).msg = none → 2 ≤ s.dev.domState x → 2 ≤ (s.dev.dom x).noMeas →
            d.domState x = 1 ∧ (s.dev.domState x = 3 → d.bit 0x60018 (3 + 2 * x) = true)))) ∧
    (∀ bytes gap n, s.dev.bit (domBase x) 0 = false → exec (.todMessage x bytes gap n) s = .next (after s s.dev)) ∧
    (∀ (bytes : List Byte) n, s.dev.bit (domBase x) 0 = true →
      let b : Nat → Nat := fun i => (bytes.getD i 0).toNat
      let good := b 0 = 0xA7 ∧ bytes.length = 16 ∧ b 1 = 1 ∧ b 12 = 0 ∧ b 13 = 0 ∧ b 11 ≤ 15 ∧ b 8 < 16
      (∀ gap, ¬ good ∨ gap = false →
        exec (.todMessage x bytes gap n) s = .next (after s (s.dev.inc (domBase x + 0x3C)))) ∧
      (good → crc16 (bytes.take 14) ≠ 256 * b 14 + b 15 →
        exec (.todMessage x bytes true n) s = .next (after s (s.dev.inc (domBase x + 0x34)))) ∧
      (good → crc16 (bytes.take 14) = 256 * b 14 + b 15 → (s.dev.dom x).acc = false ∨ n < 100 ∨ 900 < n →
        exec (.todMessage x bytes true n) s = .next (after s (s.dev.inc (domBase x + 0x38)))) ∧
      (good → crc16 (bytes.take 14) = 256 * b 14 + b 15 → (s.dev.dom x).acc = true → 100 ≤ n → n ≤ 900 →
        ∃ d, exec (.todMessage x bytes true n) s = .next (after s d) ∧
          (d.dom x).msg = some (bytesNat ((bytes.drop 2).take 6), b 8 % 2 == 1, b 8 / 2 % 2 == 1) ∧ (d.dom x).qclass = b 11 ∧
          d.domState x = s.dev.domState x ∧ d.get (domBase x + 4) 8 4 = b 11 ∧ KeepsBut [domBase x + 4] s.dev d)) ∧
    (2 ≤ s.dev.domState x →
      ∃ d, exec (.domainLost x) s = .next (after s d) ∧ d.domState x = 1 ∧ (s.dev.domState x = 3 → d.bit 0x60018 (3 + 2 * x) = true)) ∧
    (s.dev.domState x < 2 → exec (.domainLost x) s = .next (after s s.dev)) ∧
    (∀ m v row, Ready s m → DomainReady s .hearth → rowOf (domBase x) = some row →
      (row.legal (setFld v 0 1 1).toNat = true → s.dev.domState x = 0 →
        ∃ d, exec (.domainEnable m x v) s = .next (after s d) ∧ tabGet {} d.bus.done m = {} ∧ d.rd (domBase x) = setFld v 0 1 1 ∧
          d.domState x = 2 ∧ d.dom x = {} ∧ KeepsBut [domBase x, domBase x + 4] s.dev d) ∧
      (row.legal (setFld v 0 1 0).toNat = true → s.dev.domState x ≠ 0 →
        ∃ d, exec (.domainDisable m x v) s = .next (after s d) ∧ tabGet {} d.bus.done m = {} ∧ d.rd (domBase x) = setFld v 0 1 0 ∧
          d.domState x = 0 ∧ d.dom x = {} ∧ d.bit (domBase x + 0x1C) 0 = false)) ∧
    (∀ m v, Ready s m → DomainReady s .hearth → v.toNat < 8 →
      ∃ d, exec (.todDomainSelect m v) s = .next (after s d) ∧ tabGet {} d.bus.done m = {} ∧ d.rd 0x60010 = v ∧
        (fld v 1 1 = s.dev.get 0x60010 1 1 → d.activeIdx = s.dev.activeIdx ∧ d.tod = s.dev.tod) ∧
        (fld v 1 1 ≠ s.dev.get 0x60010 1 1 →
          d.activeIdx = fld v 1 1 ∧ (s.dev.activeIdx ≠ fld v 1 1 → d.bit 0x60018 1 = true) ∧ d.tod.epoch = s.dev.tod.epoch))

/-- TOD_SET and the time pulses.
Where the rules leave a point open it follows the model's own choice, log entries 7 and 45. -/
def Obligations.TimeIsSetAndPulsesAreArmedAndTimed : Prop :=
  ∀ (s : State), Live s →
    (∀ m (w0 w1 w2 w3 : Word), m < 7 → DomainReady s .hearth → s.dev.staged m = some ⟨0x60040, [w0, w1, w2]⟩ →
      (s.dev.tod.epoch ≤ 0xFFFF → timeWordsBad [w0, w1, w2, w3] = false →
        ∃ d, exec (.todSet m w3) s = .next (after s d) ∧ tabGet {} d.bus.done m = {} ∧
          d.tod.sec = w1.toNat + 2 ^ 32 * fld w2 0 16 ∧ d.tod.ns = w0.toNat ∧ d.tod.frac = 0 ∧
          (∀ r, r < 4 → s.dev.tpMode r = 1 → (s.dev.pulse r).armed = true → d.reached (s.dev.pulse r).due = false →
            d.pulse r = s.dev.pulse r) ∧
          d.tod.epoch = nextEpoch s.dev.tod.epoch ∧ d.tod.valid = true ∧ d.tod.slew = 0 ∧
          d.rd 0x60060 = wd (satAdd 32 (s.dev.rd 0x60060).toNat 1) ∧ d.bit 0x60018 0 = true ∧
          d.get 0x60050 0 16 = nextEpoch s.dev.tod.epoch % 2 ^ 16 ∧ d.get 0x60050 17 2 = (if s.dev.tod.valid then 2 else 0)) ∧
      (timeWordsBad [w0, w1, w2, w3] = true →
        ∃ t, exec (.todSet m w3) s = .next t ∧ tabGet {} t.dev.bus.done m = { status := .range } ∧ t.dev.tod = s.dev.tod ∧
          t.dev.rd 0x60068 = wd (16 * 7) ∧ t.dev.bit 0x60018 7 = true)) ∧
    (∀ m r v, Ready s m → DomainReady s .hearth → r < 4 → v.toNat < 8 → fld v 0 2 ≠ 3 →
      (fld v 0 2 ≠ 0 → s.dev.tpMode r = 0 → tpCause (fld v 0 2) (s.dev.get (tpBase r + 4) 0 30) (s.dev.tpPeriod r) = none →
        ∃ d, exec (.tpArm m r true v) s = .next (after s d) ∧ tabGet {} d.bus.done m = {} ∧ d.rd (tpBase r) = v ∧
          (fld v 0 2 = 2 → (d.pulse r).armed = true ∧ (d.pulse r).due = s.dev.tpFirst r) ∧
          (fld v 0 2 = 1 → s.dev.tod.valid = false →
            (d.pulse r).armed = true ∧ (d.pulse r).fired = false ∧ (d.pulse r).due = s.dev.tpTime r)) ∧
      (fld v 0 2 = 0 →
        ∃ d, exec (.tpArm m r true v) s = .next (after s d) ∧ tabGet {} d.bus.done m = {} ∧ d.rd (tpBase r) = v ∧
          (d.pulse r).armed = false ∧ (d.pulse r).active = false) ∧
      (∀ c, tpCause (fld v 0 2) (s.dev.get (tpBase r + 4) 0 30) (s.dev.tpPeriod r) = some c →
        ∃ d, exec (.tpArm m r true v) s = .next (after s d) ∧ d.tod = s.dev.tod ∧ d.rd (tpBase r) = s.dev.rd (tpBase r) ∧
          d.rd 0x60068 = wd (c + 16 * r))) ∧
    (∀ m r (w0 w1 w2 w3 : Word), m < 7 → r < 4 → DomainReady s .hearth → s.dev.staged m = some ⟨tpBase r + 0x10, [w0, w1, w2]⟩ →
      timeWordsBad [w0, w1, w2, w3] = false → s.dev.tpMode r = 2 →
      ∃ d, exec (.tpArm m r false w3) s = .next (after s d) ∧ tabGet {} d.bus.done m = {} ∧
        d.rds (tpBase r + 0x10) 4 = [w0, w1, w2, w3] ∧ (d.pulse r).armed = true ∧ (d.pulse r).due = d.tpFirst r) ∧
    (∀ r, r < 4 →
      ((s.dev.pulse r).armed = true → s.dev.tod.valid = true →
        (s.dev.tpMode r = 1 →
          ∃ d, exec (.tpPulseDue r) s = .next (after s d) ∧ (d.pulse r).active = true ∧ (d.pulse r).fired = true ∧ (d.pulse r).armed = false ∧
            (d.pulse r).left = (s.dev.get (tpBase r + 4) 0 30 + 4) / 5 ∧ d.bit (tpBase r + 0xC) 0 = true ∧
            KeepsBut [tpBase r + 0xC, 0x60018] s.dev d) ∧
        (s.dev.tpMode r = 2 →
          ∃ d, exec (.tpPulseDue r) s = .next (after s d) ∧ (d.pulse r).active = true ∧ (d.pulse r).armed = true ∧
            (d.pulse r).due = ((s.dev.pulse r).due + s.dev.tpPeriod r) % (2 ^ 48 * 1000000000) ∧ d.bit (tpBase r + 0xC) 0 = true)) ∧
      ((s.dev.pulse r).armed = false ∨ s.dev.tod.valid = false ∨ s.dev.tpMode r = 0 → exec (.tpPulseDue r) s = .next (after s s.dev)) ∧
      ((s.dev.pulse r).active = true →
        ∃ d, exec (.tpPulseEnd r) s = .next (after s d) ∧ d.pulse r = { s.dev.pulse r with active := false } ∧ d.regs = s.dev.regs) ∧
      ((s.dev.pulse r).active = false → exec (.tpPulseEnd r) s = .next (after s s.dev)))

/-- The epoch of the time of day (R506). -/
def Obligations.EveryStepOfTimeOpensAnEpoch : Prop :=
  ∀ (d : Device) (sec ns cause : Nat),
    (d.tod.epoch = 0xFFFF → (d.todStep sec ns cause).tod.epoch = 1) ∧
    (d.tod.epoch ≠ 0xFFFF → (d.todStep sec ns cause).tod.epoch = d.tod.epoch + 1) ∧
    (d.todStep sec ns cause).tod.epoch ≠ 0 ∧ State.reset.dev.tod.epoch = 0
/-- The role of the Party Wall.
Where the rules leave a point open it follows the model's own choice, log entries 7 and 46. -/
def Obligations.ThePartyWallRoleIsLeased : Prop :=
  ∀ (s : State), Live s →
    (∀ num time side cycle inBound, WallUp s →
      (s.dev.pwRole = 2 →
        ∃ d, exec (.leaseReceived num time side cycle inBound) s = .next (followed s d) ∧ d.pwRole = 2 ∧ d.rd 0x70034 = s.dev.rd 0x70034 ∧
          (side = s.dev.pwSide → d.bit 0x70018 8 = true ∧ Raised d 36)) ∧
      (s.dev.pwRole = 1 →
        ∃ d, exec (.leaseReceived num time side cycle inBound) s = .next (followed s d) ∧ d.pwRole = 1 ∧ d.rd 0x70034 = wd num ∧
          d.rd 0xC001C = wd (16 * cycle) ∧ d.pw.leased = true ∧ d.pw.leaseMs = time ∧ d.pw.leaseAt = s.dev.uptime ∧ d.pw.expired = none ∧
          d.pw.guardDone = false ∧ lastSent d = some (.leaseAck num d.pw.fit d.pw.aligned) ∧
          (inBound = false → d.pw.aligned = false ∧ (s.dev.pw.aligned = true → d.pw.fit = false ∧ d.pw.unfit = 4)) ∧
          (inBound = true → (d.pw.aligned = true ↔ s.dev.pw.aligned = true ∨ 16 ≤ s.dev.pw.alignRun + 1))) ∧
      (s.dev.pwRole = 0 → s.dev.autoResync = false →
        ∃ d, exec (.leaseReceived num time side cycle inBound) s = .next (followed s d) ∧ d.pwRole = 1 ∧ d.bit 0x70018 0 = true ∧
          d.rd 0x70034 = wd num ∧ d.pw.leased = true ∧ d.pw.leaseMs = time ∧ lastSent d = some (.leaseAck num d.pw.fit d.pw.aligned))) ∧
    (∀ num fit side,
      (∀ e, s.dev.pwRole = 2 → s.dev.pw.sent.find? (fun x => x.1 == num) = some e →
        ∃ d, exec (.leaseAckReceived num fit side) s = .next (followed s d) ∧ d.pw.established = true ∧ d.pw.ackedAt = e.2 ∧ d.pw.fit = fit ∧
          d.pw.mateStandby = true ∧ d.rd 0x70030 = wd (min 65535 ((s.dev.uptime - e.2) * 5 / 2)) ∧ d.pwRole = 2 ∧
          (side = s.dev.pwSide → d.bit 0x70018 8 = true ∧ Raised d 36)) ∧
      (WallUp s → s.dev.pwRole ≠ 2 →
        ∃ d, exec (.leaseAckReceived num fit side) s = .next (followed s d) ∧ d.pw.established = s.dev.pw.established ∧
          d.pw.fit = s.dev.pw.fit ∧ d.pwRole = s.dev.pwRole)) ∧
    (WallUp s →
      (s.dev.pwRole = 1 → s.dev.pw.actIn = false → s.dev.fc.safe = false →
        ∃ d, exec .releaseReceived s = .next (followed s d) ∧ d.pwRole = 2 ∧ d.pw.actOut = true ∧ d.rd 0x70070 = 1 ∧ d.bit 0x70018 2 = true ∧
          d.rd 0x70038 = wd (satAdd 32 (s.dev.rd 0x70038).toNat 1)) ∧
      (s.dev.pwRole = 1 → s.dev.pw.actIn = true →
        ∃ d, exec .releaseReceived s = .next (followed s d) ∧ d.pwRole = 1 ∧ d.pw.released = true ∧ d.regs = s.dev.regs) ∧
      (s.dev.pwRole ≠ 1 → ∃ d, exec .releaseReceived s = .next (followed s d) ∧ d.pwRole = s.dev.pwRole ∧ d.regs = s.dev.regs)) ∧
    (s.dev.pwRole ≠ 2 → s.dev.pw.expired = none →
      ∃ d, exec .leaseExpiry s = .next (after s d) ∧ d.pw.expired = some d.uptime ∧ s.dev.uptime ≤ d.uptime ∧
        s.dev.pw.leaseAt + ms s.dev.leaseTime ≤ d.uptime ∧ d.regs = s.dev.regs) ∧
    (s.dev.pwRole = 2 ∨ s.dev.pw.expired.isSome = true → exec .leaseExpiry s = .next (after s s.dev)) ∧
    (∀ t, s.dev.pw.expired = some t → s.dev.pwRole ≠ 2 → (∀ k, s.dev.pw.op = some k → k < 16) →
      (s.dev.pw.actIn = false → s.dev.fc.safe = false →
        ∃ d, exec .guardExpiry s = .next (followed s d) ∧ d.pwRole = 2 ∧ d.pw.actOut = true ∧ t + ms 2 ≤ d.uptime ∧ d.bit 0x70018 2 = true ∧
          d.rd 0x70070 = (if s.dev.pwRole = 1 ∧ s.dev.pw.released = true then 1 else if s.dev.pwRole = 0 then 2 else 0)) ∧
      (s.dev.pw.actIn = true ∨ s.dev.fc.safe = true →
        ∃ d, exec .guardExpiry s = .next (followed s d) ∧ d.pwRole = s.dev.pwRole ∧ d.pw.guardDone = true ∧ t + ms 2 ≤ d.uptime ∧
          d.regs = s.dev.regs)) ∧
    (s.dev.pw.expired = none → exec .guardExpiry s = .next (followed s s.dev)) ∧
    (s.dev.pwRole = 2 → s.dev.pw.established = true → s.dev.pw.mate = true →
      ∃ d, exec .leaseUnacked s = .next (followed s d) ∧ d.pwRole = 1 ∧ d.pw.stopping = some false ∧ d.bit 0x70018 1 = true ∧ Raised d 34 ∧
        d.rd 0x70040 = wd (satAdd 32 (s.dev.rd 0x70040).toNat 1) ∧ s.dev.pw.ackedAt + ms (s.dev.get 0x70010 0 7) ≤ d.uptime) ∧
    (s.dev.pwRole ≠ 2 ∨ s.dev.pw.established = false ∨ s.dev.pw.mate = false → exec .leaseUnacked s = .next (followed s s.dev)) ∧
    (∃ d, exec (.actInChange true) s = .next (followed s d) ∧ d.pw.actIn = true ∧
      (s.dev.pwRole = 2 → s.dev.pwSide = true →
        d.pwRole = 1 ∧ d.pw.stopping = some false ∧ d.bit 0x70018 3 = true ∧
          d.rd 0x7003C = wd (satAdd 32 (s.dev.rd 0x7003C).toNat 1)) ∧
      (s.dev.pwRole ≠ 2 ∨ s.dev.pwSide = false → d.pwRole = s.dev.pwRole ∧ d.pw.lowAt = some s.dev.uptime ∧ d.regs = s.dev.regs)) ∧
    (∃ d, exec (.actInChange false) s = .next (followed s d) ∧ d.pw.actIn = false ∧
      (s.dev.pwRole = 2 → d.pwRole = 2 ∧ d.pw.lowAt = none ∧ d.regs = s.dev.regs) ∧
      (s.dev.pwRole ≠ 2 → s.dev.pw.guardDone = true → s.dev.fc.safe = false → (∀ k, s.dev.pw.op = some k → k < 16) →
        d.pwRole = 2 ∧ d.pw.actOut = true)) ∧
    (∀ r, s.dev.pw.stopping = some r →
      (s.dev.lanes.any (fun e => e.2.txOn) = false →
        ∃ d, exec .pwStopComplete s = .next (after s d) ∧ d.pw.actOut = false ∧ d.pw.stopping = none ∧ d.regs = s.dev.regs ∧
          (r = true → lastSent d = some .release)) ∧
      (s.dev.lanes.any (fun e => e.2.txOn) = true → exec .pwStopComplete s = .next (after s s.dev))) ∧
    (s.dev.pw.stopping = none → exec .pwStopComplete s = .next (after s s.dev)) ∧
    (∀ m, Ready s m →
      (s.dev.pwRole = 2 → s.dev.pw.fit = true → s.dev.pw.up = true →
        ∃ d, exec (.handover m) s = .next (accepted s m d) ∧ d.pwRole = 1 ∧ d.pw.stopping = some true ∧ d.bit 0x70018 0 = true ∧
          KeepsBut [0x70014, 0x70018] s.dev d) ∧
      (s.dev.pwRole ≠ 2 ∨ s.dev.pw.fit = false ∨ s.dev.pw.up = false →
        ∃ t, exec (.handover m) s = .next t ∧ tabGet {} t.dev.bus.done m = { status := .range } ∧ t.dev.pw = s.dev.pw ∧
          t.dev.pwRole = s.dev.pwRole ∧ t.dev.bit 0x70018 9 = true ∧ t.dev.rd 0x70060 = (if s.dev.pwRole ≠ 2 then 1 else 2))) ∧
    (∀ t, s.dev.pw.lowAt = some t → s.dev.pwRole = 2 → s.dev.pwSide = false →
      ∃ d, exec .dualActDetected s = .next (after s d) ∧ d.pwRole = 2 ∧ d.bit 0x70018 8 = true ∧ Raised d 36 ∧ t + ms 2 < d.uptime ∧
        KeepsBut [0x70018] s.dev d) ∧
    (s.dev.pw.lowAt = none ∨ s.dev.pwRole ≠ 2 ∨ s.dev.pwSide = true → exec .dualActDetected s = .next (after s s.dev))

/-- The Party Wall link.
Where the rules leave a point open it follows the model's own choice, log entries 47, 48 and 49. -/
def Obligations.ThePartyWallLinkMirrorsAndCounts : Prop :=
  ∀ (s : State), Live s →
    (s.dev.pw.reqDue = false →
      ∃ d, exec .idleReceived s = .next (after s d) ∧ d.pw.good = min 16 (s.dev.pw.good + 1) ∧ d.regs = s.dev.regs ∧
        (d.pw.up = true ↔ s.dev.pw.up = true ∨ 16 ≤ s.dev.pw.good + 1)) ∧
    (∀ l, pwValid l = false →
      ∃ d, exec (.pwBadMessage l) s = .next (after s d) ∧ d.pw = { s.dev.pw with good := 0 } ∧ Raised d 28 ∧
        d.rd 0x70050 = wd (satAdd 32 (s.dev.rd 0x70050).toNat 1) ∧ KeepsBut [0x70050] s.dev d) ∧
    (∀ l, pwValid l = true → exec (.pwBadMessage l) s = .next (after s s.dev)) ∧
    (∃ d, exec .pwIdleSend s = .next (after s d) ∧ d.pw.out = [⟨false, s.dev.pwSide, s.dev.acting, 0, s.dev.pwCycle, .idle⟩] ∧
      d.regs = s.dev.regs) ∧
    (s.dev.pw.up = true → (∀ k, s.dev.pw.op = some k → k < 16) →
      ∃ d, exec .pwLinkDown s = .next (after s d) ∧ d.pw.up = false ∧ d.pw.aligned = false ∧ d.pw.good = 0 ∧ d.bit 0x70018 6 = true ∧
        Raised d 28 ∧ (s.dev.pwRole = 1 → d.pw.fit = false ∧ d.pw.unfit = 2 ∧ (s.dev.autoResync = true → d.pw.reqDue = true))) ∧
    (s.dev.pw.up = false → exec .pwLinkDown s = .next (after s s.dev)) ∧
    (∀ idles held,
      ((s.dev.rd 0xC001C).toNat % 16 ≠ 0 → exec (.managementCycleBoundary idles held) s = .next (followed s s.dev)) ∧
      ((s.dev.rd 0xC001C).toNat % 16 = 0 → s.dev.pwRole = 2 →
        ∃ d, exec (.managementCycleBoundary idles held) s = .next (followed s d) ∧
          d.rd 0x70034 = wd (((s.dev.rd 0x70034).toNat + 1) % 2 ^ 32) ∧
          lastSent d = some (.lease (((s.dev.rd 0x70034).toNat + 1) % 2 ^ 32) (s.dev.get 0x70010 0 7)) ∧
          d.pw.sent.head? = some (((s.dev.rd 0x70034).toNat + 1) % 2 ^ 32, s.dev.uptime) ∧
          (∃ x ∈ d.pw.out, x.body =
            .digest ((s.dev.pwCycle + 2 ^ 28 - 1) % 2 ^ 28) (0xFFFF - (held ||| s.dev.heldMask) % 2 ^ 16) s.dev.digests) ∧
          KeepsBut [0x70034] s.dev d) ∧
      ((s.dev.rd 0xC001C).toNat % 16 = 0 → s.dev.pwRole ≠ 2 → s.dev.pw.up = true →
        ∃ d, exec (.managementCycleBoundary idles held) s = .next (followed s d) ∧ d.pw.out = [] ∧ d.regs = s.dev.regs ∧
          d.pw.own = some ((s.dev.pwCycle + 2 ^ 28 - 1) % 2 ^ 28, held ||| s.dev.heldMask ||| s.dev.pw.moved, s.dev.digests) ∧
          d.pw.begun = [])) ∧
    (∀ seq cycle last, s.dev.pw.up = true →
      (∀ recs, s.dev.pw.rxSeq = none ∨ s.dev.pw.rxSeq = some ((seq + 2 ^ 32 - 1) % 2 ^ 32) → seq < 2 ^ 32 →
        (s.dev.pwRole ≠ 1 →
          ∃ d, exec (.mirrorDeltaReceived seq cycle last recs) s = .next (followed s d) ∧ d.regs = s.dev.regs ∧ d.land = s.dev.land ∧
            d.hearth = s.dev.hearth) ∧
        (s.dev.pwRole = 1 → s.dev.cores.mc1Away = true →
          ∃ d, exec (.mirrorDeltaReceived seq cycle last recs) s = .next (followed s d) ∧ d.regs = s.dev.regs ∧ d.land = s.dev.land ∧
            d.hearth = s.dev.hearth ∧
            d.pw.held = s.dev.pw.held ++ [(s.dev.pw.snapGap, ⟨last, s.dev.pw.mateSide, true, seq, cycle, .delta recs⟩)]) ∧
        (s.dev.pwRole = 1 → s.dev.cores.mc1Away = false → s.dev.pw.bulk = true →
          ∃ d, exec (.mirrorDeltaReceived seq cycle last recs) s = .next (followed s d) ∧ d.regs = s.dev.regs ∧ d.land = s.dev.land ∧
            d.pw.queued = s.dev.pw.queued ++ [⟨last, s.dev.pw.mateSide, true, seq, cycle, .delta recs⟩]) ∧
        (s.dev.pwRole = 1 → s.dev.cores.mc1Away = false → s.dev.pw.bulk = false →
          (∀ i c, recs = [⟨1, i, .sel c⟩] →
            ∃ d, exec (.mirrorDeltaReceived seq cycle last recs) s = .next (followed s d) ∧ (d.sel i).c = (s.dev.sel i).c.take c) ∧
          (∀ x st f v, recs = [⟨7, 0, .hearth x st f v⟩] →
            ∃ d, exec (.mirrorDeltaReceived seq cycle last recs) s = .next (followed s d) ∧ d.hearth.mirSlot = x ∧
              d.hearth.mirFreq = (if v then some f else none)) ∧
          (∀ k w, recs = [⟨3, k, .defects w⟩] →
            ∃ d, exec (.mirrorDeltaReceived seq cycle last recs) s = .next (followed s d) ∧
              d.rd 0x7004C = (if s.dev.tcWord k = w then s.dev.rd 0x7004C else wd (satAdd 32 (s.dev.rd 0x7004C).toNat 1))))) ∧
      (∀ n, s.dev.pw.rxSeq = some n → seq ≠ (n + 1) % 2 ^ 32 → (∀ k, s.dev.pw.op = some k → k < 16) →
        ∃ d, exec (.mirrorDeltaReceived seq cycle last []) s = .next (followed s d) ∧ Raised d 28 ∧ d.pw.rxSeq = some seq ∧
          d.rd 0x70054 = wd (satAdd 32 (s.dev.rd 0x70054).toNat 1) ∧ (s.dev.pwRole = 1 → d.pw.fit = false))) ∧
    (∀ seq, s.dev.pw.up = true → s.dev.pw.rxSeq = none →
      (∀ off data last, s.dev.pwRole ≠ 1 →
        ∃ d, exec (.pmSnapReceived seq last off data) s = .next (after s d) ∧ d.regs = s.dev.regs ∧ d.pm = s.dev.pm) ∧
      (∀ off data last, s.dev.pwRole = 1 → s.dev.cores.mc1Away = true →
        ∃ d, exec (.pmSnapReceived seq last off data) s = .next (after s d) ∧ d.regs = s.dev.regs ∧ d.pm = s.dev.pm ∧
          ∃ m, d.pw.held = s.dev.pw.held ++ [(s.dev.pw.snapGap, m)] ∧ m.last = last ∧ m.body = .pmSnap off data) ∧
      (∀ data, s.dev.pwRole = 1 → s.dev.cores.mc1Away = false →
        ∃ d, exec (.pmSnapReceived seq false 0 data) s = .next (after s d) ∧ d.pw.snap = [(0, data)] ∧ d.pw.snapGap = false ∧
          d.regs = s.dev.regs) ∧
      (∀ p w, s.dev.pwRole = 1 → s.dev.cores.mc1Away = false → p < 274688 → s.dev.pw.snap = [] → s.dev.pw.snapGap = false →
        ∃ d, exec (.pmSnapReceived seq true (32 * p + 16) [w]) s = .next (after s d) ∧ d.rd (pmBase p + 0x10) = w ∧ d.pw.snap = [] ∧
          KeepsBut [pmBase p + 0x10] s.dev d))

/-- The bulk resync, the digests and the mate's attestation.
Where the rules leave a point open it follows the model's own choice, log entries 47, 49 and 54. -/
def Obligations.TheStandbyIsResyncedComparedAndAttested : Prop :=
  ∀ (s : State), Live s →
    (∀ m, Ready s m →
      (∀ k, s.dev.pwRole = 1 → s.dev.pw.bulk = false → s.dev.opPick = some k → k < 16 →
        ∃ d, exec (.resync m) s = .next (accepted s m d) ∧ d.pw.bulk = true ∧ d.pw.op = some k ∧ d.pw.fit = false ∧ d.pw.unfit = 3 ∧
          lastSent d = some .bulkReq ∧ d.get (oprecBase k + 4) 0 8 = 7 ∧ d.get (oprecBase k + 4) 12 2 = 1 ∧ d.rd (oprecBase k + 8) = 389) ∧
      (s.dev.pwRole ≠ 1 →
        ∃ t, exec (.resync m) s = .next t ∧ tabGet {} t.dev.bus.done m = { status := .range } ∧ t.dev.pw = s.dev.pw ∧
          t.dev.rd 0x70060 = 3 ∧ t.dev.bit 0x70018 9 = true)) ∧
    (s.dev.pw.up = true →
      (s.dev.pwRole = 2 → s.dev.cores.mc1Away = false →
        ∃ d c, exec .bulkReqReceived s = .next (after s d) ∧ lastSent d = some (.bulkEnd 25477120 c) ∧ d.regs = s.dev.regs) ∧
      (s.dev.pwRole ≠ 2 ∨ s.dev.cores.mc1Away = true →
        ∃ d, exec .bulkReqReceived s = .next (after s d) ∧ d.pw.out = [] ∧ d.regs = s.dev.regs)) ∧
    (∀ k, s.dev.pw.up = true → s.dev.pwRole = 1 → s.dev.pw.bulk = true → s.dev.pw.op = some k → k < 16 →
      (∀ seq cycle off data recs, s.dev.pw.rxSeq = none → s.dev.cores.mc1Away = true →
        ∃ d m, exec (.bulkDataReceived seq cycle off data recs) s = .next (after s d) ∧ d.pw.rxSeq = some seq ∧ d.regs = s.dev.regs ∧
          d.pw.image = s.dev.pw.image ∧ d.pw.held = s.dev.pw.held ++ [(s.dev.pw.snapGap, m)] ∧ m.body = .bulkData off data recs) ∧
      (∀ n c, s.dev.cores.mc1Away = true →
        ∃ d m, exec (.bulkEndReceived n c) s = .next (followed s d) ∧ d.pw.bulk = true ∧ d.regs = s.dev.regs ∧
          d.pw.held = s.dev.pw.held ++ [(s.dev.pw.snapGap, m)] ∧ m.body = .bulkEnd n c) ∧
      (∀ seq cycle off data recs, s.dev.pw.rxSeq = none → s.dev.cores.mc1Away = false →
        ∃ d, exec (.bulkDataReceived seq cycle off data recs) s = .next (after s d) ∧ d.pw.rxSeq = some seq ∧
          (off = 0 → d.pw.image = [(0, cycle, data)] ∧ d.pw.carried = recs) ∧
          (off ≠ 0 → d.pw.image = s.dev.pw.image ++ [(off, cycle, data)] ∧ d.pw.carried = s.dev.pw.carried ++ recs) ∧
          KeepsBut [oprecBase k + 0xC] s.dev d) ∧
      (∀ c, s.dev.cores.mc1Away = false → imageWhole 0 s.dev.pw.image = true →
        c = wd (crc32c (s.dev.pw.image.flatMap (fun e => e.2.2.flatMap wordBytes))) → s.dev.pw.carried = [] → s.dev.pw.queued = [] →
        ∃ d, exec (.bulkEndReceived 25477120 c) s = .next (followed s d) ∧ d.pw.bulk = false ∧ d.pw.op = none ∧ d.bit 0x70018 7 = true ∧
          d.rd 0x70058 = wd (satAdd 32 (s.dev.rd 0x70058).toNat 1) ∧ d.get (oprecBase k + 4) 12 2 = 2 ∧ d.get (oprecBase k + 4) 8 4 = 0) ∧
      (∀ n c, s.dev.cores.mc1Away = false → n ≠ 25477120 ∨ imageWhole 0 s.dev.pw.image = false ∨
          c ≠ wd (crc32c (s.dev.pw.image.flatMap (fun e => e.2.2.flatMap wordBytes))) → s.dev.autoResync = false →
        ∃ d, exec (.bulkEndReceived n c) s = .next (followed s d) ∧ d.pw.bulk = false ∧ d.pw.op = none ∧ d.pw.image = [] ∧
          d.rd 0x70058 = s.dev.rd 0x70058 ∧ d.get (oprecBase k + 4) 12 2 = 2 ∧ d.get (oprecBase k + 4) 8 4 = 9)) ∧
    (∀ cycle mask sums, s.dev.pw.up = true →
      (∀ held own, s.dev.pw.own = some (cycle, held, own) → s.dev.pwRole = 1 →
        let cmp := (List.range 16).filter (fun i => s.dev.bit 0x70024 i && s.dev.pw.aligned && !(held / 2 ^ i % 2 == 1) && mask / 2 ^ i % 2 == 1)
        let bad := cmp.filter (fun i => own.getD i 0 ≠ sums.getD i 0)
        ∃ d, exec (.digestReceived cycle mask sums) s = .next (after s d) ∧
          d.rd 0x70048 = wd (satAdd 32 (s.dev.rd 0x70048).toNat (16 - cmp.length)) ∧
          (bad = [] → KeepsBut [0x70048] s.dev d ∧ d.pw.fit = s.dev.pw.fit) ∧
          (bad ≠ [] → d.rd 0x70044 = wd (satAdd 32 (s.dev.rd 0x70044).toNat bad.length) ∧ d.bit 0x70018 11 = true ∧ Raised d 35)) ∧
      (s.dev.pw.own = none ∨ s.dev.pwRole ≠ 1 →
        ∃ d, exec (.digestReceived cycle mask sums) s = .next (after s d) ∧ d.regs = s.dev.regs)) ∧
    (∀ id n nonce, s.dev.pw.up = true →
      (32 < n →
        ∃ d, exec (.attestReqReceived id n nonce) s = .next (after s d) ∧ lastSent d = some (.attestRsp id 4 (List.replicate 512 0)) ∧
          d.porch = s.dev.porch) ∧
      (n ≤ 32 → s.dev.cores.mc0Away = true ∨ 3 ≤ s.dev.porch.atts.length →
        ∃ d, exec (.attestReqReceived id n nonce) s = .next (after s d) ∧ lastSent d = some (.attestRsp id 6 (List.replicate 512 0)) ∧
          d.porch = s.dev.porch ∧ d.rd 0x30020 = wd (satAdd 32 (s.dev.rd 0x30020).toNat 1)) ∧
      (n ≤ 32 → s.dev.cores.mc0Away = false → s.dev.porch.atts = [] → s.dev.opPick = none →
        ∃ d, exec (.attestReqReceived id n nonce) s = .next (after s d) ∧ lastSent d = some (.attestRsp id 6 (List.replicate 512 0)) ∧
          d.porch.atts = []) ∧
      (n ≤ 32 → s.dev.cores.mc0Away = false → s.dev.porch.atts.length < 3 →
        (s.dev.porch.atts = [] ∧ s.dev.opPick ≠ none) ∨ (∃ x k, s.dev.porch.atts.head? = some x ∧ x.op = some k) →
        ∃ d r, exec (.attestReqReceived id n nonce) s = .next (after s d) ∧ d.pw.out = [] ∧
          d.porch.atts.length = s.dev.porch.atts.length + 1 ∧ d.porch.atts.getLast? = some r ∧ r.src = .mate id ∧ r.nonceLen = n ∧
          r.nonce = nonce)) ∧
    (∀ id st report, s.dev.pw.up = true →
      (s.dev.mateState = 1 → id = s.dev.meas.reqId → st < 16 →
        ∃ d, exec (.attestRspReceived id st report) s = .next (after s d) ∧ d.bit 0x40014 2 = true ∧ d.get 0x40094 4 4 = st ∧
          (st = 0 → d.mateState = 2 ∧ d.rds 0x41000 128 = (bytesWords (report ++ List.replicate 512 0)).take 128) ∧
          (st ≠ 0 → d.mateState = 3 ∧ KeepsBut [0x40094, 0x40014] s.dev d)) ∧
      (s.dev.mateState ≠ 1 ∨ id ≠ s.dev.meas.reqId →
        ∃ d, exec (.attestRspReceived id st report) s = .next (after s d) ∧ d.regs = s.dev.regs))

/-- Pins, power and the ends of reset.
Where the rules leave a point open it follows the model's own choice, log entries 8, 14 and 59. -/
def Obligations.PinsPowerAndResetActAtAnyTime : Prop :=
  ∀ (s : State),
    (∀ low, exec (.matePresentChange low) s = .next (after s { s.dev with pw := { s.dev.pw with mate := low } })) ∧
    (∀ low, s.dev.boot.held = true →
      exec (.actInChange low) s =
        .next (after s { s.dev with pw := { s.dev.pw with actIn := low, lowAt := if low then some s.dev.uptime else none } })) ∧
    (∀ v0 v1 v2 v3 v4 v5 v6,
      (675 ≤ v0 → 720 ≤ v1 → 765 ≤ v2 → 1080 ≤ v3 → 1080 ≤ v4 → 1620 ≤ v5 → 1620 ≤ v6 →
        exec (.powerGood [v0, v1, v2, v3, v4, v5, v6]) s = .next (after s { s.dev with boot := { s.dev.boot with power := true } })) ∧
      (v0 < 675 ∨ v1 < 720 ∨ v2 < 765 ∨ v3 < 1080 ∨ v4 < 1080 ∨ v5 < 1620 ∨ v6 < 1620 →
        exec (.powerGood [v0, v1, v2, v3, v4, v5, v6]) s = .next (after s s.dev))) ∧
    (∀ r fails v, (r, fails) ∈ [(0, 638), (1, 680), (2, 723), (3, 1020), (4, 1020), (5, 1530), (6, 1530)] →
      (v < fails → ∃ d, exec (.railFail r v) s = .next (after s d) ∧
        d.boot = { power := false, rstLow := s.dev.boot.rstLow, held := true, otp := s.dev.boot.otp } ∧
        d.pw = { actIn := s.dev.pw.actIn, mate := s.dev.pw.mate } ∧ (∀ a, d.rd a = resetWord a) ∧ d.lanes = [] ∧ d.tcs = [] ∧
        d.porch = {} ∧ d.tod = {} ∧ d.fc = {} ∧ d.cores = {}) ∧
      (fails ≤ v → exec (.railFail r v) s = .next (after s s.dev))) ∧
    (∃ d, exec .coldReset s = .next (after s d) ∧ d.boot = { power := s.dev.boot.power, rstLow := true, held := true, otp := s.dev.boot.otp } ∧
      d.pw = { actIn := s.dev.pw.actIn, mate := s.dev.pw.mate } ∧ (∀ a, d.rd a = resetWord a) ∧ d.lanes = [] ∧ d.tcs = [] ∧
      d.porch = {} ∧ d.tod = {} ∧ d.fc = {} ∧ d.cores = {}) ∧
    (∀ straps,
      (s.dev.boot.power = true → s.dev.boot.warm = false → s.dev.boot.test = false → s.dev.get 0x20010 0 4 = 0 →
        (straps / 32 % 2 = 1 →
          ∃ d, exec (.resetRelease straps) s = .next (after s d) ∧ d.boot = { s.dev.boot with rstLow := false, held := true, test := true } ∧
            d.rd 0x1C = wd (straps % 64) ∧ KeepsBut [0x1C] s.dev d) ∧
        (straps / 32 % 2 = 0 →
          ∃ d, exec (.resetRelease straps) s = .next (after s d) ∧ d.boot = { s.dev.boot with rstLow := false, held := false, warm := false, since := s.dev.uptime } ∧
            d.rd 0x1C = wd (straps % 64) ∧ d.get 0x20010 0 4 = 1 ∧ d.cores = { mc0Away := true, mc1Away := true } ∧
            d.rd 0x40020 = s.dev.rd 0x40020 + 1 ∧ d.bit 0x40014 0 = true ∧ d.rd 0x90010 = 2 ∧ (∀ c, c < 12 → d.rd (celChan c) = 0) ∧
            d.rds 0x40200 12 = sha12 (bytesOf (s.dev.rds 0x40200 12 ++ (List.range 12).map (fun i => Config.romDigest.getD i 0))) ∧
            (∀ a, a ≠ 0x1C → a ≠ 0x20010 → ¬(0x40000 ≤ a ∧ a < 0x50000) → ¬(0x90000 ≤ a ∧ a < 0xA0000) → d.rd a = s.dev.rd a))) ∧
      (s.dev.boot.power = false ∨ s.dev.boot.warm = true ∨ s.dev.boot.test = true ∨ s.dev.get 0x20010 0 4 ≠ 0 →
        exec (.resetRelease straps) s = .next (after s s.dev))) ∧
    (s.dev.boot.held = true → s.dev.boot.warm = true →
      (s.dev.porch.busy = [] →
        ∃ d, exec .warmResetHoldEnd s = .next (after s d) ∧ d.boot = { s.dev.boot with held := false, warm := false, since := max s.dev.uptime (s.dev.boot.since + 20000) } ∧
          d.get 0x20010 0 4 = 1 ∧ d.cores = { mc0Away := true, mc1Away := true } ∧ d.rd 0x40020 = s.dev.rd 0x40020 + 1 ∧ d.rd 0x90010 = 2 ∧
          d.fc.warmMask = none ∧
          d.fc.masks = s.dev.fc.masks ++ (match s.dev.fc.warmMask with | some m => [⟨.device, m.1, max s.dev.uptime (s.dev.boot.since + 20000) + ms m.2⟩] | none => []) ∧
          (∀ a, a ≠ 0x20010 → ¬(0x40000 ≤ a ∧ a < 0x50000) → ¬(0x90000 ≤ a ∧ a < 0xA0000) → d.rd a = s.dev.rd a)) ∧
      (∃ d, exec .warmResetHoldEnd s = .next (after s d) ∧ d.boot.held = false ∧ d.porch.busy = [])) ∧
    (s.dev.boot.held = false ∨ s.dev.boot.warm = false → exec .warmResetHoldEnd s = .next (after s s.dev))

/-- One evaluation slot.
Where the rules leave a point open it follows the model's own choice, log entries 9, 50 and 67. -/
def Obligations.AnEvaluationSlotCountsMasksPromotesAndReacts : Prop :=
  ∀ (s : State), Live s → s.dev.fc.raised = [] →
    exec (.faultSourceEvent [] [] none []) s =
      .next (followed s { s.dev with fc := { s.dev.fc with raised := s.dev.fc.later.headD [], later := s.dev.fc.later.tail } }) ∧
    (∀ i a m x y, srcNamed i = true → srcLives i = false → i ≠ 20 → m < 8 → x < 4 →
      let r : SrcReport := { src := i, addr := a, master := m, access := x, syndrome := y }
      let c := exec (.faultSourceEvent [⟨i, a, m, x, y⟩] [] none []) s
      let n := s.dev.get 0x10070 0 16
      let e := 0x10800 + 0x20 * s.dev.get 0x10074 0 6
      let f := 0x10200 + 0x20 * srcClass i
      let own := [srcCntBase i, srcBase i + 8]
      let captured := (List.range 8).map (fun j => e + 4 * j) ++ [0x10070, 0x10074, 0x10014]
      let head := n + 2 ^ 16 * i + 2 ^ 25 * srcClass i + 2 ^ 29
      (∀ id, s.dev.maskedBy s.dev.fc.masks r = some id →
        ∃ d, c = .next (followed s d) ∧ d.rd (srcCntBase i + 4) = wd (satAdd 32 (s.dev.rd (srcCntBase i + 4)).toNat 1) ∧
          d.rd (srcCntBase i + 8) = wd id ∧ d.bit 0x10014 5 = true ∧ KeepsBut [srcCntBase i + 4, srcCntBase i + 8, 0x10014] s.dev d) ∧
      (s.dev.maskedBy s.dev.fc.masks r = none →
        (s.dev.promotes r = false →
          (s.dev.rd f ≠ 0 →
            ∃ d, c = .next (followed s d) ∧ d.rd (srcCntBase i) = wd (satAdd 32 (s.dev.rd (srcCntBase i)).toNat 1) ∧
              d.bit (srcBase i + 8) 2 = true ∧ i ∈ d.fc.realWin ∧
              (s.dev.bit (srcBase i + 8) 2 = true →
                d.get (srcBase i + 8) 3 8 = satAdd 8 (s.dev.get (srcBase i + 8) 3 8) 1 ∧ d.fc.winEnd = s.dev.fc.winEnd) ∧
              (s.dev.bit (srcBase i + 8) 2 = false →
                d.get (srcBase i + 8) 3 8 = 1 ∧ tabGet 0 d.fc.winEnd i = s.dev.uptime + ms (s.dev.get (srcBase i + 4) 0 22)) ∧
              KeepsBut own s.dev d) ∧
          (s.dev.rd f = 0 →
            ∃ d, c = .next (followed s d) ∧ d.rd (srcCntBase i) = wd (satAdd 32 (s.dev.rd (srcCntBase i)).toNat 1) ∧
              d.rds e 4 = [wd head, wd a, wd (m + 8 * x), wd y] ∧ d.rds f 4 = [wd head, wd a, wd (m + 8 * x), wd y] ∧
              d.rds (f + 0x10) 4 = s.dev.stamp ∧ d.rd 0x10070 = wd (if n = 0xFFFF then 1 else n + 1) ∧ d.bit 0x10014 3 = true ∧
              KeepsBut (own ++ captured ++ (List.range 8).map (fun j => f + 4 * j)) s.dev d)) ∧
        (s.dev.promotes r = true → s.dev.rd f ≠ 0 → i ∉ s.dev.fc.injWin →
          (s.dev.bit (srcBase i + 8) 1 = true →
            ∃ d, c = .next (followed s d) ∧ d.rd (srcCntBase i + 0xC) = wd (satAdd 32 (s.dev.rd (srcCntBase i + 0xC)).toNat 1) ∧
              d.bit 0x10014 1 = true ∧ d.rd e = wd (head + 2 ^ 31) ∧ d.get (e + 8) 8 4 = 1 ∧
              d.bit (srcBase i + 8) 2 = false ∧
              d.fc.masks = s.dev.fc.masks ∧ KeepsBut (own ++ captured ++ [srcCntBase i + 0xC]) s.dev d) ∧
          (s.dev.bit (srcBase i + 8) 1 = false →
            (s.dev.srcReact i ≤ 1 →
              ∃ d, c = .next (followed s d) ∧ d.bit (srcBase i + 8) 0 = true ∧ d.bit (srcBase i + 8) 1 = true ∧
                d.bit (srcBase i + 8) 2 = false ∧ d.get (srcBase i + 8) 3 8 = 0 ∧ d.rd e = wd (head + 2 ^ 31) ∧
                tabGet 0 d.fc.coolEnd i = s.dev.uptime + ms (10 * s.dev.get (0x10040 + 4 * s.dev.srcReact i) 16 16) ∧
                (s.dev.srcReact i = 1 → d.bit 0x10014 0 = true) ∧ d.fc.masks = s.dev.fc.masks ∧ KeepsBut (own ++ captured) s.dev d) ∧
            (s.dev.srcReact i = 2 → 128 ≤ i → i < 256 →
              ∃ d, c = .next (followed s d) ∧ d.bit (srcBase i + 8) 0 = true ∧
                (.lane (i % 64), s.dev.uptime + 200 * s.dev.get 0x10060 0 17) ∈ d.fc.holds ∧
                d.fc.masks = s.dev.fc.masks ++ [⟨.lane (i % 64), n, s.dev.uptime + ms (s.dev.get 0x10048 0 16)⟩]) ∧
            (s.dev.srcReact i = 3 → s.dev.pwRole ≠ 2 ∨ s.dev.pw.mateStandby = false ∨ s.dev.pw.up = false →
              ∃ d, c = .next (followed s d) ∧ d.bit (srcBase i + 8) 0 = s.dev.bit (srcBase i + 8) 0 ∧ d.rd 0x70060 = 2 ∧
                d.rd e = wd (head + 2 ^ 31) ∧ d.fc.masks = s.dev.fc.masks ∧ d.pwRole = s.dev.pwRole) ∧
            (s.dev.srcReact i = 3 → s.dev.pwRole = 2 → s.dev.pw.mateStandby = true → s.dev.pw.up = true →
              ∃ d, c = .next (followed s d) ∧ d.bit (srcBase i + 8) 0 = true ∧ d.pwRole = 1 ∧ d.pw.stopping = some true ∧
                d.fc.masks = s.dev.fc.masks ++ [⟨.device, n, s.dev.uptime + ms (s.dev.get 0x1004C 0 16)⟩]) ∧
            (s.dev.srcReact i = 4 → s.dev.fc.safe = false →
              ∃ d, c = .next (followed s d) ∧ d.fc.safe = true ∧ d.rd 0x10078 = wd (n + 2 ^ 16) ∧ d.bit 0x10014 2 = true ∧
                d.bit (srcBase i + 8) 0 = true ∧ d.pwRole ≠ 2 ∧
                d.fc.masks = s.dev.fc.masks ++ [⟨.device, n, s.dev.uptime + ms (s.dev.get 0x10050 0 16)⟩]) ∧
            (s.dev.srcReact i = 5 → s.dev.get 0x20010 0 4 = 7 →
              ∃ d, c = .next (followed s d) ∧ d.boot.held = true ∧ d.boot.warm = true ∧ d.rd 0x24 = 4 ∧
                d.fc.warmMask = some (n, s.dev.get 0x10054 0 16) ∧ d.fc.safe = false ∧ d.rd e = wd (head + 2 ^ 31) ∧
                d.rd 0x1C = s.dev.rd 0x1C ∧ d.rd 0x10 = resetWord 0x10 ∧ d.rd 0x80030 = s.dev.rd 0x80030))))) ∧
    (∀ t, s.dev.fcLive 39 = false → s.dev.fcLive 40 = false → t ≤ 440 →
      (t ≤ 4 * (s.dev.get 0x10068 0 8 : Nat) → s.dev.fc.later = [] → exec (.faultSourceEvent [] [] (some t) []) s = .next (followed s (s.dev.wr 0x1006C (wd (unsigned 12 t))))) ∧
      (4 * (s.dev.get 0x10068 0 8 : Nat) < t → s.dev.srcReact 39 ≤ 1 →
        ∃ d, exec (.faultSourceEvent [] [] (some t) []) s = .next (followed s d) ∧ d.rd 0x1006C = wd (unsigned 12 t) ∧ d.fcLive 39 = true ∧
          d.fcLive 40 = false)) ∧
    (∀ mv, s.dev.fc.railWarn = [] → s.dev.fc.railCrit = [] → s.dev.fc.later = [] →
      (713 ≤ mv → mv ≤ 787 → exec (.faultSourceEvent [] [] none [(0, mv)]) s = .next (followed s s.dev)) ∧
      (mv ≤ 712 ∨ 788 ≤ mv → 675 ≤ mv → mv ≤ 825 → s.dev.srcReact 41 ≤ 1 →
        ∃ d, exec (.faultSourceEvent [] [] none [(0, mv)]) s = .next (followed s d) ∧ d.fcLive 41 = true ∧ d.fc.railWarn = [0] ∧
          d.fc.railCrit = [])) ∧
    (∀ t, s.dev.fcLive 39 = true → s.dev.fcLive 40 = false → t ≤ 4 * (((s.dev.get 0x10068 0 8 : Nat) : Int) - 5) → t ≤ 440 →
      ∃ d, exec (.faultSourceEvent [] [] (some t) []) s = .next (followed s d) ∧ d.fcLive 39 = false ∧
        KeepsBut [0x1006C, srcBase 39 + 8] s.dev d)

/-- The timers and commands of the Fault Collector.
Where the rules leave a point open it follows the model's own choice, log entries 7 and 50. -/
def Obligations.FaultTimersInjectionAndCommands : Prop :=
  ∀ (s : State), Live s →
    (∀ i,
      (s.dev.bit (srcBase i + 8) 2 = true →
        ∃ d, exec (.faultWindowExpiry i) s = .next (after s d) ∧ d.bit (srcBase i + 8) 2 = false ∧ d.get (srcBase i + 8) 3 8 = 0 ∧
          i ∉ d.fc.realWin ∧ i ∉ d.fc.injWin ∧ tabGet 0 s.dev.fc.winEnd i ≤ d.uptime ∧ KeepsBut [srcBase i + 8] s.dev d) ∧
      (s.dev.bit (srcBase i + 8) 2 = false → exec (.faultWindowExpiry i) s = .next (after s s.dev)) ∧
      (s.dev.bit (srcBase i + 8) 1 = true →
        ∃ d, exec (.cooldownEnd i) s = .next (after s d) ∧ d.bit (srcBase i + 8) 0 = false ∧ d.bit (srcBase i + 8) 1 = false ∧
          tabGet 0 s.dev.fc.coolEnd i ≤ d.uptime ∧ d.fc = s.dev.fc ∧ KeepsBut [srcBase i + 8] s.dev d) ∧
      (s.dev.bit (srcBase i + 8) 1 = false → exec (.cooldownEnd i) s = .next (after s s.dev))) ∧
    (∃ d, exec .maskEnd s = .next (after s d) ∧ d.regs = s.dev.regs ∧ s.dev.uptime ≤ d.uptime ∧
      d.fc = { s.dev.fc with masks := s.dev.fc.masks.filter (fun m => decide (d.uptime < m.till)) } ∧
      (s.dev.fc.masks ≠ [] → ∃ m ∈ s.dev.fc.masks, m ∉ d.fc.masks)) ∧
    (∃ d, exec .isolateHoldEnd s = .next (followed s d) ∧ s.dev.uptime ≤ d.uptime ∧
      d.fc.holds = s.dev.fc.holds.filter (fun e => decide (d.uptime < e.2)) ∧ d.fc.masks = s.dev.fc.masks ∧
      (s.dev.fc.holds ≠ [] → ∃ e ∈ s.dev.fc.holds, e ∉ d.fc.holds) ∧
      (∀ n t, s.dev.fc.holds = [(.lane n, t)] → d = { s.dev with uptime := max s.dev.uptime t, fc := d.fc } ∧ d.fc.holds = [])) ∧
    (∀ core since,
      (3 ≤ s.dev.get 0x20010 0 4 → s.dev.get 0x20010 0 4 ≤ 7 → s.dev.opKindRunning 6 = false → s.dev.get 0x10064 0 14 ≤ since →
        ∃ d, exec (.wdogExpiry core since) s = .next (after s d) ∧ Raised d (if core = 0 then 37 else 38) ∧ d = { s.dev with fc := d.fc }) ∧
      (s.dev.get 0x20010 0 4 < 3 ∨ 7 < s.dev.get 0x20010 0 4 ∨ s.dev.opKindRunning 6 = true ∨ since < s.dev.get 0x10064 0 14 → exec (.wdogExpiry core since) s = .next (after s s.dev))) ∧
    (∀ i x,
      (s.dev.fc.injections.find? (fun y => y.src == i) = some x →
        ∃ d, exec (.injectedEvent i) s = .next (after s d) ∧ d.regs = s.dev.regs ∧ x.due ≤ d.uptime ∧
          (if s.dev.fc.raised.any (fun y => y.src == i && y.inj) then
            d.fc.raised = s.dev.fc.raised ∧ ∃ l ∈ d.fc.later, { src := i, real := false, inj := true } ∈ l
           else d.fc.raised = s.dev.fc.raised ++ [{ src := i, real := false, inj := true }] ∧ d.fc.later = s.dev.fc.later) ∧
          (x.left ≤ 1 → d.fc.injections.find? (fun y => y.src == i) = none) ∧
          (1 < x.left → { x with left := x.left - 1, due := d.uptime + ms x.gap } ∈ d.fc.injections)) ∧
      (s.dev.fc.injections.find? (fun y => y.src == i) = none → exec (.injectedEvent i) s = .next (after s s.dev))) ∧
    (∀ m, Ready s m →
      (∀ i v, i < 512 → v.toNat < 2 ^ 16 → fld v 0 8 ≠ 0 →
        (srcNamed i = true →
          ∃ d, exec (.srcInj m i v) s = .next (accepted s m d) ∧ d.regs = s.dev.regs ∧ ⟨i, fld v 0 8, fld v 8 8, s.dev.uptime⟩ ∈ d.fc.injections ∧
            (∀ y ∈ d.fc.injections, y.src ≠ i → y ∈ s.dev.fc.injections)) ∧
        (srcNamed i = false →
          ∃ t, exec (.srcInj m i v) s = .next t ∧ tabGet {} t.dev.bus.done m = { status := .range } ∧ t.dev.fc.injections = s.dev.fc.injections ∧
            t.dev.rd 0x10080 = wd (i + 2 ^ 12 * 3) ∧ t.dev.bit 0x10014 6 = true)) ∧
      (s.dev.fcLive 40 = true ∨ s.dev.fcLive 42 = true →
        ∃ t, exec (.safeExit m) s = .next t ∧ tabGet {} t.dev.bus.done m = { status := .range } ∧ t.dev.fc.safe = s.dev.fc.safe ∧
          t.dev.rd 0x10080 = wd (2 ^ 12 * 2) ∧ t.dev.pwRole = s.dev.pwRole) ∧
      (s.dev.fcLive 40 = false → s.dev.fcLive 42 = false →
        (s.dev.fc.safe = false → exec (.safeExit m) s = .next (accepted s m s.dev)) ∧
        (s.dev.fc.safe = true →
          ∃ d, exec (.safeExit m) s = .next (accepted s m d) ∧ d.fc.safe = false ∧ d.fc.masks = s.dev.fc.masks ∧
            (s.dev.pw.actIn = true → d.pwRole = (if s.dev.pwRole = 0 then 1 else s.dev.pwRole)) ∧
            (s.dev.pwRole = 2 → d.regs = s.dev.regs ∧ d.pw = s.dev.pw))) ∧
      (∃ d, exec (.logClear m) s = .next (accepted s m d) ∧ d.rd 0x10070 = 1 ∧ d.rd 0x10074 = 0 ∧
        (∀ a, 0x10800 ≤ a → a < 0x11000 → d.rd a = resetWord a) ∧
        (∀ a, ¬(0x10800 ≤ a ∧ a < 0x11000) → a ≠ 0x10070 → a ≠ 0x10074 → d.rd a = s.dev.rd a)) ∧
      (∀ classes, ∃ d, exec (.fcRearm m classes) s = .next (accepted s m d) ∧
        (∀ c j, c < 10 → j < 8 → d.rd (0x10200 + 0x20 * c + 4 * j) =
          (if classes / 2 ^ c % 2 = 1 then 0 else s.dev.rd (0x10200 + 0x20 * c + 4 * j))) ∧
        (∀ a, ¬(0x10200 ≤ a ∧ a < 0x10340) → d.rd a = s.dev.rd a) ∧ d.fc = s.dev.fc)) ∧
    (∀ i timeout value, i < 12 →
      (s.dev.inputUsed i = true → inputFails i timeout value = true → s.dev.fcLive (448 + i) = false →
        ∃ d, exec (.inputConditionEnter i timeout value) s = .next (after s d) ∧ d.fcLive (448 + i) = true ∧ Raised d (448 + i) ∧
          KeepsBut [srcBase (448 + i) + 8] s.dev d) ∧
      (s.dev.inputUsed i = false ∨ inputFails i timeout value = false ∨ s.dev.fcLive (448 + i) = true →
        ∃ d, exec (.inputConditionEnter i timeout value) s = .next (after s d) ∧ d.regs = s.dev.regs ∧ d.fc = s.dev.fc ∧
          (i = 3 → timeout = 2 → d.bus.stopped.contains .pcie = true)))

/-- The Pantry engine.
Where the rules leave a point open it follows the model's own choice, log entries 9 and 53. -/
def Obligations.FlashCommandsRunStepByStepAndOwnersEnrol : Prop :=
  ∀ (s : State), Live s →
    (∀ m target fop c, Ready s m → target < 8 →
      ((fop = 1 ∧ c = .flashErase m target) ∨ (fop = 2 ∧ c = .flashProgram m target) ∨ (fop = 3 ∧ c = .flashRead m target) ∨
        (fop = 4 ∧ c = .flashVerify m target) ∨ (fop = 5 ∧ target = 4 ∧ c = .dirWrite m)) →
      let addr := (s.dev.rd 0x20084).toNat
      let field := (fop ≠ 5 ∧ 4 ≤ target) ∨ ((fop = 2 ∨ fop = 3) ∧ (addr % 256 ≠ 0 ∨ s.dev.flashLen % 4 ≠ 0 ∨ 32768 < s.dev.flashLen))
      let busy := s.dev.bit 0x2008C 0 = true ∨ (s.dev.get 0x20010 0 4 ≠ 7 ∧ s.dev.get 0x20010 0 4 ≠ 8)
      let active := (fop = 1 ∨ fop = 2) ∧ s.dev.slotActive target = true
      let beyond := (fop = 2 ∨ fop = 3) ∧ s.dev.slotCap target < addr + s.dev.flashLen
      let refused : Nat → Status → Prop := fun x st =>
        ∃ t, exec c s = .next t ∧ tabGet {} t.dev.bus.done m = { status := st } ∧ t.dev.rd 0x200A4 = wd x ∧ t.dev.bit 0x20094 1 = true ∧
          t.dev.rd 0x200A0 = wd (satAdd 32 (s.dev.rd 0x200A0).toNat 1) ∧ t.dev.pantry = s.dev.pantry
      (field → refused 0 .range) ∧
      (¬field → busy → refused 1 .busy) ∧
      (¬field → ¬busy → active → refused 2 .range) ∧
      (¬field → ¬busy → ¬active → beyond → refused 3 .range) ∧
      (¬field → ¬busy → ¬active → ¬beyond → fop = 5 → s.dev.dirInvalid = true → refused 5 .range) ∧
      (¬field → ¬busy → ¬active → ¬beyond → (fop = 5 → s.dev.dirInvalid = false) →
        (s.dev.opPick = none → refused 6 .busy) ∧
        (∀ k, s.dev.opPick = some k →
          ∃ d, exec c s = .next (accepted s m d) ∧ d.bit 0x2008C 0 = true ∧ d.rd 0x20090 = s.dev.rd 0x104 ∧ d.rd (oprecBase k) = s.dev.rd 0x104 ∧
            d.get (oprecBase k + 4) 0 8 = 5 ∧ d.get (oprecBase k + 4) 12 2 = 1 ∧
            d.pantry.cmd = some { fop := fop, target := target, op := k, total := s.dev.flashSteps fop target, off := addr, len := s.dev.flashLen } ∧
            d.rd (oprecBase k + 8) = wd (if fop = 1 then s.dev.slotCap target / 65536
              else if fop = 2 then (addr + s.dev.flashLen - 1) / 256 - addr / 256 + 1 else if fop = 5 then 2 else 1)))) ∧
    (∀ c o, s.dev.pantry.cmd = some c → c.op < 16 → c.target < 4 ∨ c.fop = 5 →
      let ends : Instr → Status → Status → Prop := fun x st res =>
        ∃ d, exec x s = .next (after s d) ∧ d.pantry.cmd = none ∧ d.bit 0x2008C 0 = false ∧ d.get 0x2008C 4 4 = st.code ∧
          d.bit 0x20094 0 = true ∧ d.get (oprecBase c.op + 4) 12 2 = 2 ∧ d.get (oprecBase c.op + 4) 8 4 = res.code ∧
          d.rd (oprecBase c.op + 0x10) = wd c.done ∧ d.rd (oprecBase c.op + 0x14) = wd st.code
      (o.same = false → ends (.flashStepDone o) .ecc (if 0 < c.done then .partly else .abandoned)) ∧
      ends .flashStepTimeout .timeout (if 0 < c.done then .partly else .abandoned) ∧
      (o.same = true → c.done + 1 < c.total →
        ∃ d, exec (.flashStepDone o) s = .next (after s d) ∧ d.pantry = { s.dev.pantry with cmd := some { c with done := c.done + 1 } } ∧
          d.rd (oprecBase c.op + 0xC) = wd (max (c.done + 1) (s.dev.rd (oprecBase c.op + 0xC)).toNat) ∧ KeepsBut [oprecBase c.op + 0xC] s.dev d) ∧
      (o.same = true → c.total ≤ c.done + 1 → (c.fop = 3 → c.len ≤ 32768) →
        ∃ d, exec (.flashStepDone o) s = .next (after s d) ∧ d.pantry.cmd = none ∧ d.bit 0x2008C 0 = false ∧ d.get 0x2008C 4 4 = 0 ∧
          d.bit 0x20094 0 = true ∧ d.get (oprecBase c.op + 4) 12 2 = 2 ∧ d.get (oprecBase c.op + 4) 8 4 = 0 ∧
          (c.fop = 1 → d.knownEmpty c.target = true) ∧
          (c.fop = 2 → c.off = 0 → fld (s.dev.rd 0x28000) 0 32 ≠ 0xFFFFFFFF → d.knownEmpty c.target = false) ∧
          (∀ w, c.fop = 3 → c.len = 4 → o.data = wordBytesLE w → d.rd 0x28000 = w) ∧
          (c.fop = 4 → d.rd (0x20060 + 4 * c.target) = wd (slotGen o.slot) ∧ d.bit (0x20050 + 4 * c.target) 0 = slotEmpty o.slot ∧
            d.bit (0x20050 + 4 * c.target) 1 = s.dev.slotOk c.target o.slot ∧ d.bit (0x20050 + 4 * c.target) 3 = true) ∧
          (c.fop = 5 → d.boot.dir = dirSlots (s.dev.winBytes 64) ∧ d.get 0x20040 0 1 = 1 - s.dev.get 0x20040 0 1 ∧
            d.rd 0x20044 = wd (dirGen (s.dev.winBytes 64)) ∧ d.rd 0x40020 = s.dev.rd 0x40020 + 1 ∧ d.bit 0x20040 1 = (s.dev.bit 0x20040 1 || s.dev.get 0x20040 0 1 == 1) ∧
            d.bit 0x20040 2 = (s.dev.bit 0x20040 2 || s.dev.get 0x20040 0 1 == 0)))) ∧
    (s.dev.pantry.cmd = none → (∀ o, exec (.flashStepDone o) s = .next (after s s.dev)) ∧ exec .flashStepTimeout s = .next (after s s.dev)) ∧
    (∀ m off b, Ready s m → off < 0x8000 →
      (s.dev.winBusy = false →
        ∃ d, exec (.flashWinWrite m off b) s = .next (accepted s m d) ∧ Only [0x28000 + off / 4 * 4] s.dev d ∧
          (∀ j, j < 4 → d.get (0x28000 + off / 4 * 4) (8 * j) 8 = (if j = off % 4 then b.toNat else s.dev.get (0x28000 + off / 4 * 4) (8 * j) 8))) ∧
      (s.dev.winBusy = true →
        ∃ t, exec (.flashWinWrite m off b) s = .next t ∧ tabGet {} t.dev.bus.done m = { status := .busy } ∧ t.dev.rd 0x200A4 = 1 ∧
          t.dev.rd (0x28000 + off / 4 * 4) = s.dev.rd (0x28000 + off / 4 * 4))) ∧
    (∀ m, Ready s m →
      let key := s.dev.rds 0x200C0 12
      let refused : Nat → Status → Prop := fun x st =>
        ∃ t, exec (.enroll m) s = .next t ∧ tabGet {} t.dev.bus.done m = { status := st } ∧ t.dev.rd 0x200A4 = wd x ∧
          t.dev.pantry = s.dev.pantry ∧ t.dev.boot.otp = s.dev.boot.otp
      let void := (∀ w ∈ key, w = 0) ∨ (∀ w ∈ key, w = 0xFFFFFFFF)
      (s.dev.boot.otp ≠ [] →
        ∃ t, exec (.enroll m) s = .next t ∧ tabGet {} t.dev.bus.done m = { status := .locked } ∧ t.dev.rd 0x200A4 = s.dev.rd 0x200A4 ∧
          t.dev.rd 0x200A0 = wd (satAdd 32 (s.dev.rd 0x200A0).toNat 1) ∧ t.dev.pantry = s.dev.pantry ∧ t.dev.boot.otp = s.dev.boot.otp) ∧
      (s.dev.boot.otp = [] → s.dev.bit 0x2008C 0 = true ∨ s.dev.pantry.enrolling.isSome = true → refused 1 .busy) ∧
      (s.dev.boot.otp = [] → s.dev.bit 0x2008C 0 = false → s.dev.pantry.enrolling = none → void → refused 4 .range) ∧
      (s.dev.boot.otp = [] → ¬void → s.dev.bit 0x2008C 0 = false → s.dev.pantry.enrolling = none →
        ∃ d, exec (.enroll m) s = .next (accepted s m d) ∧ d = { s.dev with pantry := { s.dev.pantry with enrolling := some key } })) ∧
    (∀ key, s.dev.pantry.enrolling = some key →
      ∃ d, exec .enrollDone s = .next (after s d) ∧ d.boot = { s.dev.boot with otp := key } ∧ d.pantry.enrolling = none ∧ d.bit 0x20094 2 = true ∧
        d.rd 0x40020 = s.dev.rd 0x40020 + 1 ∧ (∀ a, a ≠ 0x20094 → ¬(0x40000 ≤ a ∧ a < 0x50000) → d.rd a = s.dev.rd a)) ∧
    (s.dev.pantry.enrolling = none → exec .enrollDone s = .next (after s s.dev))

/-- The boot sequence up to the configuration load.
Where the rules leave a point open it follows the model's own choice, log entries 9, 59 and 60. -/
def Obligations.BootFindsItsImagesAndStartsTheCores : Prop :=
  ∀ (s : State), Live s →
    let phase := s.dev.get 0x20010 0 4
    let halts : Instr → Nat → Prop := fun c cause =>
      ∃ d, exec c s = .next (after s d) ∧ d.get 0x20010 0 4 = 8 ∧ d.get 0x20010 12 4 = cause ∧ d.bit 0x20014 4 = true ∧
        d.cores = { mc0Away := true, mc1Away := true }
    (∀ o, phase = 1 →
      ((s.dev.bit 0x1C 2 = false ∧ 2500 < o.nvm) ∨ (s.dev.bit 0x1C 2 = true ∧ o.nvm < 3000) →
        halts (.flashDiscoveryDone o) 5 ∧ ∃ t, exec (.flashDiscoveryDone o) s = .next t ∧ Raised t.dev 42) ∧
      (s.dev.nvmBad o.nvm = false → o.sfdp = false ∨ o.log2 < 25 ∨ 28 < o.log2 → halts (.flashDiscoveryDone o) 1) ∧
      (s.dev.nvmBad o.nvm = false → o.sfdp = true → 25 ≤ o.log2 → o.log2 ≤ 28 →
        (dirValid (2 ^ o.log2) o.dir0 = false → dirValid (2 ^ o.log2) o.dir1 = false → halts (.flashDiscoveryDone o) 2) ∧
        (∀ copy dir, (copy = 0 ∧ dir = o.dir0 ∧ (dirValid (2 ^ o.log2) o.dir1 = false ∨ dirGen o.dir1 ≤ dirGen o.dir0)) ∨
            (copy = 1 ∧ dir = o.dir1 ∧ (dirValid (2 ^ o.log2) o.dir0 = false ∨ dirGen o.dir0 < dirGen o.dir1)) →
          dirValid (2 ^ o.log2) dir = true →
          ∃ d, exec (.flashDiscoveryDone o) s = .next (after s d) ∧ d.get 0x20010 0 4 = 2 ∧ d.boot.dir = dirSlots dir ∧
            d.get 0x20040 0 1 = copy ∧ d.bit 0x20040 1 = dirValid (2 ^ o.log2) o.dir0 ∧ d.bit 0x20040 2 = dirValid (2 ^ o.log2) o.dir1 ∧
            d.rd 0x20044 = wd (dirGen dir) ∧ d.get 0x20048 0 8 = o.log2 ∧ KeepsBut [0x20010, 0x20040, 0x20044, 0x20048] s.dev d))) ∧
    (∀ o, phase ≠ 1 → exec (.flashDiscoveryDone o) s = .next (after s s.dev)) ∧
    (∀ a b, phase = 2 →
      (s.dev.slotOk 0 a = false → s.dev.slotOk 1 b = false → halts (.fwImageLoaded a b) 3) ∧
      (∀ slot x other y, (slot = 0 ∧ x = a ∧ other = 1 ∧ y = b) ∨ (slot = 1 ∧ x = b ∧ other = 0 ∧ y = a) → s.dev.slotOk slot x = true →
        let first := slotGen y < slotGen x ∨ (slotGen y = slotGen x ∧ s.dev.bit 0x1C 1 = (slot == 1))
        slotEmpty y = true ∨ first ∨ s.dev.slotOk other y = false →
        ∃ d, exec (.fwImageLoaded a b) s = .next (after s d) ∧ d.get 0x20010 0 4 = 3 ∧ d.get 0x20010 4 1 = slot ∧ d.rd 0x20020 = wd (slotGen x) ∧
          d.rd 0x20030 = wd (leAt x.hdr 20 4) ∧ d.rd 0x40020 = s.dev.rd 0x40020 + 1 ∧
          (¬first → slotEmpty y = false → d.bit 0x20014 2 = true) ∧
          (first ∨ slotEmpty y = true → d.bit 0x20014 2 = s.dev.bit 0x20014 2))) ∧
    (∀ a b, phase ≠ 2 → exec (.fwImageLoaded a b) s = .next (after s s.dev)) ∧
    (phase = 3 →
      halts .coreStartTimeout 4 ∧
      ∃ d, exec .coreStartReport s = .next (after s d) ∧ d.get 0x20010 0 4 = 4 ∧ d.cores = { mc0Away := false, mc1Away := false } ∧
        d.pw.held = [] ∧ (s.dev.pw.held = [] → KeepsBut [0x20010] s.dev d)) ∧
    (phase ≠ 3 → exec .coreStartTimeout s = .next (after s s.dev) ∧ exec .coreStartReport s = .next (after s s.dev)) ∧
    (∀ a b, phase = 4 →
      (s.dev.slotOk 2 a = false → s.dev.slotOk 3 b = false →
        ∃ d, exec (.cfgImageVerified a b) s = .next (after s d) ∧ d.get 0x20010 0 4 = 7 ∧ d.bit 0x20014 0 = true ∧
          d.rd 0x20028 = wd (min 0xFFFFFFFF ((s.dev.uptime - s.dev.boot.since) / clocksPerMs)) ∧ d.boot.load = s.dev.boot.load) ∧
      (∀ slot x y k, (slot = 2 ∧ x = a ∧ y = b) ∨ (slot = 3 ∧ x = b ∧ y = a) → s.dev.slotOk slot x = true → slotEmpty y = true →
        s.dev.opPick = some k →
        let l : Load :=
          { op := some k, slot := slot, count := leAt x.hdr 16 4
            body := (bytesWords (x.body.take (slotLen x))).map (fun w => wd (bytesNat (wordBytesLE w))) }
        l.malformed = false →
        ∃ d, exec (.cfgImageVerified a b) s = .next (after s d) ∧ d.get 0x20010 0 4 = 5 ∧ d.boot.load = some l ∧ d.boot.tried = [slot] ∧
          d.rd 0x2002C = s.dev.rd 0x104 ∧ d.rd (oprecBase k) = s.dev.rd 0x104 ∧ d.get (oprecBase k + 4) 0 8 = 4 ∧
          d.get (oprecBase k + 4) 12 2 = 1 ∧ d.rd (oprecBase k + 8) = wd (leAt x.hdr 16 4) ∧ d.rd 0x40020 = s.dev.rd 0x40020 + 1)) ∧
    (∀ a b, phase = 4 → s.dev.slotOk 2 a = true → slotEmpty b = true → s.dev.opPick = none →
      ∃ d, exec (.cfgImageVerified a b) s = .next (after s d) ∧ d.get 0x20010 0 4 = 7 ∧ d.bit 0x20014 0 = true ∧ d.boot.load = s.dev.boot.load ∧
        d.rd 0x9C = wd (satAdd 32 (s.dev.rd 0x9C).toNat 1)) ∧
    (∀ a b, phase ≠ 4 → s.dev.boot.load = none → exec (.cfgImageVerified a b) s = .next (after s s.dev)) ∧
    (∀ l, phase = 6 → s.dev.boot.load = some l → l.slot = 2 ∨ l.slot = 3 →
      let other := 5 - l.slot
      let o := if l.slot = 2 then s.dev.boot.cfgB else s.dev.boot.cfgA
      (other ∈ s.dev.boot.tried ∨ slotEmpty o = true →
        ∃ d, exec .cfgClearDone s = .next (after s d) ∧ d.get 0x20010 0 4 = 7 ∧ d.boot.load = none ∧ d.bit 0x20014 0 = true ∧
          d.lanes = [] ∧ d.tcs = [] ∧ d.fc = s.dev.fc ∧ d.porch = s.dev.porch ∧ (∀ a, clearKeeps a = false → (∀ r, rowOf a = some r → r.acc ≠ .lock) → d.rd a = resetWord a) ∧
          (∀ b, b < 14 → d.bit (0x10000 * b + 0xC) 0 = s.dev.bit (0x10000 * b + 0xC) 0) ∧
          (∀ a, clearKeeps a = true → a ≠ 0x20010 → a ≠ 0x20014 → a ≠ 0x20028 → d.rd a = s.dev.rd a)) ∧
      (other ∉ s.dev.boot.tried → slotEmpty o = false → s.dev.slotOk other o = false →
        ∃ d, exec .cfgClearDone s = .next (after s d) ∧ d.get 0x20010 0 4 = 7 ∧ d.boot.load = none ∧ d.bit 0x20014 3 = true) ∧
      (other ∉ s.dev.boot.tried → s.dev.slotOk other o = true →
        ({ op := some 0, slot := other, count := leAt o.hdr 16 4, fallback := true
           body := (bytesWords (o.body.take (slotLen o))).map (fun w => wd (bytesNat (wordBytesLE w))) } : Load).malformed = false →
        ∃ d l2, exec .cfgClearDone s = .next (after s d) ∧ d.get 0x20010 0 4 = 5 ∧ d.boot.load = some l2 ∧ l2.slot = other ∧ l2.fallback = true ∧
          l2.op = some 0 ∧ d.bit 0x20014 3 = true ∧ d.lanes = [])) ∧
    (phase ≠ 6 ∨ s.dev.boot.load = none → s.dev.boot.load = none ∨ phase ≠ 5 → exec .cfgClearDone s = .next (after s s.dev))

/-- The records of the configuration load.
Where the rules leave a point open it follows the model's own choice, log entries 60 and 61. -/
def Obligations.ConfigurationRecordsAreAppliedOrFailTheLoad : Prop :=
  ∀ (s : State), Live s →
    let failed : Instr → Load → Nat → Status → Nat → Prop := fun c l kind st pw =>
      ∃ d, exec c s = .next (after s d) ∧ RecordFailed l kind st pw d
    let outcome : Instr → Load → Status → Nat → Device → Prop := fun c l st pw d0 =>
      (st = .ok → (afterRecord l).malformed = false → ∃ d, exec c s = .next (after s d) ∧ RecordApplied l d0 d) ∧
      (st = .ok → (afterRecord l).malformed = true → failed c (afterRecord l) 1 .range 0) ∧ (st ≠ .ok → failed c l 0 st pw)
    (∀ c typ, (c, typ) ∈ [(Instr.cfgWr32, 1), (.cfgWrm32 false, 2), (.cfgWrm32 true, 2),
        (.cfgWr128, 3), (.cfgFill, 4), (.cfgBlock, 5), (.cfgDelay, 7), (.commitCfg, 8),
        (.cfgLock, 9)] → s.dev.nextRec typ = none → exec c s = .next (after s s.dev)) ∧
    (∀ o, s.dev.nextRec 15 = none → exec (.cfgEnd o) s = .next (after s s.dev)) ∧
    (∀ l a v, s.dev.nextRec 1 = some (l, [a, v]) →
      let x := s.dev.loadWord a.toNat v
      x.2.loading = some l → outcome .cfgWr32 l x.1 1 x.2) ∧
    (∀ l a mask v ecc, s.dev.nextRec 2 = some (l, [a, mask, v]) →
      let x := (s.dev.drainFor a.toNat).rmwNow 3 a.toNat mask v ecc
      x.2.2.loading = some l → outcome (.cfgWrm32 ecc) l x.1 2 x.2.2) ∧
    (∀ l a ws, s.dev.nextRec 3 = some (l, a :: ws) →
      (domainAt a.toNat = none →
        let x := s.dev.writeWords 3 a.toNat 0 ws
        x.2.2.2.loading = some l → outcome .cfgWr128 l x.1 (1 + x.2.1) x.2.2.2) ∧
      (domainAt a.toNat ≠ none →
        let x := s.dev.loadWords a.toNat 0 ws
        x.2.2.loading = some l → outcome .cfgWr128 l x.1 (1 + x.2.1) x.2.2)) ∧
    (∀ l a n v, s.dev.nextRec 4 = some (l, [a, n, v]) →
      let x := s.dev.loadWords a.toNat 0 (List.replicate n.toNat v)
      x.2.2.loading = some l → outcome .cfgFill l x.1 2 x.2.2) ∧
    (∀ l a ws, s.dev.nextRec 5 = some (l, a :: ws) →
      let x := s.dev.loadWords a.toNat 0 ws
      x.2.2.loading = some l → outcome .cfgBlock l x.1 (1 + x.2.1) x.2.2) ∧
    (∀ i, i < 12 → s.dev.staged 3 = none →
      let a := 0x40040 + 4 * i
      let runs : Instr → Load → (Device → Prop) → Prop := fun c l p =>
        (afterRecord l).malformed = false → (∀ k, l.op = some k → k < 16) →
        ∃ d, exec c s = .next (after s d) ∧ d.boot.load = some (afterRecord l) ∧ p d
      (∀ l v, s.dev.nextRec 1 = some (l, [wd a, v]) → runs .cfgWr32 l (fun d => d.rd a = v)) ∧
      (∀ l mask v, s.dev.nextRec 2 = some (l, [wd a, mask, v]) →
        runs (.cfgWrm32 false) l (fun d => d.rd a = (s.dev.rd a &&& ~~~mask) ||| (v &&& mask))) ∧
      (∀ l ws, i + ws.length ≤ 12 →
        (s.dev.nextRec 3 = some (l, wd a :: ws) → runs .cfgWr128 l (fun d => d.rds a ws.length = ws)) ∧
        (s.dev.nextRec 5 = some (l, wd a :: ws) → runs .cfgBlock l (fun d => d.rds a ws.length = ws))) ∧
      (∀ l n v, i + n ≤ 12 → s.dev.nextRec 4 = some (l, [wd a, wd n, v]) →
        runs .cfgFill l (fun d => d.rds a n = List.replicate n v)) ∧
      (∀ l mask val t, s.dev.nextRec 6 = some (l, [wd a, mask, val, t]) →
        (s.dev.rd a &&& mask = val → runs (.cfgPoll false) l (fun d => d.rd a = s.dev.rd a)) ∧
        (s.dev.rd a &&& mask ≠ val →
          ∃ d, exec (.cfgPoll false) s = .next (after s d) ∧ d.boot.load = some { l with wait := some (.poll a mask val (s.dev.uptime + 200 * t.toNat)) }))) ∧
    (∀ l pl k, s.dev.nextRec 8 = some (l, pl) → s.dev.staged 3 = none → s.dev.bit 0x50 2 = false → s.dev.opPick = some k →
      ∃ d, exec .commitCfg s = .next (after s d) ∧ d.boot.load = some { l with wait := some (.commit (s.dev.uptime + ms 100)) } ∧ d.bit 0x50 2 = true ∧
        d.crc.commitRec = some k) ∧
    (∀ l pl o, s.dev.nextRec 15 = some (l, pl) → slotSum o = slotDigest (s.dev.loadImage l) → l.locks = [] → l.fallback = false → (∀ k, l.op = some k → k < 16) →
      (∀ k, s.dev.pw.op = some k → k < 16) →
      ∃ d, exec (.cfgEnd o) s = .next (after s d) ∧ d.get 0x20010 0 4 = 7 ∧ d.boot.load = none ∧ d.bit 0x20010 6 = true) ∧
    (∀ l a mask val till ecc,
      (∃ t, s.dev.nextRec 6 = some (l, [wd a, mask, val, t]) ∧ a < 2 ^ 32 ∧ till = s.dev.uptime + 200 * t.toNat) ∨
        (s.dev.loading = some l ∧ l.wait = some (.poll a mask val till)) →
      let x := s.dev.readEcc 3 a ecc
      x.2.2.loading = some l →
      (x.1 = .ok → x.2.1 &&& mask ≠ val →
        exec (.cfgPoll ecc) s = .next (after s { x.2.2 with boot := { x.2.2.boot with load := some { l with wait := some (.poll a mask val till) } } })) ∧
      (x.1 = .ok → x.2.1 &&& mask = val → outcome (.cfgPoll ecc) l .ok 0 x.2.2) ∧
      (x.1 ≠ .ok → failed (.cfgPoll ecc) l 0 x.1 0)) ∧
    (∀ l a mask val till, s.dev.loading = some l → l.wait = some (.poll a mask val till) → failed .pollTimeout l 2 .timeout 0) ∧
    (∀ l t, s.dev.nextRec 7 = some (l, [t]) →
      exec .cfgDelay s = .next (after s { s.dev with boot := { s.dev.boot with load := some { l with wait := some (.delay (s.dev.uptime + 200 * t.toNat)) } } })) ∧
    (∀ l till, s.dev.loading = some l → l.wait = some (.delay till) → outcome .delayElapsed l .ok 0 (s.dev.reach till)) ∧
    (∀ l pl, s.dev.nextRec 8 = some (l, pl) →
      let x := s.dev.loadWord 0x30 1
      x.2.loading = some l →
      (x.1 = .ok → exec .commitCfg s = .next (after s { x.2 with boot := { x.2.boot with load := some { l with wait := some (.commit (x.2.uptime + ms 100)) } } })) ∧
      (x.1 ≠ .ok → failed .commitCfg l 0 x.1 0)) ∧
    (∀ l till, s.dev.loading = some l → l.wait = some (.commit till) → failed .commitCfgTimeout l 3 .timeout 0) ∧
    (s.dev.boot.load = none → exec .pollTimeout s = .next (after s s.dev) ∧ exec .delayElapsed s = .next (after s s.dev) ∧
      exec .commitCfgTimeout s = .next (after s s.dev) ∧ ∀ ecc, exec (.cfgPoll ecc) s = .next (after s s.dev)) ∧
    (∀ l b, s.dev.nextRec 9 = some (l, [b]) → outcome .cfgLock { l with locks := l.locks ++ [b.toNat] } .ok 0 s.dev) ∧
    (∀ l pl o, s.dev.nextRec 15 = some (l, pl) → slotSum o ≠ slotDigest (s.dev.loadImage l) → failed (.cfgEnd o) l 4 .ecc 0) ∧
    (∀ l pl o, s.dev.nextRec 15 = some (l, pl) → slotSum o = slotDigest (s.dev.loadImage l) →
      let x := s.dev.applyLocks l.locks.eraseDups
      x.2.loading = some l →
      (x.1 ≠ .ok → failed (.cfgEnd o) l 0 x.1 0) ∧
      (x.1 = .ok → (∀ k, l.op = some k → k < 16) → (∀ k, x.2.pw.op = some k → k < 16) →
        ∃ d, exec (.cfgEnd o) s = .next (after s d) ∧ d.get 0x20010 0 4 = 7 ∧ d.boot.load = none ∧ d.bit 0x20014 0 = true ∧
          d.bit 0x20010 6 = true ∧ d.bit 0x20010 5 = (l.slot == 3) ∧
          d.rd 0x20024 = wd (slotGen (x.2.loadImage l)) ∧
          (∀ k, l.op = some k → l.fallback = false → d.get (oprecBase k + 4) 12 2 = 2 ∧ d.get (oprecBase k + 4) 8 4 = 0) ∧
          (∀ i, i < 14 → l.locks = [0x10000 * i] → d.bit (0x10000 * i + 0xC) 0 = true) ∧
          (l.fallback = false → d.fc = x.2.fc ∧ d.bit 0x20010 7 = x.2.bit 0x20010 7) ∧
          (l.fallback = true → d.bit 0x20010 7 = true ∧ (x.2.fcLive 40 = false → x.2.fcLive 42 = false → d.fc.safe = false))))

/-- The link layer of the Porch and its events.
Where the rules leave a point open it follows the model's own choice, log entries 55 and 64. -/
def Obligations.TheEnienLinkComesUpRepeatsAndGoesDown : Prop :=
  ∀ (s : State), s.dev.boot.held = false ∨ s.dev.boot.warm = true →
    let st := s.dev.get 0x30014 0 2
    let still : Instr → Prop := fun c => exec c s = .next (after s s.dev)
    let lost : Instr → Prop := fun c => ∃ d, exec c s = .next (after s d) ∧ PorchLost s.dev d
    (st = 0 → ∃ d, exec (.porchLaneSync true true) s = .next (after s d) ∧ d.get 0x30014 0 2 = 1 ∧ d.porch.sync0 = true ∧
      d.porch.sync1 = true ∧ d.porch.markers = 0 ∧ KeepsBut [0x30014] s.dev d) ∧
    (st ≠ 0 → exec (.porchLaneSync true true) s = .next (after s { s.dev with porch := { s.dev.porch with sync0 := true, sync1 := true } })) ∧
    (∀ s0 s1, s0 = false ∨ s1 = false →
      (st = 2 → ∃ d, exec (.porchLaneSync s0 s1) s = .next (after s d) ∧ PorchLost s.dev d ∧ d.porch.sync0 = s0 ∧ d.porch.sync1 = s1) ∧
      (st ≠ 2 → ∃ d, exec (.porchLaneSync s0 s1) s = .next (after s d) ∧ d.get 0x30014 0 2 = 0 ∧ d.porch.sync0 = s0 ∧ d.porch.sync1 = s1 ∧
        KeepsBut [0x30014] s.dev d)) ∧
    (∀ skew,
      (st = 1 → 20 < skew ∨ s.dev.porch.markers < 3 →
        exec (.porchAlignMarker skew) s = .next (after s { s.dev with porch :=
          { s.dev.porch with skew := min skew 20, markers := if 20 < skew then 0 else s.dev.porch.markers + 1 } })) ∧
      (st = 1 → skew ≤ 20 → 3 ≤ s.dev.porch.markers →
        ∃ d, exec (.porchAlignMarker skew) s = .next (after s d) ∧ d.get 0x30014 0 2 = 2 ∧ d.bit 0x30018 0 = true ∧ d.porch.rxNext = 0 ∧
          d.porch.txNext = 0 ∧ outgoing d = [] ∧ d.porch.tags = [] ∧
          (d.irqSummary &&& d.rd 0x74 ≠ 0 → ∃ x, d.porch.summary = some (true, x)) ∧ KeepsBut [0x30014, 0x30018] s.dev d) ∧
      (st = 2 → 20 < skew → lost (.porchAlignMarker skew)) ∧
      (st = 0 ∨ (st = 2 ∧ skew ≤ 20) ∨ 3 ≤ st →
        exec (.porchAlignMarker skew) s = .next (after s { s.dev with porch := { s.dev.porch with skew := min skew 20 } }))) ∧
    (st = 2 → lost .porchLinkTimeout) ∧
    (st = 2 → ∀ c, c = .porchKeepaliveSend ∨ c = .porchAckSend →
      exec c s = .next (after s { s.dev with porch := { s.dev.porch with unsent := 0 } })) ∧
    (st = 2 → ∀ l, frameValid l = true → still (.porchInvalidFrame l)) ∧
    (st = 2 → ∀ l, frameValid l = false →
      ∃ d, exec (.porchInvalidFrame l) s = .next (after s d) ∧ d.rd 0x30024 = wd (satAdd 32 (s.dev.rd 0x30024).toNat 1) ∧ d.bit 0x30018 2 = true ∧
        Raised d 27 ∧ d.porch.nak = true ∧ d.porch.rxNext = s.dev.porch.rxNext ∧ outgoing d = outgoing s.dev ∧
        d.rd 0x30028 = (if s.dev.porch.nak = true then s.dev.rd 0x30028 else wd (satAdd 32 (s.dev.rd 0x30028).toNat 1)) ∧
        KeepsBut [0x30024, 0x30028, 0x30018] s.dev d) ∧
    (st = 2 → ∀ q c, c = .porchAckReceived (some q) ∨ c = .porchKeepaliveReceived (some q) →
      (∀ pre u post, s.dev.porch.unacked = pre ++ u :: post → u.seq = q → (∀ x ∈ pre, x.seq ≠ q) →
        ∃ d, exec c s = .next (after s d) ∧ outgoing d = post.map (·.frame) ++ s.dev.porch.queue ∧ d.regs = s.dev.regs) ∧
      ((∀ x ∈ s.dev.porch.unacked, x.seq ≠ q) → still c)) ∧
    (∀ c, c = .porchAckReceived none ∨ c = .porchKeepaliveReceived none → still c) ∧
    (st = 2 → ∀ c, c = .porchReplayTimeout ∨ c = .porchNakReceived none →
      (s.dev.porch.unacked = [] → still c) ∧
      (s.dev.porch.unacked ≠ [] → (∀ u ∈ s.dev.porch.unacked, u.again < 3) →
        ∃ d, exec c s = .next (after s d) ∧ d.porch.unacked = s.dev.porch.unacked.map (fun u => { u with again := u.again + 1 }) ∧
          d.rd 0x3002C = wd (satAdd 32 (s.dev.rd 0x3002C).toNat s.dev.porch.unacked.length) ∧ d.bit 0x30018 3 = true ∧ Raised d 27 ∧
          KeepsBut [0x3002C, 0x30018] s.dev d) ∧
      ((∃ u ∈ s.dev.porch.unacked, 3 ≤ u.again) → lost c)) ∧
    (st = 2 → ∀ q u post, s.dev.porch.unacked = u :: post → u.seq = q → s.dev.porch.queue = [] → (∀ x ∈ post, x.again < 3) →
      ∃ d, exec (.porchNakReceived (some q)) s = .next (after s d) ∧ d.porch.unacked = post.map (fun u => { u with again := u.again + 1 })) ∧
    (st ≠ 2 → ∀ a l, still .porchLinkTimeout ∧ still .porchKeepaliveSend ∧ still .porchAckSend ∧ still (.porchInvalidFrame l) ∧
      still (.porchAckReceived a) ∧ still (.porchKeepaliveReceived a) ∧ still (.porchNakReceived a) ∧ still .porchReplayTimeout) ∧
    (st = 2 → ∀ r x, s.dev.porch.summary = some (r, x) →
      ∃ d, exec .eventSummarySend s = .next (after s d) ∧ d.porch.summary = none ∧ d.porch.evSeq = (s.dev.porch.evSeq + 1) % 65536 ∧
        outgoing d = outgoing s.dev ++
          [{ ttype := 0x10, tag := b2n r, resp := false, addr := 0, aux := s.dev.porch.evSeq, payload := bytesOf (s.dev.irqWords ++ x) }] ∧
        d.regs = s.dev.regs) ∧
    (st ≠ 2 ∨ s.dev.porch.summary = none → still .eventSummarySend) ∧
    (∀ f t, s.dev.follow = f :: t →
      (st = 2 → s.dev.bit 0x30010 8 = true → s.dev.cores.mc0Away = false → s.dev.porch.summary = none →
        ∃ d, exec .eventFollowUpSend s = .next (after s d) ∧ d.follow = t ∧ d.porch.evSeq = (s.dev.porch.evSeq + 1) % 65536 ∧
          outgoing d = outgoing s.dev ++
            [{ ttype := 0x10, resp := false, addr := 1, aux := s.dev.porch.evSeq
               payload := bytesOf ([wd (f.idx + 2 ^ 20 * f.kind), f.word, f.changed, 0] ++ f.stamp) }] ∧
          d.regs = s.dev.regs) ∧
      (st ≠ 2 ∨ s.dev.bit 0x30010 8 = false ∨ s.dev.cores.mc0Away = true ∨ s.dev.porch.summary.isSome = true → still .eventFollowUpSend)) ∧
    (s.dev.follow = [] → still .eventFollowUpSend) ∧
    (∀ m v, Ready s m → v &&& ~~~0x11F = 0 →
      (fld v 0 5 = s.dev.get 0x30010 0 5 →
        ∃ d, exec (.porchCfgWrite m v) s = .next (accepted s m d) ∧ d.rd 0x30010 = v ∧ KeepsBut [0x30010, 0x50] s.dev d ∧ d.porch = s.dev.porch) ∧
      (fld v 0 5 ≠ s.dev.get 0x30010 0 5 →
        ∃ d, exec (.porchCfgWrite m v) s = .next (accepted s m d) ∧ d.rd 0x30010 = v ∧ PorchLost s.dev d))

/-- The transactions of the Porch.
Where the rules leave a point open it follows the model's own choice, log entries 56 and 64. -/
def Obligations.PorchTransactionsAreTakenOnceAndAnswered : Prop :=
  ∀ (s : State),
    (∀ c h ttype, HostRequest c h ttype → s.dev.boot.held = false ∨ s.dev.boot.warm = true →
      let b := s.dev.porchAck h.ack
      (s.dev.porchUp = false → exec c s = .next (after s s.dev)) ∧
      (s.dev.porchUp = true → h.seq ≠ b.porch.rxNext →
        ((b.porch.rxNext + 4096 - h.seq % 4096) % 4096 ≤ 16 →
          exec c s = .next (after s { b with porch := { b.porch with unsent := 0 } })) ∧
        (16 < (b.porch.rxNext + 4096 - h.seq % 4096) % 4096 →
          (b.porch.nak = true → exec c s = .next (after s b)) ∧
          (b.porch.nak = false →
            ∃ d, exec c s = .next (after s d) ∧ d.porch = { b.porch with nak := true, unsent := 0 } ∧
              d.rd 0x30028 = wd (satAdd 32 (s.dev.rd 0x30028).toNat 1) ∧ KeepsBut [0x30028] s.dev d))) ∧
      (s.dev.porchUp = true → h.seq = b.porch.rxNext → h.tag ∈ b.porch.tags →
        ∃ d, exec c s = .next (after s d) ∧ d.porch.rxNext = (b.porch.rxNext + 1) % 4096 ∧ outgoing d = outgoing b ∧
          d.rd 0x30034 = wd (satAdd 32 (s.dev.rd 0x30034).toNat 1) ∧ d.bit 0x30018 4 = true ∧ KeepsBut [0x30034, 0x30018] s.dev d) ∧
      (s.dev.porchUp = true → h.seq = b.porch.rxNext → h.tag ∉ b.porch.tags → s.dev.boot.held = true →
        ∃ d, exec c s = .next (after s d) ∧ d.porch.busy = s.dev.porch.busy ++ [(ttype, h.tag)] ∧ d.porch.tags = b.porch.tags ++ [h.tag] ∧
          d.regs = s.dev.regs)) ∧
    (∀ h, PorchFresh s h →
      let q := taken s.dev h
      let answers : Instr → Nat → Nat → Nat → Nat → List Byte → Prop := fun c ttype st addr aux bytes =>
        ∃ d, exec c s = .next (after s d) ∧
          outgoing d = outgoing q ++ [{ ttype := ttype, tag := h.tag, status := st, addr := addr, aux := aux, payload := bytes }] ∧
          (outgoing q = [] → h.tag ∉ d.porch.tags)
      (∀ a n be ecc,
        (a % 4 ≠ 0 ∨ n % 4 ≠ 0 → answers (.porchRead h a n be ecc) 1 1 a 0xFFFF []) ∧
        (a % 4 = 0 → n % 4 = 0 → n = 0 ∨ 256 < n ∨ (be ≠ 15 ∧ 4 < n) → answers (.porchRead h a n be ecc) 1 4 a 0xFFFF []) ∧
        (a % 4 = 0 → n % 4 = 0 → 4 < n → n ≤ 256 → be = 15 →
          let x := q.readWords 0 a ecc 0 (n / 4)
          x.2.2.2.porch = q.porch → x.2.2.2.porchUp = true → answers (.porchRead h a n be ecc) 1 x.1.code a x.2.1 (x.2.2.1.flatMap wordBytes)) ∧
        (a % 4 = 0 → n = 4 →
          (∀ l r, s.dev.staged 0 = none → locOf a = some l → rowAt l = some r → r.wide = false → domainOf l = none → 0 ∉ ecc →
            answers (.porchRead h a n be ecc) 1 0 a 0xFFFF (wordBytes (maskBytes (q.view a) be))) ∧
          (∀ l r, s.dev.staged 0 = none → locOf a = some l → rowAt l = some r → r.wide = false → domainOf l = none → 0 ∈ ecc →
            answers (.porchRead h a n be ecc) 1 7 a 0 [0, 0, 0, 0]))) ∧
      (∀ a be ws,
        (a % 4 ≠ 0 → answers (.porchWrite h a be ws) 2 1 a 0 []) ∧
        (a % 4 = 0 → ws.length = 0 ∨ 64 < ws.length ∨ (be ≠ 15 ∧ 1 < ws.length) → answers (.porchWrite h a be ws) 2 4 a 0 []) ∧
        (a % 4 = 0 → 1 ≤ ws.length → ws.length ≤ 64 → be = 15 →
          let x := q.writeWords 0 a 0 ws
          x.2.2.2.porch = q.porch → x.2.2.2.porchUp = true → answers (.porchWrite h a be ws) 2 x.1.code a x.2.1 []) ∧
        (∀ v, a % 4 = 0 → ws = [v] → be ≠ 15 →
          let x := q.writeBytes false 0 a be v
          x.2.porch = q.porch → x.2.porchUp = true → answers (.porchWrite h a be ws) 2 x.1.code a (if x.1 = .ok then 1 else 0) [])) ∧
      (∀ a ws ecc,
        (a % 4 ≠ 0 → answers (.porchRmw h a ws ecc) 3 1 a 0 [0, 0, 0, 0]) ∧
        (a % 4 = 0 → ws.length ≠ 2 → answers (.porchRmw h a ws ecc) 3 4 a 0 [0, 0, 0, 0]) ∧
        (∀ mask v, a % 4 = 0 → ws = [mask, v] →
          (domainAt a = none →
            let x := q.rmwNow 0 a mask v ecc
            x.2.2.porch = q.porch → x.2.2.porchUp = true → answers (.porchRmw h a ws ecc) 3 x.1.code a 0 (wordBytes x.2.1)) ∧
          (∀ dom, domainAt a = some dom → s.dev.staged 0 = none → s.dev.queueOf dom = [] →
            ∃ d, exec (.porchRmw h a ws ecc) s = .next (after s d) ∧ d.queueOf dom = [⟨0, a, dom, .rmw mask v⟩] ∧ d.porch.rmw = some h.tag ∧
              outgoing d = outgoing q ∧ d.regs = s.dev.regs))) ∧
      (∀ ws,
        (ws.length = 0 ∨ ws.length % 2 ≠ 0 → answers (.writeBulk h ws) 4 4 0 0 []) ∧
        (ws.length ≠ 0 → ws.length % 2 = 0 →
          (s.dev.opPick = none → answers (.writeBulk h ws) 4 6 0 0 []) ∧
          (∀ k, s.dev.opPick = some k →
            let x := (q.opOpenAt k 3 0 (ws.length / 2)).bulkPairs 0 ws
            x.2.2.porch = q.porch → x.2.2.porchUp = true →
            answers (.writeBulk h ws) 4 x.1.code 0 x.2.1 (wordBytes (x.2.2.opId k)) ∧
            ∃ d, exec (.writeBulk h ws) s = .next (after s d) ∧ d.get (oprecBase k + 4) 12 2 = 2 ∧
              d.get (oprecBase k + 4) 8 4 = (if x.1 = .ok then 0 else if x.2.1 = 0 then 9 else 10) ∧
              d.rd (oprecBase k + 0xC) = wd (max x.2.1 (x.2.2.rd (oprecBase k + 0xC)).toNat) ∧
              (x.1 ≠ .ok → d.rd (oprecBase k + 0x10) = wd x.2.1 ∧ d.rd (oprecBase k + 0x14) = wd x.1.code)))) ∧
      (∀ i ws, i + ws.length ≤ 8192 → 1 ≤ ws.length → ws.length ≤ 64 → s.dev.staged 0 = none → s.dev.winBusy = false →
        answers (.porchWrite h (0x28000 + 4 * i) 15 ws) 2 0 (0x28000 + 4 * i) ws.length [] ∧
        ∃ d, exec (.porchWrite h (0x28000 + 4 * i) 15 ws) s = .next (after s d) ∧ d.rds (0x28000 + 4 * i) ws.length = ws) ∧
      (∀ i mask v, i < 8192 → s.dev.staged 0 = none → s.dev.winBusy = false →
        answers (.porchRmw h (0x28000 + 4 * i) [mask, v] false) 3 0 (0x28000 + 4 * i) 0 (wordBytes (q.view (0x28000 + 4 * i))) ∧
        ∃ d, exec (.porchRmw h (0x28000 + 4 * i) [mask, v] false) s = .next (after s d) ∧
          d.rd (0x28000 + 4 * i) = (s.dev.view (0x28000 + 4 * i) &&& ~~~mask) ||| (v &&& mask)) ∧
      (∀ i v k, i < 8192 → s.dev.staged 0 = none → s.dev.winBusy = false → s.dev.opPick = some k →
        answers (.writeBulk h [wd (0x28000 + 4 * i), v]) 4 0 0 1 (wordBytes (s.dev.rd 0x104)) ∧
        ∃ d, exec (.writeBulk h [wd (0x28000 + 4 * i), v]) s = .next (after s d) ∧ d.rd (0x28000 + 4 * i) = v ∧
          d.get (oprecBase k + 4) 12 2 = 2 ∧ d.get (oprecBase k + 4) 8 4 = 0) ∧
      (∀ ttype,
        answers (.porchBadTtype h ttype) ttype 8 0 0 [] ∧
        ∃ d, exec (.porchBadTtype h ttype) s = .next (after s d) ∧ d.rd 0x30038 = wd (satAdd 32 (s.dev.rd 0x30038).toNat 1) ∧
          d.bit 0x30018 5 = true ∧ d.rd 0x30060 = wd (ttype % 256 + 2 ^ 8 * (h.tag % 64)) ∧ KeepsBut [0x30038, 0x30018, 0x30060] s.dev d) ∧
      (∀ unit n,
        (s.dev.cores.mc0Away = true ∨ 5 ≤ s.dev.porch.reads.length → answers (.atticRead h unit n) 0x20 6 unit 0 []) ∧
        (s.dev.cores.mc0Away = false → s.dev.porch.reads.length < 5 →
          (n = 0 ∨ 64 < n → answers (.atticRead h unit n) 0x20 4 unit 0 []) ∧
          (s.dev.readCause unit n = none →
            ∃ d, exec (.atticRead h unit n) s = .next (after s d) ∧ d.porch.reads = s.dev.porch.reads ++ [(h.tag, unit, n, true)] ∧
              outgoing d = outgoing q ∧ d.regs = s.dev.regs))) ∧
      (∀ n bytes,
        (32 < n ∨ bytes.length ≠ 32 → answers (.attest h n bytes) 0x21 4 0 0 []) ∧
        (n ≤ 32 → bytes.length = 32 →
          (s.dev.cores.mc0Away = true ∨ 3 ≤ s.dev.porch.atts.length → answers (.attest h n bytes) 0x21 6 0 0 []) ∧
          (s.dev.cores.mc0Away = false → s.dev.porch.atts = [] → s.dev.opPick = none → answers (.attest h n bytes) 0x21 6 0 0 []) ∧
          (s.dev.cores.mc0Away = false → s.dev.porch.atts.length < 3 →
            (s.dev.porch.atts = [] ∧ s.dev.opPick ≠ none) ∨ (∃ x k, s.dev.porch.atts.head? = some x ∧ x.op = some k) →
            ∃ d r, exec (.attest h n bytes) s = .next (after s d) ∧ d.porch.atts.map (·.src) = s.dev.porch.atts.map (·.src) ++ [.porch h.tag] ∧
              d.porch.atts.getLast? = some r ∧ r.nonceLen = n ∧ r.nonce = bytes ∧ outgoing d = outgoing q ∧
              (s.dev.porch.atts = [] → (∃ k, r.op = some k) ∧ ∃ d1 : Device, r.body = d1.attBody n bytes))))) ∧
    (∀ h a n be ecc tag, PorchFresh { s with dev := { s.dev with porch := { s.dev.porch with rmw := none } } } h → s.dev.porch.rmw = some tag →
      ∃ d, exec (.porchRead h a n be ecc) s = .next (after s d) ∧ d.porch.waiting = s.dev.porch.waiting ++ [(h.tag, .rd a n be ecc)] ∧
        d.regs = s.dev.regs) ∧
    (∀ h n rec, Live s → s.dev.porchUp = true → h.seq = s.dev.porch.rxNext →
      (63 < n ∨ s.dev.bit (laneBase n + 0x90) 1 = false →
        ∃ d, exec (.ohStream h n rec) s = .next (after s d) ∧ d.rd 0x3003C = wd (satAdd 32 (s.dev.rd 0x3003C).toNat 1) ∧
          KeepsBut [0x3003C] s.dev d ∧ d.lanes = s.dev.lanes) ∧
      (n ≤ 63 → s.dev.bit (laneBase n + 0x90) 1 = true → (s.dev.lane n).relayTx.length < 4 →
        (rec.getD 3 0).toNat = (s.dev.ohSelected n).length → 1 ≤ (rec.getD 8 0).toNat → (rec.getD 8 0).toNat ≤ 16 → rec.getD 0 0 = 0x01 →
        ∃ d, exec (.ohStream h n rec) s = .next (after s d) ∧ (d.lane n).relayTx.length = (s.dev.lane n).relayTx.length + 1 ∧
          d.regs = s.dev.regs)) ∧
    (s.dev.boot.held = false ∨ s.dev.boot.warm = true →
      (∀ e t data bad, s.dev.porch.reads = e :: t → s.dev.attic.reading = false → 56 ≤ s.dev.attic.cmds.length →
        exec (.atticReadServed data bad) s = .next (after s s.dev)) ∧
      (∀ tag unit n go t data bad, s.dev.porch.reads = (tag, unit, n, go) :: t → s.dev.cores.mc0Away = false →
        s.dev.attic.reading = true ∨ s.dev.attic.cmds.length < 56 →
        ∃ d, exec (.atticReadServed data bad) s = .next (after s d) ∧ d.porch.reads = t ∧
          d.rd 0x80070 = wd (satAdd 32 (s.dev.rd 0x80070).toNat 1) ∧ KeepsBut [0x80070] s.dev d ∧
          (go = false ∨ s.dev.porchUp = false → outgoing d = outgoing s.dev) ∧
          (go = true → s.dev.porchUp = true →
            outgoing d = outgoing s.dev ++ (List.range (16 * n)).map (fun i =>
              { ttype := 0x20, tag := tag, more := decide (i + 1 < 16 * n)
                status := if i + 1 = 16 * n then (if bad.isSome = true then 7 else 0) else 0, addr := 256 * i
                payload := (List.range 256).map (fun j =>
                  if 256 * i + j < bad.getD (4096 * n) then data.getD (256 * i + j) 0 else 0) }))) ∧
      (s.dev.porch.reads = [] ∨ s.dev.cores.mc0Away = true → ∀ data bad, exec (.atticReadServed data bad) s = .next (after s s.dev)) ∧
      (∀ r t, s.dev.porch.atts = r :: t → s.dev.cores.mc0Away = false → (∃ k, r.op = some k ∧ k < 16) →
        ∃ d, exec .attestReportReady s = .next (after s d) ∧ d.porch.atts.map (·.src) = t.map (·.src) ∧
          (∀ x ∈ d.porch.atts.head?, x.op.isSome = true) ∧
          (t = [] → ∀ k, r.op = some k → d.get (oprecBase k + 4) 12 2 = 2 ∧ d.get (oprecBase k + 4) 8 4 = 0) ∧
          (∀ tag, r.src = .porch tag → s.dev.porchUp = true →
            ∃ f g, outgoing d = outgoing s.dev ++ [f, g] ∧ f.tag = tag ∧ g.tag = tag ∧ f.more = true ∧ g.more = false ∧
              f.payload ++ g.payload = (attSigned r.body).take 512) ∧
          (∀ id, r.src = .mate id → lastSent d = some (.attestRsp id 0 (attSigned r.body)) ∧ outgoing d = outgoing s.dev)) ∧
      (s.dev.porch.atts = [] ∨ s.dev.cores.mc0Away = true → exec .attestReportReady s = .next (after s s.dev)))

/-- Measurement, the swap, the mate's report, and the I2C target.
Where the rules leave a point open it follows the model's own choice, log entries 52, 53, 54 and 57. -/
def Obligations.MeasurementsAttestationsSwapsAndTheI2cTargetRun : Prop :=
  ∀ (s : State), Live s →
    let still : Instr → Prop := fun c => exec c s = .next (after s s.dev)
    let refuses : Instr → Nat → Nat → Status → Prop := fun c m x st =>
      ∃ t, exec c s = .next t ∧ tabGet {} t.dev.bus.done m = { status := st } ∧ t.dev.rd 0x4002C = wd x ∧ t.dev.bit 0x40014 4 = true ∧
        t.dev.rd 0x40028 = wd (satAdd 32 (s.dev.rd 0x40028).toNat 1) ∧ t.dev.meas = s.dev.meas
    let step := s.dev.get 0x40084 0 3
    (∀ m, Ready s m →
      let n := s.dev.get 0x40010 0 9
      (s.dev.meas.busy = true → refuses (.hostExtend m) m 1 .busy) ∧
      (s.dev.meas.busy = false → n = 256 → refuses (.hostExtend m) m 2 .range) ∧
      (s.dev.meas.busy = false → n < 256 →
        ∃ d, exec (.hostExtend m) s = .next (accepted s m d) ∧ d.get 0x40010 0 9 = n + 1 ∧ d.meas.busy = true ∧ d.bit 0x40014 0 = true ∧
          d.rd 0x40020 = s.dev.rd 0x40020 + 1 ∧
          d.rds 0x40290 12 = sha12 (bytesOf (s.dev.rds 0x40290 12 ++ s.dev.rds 0x40040 12)) ∧
          d.rds (0x48000 + 0x80 * n) 4 = [wd (2 ^ 24 * 0x13 + 2 ^ 16 * 3), s.dev.rd 0x40020 + 1, 0, 0] ∧
          d.rds (0x48000 + 0x80 * n + 0x10) 4 = s.dev.stamp ∧ d.rds (0x48000 + 0x80 * n + 0x20) 12 = s.dev.rds 0x40040 12 ∧
          (∀ a, ¬(0x40000 ≤ a ∧ a < 0x50000) → d.rd a = s.dev.rd a))) ∧
    (∀ m, Ready s m →
      let c := Instr.fwSwap m
      (s.dev.meas.swap.isSome = true → refuses c m 5 .busy) ∧
      (s.dev.meas.swap = none → s.dev.get 0x20010 0 4 ≠ 7 → refuses c m 6 .busy) ∧
      (s.dev.meas.swap = none → s.dev.get 0x20010 0 4 = 7 → s.dev.bit 0x2008C 0 = true → refuses c m 7 .busy) ∧
      (s.dev.meas.swap = none → s.dev.get 0x20010 0 4 = 7 → s.dev.bit 0x2008C 0 = false →
        (s.dev.knownEmpty (1 - s.dev.fwSlot) = true → refuses c m 8 .range) ∧
        (s.dev.knownEmpty (1 - s.dev.fwSlot) = false →
          (s.dev.opPick = none → refuses c m 9 .busy) ∧
          (∀ k, s.dev.opPick = some k →
            ∃ d, exec c s = .next (accepted s m d) ∧ d.get 0x40084 0 3 = 1 ∧ d.bit 0x2008C 0 = true ∧ d.rd 0x40088 = s.dev.rd 0x104 ∧
              d.meas.swap = some { op := k } ∧ d.get (oprecBase k + 4) 0 8 = 6 ∧ d.get (oprecBase k + 4) 12 2 = 1 ∧
              d.rd (oprecBase k + 8) = 5)))) ∧
    (∀ w, s.dev.meas.swap = some w → w.op < 16 →
      let halts : Instr → Prop := fun c =>
        ∃ d, exec c s = .next (after s d) ∧ d.get 0x20010 0 4 = 8 ∧ d.get 0x20010 12 4 = 4 ∧ d.meas.swap = none ∧ d.get 0x40084 0 3 = 0 ∧
          d.cores = { mc0Away := true, mc1Away := true } ∧ d.get (oprecBase w.op + 4) 8 4 = 9 ∧ d.bit 0x20014 4 = true
      (∀ o, step = 1 →
        (s.dev.slotOk (1 - s.dev.fwSlot) o = true → (s.dev.rd 0x20020).toNat < slotGen o →
          ∃ d, exec (.swapPrecheckDone o) s = .next (after s d) ∧ d.get 0x40084 0 3 = 2 ∧ d.bit 0x2008C 0 = false ∧
            d.meas.swap = some { w with digest := slotDigest o, gen := slotGen o, version := wd (leAt o.hdr 20 4) }) ∧
        (s.dev.slotOk (1 - s.dev.fwSlot) o = false ∨ slotGen o ≤ (s.dev.rd 0x20020).toNat →
          ∃ d, exec (.swapPrecheckDone o) s = .next (after s d) ∧ d.get 0x40084 0 3 = 0 ∧ d.meas.swap = none ∧ d.cores = s.dev.cores ∧
            d.get (oprecBase w.op + 4) 12 2 = 2 ∧ d.get (oprecBase w.op + 4) 8 4 = 9 ∧ d.rd (oprecBase w.op + 0x10) = 0)) ∧
      (step = 2 → w.began = none → (s.dev.rd 0xC001C).toNat % 16 = 0 →
        ∃ d, exec .swapQuiesceStart s = .next (after s d) ∧ d.cores = { mc0Away := true, mc1Away := true } ∧ d.bit 0x40084 3 = true ∧
          d.meas.swap = some { w with began := some s.dev.uptime } ∧ KeepsBut [0x40084] s.dev d) ∧
      (step = 2 → w.began.isSome = true →
        ∃ d, exec .swapQuiesceDone s = .next (after s d) ∧ d.get 0x40084 0 3 = 3 ∧ d.porch.atts = [] ∧ d.porch.reads = [] ∧
          d.bit 0x2008C 0 = true ∧ d.meas = s.dev.meas) ∧
      (step = 3 → w.failed = none →
        (∀ o, slotSum o = w.digest →
          ∃ d, exec (.swapLoadDone true o) s = .next (after s d) ∧ d.get 0x40084 0 3 = 4 ∧ d.bit 0x2008C 0 = false ∧ d.meas = s.dev.meas ∧
            d.rd (oprecBase w.op + 0xC) = wd (max 3 (s.dev.rd (oprecBase w.op + 0xC)).toNat)) ∧
        (∀ ok o, ok = false ∨ slotSum o ≠ w.digest →
          ∃ d x, exec (.swapLoadDone ok o) s = .next (after s d) ∧ d.meas.swap = some { w with failed := some (2, x) } ∧ d.regs = s.dev.regs)) ∧
      (∀ f o, step = 3 → w.failed = some f →
        (∃ d, exec (.swapLoadDone true o) s = .next (after s d) ∧ d.get 0x40084 0 3 = 4 ∧ d.meas = s.dev.meas) ∧
        halts (.swapLoadDone false o)) ∧
      (step = 4 →
        ∃ d, exec .swapStartReport s = .next (after s d) ∧ d.cores = { mc0Away := false, mc1Away := false } ∧ d.pw.held = []) ∧
      (step = 4 → w.failed = none →
        (s.dev.pw.held = [] → ∃ d, exec .swapStartReport s = .next (after s d) ∧ d.get 0x20010 4 1 = 1 - s.dev.fwSlot ∧ d.rd 0x20020 = wd w.gen ∧
          d.rd 0x20030 = w.version ∧ d.bit 0x40014 3 = true ∧ d.meas.swap = none ∧ d.get 0x40084 0 3 = 0 ∧ d.get 0x40084 4 4 = 0 ∧
          d.cores = { mc0Away := false, mc1Away := false } ∧ d.rd 0x40020 = s.dev.rd 0x40020 + 1 ∧ d.get (oprecBase w.op + 4) 12 2 = 2 ∧
          d.get (oprecBase w.op + 4) 8 4 = 0) ∧
        (∃ d x, exec .swapStartTimeout s = .next (after s d) ∧ d.get 0x40084 0 3 = 3 ∧ d.meas.swap = some { w with failed := some (3, x) })) ∧
      (∀ f, step = 4 → w.failed = some f →
        (s.dev.pw.held = [] → ∃ d, exec .swapStartReport s = .next (after s d) ∧ d.meas.swap = none ∧ d.get 0x40084 0 3 = 0 ∧
          d.cores = { mc0Away := false, mc1Away := false } ∧ d.get (oprecBase w.op + 4) 8 4 = 9) ∧
        halts .swapStartTimeout) ∧
      (step ≠ 1 → ∀ o, still (.swapPrecheckDone o)) ∧ (step ≠ 2 → still .swapQuiesceStart ∧ still .swapQuiesceDone) ∧
      (step ≠ 3 → ∀ ok o, still (.swapLoadDone ok o)) ∧ (step ≠ 4 → still .swapStartReport ∧ still .swapStartTimeout)) ∧
    (s.dev.meas.swap = none → ∀ o ok dig, still (.swapPrecheckDone o) ∧ still .swapQuiesceStart ∧ still .swapQuiesceDone ∧
      still (.swapLoadDone ok dig) ∧ still .swapStartReport ∧ still .swapStartTimeout) ∧
    (∀ m n, Ready s m → n < 64 →
      let c := Instr.mateAttestGo m n
      (32 < n → refuses c m 0 .range) ∧
      (n ≤ 32 → s.dev.pw.up = false → refuses c m 3 .range) ∧
      (n ≤ 32 → s.dev.pw.up = true → s.dev.mateState = 1 ∨ s.dev.cores.mc0Away = true → refuses c m 4 .busy) ∧
      (n ≤ 32 → s.dev.pw.up = true → s.dev.cores.mc0Away = true → m = 0 →
        ∃ t, exec c s = .next t ∧ t.dev.rd 0x30020 = wd (satAdd 32 (s.dev.rd 0x30020).toNat 1)) ∧
      (n ≤ 32 → s.dev.pw.up = true → s.dev.mateState ≠ 1 → s.dev.cores.mc0Away = false →
        ∃ d, exec c s = .next (accepted s m d) ∧ d.mateState = 1 ∧ d.meas.reqId = (s.dev.meas.reqId + 1) % 2 ^ 32 ∧
          d.meas.reqAt = s.dev.uptime ∧ KeepsBut [0x40094] s.dev d ∧
          lastSent d = some (.attestReq d.meas.reqId n ((bytesOf (s.dev.rds 0x400A0 8)).take n ++ List.replicate (32 - n) 0)))) ∧
    (s.dev.mateState = 1 →
      ∃ d, exec .mateAttestTimeout s = .next (after s d) ∧ d.mateState = 3 ∧ d.get 0x40094 4 4 = 5 ∧ d.bit 0x40014 2 = true ∧
        s.dev.meas.reqAt + ms 100 ≤ d.uptime ∧ KeepsBut [0x40094, 0x40014] s.dev d) ∧
    (s.dev.mateState ≠ 1 → still .mateAttestTimeout) ∧
    (∀ v stop, exec (.i2cPointerWrite v stop) s =
      .next (after s { s.dev with porch := { s.dev.porch with ptr := v % 2 ^ 32, ptrSet := !stop } })) ∧
    (∀ a v,
      (i2cWritable a = true →
        let x := (s.dev.i2cPointer a false).busWrite 6 a 15 v
        let st := (tabGet {} x.bus.done 6).status
        ∃ d, exec (.i2cWordWrite a v) s = .next (after s d) ∧ d.porch.i2c = st ∧ d.porch.ptrSet = false ∧
          d.rd 0x30070 = (if st = .ok then x.rd 0x30070 + 1 else x.rd 0x30070) ∧ KeepsBut [0x30070] x d) ∧
      (s.dev.staged 6 = none → a = 0x54 ∨ a = 0x10014 →
        ∃ d, exec (.i2cWordWrite a v) s = .next (after s d) ∧ d.rd a = s.dev.rd a &&& ~~~v ∧ d.porch.i2c = .ok ∧ d.porch.ptr = a ∧
          d.rd 0x30070 = s.dev.rd 0x30070 + 1 ∧ KeepsBut [a, 0x30070] s.dev d) ∧
      (i2cWritable a = false →
        ∃ d, exec (.i2cWordWrite a v) s = .next (after s d) ∧ tabGet {} d.bus.done 6 = { status := .unsupported } ∧
          d.porch.i2c = .unsupported ∧ d.porch.ptr = a % 2 ^ 32 ∧ d.rd 0x30074 = wd (satAdd 32 (s.dev.rd 0x30074).toNat 1) ∧
          d.rd 0x30070 = s.dev.rd 0x30070 ∧ d.lanes = s.dev.lanes ∧ d.boot = s.dev.boot)) ∧
    (∀ n ecc,
      let a := s.dev.porch.ptr
      (a + 4 * n ≤ 0x20000 → a % 4 = 0 →
        let x := ({ s.dev with porch := { s.dev.porch with ptr := (a + 4 * n) % 2 ^ 32 } } : Device).readWords 6 a ecc 0 n
        ∃ d, exec (.i2cReadWords n ecc) s = .next (after s d) ∧ d.porch.i2c = x.1 ∧ d.porch.ptr = a + 4 * n ∧
          tabGet {} d.bus.done 6 = { status := x.1, words := x.2.2.1, failIdx := x.2.1 }) ∧
      (∀ l r, n = 1 → a + 4 ≤ 0x20000 → a % 4 = 0 → ecc = [] → s.dev.staged 6 = none → locOf a = some l → rowAt l = some r → r.wide = false →
        ∃ d, exec (.i2cReadWords n ecc) s = .next (after s d) ∧ tabGet {} d.bus.done 6 = { status := .ok, words := [s.dev.view a], failIdx := 0xFFFF } ∧
          d.porch.ptr = a + 4 ∧ KeepsBut [0x30070] s.dev d) ∧
      (a < 0x20000 → a % 4 ≠ 0 →
        ∃ d, exec (.i2cReadWords n ecc) s = .next (after s d) ∧ tabGet {} d.bus.done 6 = { status := .unaligned } ∧ d.porch.i2c = .unaligned ∧
          d.rd 0x30070 = s.dev.rd 0x30070) ∧
      (0x20000 ≤ a → 0x20000 < a + 4 * n →
        ∃ d, exec (.i2cReadWords n ecc) s = .next (after s d) ∧
          tabGet {} d.bus.done 6 = { status := .unsupported, words := List.replicate n 0 } ∧ d.porch.i2c = .unsupported ∧
          d.rd 0x30074 = wd (satAdd 32 (s.dev.rd 0x30074).toNat 1) ∧ d.porch.ptr = (a + 4 * n) % 2 ^ 32) ∧
      (a < 0x20000 → a % 4 = 0 → 0x20000 < a + 4 * n →
        let k := (0x20000 - a) / 4
        let x := ({ s.dev with porch := { s.dev.porch with ptr := (a + 4 * n) % 2 ^ 32 } } : Device).readWords 6 a ecc 0 k
        let st := if x.1 = .ok then .unsupported else x.1
        ∃ d, exec (.i2cReadWords n ecc) s = .next (after s d) ∧
          tabGet {} d.bus.done 6 = { status := st, words := x.2.2.1 ++ List.replicate (n - k) 0 } ∧ d.porch.i2c = st ∧
          d.rd 0x30074 = wd (satAdd 32 (x.2.2.2.rd 0x30074).toNat 1))) ∧
    (s.dev.porch.ptrSet = false →
      ∀ ecc, exec (.i2cStatusRead ecc) s = .next (after s (s.dev.complete 6 { status := .ok, words := [wd s.dev.porch.i2c.code] }))) ∧
    (s.dev.porch.ptrSet = true → ∀ ecc, exec (.i2cStatusRead ecc) s = exec (.i2cReadWords 1 (if ecc then [0] else [])) s) ∧
    (∃ d, exec .i2cBadLengthWrite s = .next (after s d) ∧ tabGet {} d.bus.done 6 = { status := .range } ∧ d.porch.i2c = .range ∧
      d.rd 0x30074 = wd (satAdd 32 (s.dev.rd 0x30074).toNat 1) ∧ d.rd 0x8C = wd (satAdd 32 (s.dev.rd 0x8C).toNat 1)) ∧
    (∀ ms, ms ≤ 35 → exec (.i2cSclTimeout ms) s = .next (after s s.dev)) ∧
    (∀ ms, 35 < ms →
      ∃ d, exec (.i2cSclTimeout ms) s = .next (after s d) ∧ d.porch.ptrSet = false ∧ d.fcLive 458 = true ∧
        (s.dev.fcLive 458 = false → Raised d 458) ∧ KeepsBut [srcBase 458 + 8] s.dev d)

/-- The owner key digest is programmed once, over every step.
Where the rules leave a point open it follows the model's own choice, log entry 6. -/
def Obligations.AnEnrolledOwnerKeyNeverChanges : Prop :=
  ∀ s t : State, EnrolledOnce s → step s = .next t →
    EnrolledOnce t ∧ (s.dev.boot.otp ≠ [] → t.dev.boot.otp = s.dev.boot.otp)

/-- The invariant holds at reset: that no owner key is enrolled there is the choice of the model.
DESIGN CHOICE, log entry 6. -/
def Obligations.NoOwnerKeyIsEnrolledAtReset : Prop :=
  EnrolledOnce State.reset ∧ bitAt (State.reset.dev.view 0x20010) 8 = false ∧ ∀ i, i < 12 → State.reset.dev.view (0x20100 + 4 * i) = 0
end

