-- ==== Sys2Proof/Laws/State.lean ====
section
/-! SUPPORT. One lemma per field per update of a register: the update touches the register file alone. And the state after a
command that runs on the device or on the test access port. -/

namespace Sys2Proof.Machine
open Sys2Proof

@[simp] theorem wr_uptime (d : Device) (a : Nat) (v : Word) : (d.wr a v).uptime = d.uptime := rfl
@[simp] theorem wr_fresh (d : Device) (a : Nat) (v : Word) : (d.wr a v).fresh = d.fresh := rfl
@[simp] theorem wr_bus (d : Device) (a : Nat) (v : Word) : (d.wr a v).bus = d.bus := rfl
@[simp] theorem wr_crc (d : Device) (a : Nat) (v : Word) : (d.wr a v).crc = d.crc := rfl
@[simp] theorem wr_fc (d : Device) (a : Nat) (v : Word) : (d.wr a v).fc = d.fc := rfl
@[simp] theorem wr_tod (d : Device) (a : Nat) (v : Word) : (d.wr a v).tod = d.tod := rfl
@[simp] theorem wr_lanes (d : Device) (a : Nat) (v : Word) : (d.wr a v).lanes = d.lanes := rfl
@[simp] theorem wr_hos (d : Device) (a : Nat) (v : Word) : (d.wr a v).hos = d.hos := rfl
@[simp] theorem wr_tcs (d : Device) (a : Nat) (v : Word) : (d.wr a v).tcs = d.tcs := rfl
@[simp] theorem wr_raw (d : Device) (a : Nat) (v : Word) : (d.wr a v).raw = d.raw := rfl
@[simp] theorem wr_tcQueues (d : Device) (a : Nat) (v : Word) : (d.wr a v).tcQueues = d.tcQueues := rfl
@[simp] theorem wr_clis (d : Device) (a : Nat) (v : Word) : (d.wr a v).clis = d.clis := rfl
@[simp] theorem wr_rts (d : Device) (a : Nat) (v : Word) : (d.wr a v).rts = d.rts := rfl
@[simp] theorem wr_cliSel (d : Device) (a : Nat) (v : Word) : (d.wr a v).cliSel = d.cliSel := rfl
@[simp] theorem wr_hall (d : Device) (a : Nat) (v : Word) : (d.wr a v).hall = d.hall := rfl
@[simp] theorem wr_pairs (d : Device) (a : Nat) (v : Word) : (d.wr a v).pairs = d.pairs := rfl
@[simp] theorem wr_land (d : Device) (a : Nat) (v : Word) : (d.wr a v).land = d.land := rfl
@[simp] theorem wr_cel (d : Device) (a : Nat) (v : Word) : (d.wr a v).cel = d.cel := rfl
@[simp] theorem wr_pm (d : Device) (a : Nat) (v : Word) : (d.wr a v).pm = d.pm := rfl
@[simp] theorem wr_attic (d : Device) (a : Nat) (v : Word) : (d.wr a v).attic = d.attic := rfl
@[simp] theorem wr_hearth (d : Device) (a : Nat) (v : Word) : (d.wr a v).hearth = d.hearth := rfl
@[simp] theorem wr_pw (d : Device) (a : Nat) (v : Word) : (d.wr a v).pw = d.pw := rfl
@[simp] theorem wr_boot (d : Device) (a : Nat) (v : Word) : (d.wr a v).boot = d.boot := rfl
@[simp] theorem wr_pantry (d : Device) (a : Nat) (v : Word) : (d.wr a v).pantry = d.pantry := rfl
@[simp] theorem wr_follow (d : Device) (a : Nat) (v : Word) : (d.wr a v).follow = d.follow := rfl
@[simp] theorem wr_porch (d : Device) (a : Nat) (v : Word) : (d.wr a v).porch = d.porch := rfl
@[simp] theorem wr_cores (d : Device) (a : Nat) (v : Word) : (d.wr a v).cores = d.cores := rfl
@[simp] theorem wr_meas (d : Device) (a : Nat) (v : Word) : (d.wr a v).meas = d.meas := rfl
@[simp] theorem wr_tracer (d : Device) (a : Nat) (v : Word) : (d.wr a v).tracer = d.tracer := rfl
@[simp] theorem wr_slots (d : Device) (a : Nat) (v : Word) : (d.wr a v).slots = d.slots := rfl

@[simp] theorem put_uptime (d : Device) (a lo w v : Nat) : (d.put a lo w v).uptime = d.uptime := rfl
@[simp] theorem put_fresh (d : Device) (a lo w v : Nat) : (d.put a lo w v).fresh = d.fresh := rfl
@[simp] theorem put_bus (d : Device) (a lo w v : Nat) : (d.put a lo w v).bus = d.bus := rfl
@[simp] theorem put_crc (d : Device) (a lo w v : Nat) : (d.put a lo w v).crc = d.crc := rfl
@[simp] theorem put_fc (d : Device) (a lo w v : Nat) : (d.put a lo w v).fc = d.fc := rfl
@[simp] theorem put_tod (d : Device) (a lo w v : Nat) : (d.put a lo w v).tod = d.tod := rfl
@[simp] theorem put_lanes (d : Device) (a lo w v : Nat) : (d.put a lo w v).lanes = d.lanes := rfl
@[simp] theorem put_hos (d : Device) (a lo w v : Nat) : (d.put a lo w v).hos = d.hos := rfl
@[simp] theorem put_tcs (d : Device) (a lo w v : Nat) : (d.put a lo w v).tcs = d.tcs := rfl
@[simp] theorem put_raw (d : Device) (a lo w v : Nat) : (d.put a lo w v).raw = d.raw := rfl
@[simp] theorem put_tcQueues (d : Device) (a lo w v : Nat) : (d.put a lo w v).tcQueues = d.tcQueues := rfl
@[simp] theorem put_clis (d : Device) (a lo w v : Nat) : (d.put a lo w v).clis = d.clis := rfl
@[simp] theorem put_rts (d : Device) (a lo w v : Nat) : (d.put a lo w v).rts = d.rts := rfl
@[simp] theorem put_cliSel (d : Device) (a lo w v : Nat) : (d.put a lo w v).cliSel = d.cliSel := rfl
@[simp] theorem put_hall (d : Device) (a lo w v : Nat) : (d.put a lo w v).hall = d.hall := rfl
@[simp] theorem put_pairs (d : Device) (a lo w v : Nat) : (d.put a lo w v).pairs = d.pairs := rfl
@[simp] theorem put_land (d : Device) (a lo w v : Nat) : (d.put a lo w v).land = d.land := rfl
@[simp] theorem put_cel (d : Device) (a lo w v : Nat) : (d.put a lo w v).cel = d.cel := rfl
@[simp] theorem put_pm (d : Device) (a lo w v : Nat) : (d.put a lo w v).pm = d.pm := rfl
@[simp] theorem put_attic (d : Device) (a lo w v : Nat) : (d.put a lo w v).attic = d.attic := rfl
@[simp] theorem put_hearth (d : Device) (a lo w v : Nat) : (d.put a lo w v).hearth = d.hearth := rfl
@[simp] theorem put_pw (d : Device) (a lo w v : Nat) : (d.put a lo w v).pw = d.pw := rfl
@[simp] theorem put_boot (d : Device) (a lo w v : Nat) : (d.put a lo w v).boot = d.boot := rfl
@[simp] theorem put_pantry (d : Device) (a lo w v : Nat) : (d.put a lo w v).pantry = d.pantry := rfl
@[simp] theorem put_follow (d : Device) (a lo w v : Nat) : (d.put a lo w v).follow = d.follow := rfl
@[simp] theorem put_porch (d : Device) (a lo w v : Nat) : (d.put a lo w v).porch = d.porch := rfl
@[simp] theorem put_cores (d : Device) (a lo w v : Nat) : (d.put a lo w v).cores = d.cores := rfl
@[simp] theorem put_meas (d : Device) (a lo w v : Nat) : (d.put a lo w v).meas = d.meas := rfl
@[simp] theorem put_tracer (d : Device) (a lo w v : Nat) : (d.put a lo w v).tracer = d.tracer := rfl
@[simp] theorem put_slots (d : Device) (a lo w v : Nat) : (d.put a lo w v).slots = d.slots := rfl

@[simp] theorem setBit_uptime (d : Device) (a i : Nat) (b : Bool) : (d.setBit a i b).uptime = d.uptime := rfl
@[simp] theorem setBit_fresh (d : Device) (a i : Nat) (b : Bool) : (d.setBit a i b).fresh = d.fresh := rfl
@[simp] theorem setBit_bus (d : Device) (a i : Nat) (b : Bool) : (d.setBit a i b).bus = d.bus := rfl
@[simp] theorem setBit_crc (d : Device) (a i : Nat) (b : Bool) : (d.setBit a i b).crc = d.crc := rfl
@[simp] theorem setBit_fc (d : Device) (a i : Nat) (b : Bool) : (d.setBit a i b).fc = d.fc := rfl
@[simp] theorem setBit_tod (d : Device) (a i : Nat) (b : Bool) : (d.setBit a i b).tod = d.tod := rfl
@[simp] theorem setBit_lanes (d : Device) (a i : Nat) (b : Bool) : (d.setBit a i b).lanes = d.lanes := rfl
@[simp] theorem setBit_hos (d : Device) (a i : Nat) (b : Bool) : (d.setBit a i b).hos = d.hos := rfl
@[simp] theorem setBit_tcs (d : Device) (a i : Nat) (b : Bool) : (d.setBit a i b).tcs = d.tcs := rfl
@[simp] theorem setBit_raw (d : Device) (a i : Nat) (b : Bool) : (d.setBit a i b).raw = d.raw := rfl
@[simp] theorem setBit_tcQueues (d : Device) (a i : Nat) (b : Bool) : (d.setBit a i b).tcQueues = d.tcQueues := rfl
@[simp] theorem setBit_clis (d : Device) (a i : Nat) (b : Bool) : (d.setBit a i b).clis = d.clis := rfl
@[simp] theorem setBit_rts (d : Device) (a i : Nat) (b : Bool) : (d.setBit a i b).rts = d.rts := rfl
@[simp] theorem setBit_cliSel (d : Device) (a i : Nat) (b : Bool) : (d.setBit a i b).cliSel = d.cliSel := rfl
@[simp] theorem setBit_hall (d : Device) (a i : Nat) (b : Bool) : (d.setBit a i b).hall = d.hall := rfl
@[simp] theorem setBit_pairs (d : Device) (a i : Nat) (b : Bool) : (d.setBit a i b).pairs = d.pairs := rfl
@[simp] theorem setBit_land (d : Device) (a i : Nat) (b : Bool) : (d.setBit a i b).land = d.land := rfl
@[simp] theorem setBit_cel (d : Device) (a i : Nat) (b : Bool) : (d.setBit a i b).cel = d.cel := rfl
@[simp] theorem setBit_pm (d : Device) (a i : Nat) (b : Bool) : (d.setBit a i b).pm = d.pm := rfl
@[simp] theorem setBit_attic (d : Device) (a i : Nat) (b : Bool) : (d.setBit a i b).attic = d.attic := rfl
@[simp] theorem setBit_hearth (d : Device) (a i : Nat) (b : Bool) : (d.setBit a i b).hearth = d.hearth := rfl
@[simp] theorem setBit_pw (d : Device) (a i : Nat) (b : Bool) : (d.setBit a i b).pw = d.pw := rfl
@[simp] theorem setBit_boot (d : Device) (a i : Nat) (b : Bool) : (d.setBit a i b).boot = d.boot := rfl
@[simp] theorem setBit_pantry (d : Device) (a i : Nat) (b : Bool) : (d.setBit a i b).pantry = d.pantry := rfl
@[simp] theorem setBit_follow (d : Device) (a i : Nat) (b : Bool) : (d.setBit a i b).follow = d.follow := rfl
@[simp] theorem setBit_porch (d : Device) (a i : Nat) (b : Bool) : (d.setBit a i b).porch = d.porch := rfl
@[simp] theorem setBit_cores (d : Device) (a i : Nat) (b : Bool) : (d.setBit a i b).cores = d.cores := rfl
@[simp] theorem setBit_meas (d : Device) (a i : Nat) (b : Bool) : (d.setBit a i b).meas = d.meas := rfl
@[simp] theorem setBit_tracer (d : Device) (a i : Nat) (b : Bool) : (d.setBit a i b).tracer = d.tracer := rfl
@[simp] theorem setBit_slots (d : Device) (a i : Nat) (b : Bool) : (d.setBit a i b).slots = d.slots := rfl

@[simp] theorem ev_uptime (d : Device) (a i : Nat) : (d.ev a i).uptime = d.uptime := rfl
@[simp] theorem ev_fresh (d : Device) (a i : Nat) : (d.ev a i).fresh = d.fresh := rfl
@[simp] theorem ev_bus (d : Device) (a i : Nat) : (d.ev a i).bus = d.bus := rfl
@[simp] theorem ev_crc (d : Device) (a i : Nat) : (d.ev a i).crc = d.crc := rfl
@[simp] theorem ev_fc (d : Device) (a i : Nat) : (d.ev a i).fc = d.fc := rfl
@[simp] theorem ev_tod (d : Device) (a i : Nat) : (d.ev a i).tod = d.tod := rfl
@[simp] theorem ev_lanes (d : Device) (a i : Nat) : (d.ev a i).lanes = d.lanes := rfl
@[simp] theorem ev_hos (d : Device) (a i : Nat) : (d.ev a i).hos = d.hos := rfl
@[simp] theorem ev_tcs (d : Device) (a i : Nat) : (d.ev a i).tcs = d.tcs := rfl
@[simp] theorem ev_raw (d : Device) (a i : Nat) : (d.ev a i).raw = d.raw := rfl
@[simp] theorem ev_tcQueues (d : Device) (a i : Nat) : (d.ev a i).tcQueues = d.tcQueues := rfl
@[simp] theorem ev_clis (d : Device) (a i : Nat) : (d.ev a i).clis = d.clis := rfl
@[simp] theorem ev_rts (d : Device) (a i : Nat) : (d.ev a i).rts = d.rts := rfl
@[simp] theorem ev_cliSel (d : Device) (a i : Nat) : (d.ev a i).cliSel = d.cliSel := rfl
@[simp] theorem ev_hall (d : Device) (a i : Nat) : (d.ev a i).hall = d.hall := rfl
@[simp] theorem ev_pairs (d : Device) (a i : Nat) : (d.ev a i).pairs = d.pairs := rfl
@[simp] theorem ev_land (d : Device) (a i : Nat) : (d.ev a i).land = d.land := rfl
@[simp] theorem ev_cel (d : Device) (a i : Nat) : (d.ev a i).cel = d.cel := rfl
@[simp] theorem ev_pm (d : Device) (a i : Nat) : (d.ev a i).pm = d.pm := rfl
@[simp] theorem ev_attic (d : Device) (a i : Nat) : (d.ev a i).attic = d.attic := rfl
@[simp] theorem ev_hearth (d : Device) (a i : Nat) : (d.ev a i).hearth = d.hearth := rfl
@[simp] theorem ev_pw (d : Device) (a i : Nat) : (d.ev a i).pw = d.pw := rfl
@[simp] theorem ev_boot (d : Device) (a i : Nat) : (d.ev a i).boot = d.boot := rfl
@[simp] theorem ev_pantry (d : Device) (a i : Nat) : (d.ev a i).pantry = d.pantry := rfl
@[simp] theorem ev_follow (d : Device) (a i : Nat) : (d.ev a i).follow = d.follow := rfl
@[simp] theorem ev_porch (d : Device) (a i : Nat) : (d.ev a i).porch = d.porch := rfl
@[simp] theorem ev_cores (d : Device) (a i : Nat) : (d.ev a i).cores = d.cores := rfl
@[simp] theorem ev_meas (d : Device) (a i : Nat) : (d.ev a i).meas = d.meas := rfl
@[simp] theorem ev_tracer (d : Device) (a i : Nat) : (d.ev a i).tracer = d.tracer := rfl
@[simp] theorem ev_slots (d : Device) (a i : Nat) : (d.ev a i).slots = d.slots := rfl

@[simp] theorem add_uptime (d : Device) (a n : Nat) : (d.add a n).uptime = d.uptime := rfl
@[simp] theorem add_fresh (d : Device) (a n : Nat) : (d.add a n).fresh = d.fresh := rfl
@[simp] theorem add_bus (d : Device) (a n : Nat) : (d.add a n).bus = d.bus := rfl
@[simp] theorem add_crc (d : Device) (a n : Nat) : (d.add a n).crc = d.crc := rfl
@[simp] theorem add_fc (d : Device) (a n : Nat) : (d.add a n).fc = d.fc := rfl
@[simp] theorem add_tod (d : Device) (a n : Nat) : (d.add a n).tod = d.tod := rfl
@[simp] theorem add_lanes (d : Device) (a n : Nat) : (d.add a n).lanes = d.lanes := rfl
@[simp] theorem add_hos (d : Device) (a n : Nat) : (d.add a n).hos = d.hos := rfl
@[simp] theorem add_tcs (d : Device) (a n : Nat) : (d.add a n).tcs = d.tcs := rfl
@[simp] theorem add_raw (d : Device) (a n : Nat) : (d.add a n).raw = d.raw := rfl
@[simp] theorem add_tcQueues (d : Device) (a n : Nat) : (d.add a n).tcQueues = d.tcQueues := rfl
@[simp] theorem add_clis (d : Device) (a n : Nat) : (d.add a n).clis = d.clis := rfl
@[simp] theorem add_rts (d : Device) (a n : Nat) : (d.add a n).rts = d.rts := rfl
@[simp] theorem add_cliSel (d : Device) (a n : Nat) : (d.add a n).cliSel = d.cliSel := rfl
@[simp] theorem add_hall (d : Device) (a n : Nat) : (d.add a n).hall = d.hall := rfl
@[simp] theorem add_pairs (d : Device) (a n : Nat) : (d.add a n).pairs = d.pairs := rfl
@[simp] theorem add_land (d : Device) (a n : Nat) : (d.add a n).land = d.land := rfl
@[simp] theorem add_cel (d : Device) (a n : Nat) : (d.add a n).cel = d.cel := rfl
@[simp] theorem add_pm (d : Device) (a n : Nat) : (d.add a n).pm = d.pm := rfl
@[simp] theorem add_attic (d : Device) (a n : Nat) : (d.add a n).attic = d.attic := rfl
@[simp] theorem add_hearth (d : Device) (a n : Nat) : (d.add a n).hearth = d.hearth := rfl
@[simp] theorem add_pw (d : Device) (a n : Nat) : (d.add a n).pw = d.pw := rfl
@[simp] theorem add_boot (d : Device) (a n : Nat) : (d.add a n).boot = d.boot := rfl
@[simp] theorem add_pantry (d : Device) (a n : Nat) : (d.add a n).pantry = d.pantry := rfl
@[simp] theorem add_follow (d : Device) (a n : Nat) : (d.add a n).follow = d.follow := rfl
@[simp] theorem add_porch (d : Device) (a n : Nat) : (d.add a n).porch = d.porch := rfl
@[simp] theorem add_cores (d : Device) (a n : Nat) : (d.add a n).cores = d.cores := rfl
@[simp] theorem add_meas (d : Device) (a n : Nat) : (d.add a n).meas = d.meas := rfl
@[simp] theorem add_tracer (d : Device) (a n : Nat) : (d.add a n).tracer = d.tracer := rfl
@[simp] theorem add_slots (d : Device) (a n : Nat) : (d.add a n).slots = d.slots := rfl

@[simp] theorem inc_uptime (d : Device) (a : Nat) : (d.inc a).uptime = d.uptime := rfl
@[simp] theorem inc_fresh (d : Device) (a : Nat) : (d.inc a).fresh = d.fresh := rfl
@[simp] theorem inc_bus (d : Device) (a : Nat) : (d.inc a).bus = d.bus := rfl
@[simp] theorem inc_crc (d : Device) (a : Nat) : (d.inc a).crc = d.crc := rfl
@[simp] theorem inc_fc (d : Device) (a : Nat) : (d.inc a).fc = d.fc := rfl
@[simp] theorem inc_tod (d : Device) (a : Nat) : (d.inc a).tod = d.tod := rfl
@[simp] theorem inc_lanes (d : Device) (a : Nat) : (d.inc a).lanes = d.lanes := rfl
@[simp] theorem inc_hos (d : Device) (a : Nat) : (d.inc a).hos = d.hos := rfl
@[simp] theorem inc_tcs (d : Device) (a : Nat) : (d.inc a).tcs = d.tcs := rfl
@[simp] theorem inc_raw (d : Device) (a : Nat) : (d.inc a).raw = d.raw := rfl
@[simp] theorem inc_tcQueues (d : Device) (a : Nat) : (d.inc a).tcQueues = d.tcQueues := rfl
@[simp] theorem inc_clis (d : Device) (a : Nat) : (d.inc a).clis = d.clis := rfl
@[simp] theorem inc_rts (d : Device) (a : Nat) : (d.inc a).rts = d.rts := rfl
@[simp] theorem inc_cliSel (d : Device) (a : Nat) : (d.inc a).cliSel = d.cliSel := rfl
@[simp] theorem inc_hall (d : Device) (a : Nat) : (d.inc a).hall = d.hall := rfl
@[simp] theorem inc_pairs (d : Device) (a : Nat) : (d.inc a).pairs = d.pairs := rfl
@[simp] theorem inc_land (d : Device) (a : Nat) : (d.inc a).land = d.land := rfl
@[simp] theorem inc_cel (d : Device) (a : Nat) : (d.inc a).cel = d.cel := rfl
@[simp] theorem inc_pm (d : Device) (a : Nat) : (d.inc a).pm = d.pm := rfl
@[simp] theorem inc_attic (d : Device) (a : Nat) : (d.inc a).attic = d.attic := rfl
@[simp] theorem inc_hearth (d : Device) (a : Nat) : (d.inc a).hearth = d.hearth := rfl
@[simp] theorem inc_pw (d : Device) (a : Nat) : (d.inc a).pw = d.pw := rfl
@[simp] theorem inc_boot (d : Device) (a : Nat) : (d.inc a).boot = d.boot := rfl
@[simp] theorem inc_pantry (d : Device) (a : Nat) : (d.inc a).pantry = d.pantry := rfl
@[simp] theorem inc_follow (d : Device) (a : Nat) : (d.inc a).follow = d.follow := rfl
@[simp] theorem inc_porch (d : Device) (a : Nat) : (d.inc a).porch = d.porch := rfl
@[simp] theorem inc_cores (d : Device) (a : Nat) : (d.inc a).cores = d.cores := rfl
@[simp] theorem inc_meas (d : Device) (a : Nat) : (d.inc a).meas = d.meas := rfl
@[simp] theorem inc_tracer (d : Device) (a : Nat) : (d.inc a).tracer = d.tracer := rfl
@[simp] theorem inc_slots (d : Device) (a : Nat) : (d.inc a).slots = d.slots := rfl

@[simp] theorem incField_uptime (d : Device) (a lo w : Nat) : (d.incField a lo w).uptime = d.uptime := rfl
@[simp] theorem incField_fresh (d : Device) (a lo w : Nat) : (d.incField a lo w).fresh = d.fresh := rfl
@[simp] theorem incField_bus (d : Device) (a lo w : Nat) : (d.incField a lo w).bus = d.bus := rfl
@[simp] theorem incField_crc (d : Device) (a lo w : Nat) : (d.incField a lo w).crc = d.crc := rfl
@[simp] theorem incField_fc (d : Device) (a lo w : Nat) : (d.incField a lo w).fc = d.fc := rfl
@[simp] theorem incField_tod (d : Device) (a lo w : Nat) : (d.incField a lo w).tod = d.tod := rfl
@[simp] theorem incField_lanes (d : Device) (a lo w : Nat) : (d.incField a lo w).lanes = d.lanes := rfl
@[simp] theorem incField_hos (d : Device) (a lo w : Nat) : (d.incField a lo w).hos = d.hos := rfl
@[simp] theorem incField_tcs (d : Device) (a lo w : Nat) : (d.incField a lo w).tcs = d.tcs := rfl
@[simp] theorem incField_raw (d : Device) (a lo w : Nat) : (d.incField a lo w).raw = d.raw := rfl
@[simp] theorem incField_tcQueues (d : Device) (a lo w : Nat) : (d.incField a lo w).tcQueues = d.tcQueues := rfl
@[simp] theorem incField_clis (d : Device) (a lo w : Nat) : (d.incField a lo w).clis = d.clis := rfl
@[simp] theorem incField_rts (d : Device) (a lo w : Nat) : (d.incField a lo w).rts = d.rts := rfl
@[simp] theorem incField_cliSel (d : Device) (a lo w : Nat) : (d.incField a lo w).cliSel = d.cliSel := rfl
@[simp] theorem incField_hall (d : Device) (a lo w : Nat) : (d.incField a lo w).hall = d.hall := rfl
@[simp] theorem incField_pairs (d : Device) (a lo w : Nat) : (d.incField a lo w).pairs = d.pairs := rfl
@[simp] theorem incField_land (d : Device) (a lo w : Nat) : (d.incField a lo w).land = d.land := rfl
@[simp] theorem incField_cel (d : Device) (a lo w : Nat) : (d.incField a lo w).cel = d.cel := rfl
@[simp] theorem incField_pm (d : Device) (a lo w : Nat) : (d.incField a lo w).pm = d.pm := rfl
@[simp] theorem incField_attic (d : Device) (a lo w : Nat) : (d.incField a lo w).attic = d.attic := rfl
@[simp] theorem incField_hearth (d : Device) (a lo w : Nat) : (d.incField a lo w).hearth = d.hearth := rfl
@[simp] theorem incField_pw (d : Device) (a lo w : Nat) : (d.incField a lo w).pw = d.pw := rfl
@[simp] theorem incField_boot (d : Device) (a lo w : Nat) : (d.incField a lo w).boot = d.boot := rfl
@[simp] theorem incField_pantry (d : Device) (a lo w : Nat) : (d.incField a lo w).pantry = d.pantry := rfl
@[simp] theorem incField_follow (d : Device) (a lo w : Nat) : (d.incField a lo w).follow = d.follow := rfl
@[simp] theorem incField_porch (d : Device) (a lo w : Nat) : (d.incField a lo w).porch = d.porch := rfl
@[simp] theorem incField_cores (d : Device) (a lo w : Nat) : (d.incField a lo w).cores = d.cores := rfl
@[simp] theorem incField_meas (d : Device) (a lo w : Nat) : (d.incField a lo w).meas = d.meas := rfl
@[simp] theorem incField_tracer (d : Device) (a lo w : Nat) : (d.incField a lo w).tracer = d.tracer := rfl
@[simp] theorem incField_slots (d : Device) (a lo w : Nat) : (d.incField a lo w).slots = d.slots := rfl

@[simp] theorem incWrap_uptime (d : Device) (a : Nat) : (d.incWrap a).uptime = d.uptime := rfl
@[simp] theorem incWrap_fresh (d : Device) (a : Nat) : (d.incWrap a).fresh = d.fresh := rfl
@[simp] theorem incWrap_bus (d : Device) (a : Nat) : (d.incWrap a).bus = d.bus := rfl
@[simp] theorem incWrap_crc (d : Device) (a : Nat) : (d.incWrap a).crc = d.crc := rfl
@[simp] theorem incWrap_fc (d : Device) (a : Nat) : (d.incWrap a).fc = d.fc := rfl
@[simp] theorem incWrap_tod (d : Device) (a : Nat) : (d.incWrap a).tod = d.tod := rfl
@[simp] theorem incWrap_lanes (d : Device) (a : Nat) : (d.incWrap a).lanes = d.lanes := rfl
@[simp] theorem incWrap_hos (d : Device) (a : Nat) : (d.incWrap a).hos = d.hos := rfl
@[simp] theorem incWrap_tcs (d : Device) (a : Nat) : (d.incWrap a).tcs = d.tcs := rfl
@[simp] theorem incWrap_raw (d : Device) (a : Nat) : (d.incWrap a).raw = d.raw := rfl
@[simp] theorem incWrap_tcQueues (d : Device) (a : Nat) : (d.incWrap a).tcQueues = d.tcQueues := rfl
@[simp] theorem incWrap_clis (d : Device) (a : Nat) : (d.incWrap a).clis = d.clis := rfl
@[simp] theorem incWrap_rts (d : Device) (a : Nat) : (d.incWrap a).rts = d.rts := rfl
@[simp] theorem incWrap_cliSel (d : Device) (a : Nat) : (d.incWrap a).cliSel = d.cliSel := rfl
@[simp] theorem incWrap_hall (d : Device) (a : Nat) : (d.incWrap a).hall = d.hall := rfl
@[simp] theorem incWrap_pairs (d : Device) (a : Nat) : (d.incWrap a).pairs = d.pairs := rfl
@[simp] theorem incWrap_land (d : Device) (a : Nat) : (d.incWrap a).land = d.land := rfl
@[simp] theorem incWrap_cel (d : Device) (a : Nat) : (d.incWrap a).cel = d.cel := rfl
@[simp] theorem incWrap_pm (d : Device) (a : Nat) : (d.incWrap a).pm = d.pm := rfl
@[simp] theorem incWrap_attic (d : Device) (a : Nat) : (d.incWrap a).attic = d.attic := rfl
@[simp] theorem incWrap_hearth (d : Device) (a : Nat) : (d.incWrap a).hearth = d.hearth := rfl
@[simp] theorem incWrap_pw (d : Device) (a : Nat) : (d.incWrap a).pw = d.pw := rfl
@[simp] theorem incWrap_boot (d : Device) (a : Nat) : (d.incWrap a).boot = d.boot := rfl
@[simp] theorem incWrap_pantry (d : Device) (a : Nat) : (d.incWrap a).pantry = d.pantry := rfl
@[simp] theorem incWrap_follow (d : Device) (a : Nat) : (d.incWrap a).follow = d.follow := rfl
@[simp] theorem incWrap_porch (d : Device) (a : Nat) : (d.incWrap a).porch = d.porch := rfl
@[simp] theorem incWrap_cores (d : Device) (a : Nat) : (d.incWrap a).cores = d.cores := rfl
@[simp] theorem incWrap_meas (d : Device) (a : Nat) : (d.incWrap a).meas = d.meas := rfl
@[simp] theorem incWrap_tracer (d : Device) (a : Nat) : (d.incWrap a).tracer = d.tracer := rfl
@[simp] theorem incWrap_slots (d : Device) (a : Nat) : (d.incWrap a).slots = d.slots := rfl

@[simp] theorem wrs_uptime (d : Device) (a : Nat) (l : List Word) : (d.wrs a l).uptime = d.uptime := by
  induction l generalizing d a with
  | nil => rfl
  | cons v t ih => exact ih _ _
@[simp] theorem wrs_fresh (d : Device) (a : Nat) (l : List Word) : (d.wrs a l).fresh = d.fresh := by
  induction l generalizing d a with
  | nil => rfl
  | cons v t ih => exact ih _ _
@[simp] theorem wrs_bus (d : Device) (a : Nat) (l : List Word) : (d.wrs a l).bus = d.bus := by
  induction l generalizing d a with
  | nil => rfl
  | cons v t ih => exact ih _ _
@[simp] theorem wrs_crc (d : Device) (a : Nat) (l : List Word) : (d.wrs a l).crc = d.crc := by
  induction l generalizing d a with
  | nil => rfl
  | cons v t ih => exact ih _ _
@[simp] theorem wrs_fc (d : Device) (a : Nat) (l : List Word) : (d.wrs a l).fc = d.fc := by
  induction l generalizing d a with
  | nil => rfl
  | cons v t ih => exact ih _ _
@[simp] theorem wrs_tod (d : Device) (a : Nat) (l : List Word) : (d.wrs a l).tod = d.tod := by
  induction l generalizing d a with
  | nil => rfl
  | cons v t ih => exact ih _ _
@[simp] theorem wrs_lanes (d : Device) (a : Nat) (l : List Word) : (d.wrs a l).lanes = d.lanes := by
  induction l generalizing d a with
  | nil => rfl
  | cons v t ih => exact ih _ _
@[simp] theorem wrs_hos (d : Device) (a : Nat) (l : List Word) : (d.wrs a l).hos = d.hos := by
  induction l generalizing d a with
  | nil => rfl
  | cons v t ih => exact ih _ _
@[simp] theorem wrs_tcs (d : Device) (a : Nat) (l : List Word) : (d.wrs a l).tcs = d.tcs := by
  induction l generalizing d a with
  | nil => rfl
  | cons v t ih => exact ih _ _
@[simp] theorem wrs_raw (d : Device) (a : Nat) (l : List Word) : (d.wrs a l).raw = d.raw := by
  induction l generalizing d a with
  | nil => rfl
  | cons v t ih => exact ih _ _
@[simp] theorem wrs_tcQueues (d : Device) (a : Nat) (l : List Word) : (d.wrs a l).tcQueues = d.tcQueues := by
  induction l generalizing d a with
  | nil => rfl
  | cons v t ih => exact ih _ _
@[simp] theorem wrs_clis (d : Device) (a : Nat) (l : List Word) : (d.wrs a l).clis = d.clis := by
  induction l generalizing d a with
  | nil => rfl
  | cons v t ih => exact ih _ _
@[simp] theorem wrs_rts (d : Device) (a : Nat) (l : List Word) : (d.wrs a l).rts = d.rts := by
  induction l generalizing d a with
  | nil => rfl
  | cons v t ih => exact ih _ _
@[simp] theorem wrs_cliSel (d : Device) (a : Nat) (l : List Word) : (d.wrs a l).cliSel = d.cliSel := by
  induction l generalizing d a with
  | nil => rfl
  | cons v t ih => exact ih _ _
@[simp] theorem wrs_hall (d : Device) (a : Nat) (l : List Word) : (d.wrs a l).hall = d.hall := by
  induction l generalizing d a with
  | nil => rfl
  | cons v t ih => exact ih _ _
@[simp] theorem wrs_pairs (d : Device) (a : Nat) (l : List Word) : (d.wrs a l).pairs = d.pairs := by
  induction l generalizing d a with
  | nil => rfl
  | cons v t ih => exact ih _ _
@[simp] theorem wrs_land (d : Device) (a : Nat) (l : List Word) : (d.wrs a l).land = d.land := by
  induction l generalizing d a with
  | nil => rfl
  | cons v t ih => exact ih _ _
@[simp] theorem wrs_cel (d : Device) (a : Nat) (l : List Word) : (d.wrs a l).cel = d.cel := by
  induction l generalizing d a with
  | nil => rfl
  | cons v t ih => exact ih _ _
@[simp] theorem wrs_pm (d : Device) (a : Nat) (l : List Word) : (d.wrs a l).pm = d.pm := by
  induction l generalizing d a with
  | nil => rfl
  | cons v t ih => exact ih _ _
@[simp] theorem wrs_attic (d : Device) (a : Nat) (l : List Word) : (d.wrs a l).attic = d.attic := by
  induction l generalizing d a with
  | nil => rfl
  | cons v t ih => exact ih _ _
@[simp] theorem wrs_hearth (d : Device) (a : Nat) (l : List Word) : (d.wrs a l).hearth = d.hearth := by
  induction l generalizing d a with
  | nil => rfl
  | cons v t ih => exact ih _ _
@[simp] theorem wrs_pw (d : Device) (a : Nat) (l : List Word) : (d.wrs a l).pw = d.pw := by
  induction l generalizing d a with
  | nil => rfl
  | cons v t ih => exact ih _ _
@[simp] theorem wrs_boot (d : Device) (a : Nat) (l : List Word) : (d.wrs a l).boot = d.boot := by
  induction l generalizing d a with
  | nil => rfl
  | cons v t ih => exact ih _ _
@[simp] theorem wrs_pantry (d : Device) (a : Nat) (l : List Word) : (d.wrs a l).pantry = d.pantry := by
  induction l generalizing d a with
  | nil => rfl
  | cons v t ih => exact ih _ _
@[simp] theorem wrs_follow (d : Device) (a : Nat) (l : List Word) : (d.wrs a l).follow = d.follow := by
  induction l generalizing d a with
  | nil => rfl
  | cons v t ih => exact ih _ _
@[simp] theorem wrs_porch (d : Device) (a : Nat) (l : List Word) : (d.wrs a l).porch = d.porch := by
  induction l generalizing d a with
  | nil => rfl
  | cons v t ih => exact ih _ _
@[simp] theorem wrs_cores (d : Device) (a : Nat) (l : List Word) : (d.wrs a l).cores = d.cores := by
  induction l generalizing d a with
  | nil => rfl
  | cons v t ih => exact ih _ _
@[simp] theorem wrs_meas (d : Device) (a : Nat) (l : List Word) : (d.wrs a l).meas = d.meas := by
  induction l generalizing d a with
  | nil => rfl
  | cons v t ih => exact ih _ _
@[simp] theorem wrs_tracer (d : Device) (a : Nat) (l : List Word) : (d.wrs a l).tracer = d.tracer := by
  induction l generalizing d a with
  | nil => rfl
  | cons v t ih => exact ih _ _
@[simp] theorem wrs_slots (d : Device) (a : Nat) (l : List Word) : (d.wrs a l).slots = d.slots := by
  induction l generalizing d a with
  | nil => rfl
  | cons v t ih => exact ih _ _
@[simp] theorem zero_uptime (d : Device) (l : List Nat) : (d.zero l).uptime = d.uptime := by
  induction l generalizing d with
  | nil => rfl
  | cons v t ih => exact ih _
@[simp] theorem zero_fresh (d : Device) (l : List Nat) : (d.zero l).fresh = d.fresh := by
  induction l generalizing d with
  | nil => rfl
  | cons v t ih => exact ih _
@[simp] theorem zero_bus (d : Device) (l : List Nat) : (d.zero l).bus = d.bus := by
  induction l generalizing d with
  | nil => rfl
  | cons v t ih => exact ih _
@[simp] theorem zero_crc (d : Device) (l : List Nat) : (d.zero l).crc = d.crc := by
  induction l generalizing d with
  | nil => rfl
  | cons v t ih => exact ih _
@[simp] theorem zero_fc (d : Device) (l : List Nat) : (d.zero l).fc = d.fc := by
  induction l generalizing d with
  | nil => rfl
  | cons v t ih => exact ih _
@[simp] theorem zero_tod (d : Device) (l : List Nat) : (d.zero l).tod = d.tod := by
  induction l generalizing d with
  | nil => rfl
  | cons v t ih => exact ih _
@[simp] theorem zero_lanes (d : Device) (l : List Nat) : (d.zero l).lanes = d.lanes := by
  induction l generalizing d with
  | nil => rfl
  | cons v t ih => exact ih _
@[simp] theorem zero_hos (d : Device) (l : List Nat) : (d.zero l).hos = d.hos := by
  induction l generalizing d with
  | nil => rfl
  | cons v t ih => exact ih _
@[simp] theorem zero_tcs (d : Device) (l : List Nat) : (d.zero l).tcs = d.tcs := by
  induction l generalizing d with
  | nil => rfl
  | cons v t ih => exact ih _
@[simp] theorem zero_raw (d : Device) (l : List Nat) : (d.zero l).raw = d.raw := by
  induction l generalizing d with
  | nil => rfl
  | cons v t ih => exact ih _
@[simp] theorem zero_tcQueues (d : Device) (l : List Nat) : (d.zero l).tcQueues = d.tcQueues := by
  induction l generalizing d with
  | nil => rfl
  | cons v t ih => exact ih _
@[simp] theorem zero_clis (d : Device) (l : List Nat) : (d.zero l).clis = d.clis := by
  induction l generalizing d with
  | nil => rfl
  | cons v t ih => exact ih _
@[simp] theorem zero_rts (d : Device) (l : List Nat) : (d.zero l).rts = d.rts := by
  induction l generalizing d with
  | nil => rfl
  | cons v t ih => exact ih _
@[simp] theorem zero_cliSel (d : Device) (l : List Nat) : (d.zero l).cliSel = d.cliSel := by
  induction l generalizing d with
  | nil => rfl
  | cons v t ih => exact ih _
@[simp] theorem zero_hall (d : Device) (l : List Nat) : (d.zero l).hall = d.hall := by
  induction l generalizing d with
  | nil => rfl
  | cons v t ih => exact ih _
@[simp] theorem zero_pairs (d : Device) (l : List Nat) : (d.zero l).pairs = d.pairs := by
  induction l generalizing d with
  | nil => rfl
  | cons v t ih => exact ih _
@[simp] theorem zero_land (d : Device) (l : List Nat) : (d.zero l).land = d.land := by
  induction l generalizing d with
  | nil => rfl
  | cons v t ih => exact ih _
@[simp] theorem zero_cel (d : Device) (l : List Nat) : (d.zero l).cel = d.cel := by
  induction l generalizing d with
  | nil => rfl
  | cons v t ih => exact ih _
@[simp] theorem zero_pm (d : Device) (l : List Nat) : (d.zero l).pm = d.pm := by
  induction l generalizing d with
  | nil => rfl
  | cons v t ih => exact ih _
@[simp] theorem zero_attic (d : Device) (l : List Nat) : (d.zero l).attic = d.attic := by
  induction l generalizing d with
  | nil => rfl
  | cons v t ih => exact ih _
@[simp] theorem zero_hearth (d : Device) (l : List Nat) : (d.zero l).hearth = d.hearth := by
  induction l generalizing d with
  | nil => rfl
  | cons v t ih => exact ih _
@[simp] theorem zero_pw (d : Device) (l : List Nat) : (d.zero l).pw = d.pw := by
  induction l generalizing d with
  | nil => rfl
  | cons v t ih => exact ih _
@[simp] theorem zero_boot (d : Device) (l : List Nat) : (d.zero l).boot = d.boot := by
  induction l generalizing d with
  | nil => rfl
  | cons v t ih => exact ih _
@[simp] theorem zero_pantry (d : Device) (l : List Nat) : (d.zero l).pantry = d.pantry := by
  induction l generalizing d with
  | nil => rfl
  | cons v t ih => exact ih _
@[simp] theorem zero_follow (d : Device) (l : List Nat) : (d.zero l).follow = d.follow := by
  induction l generalizing d with
  | nil => rfl
  | cons v t ih => exact ih _
@[simp] theorem zero_porch (d : Device) (l : List Nat) : (d.zero l).porch = d.porch := by
  induction l generalizing d with
  | nil => rfl
  | cons v t ih => exact ih _
@[simp] theorem zero_cores (d : Device) (l : List Nat) : (d.zero l).cores = d.cores := by
  induction l generalizing d with
  | nil => rfl
  | cons v t ih => exact ih _
@[simp] theorem zero_meas (d : Device) (l : List Nat) : (d.zero l).meas = d.meas := by
  induction l generalizing d with
  | nil => rfl
  | cons v t ih => exact ih _
@[simp] theorem zero_tracer (d : Device) (l : List Nat) : (d.zero l).tracer = d.tracer := by
  induction l generalizing d with
  | nil => rfl
  | cons v t ih => exact ih _
@[simp] theorem zero_slots (d : Device) (l : List Nat) : (d.zero l).slots = d.slots := by
  induction l generalizing d with
  | nil => rfl
  | cons v t ih => exact ih _

@[simp] theorem complete_regs (d : Device) (m : Nat) (c : Completion) : (d.complete m c).regs = d.regs := rfl
@[simp] theorem rd_complete (d : Device) (m : Nat) (c : Completion) (a : Nat) : (d.complete m c).rd a = d.rd a := rfl
@[simp] theorem reach_regs (d : Device) (t : Nat) : (d.reach t).regs = d.regs := rfl
@[simp] theorem rd_reach (d : Device) (t a : Nat) : (d.reach t).rd a = d.rd a := rfl

/-- What follows every command leaves the register file. -/
@[simp] theorem irqSettle_regs (d0 d : Device) : (irqSettle d0 d).regs = d.regs := by
  unfold irqSettle; split
  · rfl
  · split <;> rfl

@[simp] theorem rd_irqSettle (d0 d : Device) (a : Nat) : (irqSettle d0 d).rd a = d.rd a := by
  simp [Device.rd]

theorem live_run {s : State} (h : s.dev.boot.held = false) (f : Device → Device) :
    s.live f = .next { s with dev := irqSettle s.dev (f s.dev) } := by
  simp [State.live, State.pins, h]

theorem live_held {s : State} (h : s.dev.boot.held = true) (f : Device → Device) :
    s.live f = .next { s with dev := irqSettle s.dev s.dev } := by
  simp [State.live, State.pins, h]

theorem link_run {s : State} (h : s.dev.boot.held = false) (f : Device → Device) :
    s.link f = .next { s with dev := irqSettle s.dev (f s.dev) } := by
  simp [State.link, State.pins, h]

theorem path_run {s : State} (h : s.dev.boot.held = false) (f : Device → Device) :
    s.path f = .next { s with dev := irqSettle s.dev (Device.settle s.dev (f s.dev)) } := by
  simp [State.path, Device.settled, live_run h]

end Sys2Proof.Machine
end

