-- ==== Sys2Proof/Laws/Tab.lean ====
section
/-! SUPPORT. Reads after writes of the sparse tables and of the register file, and the canonical form a write keeps. -/

namespace Sys2Proof

theorem tabGet_tabDel_same (d : α) (t : Tab α) (n : Nat) : tabGet d (tabDel t n) n = d := by
  induction t with
  | nil => rfl
  | cons e t ih =>
    obtain ⟨k, w⟩ := e
    by_cases h : k = n
    · simpa [tabDel, h] using ih
    · simpa [tabDel, h, tabGet] using ih

theorem tabGet_tabDel_ne (d : α) (t : Tab α) {n m : Nat} (hm : m ≠ n) : tabGet d (tabDel t n) m = tabGet d t m := by
  induction t with
  | nil => rfl
  | cons e t ih =>
    obtain ⟨k, w⟩ := e
    by_cases h : k = n
    · subst h
      simpa [tabDel, tabGet, Ne.symm hm] using ih
    · by_cases hk : k = m
      · simp [tabDel, tabGet, hk, hm]
      · simpa [tabDel, h, tabGet, hk] using ih

theorem tabGet_tabIns_same (d : α) (t : Tab α) (n : Nat) (v : α) (h : n ∉ t.map (·.1)) : tabGet d (tabIns t n v) n = v := by
  induction t with
  | nil => simp [tabIns, tabGet]
  | cons e t ih =>
    obtain ⟨k, w⟩ := e
    simp only [List.map_cons, List.mem_cons, not_or] at h
    by_cases hk : n < k
    · simp [tabIns, hk, tabGet]
    · simpa [tabIns, hk, tabGet, Ne.symm h.1] using ih h.2

theorem tabGet_tabIns_ne (d : α) (t : Tab α) {n m : Nat} (v : α) (hm : m ≠ n) : tabGet d (tabIns t n v) m = tabGet d t m := by
  induction t with
  | nil => simp [tabIns, tabGet, Ne.symm hm]
  | cons e t ih =>
    obtain ⟨k, w⟩ := e
    by_cases hk : n < k
    · simp [tabIns, hk, tabGet, Ne.symm hm]
    · rw [tabIns, if_neg hk]
      by_cases h : k = m
      · simp [tabGet, h]
      · simpa [tabGet, h] using ih

theorem not_mem_tabDel (t : Tab α) (n : Nat) : n ∉ (tabDel t n).map (·.1) := by
  simp [tabDel]

theorem tabGet_tabPut_same [DecidableEq α] (d : α) (t : Tab α) (n : Nat) (v : α) : tabGet d (tabPut d t n v) n = v := by
  unfold tabPut
  split
  · rename_i h; rw [h]; exact tabGet_tabDel_same d t n
  · exact tabGet_tabIns_same d _ n v (not_mem_tabDel t n)

theorem tabGet_tabPut_ne [DecidableEq α] (d d' : α) (t : Tab α) {n m : Nat} (v : α) (hm : m ≠ n) :
    tabGet d (tabPut d' t n v) m = tabGet d t m := by
  unfold tabPut
  split
  · exact tabGet_tabDel_ne d t hm
  · rw [tabGet_tabIns_ne d _ v hm, tabGet_tabDel_ne d t hm]

theorem risingFrom_weaken {lo lo' : Nat} (h : lo' ≤ lo) : ∀ {l : List Nat}, risingFrom lo l = true → risingFrom lo' l = true
  | [], _ => rfl
  | k :: t, hl => by
    simp only [risingFrom, Bool.and_eq_true, decide_eq_true_eq] at hl ⊢
    exact ⟨Nat.lt_of_le_of_lt h hl.1, hl.2⟩

theorem risingFrom_rising {lo : Nat} : ∀ {l : List Nat}, risingFrom lo l = true → rising l = true
  | [], _ => rfl
  | k :: t, h => by simp only [risingFrom, Bool.and_eq_true] at h; exact h.2

theorem tabDel_risingFrom (t : Tab α) (n : Nat) : ∀ {lo : Nat}, risingFrom lo (t.map (·.1)) = true → risingFrom lo ((tabDel t n).map (·.1)) = true := by
  induction t with
  | nil => intro lo h; exact h
  | cons e t ih =>
    obtain ⟨k, w⟩ := e
    intro lo h
    simp only [List.map_cons, risingFrom, Bool.and_eq_true, decide_eq_true_eq] at h
    by_cases hk : k = n
    · simpa [tabDel, hk] using ih (risingFrom_weaken (Nat.le_of_lt h.1) h.2)
    · have := ih h.2
      simp only [tabDel, List.filter_cons, hk, ne_eq, not_false_eq_true, decide_true, if_true, List.map_cons, risingFrom,
        Bool.and_eq_true, decide_eq_true_eq]
      exact ⟨h.1, this⟩

theorem tabIns_risingFrom (t : Tab α) (n : Nat) (v : α) : ∀ {lo : Nat}, lo < n → n ∉ t.map (·.1) → risingFrom lo (t.map (·.1)) = true →
    risingFrom lo ((tabIns t n v).map (·.1)) = true := by
  induction t with
  | nil => intro lo hl _ _; simp [tabIns, risingFrom, hl]
  | cons e t ih =>
    obtain ⟨k, w⟩ := e
    intro lo hl hn h
    simp only [List.map_cons, List.mem_cons, not_or] at hn
    simp only [List.map_cons, risingFrom, Bool.and_eq_true, decide_eq_true_eq] at h
    by_cases hk : n < k
    · simp [tabIns, hk, risingFrom, hl, h.2]
    · have := ih (lo := k) (by omega) hn.2 h.2
      simp [tabIns, hk, risingFrom, h.1, this]

theorem tabDel_rising (t : Tab α) (n : Nat) (h : rising (t.map (·.1)) = true) : rising ((tabDel t n).map (·.1)) = true := by
  cases t with
  | nil => rfl
  | cons e t =>
    obtain ⟨k, w⟩ := e
    simp only [List.map_cons, rising] at h
    by_cases hk : k = n
    · simpa [tabDel, hk] using risingFrom_rising (tabDel_risingFrom t n h)
    · simpa [tabDel, hk, rising] using tabDel_risingFrom t n h

theorem tabIns_rising (t : Tab α) (n : Nat) (v : α) (hn : n ∉ t.map (·.1)) (h : rising (t.map (·.1)) = true) :
    rising ((tabIns t n v).map (·.1)) = true := by
  cases t with
  | nil => rfl
  | cons e t =>
    obtain ⟨k, w⟩ := e
    simp only [List.map_cons, rising] at h
    simp only [List.map_cons, List.mem_cons, not_or] at hn
    by_cases hk : n < k
    · simp [tabIns, hk, rising, risingFrom, h]
    · simpa [tabIns, hk, rising] using tabIns_risingFrom t n v (lo := k) (by omega) hn.2 h

theorem tabPut_rising [DecidableEq α] (d : α) (t : Tab α) (n : Nat) (v : α) (h : rising (t.map (·.1)) = true) :
    rising ((tabPut d t n v).map (·.1)) = true := by
  unfold tabPut
  split
  · exact tabDel_rising t n h
  · exact tabIns_rising _ n v (not_mem_tabDel t n) (tabDel_rising t n h)

theorem mem_tabIns (t : Tab α) (n : Nat) (v : α) (e : Nat × α) : e ∈ tabIns t n v ↔ e = (n, v) ∨ e ∈ t := by
  induction t with
  | nil => simp [tabIns]
  | cons f t ih =>
    obtain ⟨k, w⟩ := f
    by_cases hk : n < k
    · simp [tabIns, hk]
    · simp only [tabIns, hk, if_false, List.mem_cons, ih]
      tauto

theorem mem_tabPut [DecidableEq α] {d : α} {t : Tab α} {n : Nat} {v : α} {e : Nat × α} (h : e ∈ tabPut d t n v) :
    (e = (n, v) ∧ v ≠ d) ∨ e ∈ t := by
  unfold tabPut at h
  split at h
  · exact .inr (List.mem_filter.1 h).1
  · rename_i hv
    rcases (mem_tabIns _ n v e).1 h with h | h
    · exact .inl ⟨h, hv⟩
    · exact .inr (List.mem_filter.1 h).1

/-- A write keeps the canonical form of a table. -/
theorem tabPut_wf [DecidableEq α] (d : α) (t : Tab α) (n : Nat) (v : α) (h : tabWf d t = true) : tabWf d (tabPut d t n v) = true := by
  simp only [tabWf, Bool.and_eq_true, List.all_eq_true, decide_eq_true_eq] at h ⊢
  refine ⟨tabPut_rising d t n v h.1, fun e he => ?_⟩
  rcases mem_tabPut he with ⟨rfl, hv⟩ | he
  · exact hv
  · exact h.2 e he

namespace Machine

@[simp] theorem rd_wr_same (d : Device) (a : Nat) (v : Word) : (d.wr a v).rd a = v := tabGet_tabPut_same _ _ _ _

theorem rd_wr_ne (d : Device) {a b : Nat} (v : Word) (h : b ≠ a) : (d.wr a v).rd b = d.rd b := tabGet_tabPut_ne _ _ _ v h

theorem rd_wr (d : Device) (a b : Nat) (v : Word) : (d.wr a v).rd b = if b = a then v else d.rd b := by
  split
  · rename_i h; rw [h, rd_wr_same]
  · rename_i h; exact rd_wr_ne d v h

@[simp] theorem rd_put_same (d : Device) (a lo w v : Nat) : (d.put a lo w v).rd a = setFld (d.rd a) lo w v := rd_wr_same _ _ _

theorem rd_put_ne (d : Device) {a b : Nat} (lo w v : Nat) (h : b ≠ a) : (d.put a lo w v).rd b = d.rd b := rd_wr_ne _ _ h

theorem rd_setBit_ne (d : Device) {a b : Nat} (i : Nat) (x : Bool) (h : b ≠ a) : (d.setBit a i x).rd b = d.rd b := rd_wr_ne _ _ h

theorem rd_ev_ne (d : Device) {a b : Nat} (i : Nat) (h : b ≠ a) : (d.ev a i).rd b = d.rd b := rd_wr_ne _ _ h

theorem rd_inc_ne (d : Device) {a b : Nat} (h : b ≠ a) : (d.inc a).rd b = d.rd b := rd_wr_ne _ _ h

/-- Zeroing a list of registers: those listed read 0, every other one reads as before. -/
theorem rd_zero (d : Device) (l : List Nat) (b : Nat) : (d.zero l).rd b = if b ∈ l then 0 else d.rd b := by
  induction l generalizing d with
  | nil => simp [Device.zero]
  | cons a l ih =>
    have h : (d.zero (a :: l)) = (d.wr a 0).zero l := rfl
    rw [h, ih, rd_wr]
    by_cases hb : b ∈ l
    · simp [hb]
    · by_cases ha : b = a <;> simp [hb, ha]

end Machine
end Sys2Proof
end

