-- ==== Sys2Proof/Laws/Bus.lean ====
section
/-! SUPPORT. What a 32-bit write of a register does, once for every command that writes one: in the management domain, and in a
domain behind the dual-clock queue. -/

namespace Sys2Proof.Machine
open Sys2Proof

/-- A master with nothing staged touches no staging. -/
theorem touch_unstaged {d : Device} {m : Nat} (h : d.staged m = none) (a : Nat) : d.touch m a = d := by
  simp [Device.touch, Device.discards, h]

/-- Nor has it one to mark discarded when its access is over. -/
theorem touched_unstaged {d : Device} {m : Nat} (h : d.staged m = none) (a : Nat) (d1 : Device) : d.touched m a d1 = d1 := by
  simp [Device.touched, Device.discards, h]

theorem wideReg_of {a : Nat} {l : Loc} {r : RegRow} (hl : locOf a = some l) (hr : rowAt l = some r) : wideReg a = r.wide := by
  have h : rowOf a = some r := by simpa [rowOf, hl, rowAt] using hr
  simp [wideReg, h]

/-- An accepted access leaves no record of refusal. -/
@[simp] theorem ended_ok (x : Access) (a : Nat) (d : Device) : Device.ended x a (.ok, d) = d.complete x.master {} := rfl

theorem domainAt_of {a : Nat} {l : Loc} (hl : locOf a = some l) : domainAt a = domainOf l := by
  simp [domainAt, hl]

/-- A write the bridge accepts of a 32-bit register: what the register does with it, then the completion. -/
theorem busWrite_mgmt {d : Device} {m a : Nat} {v : Word} {l : Loc} {r : RegRow} (hs : d.staged m = none) (hl : locOf a = some l)
    (hr : rowAt l = some r) (hd : domainOf l = none) (ha : a % 4 = 0) (hw : r.wide = false) (hro : r.acc ≠ .ro) (hrs : r.acc ≠ .rs)
    (hk : r.acc ≠ .lock) (hn : d.refusal a l r v = none) (he : (d.applyLoc m a l r v).1 = .ok) :
    d.busWrite m a 15 v =
      (settleAt a d (if r.cov = true then (d.applyLoc m a l r v).2.covered else (d.applyLoc m a l r v).2)).complete m {} := by
  have h2 : noteCovered r.cov (d.applyLoc m a l r v) =
      (.ok, if r.cov = true then (d.applyLoc m a l r v).2.covered else (d.applyLoc m a l r v).2) := by
    unfold noteCovered
    by_cases hc : r.cov = true
    · simp [he, hc]
    · simp [hc]
      exact Prod.ext he rfl
  have h1 : d.writeAt false m a v =
      (.ok, settleAt a d (if r.cov = true then (d.applyLoc m a l r v).2.covered else (d.applyLoc m a l r v).2)) := by
    simp [Device.writeAt, hl, hr, hro, hrs, hk, hw, hn, hd, Device.takeWrite, h2]
  simp [Device.busWrite, ha, Device.writeBytes, Device.writeWord, touch_unstaged hs, touched_unstaged hs, h1]

/-- A register command of the management domain. -/
theorem cmdWrite_mgmt {d : Device} {m a : Nat} {v : Word} {l : Loc} {r : RegRow} (hs : d.staged m = none) (hl : locOf a = some l)
    (hr : rowAt l = some r) (hd : domainOf l = none) (ha : a % 4 = 0) (hw : r.wide = false) (hro : r.acc ≠ .ro) (hrs : r.acc ≠ .rs)
    (hk : r.acc ≠ .lock) (hn : d.refusal a l r v = none) (he : (d.applyLoc m a l r v).1 = .ok) :
    d.cmdWrite m a v =
      (settleAt a d (if r.cov = true then (d.applyLoc m a l r v).2.covered else (d.applyLoc m a l r v).2)).complete m {} := by
  have hda : domainAt a = none := by rw [domainAt_of hl, hd]
  simp only [Device.cmdWrite, Device.drainFor, hda]
  exact busWrite_mgmt hs hl hr hd ha hw hro hrs hk hn he

/-- A register command the bridge refuses: nothing but the record of the refusal and the completion. -/
theorem cmdWrite_refused {d d1 : Device} {m a : Nat} {v : Word} {l : Loc} {r : RegRow} {st : Status} (hs : d.staged m = none)
    (hl : locOf a = some l) (hr : rowAt l = some r) (hd : domainOf l = none) (ha : a % 4 = 0) (hw : r.wide = false) (hro : r.acc ≠ .ro)
    (hrs : r.acc ≠ .rs) (hk : r.acc ≠ .lock) (hn : d.refusal a l r v = some (st, d1)) :
    d.cmdWrite m a v = (d1.refused { master := m, wide := false } st a).complete m { status := st } := by
  have hda : domainAt a = none := by rw [domainAt_of hl, hd]
  have h1 : d.writeAt false m a v = (st, d1) := by
    simp [Device.writeAt, hl, hr, hro, hrs, hk, hw, hn]
  have h3 : d.writeBytes false m a 15 v = (st, d1) := by
    simp [Device.writeBytes, Device.writeWord, touch_unstaged hs, touched_unstaged hs, h1]
  simp [Device.cmdWrite, Device.drainFor, hda, Device.busWrite, ha, h3, Device.ended, wideReg_of hl hr, hw]

/-- Nothing waits in a domain's dual-clock queue, and the domain runs. -/
structure DomainIdle (d : Device) (m : Domain) : Prop where
  empty : d.queueOf m = []
  runs : d.bus.stopped.contains m = false

theorem setQueue_back {d : Device} {m : Domain} (h : d.queueOf m = []) (q : List Posted) : (d.setQueue m q).setQueue m [] = d := by
  cases m <;> simp_all [Device.setQueue, Device.onBus, Device.queueOf] <;> (rw [← h])

theorem covered_bus (d : Device) : d.covered.bus = d.bus := rfl

/-- A register command in a domain behind a queue that is empty: it is posted, completed, and takes effect in its domain. -/
theorem cmdWrite_posted {d : Device} {m a : Nat} {v : Word} {l : Loc} {r : RegRow} {dom : Domain} (hs : d.staged m = none)
    (hl : locOf a = some l) (hr : rowAt l = some r) (hd : domainOf l = some dom) (hq : DomainIdle d dom) (ha : a % 4 = 0)
    (hw : r.wide = false) (hro : r.acc ≠ .ro) (hrs : r.acc ≠ .rs) (hk : r.acc ≠ .lock) (hn : d.refusal a l r v = none) :
    d.cmdWrite m a v =
      ((if r.cov = true then d.covered else d).complete m {}).takeEffect ⟨m, a, dom, .word v⟩ := by
  have hda : domainAt a = some dom := by rw [domainAt_of hl, hd]
  have h0 : d.drainFor a = d := by
    simp [Device.drainFor, hda, hq.empty, Device.drainDomain]
  have hrun : ∀ x : Device, x.bus.stopped = d.bus.stopped → x.domRun dom = x := by
    intro x hx
    have : x.bus.stopped.filter (· != dom) = x.bus.stopped := by
      rw [List.filter_eq_self]
      intro y hy
      have := hq.runs
      rw [hx] at hy
      simp only [List.contains_eq_any_beq, List.any_eq_false, bne_iff_ne, ne_eq] at this ⊢
      intro h
      exact this y hy (by simp [h])
    simp [Device.domRun, this]
  have h1 : d.writeAt false m a v =
      (.ok, if r.cov = true then (d.setQueue dom [⟨m, a, dom, .word v⟩]).covered else d.setQueue dom [⟨m, a, dom, .word v⟩]) := by
    by_cases hc : r.cov = true <;>
      simp [Device.writeAt, hl, hr, hro, hrs, hk, hw, hn, hd, Device.post, hq.empty, noteCovered, hc]
  have h2 : d.busWrite m a 15 v =
      (if r.cov = true then (d.setQueue dom [⟨m, a, dom, .word v⟩]).covered else d.setQueue dom [⟨m, a, dom, .word v⟩]).complete m {} := by
    simp [Device.busWrite, ha, Device.writeBytes, Device.writeWord, touch_unstaged hs, touched_unstaged hs, h1]
  rw [Device.cmdWrite, h0, h2]
  have key : ∀ x : Device, x.bus = d.bus →
      (((x.setQueue dom [⟨m, a, dom, .word v⟩]).complete m {}).drainFor a) =
        (x.complete m {}).takeEffect ⟨m, a, dom, .word v⟩ := by
    intro x hx
    have hxq : x.queueOf dom = [] := by simpa [Device.queueOf, hx] using hq.empty
    have hxs : x.bus.stopped.contains dom = false := by rw [hx]; exact hq.runs
    have hst : ((x.setQueue dom [⟨m, a, dom, .word v⟩]).complete m {}).bus.stopped = x.bus.stopped := by
      cases dom <;> rfl
    have hqq : ((x.setQueue dom [⟨m, a, dom, .word v⟩]).complete m {}).queueOf dom = [⟨m, a, dom, .word v⟩] := by
      cases dom <;> simp [Device.queueOf, Device.setQueue, Device.complete, Device.onBus]
    have hback : ((x.setQueue dom [⟨m, a, dom, .word v⟩]).complete m {}).setQueue dom [] = x.complete m {} := by
      have := setQueue_back hxq [⟨m, a, dom, .word v⟩]
      have hcomm : ((x.setQueue dom [⟨m, a, dom, .word v⟩]).complete m {}).setQueue dom [] =
          ((x.setQueue dom [⟨m, a, dom, .word v⟩]).setQueue dom []).complete m {} := by
        cases dom <;> rfl
      rw [hcomm, this]
    simp only [Device.drainFor, hda, hst, hxs, Bool.false_eq_true, if_false, hqq, List.length_singleton, Device.drainDomain,
      Device.takePosted, popFor, if_true, hback]
    rw [hrun]
    simp [Device.complete, Device.onBus, hx]
  by_cases hc : r.cov = true
  · simp only [hc, if_true]
    have : (d.setQueue dom [⟨m, a, dom, .word v⟩]).covered = d.covered.setQueue dom [⟨m, a, dom, .word v⟩] := by
      cases dom <;> rfl
    rw [this]
    exact key d.covered rfl
  · simp only [hc, Bool.false_eq_true, if_false]
    exact key d rfl

end Sys2Proof.Machine
end

