-- ==== Sys2Proof/Laws/Map.lean ====
section
/-! SUPPORT. Where the words of lanes, slices, contexts, selectors and windows lie. -/

namespace Sys2Proof.Machine
open Sys2Proof

theorem locOf_lane {n o : Nat} (hn : n < 64) (ho : o < 0x10000) : locOf (laneBase n + o) = some ⟨.lane, n, o⟩ := by
  unfold locOf laneBase
  iterate 2 rw [if_neg (by omega)]
  rw [if_pos (by omega)]
  congr 2 <;> omega

theorem locOf_slice {n o : Nat} (hn : n < 16) (ho : o < 0x10000) : locOf (sliceBase n + o) = some ⟨.slice, n, o⟩ := by
  unfold locOf sliceBase
  iterate 4 rw [if_neg (by omega)]
  rw [if_pos (by omega)]
  congr 2 <;> omega

theorem locOf_ho {n o : Nat} (hn : n < 12288) (ho : o < 0x100) : locOf (hoBase n + o) = some ⟨.ho, n, o⟩ := by
  unfold locOf hoBase
  iterate 6 rw [if_neg (by omega)]
  rw [if_pos (by omega)]
  congr 2 <;> omega

theorem locOf_tc {n o : Nat} (hn : n < 262144) (ho : o < 0x40) : locOf (tcBase n + o) = some ⟨.tc, n, o⟩ := by
  unfold locOf tcBase
  iterate 8 rw [if_neg (by omega)]
  rw [if_pos (by omega)]
  congr 2 <;> omega

theorem locOf_sel {n o : Nat} (hn : n < 137216) (ho : o < 0x20) : locOf (selBase n + o) = some ⟨.sel, n, o⟩ := by
  unfold locOf selBase
  iterate 15 rw [if_neg (by omega)]
  rw [if_pos (by omega)]
  congr 2 <;> omega

theorem locOf_block {b o : Nat} (hb : b < 14) (ho : o < 0x10000) : locOf (0x10000 * b + o) = (globalBlk b).map (fun x => ⟨x, 0, o⟩) := by
  unfold locOf
  rw [if_pos (by omega)]
  have h1 : (0x10000 * b + o) / 0x10000 = b := by omega
  have h2 : (0x10000 * b + o) % 0x10000 = o := by omega
  rw [h1, h2]

end Sys2Proof.Machine
end

