-- ==== Sys2Proof/Laws/Unit.lean ====
section
/-! SUPPORT. An update of one unit's state leaves the register file, and reads back; a report to the Fault Collector changes nothing
else. -/

namespace Sys2Proof.Machine
open Sys2Proof

@[simp] theorem onPorch_regs (d : Device) (f : PorchSt → PorchSt) : (d.onPorch f).regs = d.regs := rfl
@[simp] theorem rd_onPorch (d : Device) (f : PorchSt → PorchSt) (a : Nat) : (d.onPorch f).rd a = d.rd a := rfl
@[simp] theorem onPorch_porch (d : Device) (f : PorchSt → PorchSt) : (d.onPorch f).porch = f d.porch := rfl
@[simp] theorem onTod_regs (d : Device) (f : Tod → Tod) : (d.onTod f).regs = d.regs := rfl
@[simp] theorem rd_onTod (d : Device) (f : Tod → Tod) (a : Nat) : (d.onTod f).rd a = d.rd a := rfl
@[simp] theorem onTod_tod (d : Device) (f : Tod → Tod) : (d.onTod f).tod = f d.tod := rfl
@[simp] theorem onMeas_regs (d : Device) (f : MeasSt → MeasSt) : (d.onMeas f).regs = d.regs := rfl
@[simp] theorem rd_onMeas (d : Device) (f : MeasSt → MeasSt) (a : Nat) : (d.onMeas f).rd a = d.rd a := rfl
@[simp] theorem onMeas_meas (d : Device) (f : MeasSt → MeasSt) : (d.onMeas f).meas = f d.meas := rfl
@[simp] theorem onPantry_regs (d : Device) (f : PantrySt → PantrySt) : (d.onPantry f).regs = d.regs := rfl
@[simp] theorem rd_onPantry (d : Device) (f : PantrySt → PantrySt) (a : Nat) : (d.onPantry f).rd a = d.rd a := rfl
@[simp] theorem onPantry_pantry (d : Device) (f : PantrySt → PantrySt) : (d.onPantry f).pantry = f d.pantry := rfl
@[simp] theorem onFc_regs (d : Device) (f : FaultCol → FaultCol) : (d.onFc f).regs = d.regs := rfl
@[simp] theorem rd_onFc (d : Device) (f : FaultCol → FaultCol) (a : Nat) : (d.onFc f).rd a = d.rd a := rfl
@[simp] theorem onFc_fc (d : Device) (f : FaultCol → FaultCol) : (d.onFc f).fc = f d.fc := rfl
@[simp] theorem onHearth_regs (d : Device) (f : HearthSt → HearthSt) : (d.onHearth f).regs = d.regs := rfl
@[simp] theorem rd_onHearth (d : Device) (f : HearthSt → HearthSt) (a : Nat) : (d.onHearth f).rd a = d.rd a := rfl
@[simp] theorem onHearth_hearth (d : Device) (f : HearthSt → HearthSt) : (d.onHearth f).hearth = f d.hearth := rfl
@[simp] theorem onBoot_regs (d : Device) (f : BootSt → BootSt) : (d.onBoot f).regs = d.regs := rfl
@[simp] theorem rd_onBoot (d : Device) (f : BootSt → BootSt) (a : Nat) : (d.onBoot f).rd a = d.rd a := rfl
@[simp] theorem onBoot_boot (d : Device) (f : BootSt → BootSt) : (d.onBoot f).boot = f d.boot := rfl
@[simp] theorem onPw_regs (d : Device) (f : PwSt → PwSt) : (d.onPw f).regs = d.regs := rfl
@[simp] theorem rd_onPw (d : Device) (f : PwSt → PwSt) (a : Nat) : (d.onPw f).rd a = d.rd a := rfl
@[simp] theorem onPw_pw (d : Device) (f : PwSt → PwSt) : (d.onPw f).pw = f d.pw := rfl
@[simp] theorem onBus_regs (d : Device) (f : Bus → Bus) : (d.onBus f).regs = d.regs := rfl
@[simp] theorem rd_onBus (d : Device) (f : Bus → Bus) (a : Nat) : (d.onBus f).rd a = d.rd a := rfl
@[simp] theorem onBus_bus (d : Device) (f : Bus → Bus) : (d.onBus f).bus = f d.bus := rfl
@[simp] theorem onAttic_regs (d : Device) (f : AtticSt → AtticSt) : (d.onAttic f).regs = d.regs := rfl
@[simp] theorem rd_onAttic (d : Device) (f : AtticSt → AtticSt) (a : Nat) : (d.onAttic f).rd a = d.rd a := rfl
@[simp] theorem onAttic_attic (d : Device) (f : AtticSt → AtticSt) : (d.onAttic f).attic = f d.attic := rfl
@[simp] theorem onTracer_regs (d : Device) (f : TracerSt → TracerSt) : (d.onTracer f).regs = d.regs := rfl
@[simp] theorem rd_onTracer (d : Device) (f : TracerSt → TracerSt) (a : Nat) : (d.onTracer f).rd a = d.rd a := rfl
@[simp] theorem onTracer_tracer (d : Device) (f : TracerSt → TracerSt) : (d.onTracer f).tracer = f d.tracer := rfl

@[simp] theorem setLane_regs (d : Device) (n : Nat) (x : LaneSt) : (d.setLane n x).regs = d.regs := rfl
@[simp] theorem rd_setLane (d : Device) (n : Nat) (x : LaneSt) (a : Nat) : (d.setLane n x).rd a = d.rd a := rfl
@[simp] theorem lane_setLane (d : Device) (n : Nat) (x : LaneSt) : (d.setLane n x).lane n = x := tabGet_tabPut_same _ _ _ _
theorem lane_setLane_ne (d : Device) {n m : Nat} (x : LaneSt) (hm : m ≠ n) : (d.setLane n x).lane m = d.lane m := tabGet_tabPut_ne _ _ _ _ hm
@[simp] theorem setHo_regs (d : Device) (h : Nat) (x : HoSt) : (d.setHo h x).regs = d.regs := rfl
@[simp] theorem rd_setHo (d : Device) (h : Nat) (x : HoSt) (a : Nat) : (d.setHo h x).rd a = d.rd a := rfl
@[simp] theorem ho_setHo (d : Device) (h : Nat) (x : HoSt) : (d.setHo h x).ho h = x := tabGet_tabPut_same _ _ _ _
theorem ho_setHo_ne (d : Device) {h m : Nat} (x : HoSt) (hm : m ≠ h) : (d.setHo h x).ho m = d.ho m := tabGet_tabPut_ne _ _ _ _ hm
@[simp] theorem setTc_regs (d : Device) (k : Nat) (x : TcSt) : (d.setTc k x).regs = d.regs := rfl
@[simp] theorem rd_setTc (d : Device) (k : Nat) (x : TcSt) (a : Nat) : (d.setTc k x).rd a = d.rd a := rfl
@[simp] theorem tc_setTc (d : Device) (k : Nat) (x : TcSt) : (d.setTc k x).tc k = x := tabGet_tabPut_same _ _ _ _
theorem tc_setTc_ne (d : Device) {k m : Nat} (x : TcSt) (hm : m ≠ k) : (d.setTc k x).tc m = d.tc m := tabGet_tabPut_ne _ _ _ _ hm
@[simp] theorem setCli_regs (d : Device) (j : Nat) (x : Cli) : (d.setCli j x).regs = d.regs := rfl
@[simp] theorem rd_setCli (d : Device) (j : Nat) (x : Cli) (a : Nat) : (d.setCli j x).rd a = d.rd a := rfl
@[simp] theorem cli_setCli (d : Device) (j : Nat) (x : Cli) : (d.setCli j x).cli j = x := tabGet_tabPut_same _ _ _ _
theorem cli_setCli_ne (d : Device) {j m : Nat} (x : Cli) (hm : m ≠ j) : (d.setCli j x).cli m = d.cli m := tabGet_tabPut_ne _ _ _ _ hm
@[simp] theorem setRt_regs (d : Device) (k : Nat) (x : Retimer) : (d.setRt k x).regs = d.regs := rfl
@[simp] theorem rd_setRt (d : Device) (k : Nat) (x : Retimer) (a : Nat) : (d.setRt k x).rd a = d.rd a := rfl
@[simp] theorem rt_setRt (d : Device) (k : Nat) (x : Retimer) : (d.setRt k x).rt k = x := tabGet_tabPut_same _ _ _ _
theorem rt_setRt_ne (d : Device) {k m : Nat} (x : Retimer) (hm : m ≠ k) : (d.setRt k x).rt m = d.rt m := tabGet_tabPut_ne _ _ _ _ hm
@[simp] theorem setPoint_regs (d : Device) (p : Nat) (x : PmPoint) : (d.setPoint p x).regs = d.regs := rfl
@[simp] theorem rd_setPoint (d : Device) (p : Nat) (x : PmPoint) (a : Nat) : (d.setPoint p x).rd a = d.rd a := rfl
@[simp] theorem point_setPoint (d : Device) (p : Nat) (x : PmPoint) : (d.setPoint p x).point p = x := tabGet_tabPut_same _ _ _ _
theorem point_setPoint_ne (d : Device) {p m : Nat} (x : PmPoint) (hm : m ≠ p) : (d.setPoint p x).point m = d.point m := tabGet_tabPut_ne _ _ _ _ hm
@[simp] theorem setSel_regs (d : Device) (i : Nat) (x : Sel) : (d.setSel i x).regs = d.regs := rfl
@[simp] theorem rd_setSel (d : Device) (i : Nat) (x : Sel) (a : Nat) : (d.setSel i x).rd a = d.rd a := rfl
@[simp] theorem sel_setSel (d : Device) (i : Nat) (x : Sel) : (d.setSel i x).sel i = x := tabGet_tabPut_same _ _ _ _
theorem sel_setSel_ne (d : Device) {i m : Nat} (x : Sel) (hm : m ≠ i) : (d.setSel i x).sel m = d.sel m := tabGet_tabPut_ne _ _ _ _ hm
@[simp] theorem setMsp_regs (d : Device) (i : Nat) (x : Msp) : (d.setMsp i x).regs = d.regs := rfl
@[simp] theorem rd_setMsp (d : Device) (i : Nat) (x : Msp) (a : Nat) : (d.setMsp i x).rd a = d.rd a := rfl
@[simp] theorem msp_setMsp (d : Device) (i : Nat) (x : Msp) : (d.setMsp i x).msp i = x := tabGet_tabPut_same _ _ _ _
theorem msp_setMsp_ne (d : Device) {i m : Nat} (x : Msp) (hm : m ≠ i) : (d.setMsp i x).msp m = d.msp m := tabGet_tabPut_ne _ _ _ _ hm
@[simp] theorem setRing_regs (d : Device) (r : Nat) (x : Ring) : (d.setRing r x).regs = d.regs := rfl
@[simp] theorem rd_setRing (d : Device) (r : Nat) (x : Ring) (a : Nat) : (d.setRing r x).rd a = d.rd a := rfl
@[simp] theorem ring_setRing (d : Device) (r : Nat) (x : Ring) : (d.setRing r x).ring r = x := tabGet_tabPut_same _ _ _ _
theorem ring_setRing_ne (d : Device) {r m : Nat} (x : Ring) (hm : m ≠ r) : (d.setRing r x).ring m = d.ring m := tabGet_tabPut_ne _ _ _ _ hm
@[simp] theorem setBins_regs (d : Device) (p : Nat) (x : PmBins) : (d.setBins p x).regs = d.regs := rfl
@[simp] theorem rd_setBins (d : Device) (p : Nat) (x : PmBins) (a : Nat) : (d.setBins p x).rd a = d.rd a := rfl
@[simp] theorem bins_setBins (d : Device) (p : Nat) (x : PmBins) : (d.setBins p x).bins p = x := tabGet_tabPut_same _ _ _ _
theorem bins_setBins_ne (d : Device) {p m : Nat} (x : PmBins) (hm : m ≠ p) : (d.setBins p x).bins m = d.bins m := tabGet_tabPut_ne _ _ _ _ hm
@[simp] theorem onLane_regs (d : Device) (n : Nat) (f : LaneSt → LaneSt) : (d.onLane n f).regs = d.regs := rfl
@[simp] theorem rd_onLane (d : Device) (n : Nat) (f : LaneSt → LaneSt) (a : Nat) : (d.onLane n f).rd a = d.rd a := rfl
@[simp] theorem lane_onLane (d : Device) (n : Nat) (f : LaneSt → LaneSt) : (d.onLane n f).lane n = f (d.lane n) := tabGet_tabPut_same _ _ _ _
theorem lane_onLane_ne (d : Device) {n m : Nat} (f : LaneSt → LaneSt) (hm : m ≠ n) : (d.onLane n f).lane m = d.lane m := tabGet_tabPut_ne _ _ _ _ hm
@[simp] theorem onHo_regs (d : Device) (h : Nat) (f : HoSt → HoSt) : (d.onHo h f).regs = d.regs := rfl
@[simp] theorem rd_onHo (d : Device) (h : Nat) (f : HoSt → HoSt) (a : Nat) : (d.onHo h f).rd a = d.rd a := rfl
@[simp] theorem ho_onHo (d : Device) (h : Nat) (f : HoSt → HoSt) : (d.onHo h f).ho h = f (d.ho h) := tabGet_tabPut_same _ _ _ _
theorem ho_onHo_ne (d : Device) {h m : Nat} (f : HoSt → HoSt) (hm : m ≠ h) : (d.onHo h f).ho m = d.ho m := tabGet_tabPut_ne _ _ _ _ hm
@[simp] theorem onTc_regs (d : Device) (k : Nat) (f : TcSt → TcSt) : (d.onTc k f).regs = d.regs := rfl
@[simp] theorem rd_onTc (d : Device) (k : Nat) (f : TcSt → TcSt) (a : Nat) : (d.onTc k f).rd a = d.rd a := rfl
@[simp] theorem tc_onTc (d : Device) (k : Nat) (f : TcSt → TcSt) : (d.onTc k f).tc k = f (d.tc k) := tabGet_tabPut_same _ _ _ _
theorem tc_onTc_ne (d : Device) {k m : Nat} (f : TcSt → TcSt) (hm : m ≠ k) : (d.onTc k f).tc m = d.tc m := tabGet_tabPut_ne _ _ _ _ hm
@[simp] theorem setSw_regs (d : Device) (w : Option HallSw) : (d.setSw w).regs = d.regs := rfl
@[simp] theorem rd_setSw (d : Device) (w : Option HallSw) (a : Nat) : (d.setSw w).rd a = d.rd a := rfl
@[simp] theorem setSw_sw (d : Device) (w : Option HallSw) : (d.setSw w).hall.sw = w := rfl
@[simp] theorem free_regs (d : Device) : d.free.2.regs = d.regs := rfl
@[simp] theorem rd_free (d : Device) (a : Nat) : d.free.2.rd a = d.rd a := rfl

/-- A report waits for its slot, and that is all it does. -/
theorem raise_eq (d : Device) (r : SrcReport) : ∃ l, d.raise r = { d with fc := { d.fc with raised := l } } := by
  unfold Device.raise
  split
  · exact ⟨d.fc.raised, rfl⟩
  · exact ⟨_, rfl⟩

@[simp] theorem raise_regs (d : Device) (r : SrcReport) : (d.raise r).regs = d.regs := by
  obtain ⟨l, h⟩ := raise_eq d r; rw [h]

@[simp] theorem rd_raise (d : Device) (r : SrcReport) (a : Nat) : (d.raise r).rd a = d.rd a := by simp [Device.rd]

theorem raiseAll_eq (l : List SrcReport) : ∀ d : Device, ∃ m, l.foldl Device.raise d = { d with fc := { d.fc with raised := m } } := by
  induction l with
  | nil => exact fun d => ⟨d.fc.raised, rfl⟩
  | cons r t ih =>
    intro d
    obtain ⟨m, hm⟩ := raise_eq d r
    obtain ⟨m', h'⟩ := ih (d.raise r)
    refine ⟨m', ?_⟩
    rw [List.foldl_cons, h', hm]

/-- Reports of slots that follow one another wait, and that is all they do. -/
theorem raiseSlots_eq (d : Device) (g : List (List SrcReport)) : ∃ m n, d.raiseSlots g = { d with fc := { d.fc with raised := m, later := n } } := by
  cases g with
  | nil => exact ⟨d.fc.raised, d.fc.later, rfl⟩
  | cons now rest =>
    obtain ⟨m, hm⟩ := raiseAll_eq now d
    refine ⟨m, d.fc.later ++ rest, ?_⟩
    simp only [Device.raiseSlots, hm]

@[simp] theorem raiseSlots_regs (d : Device) (g : List (List SrcReport)) : (d.raiseSlots g).regs = d.regs := by
  obtain ⟨m, n, h⟩ := raiseSlots_eq d g; rw [h]

@[simp] theorem rd_raiseSlots (d : Device) (g : List (List SrcReport)) (a : Nat) : (d.raiseSlots g).rd a = d.rd a := by simp [Device.rd]

end Sys2Proof.Machine
end

