-- ==== Sys2Proof/Tests/Slice0.lean ====
section
/-! SUPPORT. Tests: what WellFormed refuses, for every statement a state and operands that meet the premises of each of its
clauses, and single steps takes from the spec's own words. -/

namespace Sys2Proof.Tests
set_option Elab.async false
open Sys2Proof Sys2Proof.Machine Sys2Proof.Safety

/-! Small states: the machine after reset with one change. -/

/-- The state after reset, its device changed. -/
def on (f : Device → Device) : State := { State.reset with dev := f State.reset.dev }
/-- The commands `cs` wait after reset. -/
def waiting (cs : List Instr) : State := { State.reset with pending := cs }
/-- Both cores run. -/
def coresRun (d : Device) : Device := { d with cores := ⟨false, false⟩ }
/-- `Live`, as a computation. -/
def liveB (s : State) : Bool := !s.dev.boot.held
/-- `Ready`, as a computation. -/
def ready (s : State) (m : Nat) : Bool := liveB s && decide (m < 7) && (s.dev.staged m).isNone
/-- `DomainReady`, as a computation. -/
def domReady (s : State) (dom : Domain) : Bool := (s.dev.queueOf dom).isEmpty && !s.dev.bus.stopped.contains dom
/-- `WallUp`, as a computation. -/
def wallUp (s : State) : Bool := s.dev.pw.up && (match s.dev.pw.op with | some k => decide (k < 16) | none => true)
/-- The register at `a` exists and meets `p`. -/
def rowMeets (a : Nat) (p : RegRow → Bool) : Bool := match rowOf a with | some r => p r | none => false
/-- A write of `v` to the register at `a`, which exists, meets no refusal. -/
def takes (d : Device) (a : Nat) (l : Loc) (v : Word) : Bool := rowMeets a (fun r => (d.refusal a l r v).isNone)

theorem live_of {s : State} (h : liveB s = true) : Live s := by
  simpa [liveB, Live] using h
theorem ready_of {s : State} {m : Nat} (h : ready s m = true) : Ready s m := by
  simp only [ready, Bool.and_eq_true, decide_eq_true_eq, Option.isNone_iff_eq_none] at h
  exact ⟨live_of h.1.1, h.1.2, h.2⟩
theorem domReady_of {s : State} {dom : Domain} (h : domReady s dom = true) : DomainReady s dom := by
  simp only [domReady, Bool.and_eq_true, List.isEmpty_iff, Bool.not_eq_true'] at h
  exact ⟨h.1, h.2⟩
theorem wallUp_of {s : State} (h : wallUp s = true) : WallUp s := by
  simp only [wallUp, Bool.and_eq_true] at h
  refine ⟨h.1, fun k hk => ?_⟩
  have := h.2
  rw [hk] at this
  simpa using this
theorem rowMeets_of {a : Nat} {p : RegRow → Bool} (h : rowMeets a p = true) : ∃ r, rowOf a = some r ∧ p r = true := by
  unfold rowMeets at h
  split at h
  · exact ⟨_, ‹_›, h⟩
  · cases h
theorem takes_of {d : Device} {a : Nat} {l : Loc} {v : Word} (h : takes d a l v = true) :
    ∃ r, rowOf a = some r ∧ d.refusal a l r v = none := by
  obtain ⟨r, h1, h2⟩ := rowMeets_of h
  exact ⟨r, h1, by simpa using h2⟩

/-! Witnesses: one theorem per statement, one conjunct per clause. -/

theorem witness_StepRunsTheFrontCommandOrOneHkPeriod :
    State.reset.pending = [] ∧ (let s := on fun d => { d with boot := { d.boot with held := true } }
      s.pending.isEmpty && s.dev.boot.held && !s.dev.boot.warm) = true := by decide

theorem witness_TestPortStaysLegal : TapLegal (waiting [.highz]).tap ∧ ∃ t, step (waiting [.highz]) = .next t :=
  ⟨⟨by decide, List.length_replicate ..⟩, _, rfl⟩

theorem witness_OnlyTestPortCommandsTouchThePort : (∃ t, exec .coldReset State.reset = .next t) ∧ ∃ t, step State.reset = .next t :=
  ⟨⟨_, rfl⟩, _, rfl⟩

theorem witness_TestPortInstructionsLoad : (List.replicate 1642 true).length = 1642 ∧ 0xFF = 0xFF ∧ 0x06 ∉ tapCodes ∧
    State.reset.dev.boot.power = true ∧ State.reset.tap.drives = false ∧
    (let s := on fun d => { d with boot := { d.boot with held := true } }
     s.dev.boot.power && s.dev.boot.held) = true ∧
    ((on fun d => d.put 0x20010 0 4 7).dev.boot.power && !(on fun d => d.put 0x20010 0 4 7).dev.boot.held &&
      (on fun d => d.put 0x20010 0 4 7).dev.bootPhase != 0) = true ∧
    [0x00, 0x05, 0x09, 0x0A, 0x04].all (fun ir => (State.mk State.reset.dev ⟨ir, []⟩ []).dev.boot.power) = true :=
  ⟨List.length_replicate .., rfl, by decide, rfl, rfl, by decide, by decide, by decide⟩

theorem witness_ReservedReadOnlyAndStickyWritesDoWhatTheirAccessSays :
    (ready State.reset 6 && (rowOf 0xFFFC).isNone) = true ∧
    (ready State.reset 0 && rowMeets 0x0 (fun r => r.acc == .ro)) = true ∧
    (ready State.reset 0 && rowMeets 0x50014 (fun r => r.acc == .ro)) = true ∧
    (let a := 0x90014
     let l : Loc := ⟨.cellar, 0, 0x14⟩
     ready State.reset 6 && locOf a == some l && rowMeets a (fun r => r.acc == .w1c && !r.wide && !r.cov &&
       (State.reset.dev.refusal a l r 0xFFFFFFFF).isNone) && (domainOf l).isNone) = true := by decide

theorem witness_RefusedWriteOnlyLeavesItsRecord :
    (liveB State.reset && (State.reset.dev.staged 6).isNone && 0xFFFFFFFF % 4 != 0) = true ∧
    (let s := on fun d => d.setStaged 6 (some ⟨0xC0030, [1]⟩)
     liveB s && s.dev.staged 6 == some ⟨0xC0030, [1]⟩ && decide (0x3 < 0xC0030) && decide (0xC0030 + 16 ≤ 0xFFFFFFFF)) = true := by decide

theorem witness_WideWriteIsStagedThenAppliedAtOnce :
    (liveB State.reset && (State.reset.dev.staged 6).isNone) = true ∧
    (let s := on fun d => d.setStaged 6 (some ⟨0xC0030, [1]⟩)
     liveB s && s.dev.staged 6 == some ⟨0xC0030, [1]⟩) = true ∧
    (let s := on fun d => d.setStaged 6 (some ⟨0xC0030, [1, 2]⟩)
     liveB s && s.dev.staged 6 == some ⟨0xC0030, [1, 2]⟩) = true ∧
    (let s := on fun d => d.setStaged 6 (some ⟨0xC0030, [1, 2, 0]⟩)
     liveB s && s.dev.staged 6 == some ⟨0xC0030, [1, 2, 0]⟩ && (s.dev.wideRefusal ⟨.hall, 0, 0x30⟩ [1, 2, 0, 0]).isNone) = true := by
  decide

theorem witness_SnapshotHoldsAllFourWords :
    (ready State.reset 6 && locOf 0xC0030 == some ⟨.hall, 0, 0x30⟩ && rowMeets 0xC0030 (·.wide) &&
      (domainOf ⟨.hall, 0, 0x30⟩).isNone) = true := by decide

theorem witness_LockedRegistersRefuseWrites :
    (ready State.reset 6 && !State.reset.dev.bit 0xD000C 0) = true ∧
    (let s := on fun d => d.setBit 0xD000C 0 true
     ready s 6 && s.dev.bit 0xD000C 0) = true ∧
    (let s := on fun d => d.setBit 0x1000C 0 true
     ready s 6 && locOf 0x10040 == some ⟨.fault, 0, 0x40⟩ && rowMeets 0x10040 (fun r => r.acc == .rwl && !r.wide) &&
       s.dev.blockLocked 0x10040 ⟨.fault, 0, 0x40⟩ && !s.dev.standby) = true := by decide

theorem witness_PostedWritesAreTakenOrLost :
    (let s := on fun d => { d with bus := { d.bus with xqHk := [⟨6, 0x50024, .hearth, .word 5⟩] } }
     liveB s && popFor .hearth (s.dev.queueOf .hearth) == some (⟨6, 0x50024, .hearth, .word 5⟩, [])) = true ∧
    (let s := on fun d => { d with bus := { d.bus with xqPcie := [⟨6, 0x80010, .pcie, .word 1⟩] } }
     liveB s && popFor .pcie (s.dev.queueOf .pcie) == some (⟨6, 0x80010, .pcie, .word 1⟩, []) &&
       locOf 0x80010 == some ⟨.attic, 0, 0x10⟩) = true ∧
    (let s := on fun d => { d with bus := { d.bus with xqHk := [⟨6, 0x50024, .hearth, .rmw 1 1⟩] } }
     liveB s && (s.dev.staged 6).isNone && !s.dev.bus.stopped.contains .hearth &&
       s.dev.queueOf .hearth == [⟨6, 0x50024, .hearth, .rmw 1 1⟩] && s.dev.porch.rmw.isNone &&
       popFor .hearth (s.dev.queueOf .hearth) == some (⟨6, 0x50024, .hearth, .rmw 1 1⟩, []) &&
       rowMeets 0x50024 (·.legal ((s.dev.rd 0x50024 &&& ~~~1) ||| (1 &&& 1)).toNat)) = true ∧
    (let p : PorchSt := { rmw := some 63 }
     let s := on fun d => { d.wr 0x30014 2 with porch := p, bus := { d.bus with xqHk := [⟨0, 0x50024, .hearth, .rmw 1 1⟩] } }
     let x := ((s.dev.setQueue .hearth []).domRun .hearth).rmwNow 0 0x50024 1 1 false
     liveB s && s.dev.porch.rmw == some 63 && s.dev.porch.waiting.isEmpty &&
       popFor .hearth (s.dev.queueOf .hearth) == some (⟨0, 0x50024, .hearth, .rmw 1 1⟩, []) && x.2.2.porch == s.dev.porch &&
       x.2.2.porchUp) = true := by decide

theorem witness_OperationRecordTakesNextId : 15 < 16 ∧ State.reset.dev.rd 0x104 ≠ 0 := by decide

theorem witness_WarmResetKeepsOnlyItsList :
    ready State.reset 6 = true ∧
    (let s := on fun d => { d with boot := { d.boot with held := true, warm := true } }
     s.dev.boot.held && s.dev.boot.warm && s.dev.porch.busy == []) = true := by decide

theorem witness_CounterClearsZeroTheirBlock :
    (ready State.reset 6 && domReady State.reset .pcie && domReady State.reset .hearth) = true := by decide

theorem witness_QueuesPopTheirOldestEntry : ready State.reset 6 = true := by decide

theorem cfgCrc_wr {d : Device} {a : Nat} {v : Word} (h : coveredAt a = false) : (d.wr a v).cfgCrc = d.cfgCrc := by
  unfold Device.cfgCrc
  refine congrArg (fun l => wd (crc32c l)) (List.flatMap_congr fun b hb => ?_)
  rw [List.mem_filter] at hb
  rw [rd_wr_ne]
  rintro rfl
  rw [h] at hb
  exact absurd hb.2 (by decide)

/-- A device whose configuration CRC does not match the one latched. -/
def mismatched (d : Device) : Device := (d.wr 0x50 1).wr 0x38 (~~~(d.wr 0x50 1).cfgCrc)

theorem mismatched_crc (d : Device) : (mismatched d).cfgCrc ≠ (mismatched d).rd 0x38 := by
  unfold mismatched
  rw [cfgCrc_wr (by decide), rd_wr_same]
  intro h
  have h0 := congrArg (fun w => w.getLsbD 0) h
  simp at h0

theorem witness_CrcPassLatchesComparesOrWaits :
    (ready State.reset 6 && State.reset.dev.boot.load.isNone && !State.reset.dev.bit 0x50 2 && State.reset.dev.opPick == some 0) = true ∧
    (let s := on fun d => d.wr 0x50 4
     ready s 6 && s.dev.boot.load.isNone && s.dev.bit 0x50 2) = true ∧
    (let s := on fun d => { d.wr 0x50 4 with crc := { latchThis := true } }
     liveB s && s.dev.boot.load.isNone && s.dev.bit 0x50 2 && s.dev.crc.latchThis && !s.dev.crc.dirtyPass) = true ∧
    (let s := on fun d => { d.wr 0x50 4 with crc := { dirtyPass := true } }
     liveB s && s.dev.boot.load.isNone && s.dev.bit 0x50 2 && s.dev.crc.dirtyPass) = true ∧
    (let s := on mismatched
     Live s ∧ s.dev.boot.load = none ∧ s.dev.bit 0x50 0 = true ∧ s.dev.bit 0x50 1 = false ∧ s.dev.bit 0x50 2 = false ∧
       s.dev.crc.dirtyPass = false ∧ s.dev.cfgCrc ≠ s.dev.rd 0x38) ∧
    (liveB State.reset && State.reset.dev.boot.load.isNone && !State.reset.dev.bit 0x50 0 && !State.reset.dev.bit 0x50 2) = true ∧
    (let s := on fun d => d.wr 0x50 2
     liveB s && s.dev.boot.load.isNone && s.dev.bit 0x50 1) = true := by
  refine ⟨by decide, by decide, by decide, by decide, ⟨rfl, rfl, ?_, ?_, ?_, rfl, mismatched_crc _⟩, by decide, by decide⟩ <;>
  · simp only [on, mismatched, Device.bit]
    rw [rd_wr_ne _ _ (by decide), rd_wr_same]
    decide

theorem witness_TagsEndInTheFifoAndSnapshotsCopyTheSlots :
    (ready State.reset 6 && takes State.reset.dev 0xA0010 ⟨.tracer, 0, 0x10⟩ (setFld 0xFFFF0028 0 1 1)) = true ∧
    (let s := on fun d => d.wr 0xA0010 1
     ready s 6 && takes s.dev 0xA0010 ⟨.tracer, 0, 0x10⟩ (setFld 0xFFFF0028 0 1 0) && s.dev.bit 0xA0010 0) = true ∧
    (let s := on fun d => { d with tracer := { d.tracer with flying := [(3, 15, 7)] } }
     let o : TagObs := { id := 3, stamps := [some 0xFFFFFFFF, some 0, some 1, some 2, some 3, some 4] }
     liveB s && s.dev.tracer.flying.find? (fun t => t.1 == o.id) == some (o.id, 15, 7) && decide (s.dev.tracer.fifo.length < 4096) &&
       o.stamps.getD 0 none == some 0xFFFFFFFF && o.stamps.getD 5 none == some 4) = true ∧
    (let s := on fun d => { d with tracer := { d.tracer with flying := [(3, 15, 7)], fifo := List.replicate 4096 [] } }
     liveB s && s.dev.tracer.flying.find? (fun t => t.1 == 3) == some (3, 15, 7)) = true ∧
    (List.replicate 4096 ([] : List Word)).length = 4096 :=
  ⟨by decide, by decide, by decide, rfl, List.length_replicate ..⟩

/-! Lanes. The last lane, 63. -/

/-- The address of a register of lane 63. -/
def l63 (o : Nat) : Nat := laneBase 63 + o

theorem witness_LaneEnablesDrainsAndTransmits :
    (let d := State.reset.dev
     ready State.reset 6 && takes d (l63 0x10) ⟨.lane, 63, 0x10⟩ (setFld 0x30 0 1 1) && !d.laneCtlBad 63 (setFld 0x30 0 1 1) &&
       !d.laneEna 63 && !(d.lane 63).draining) = true ∧
    (let s := on fun d => d.wr (l63 0x10) 0x31
     ready s 6 && takes s.dev (l63 0x10) ⟨.lane, 63, 0x10⟩ (setFld 0x30 0 1 0) && !s.dev.laneCtlBad 63 (setFld 0x30 0 1 0) &&
       s.dev.laneEna 63) = true ∧
    (let s := on fun d => d.setLane 63 { draining := true }
     liveB s && (s.dev.lane 63).draining) = true ∧
    (let s := on fun d => (d.wr (l63 0x10) 0x31).wr 0x70014 2
     liveB s && s.dev.laneEna 63 && !s.dev.squelched 63) = true ∧
    (let s := on fun d => d.wr (l63 0x10) 0x831
     liveB s && s.dev.bit (l63 0x10) 11) = true ∧
    (liveB State.reset && !State.reset.dev.acting) = true := by decide

theorem witness_AdaptationAndMarginScan :
    (ready State.reset 6 && domReady State.reset (.laneRx 63)) = true ∧
    (let s := on fun d => d.wr (l63 0x10) 0x31
     ready s 6 && domReady s (.laneRx 63) && s.dev.laneEna 63 && !s.dev.bit (l63 0x4000) 0 && !s.dev.bit (l63 0x4000) 1 &&
       (s.dev.lane 63).margin.isNone) = true ∧
    (let s := on fun d => d.setLane 63 { margin := some {} }
     ready s 6 && domReady s (.laneRx 63) && (s.dev.lane 63).margin.isSome) = true ∧
    (let s := on fun d => d.setLane 63 { margin := some ⟨3, 98, [1, 2, 3]⟩ }
     liveB s && (s.dev.lane 63).margin == some ⟨3, 98, [1, 2, 3]⟩ && decide (0 ≤ s.dev.get (l63 0x4040) 8 8)) = true ∧
    (let s := on fun d => d.setLane 63 { margin := some ⟨1, 30, []⟩ }
     liveB s && (s.dev.lane 63).margin == some ⟨1, 30, []⟩ && decide (30 + 1 < 32)) = true ∧
    (let s := on fun d => d.setLane 63 { margin := some ⟨3, 99, [1, 2, 3]⟩ }
     liveB s && (s.dev.lane 63).margin == some ⟨3, 99, [1, 2, 3]⟩ && decide (s.dev.get (l63 0x4040) 8 8 < 1)) = true := by decide

theorem witness_SignalAndFramingDefectsOfALane :
    (let s := on fun d => d.setLane 63 { rxOn := true }
     liveB s && (s.dev.lane 63).rxOn && !s.dev.bit (l63 0x4000) 0 && !s.dev.looped 63 && decide (10000 < (-10001 : Int).natAbs) &&
       decide ((-8000 : Int).natAbs ≤ 8000)) = true ∧
    (let s := on fun d => d.wr (l63 0x10) 0x41
     liveB s && s.dev.laneEna 63 && s.dev.isOtu 63 && (s.dev.lane 63).otu.st != .sync && (s.dev.lane 63).sdh.st != .sync) = true ∧
    (let s := on fun d => d.setLane 63 { sdh := { st := .sync }, otu := { st := .sync } }
     liveB s && (s.dev.lane 63).otu.st == .sync && (s.dev.lane 63).sdh.st == .sync) = true ∧
    (let s := on fun d => (d.wr (l63 0x10) 0x41).wr (l63 0x4000) 0x40
     liveB s && s.dev.laneEna 63 && s.dev.isOtu 63 && s.dev.bit (l63 0x4000) 6) = true ∧
    (liveB State.reset && !State.reset.dev.bit (l63 0x4000) 6) = true := by decide

/-- The word a frame's K1 and K2 make. -/
def kWord (o : SdhObs) : Nat := o.k1.toNat * 256 + o.k2.toNat
/-- The bytes of lane 63's frame as its framer reads them. -/
def seenAt (d : Device) (bits : List Byte) : SdhObs := d.sdhObs 63 (d.sdhIn 63 bits) (d.sdhStream 63 (d.sdhIn 63 bits))
/-- The same after the frame's new settings and offset. -/
def seen63 (d : Device) (bits : List Byte) : SdhObs := seenAt ((d.adaptStep 63).freqStep 63) bits

theorem seenAt_wr (d : Device) (v : Word) (bits : List Byte) :
    (seenAt (d.wr (laneBase 63 + 0x4030) v) bits).offs = (seenAt d bits).offs ∧
    (seenAt (d.wr (laneBase 63 + 0x4030) v) bits).ok = (seenAt d bits).ok ∧
    kWord (seenAt (d.wr (laneBase 63 + 0x4030) v) bits) = kWord (seenAt d bits) := by
  have h1 : (d.wr (laneBase 63 + 0x4030) v).rd (laneBase 63 + 0x10) = d.rd (laneBase 63 + 0x10) := rd_wr_ne _ _ (by decide)
  have h2 : (d.wr (laneBase 63 + 0x4030) v).rd (laneBase 63 + 0x4010) = d.rd (laneBase 63 + 0x4010) := rd_wr_ne _ _ (by decide)
  have h3 : (d.wr (laneBase 63 + 0x4030) v).rd (laneBase 63 + 0x4050) = d.rd (laneBase 63 + 0x4050) := rd_wr_ne _ _ (by decide)
  simp only [seenAt, kWord, Device.sdhObs, Device.sdhIn, Device.sdhStream, Device.sdhByte, Device.sdhLine, Device.winUse, Device.stmMode,
    Device.isOtu, Device.laneMode, Device.lineIn, Device.get, Device.bit, sdhRead, soh, h1, h2, h3]
  exact ⟨rfl, rfl, rfl⟩

theorem seen63_of {d : Device} {bits : List Byte} (ha : (d.laneEna 63) = false) (hn : d.noSignal 63 = false) :
    (seen63 d bits).offs = (seenAt d bits).offs ∧ (seen63 d bits).ok = (seenAt d bits).ok ∧
      kWord (seen63 d bits) = kWord (seenAt d bits) := by
  have h : d.adaptStep 63 = d := by rw [Device.adaptStep, ha]; rfl
  unfold seen63
  rw [h, Device.freqStep, hn]
  exact seenAt_wr d.free.2 _ bits

/-- Lane 63 receives with the framer `f`. -/
def lane63 (f : Framer) (k : Run) : State := on fun d => d.setLane 63 { rxOn := true, sdh := f, kRun := k }
/-- The A1 and A2 bytes of the reset window: the boundary behind byte 6. -/
def fas63 : List Byte := List.replicate 6 0xF6 ++ List.replicate 6 0x28
theorem witness_FramersJudgeReceivedFrames :
    (let s := lane63 { st := .sync, lock := 143 } ⟨24010, 2⟩
     liveB s = true ∧ (s.dev.lane 63).rxOn = true ∧ s.dev.sliceHeld 15 = false ∧ s.dev.huntHeld 63 true = false ∧
       (s.dev.lane 63).sdh.st = .sync ∧ (seen63 s.dev fas63).ok = true ∧ (s.dev.lane 63).kRun = ⟨kWord (seen63 s.dev fas63), 2⟩) ∧
    (let s := lane63 { st := .sync, lock := 143, errRun := 15 } {}
     liveB s = true ∧ (s.dev.lane 63).rxOn = true ∧ s.dev.sliceHeld 15 = false ∧ s.dev.huntHeld 63 true = false ∧
       (s.dev.lane 63).sdh.st = .sync ∧ (seen63 s.dev []).ok = false ∧ s.dev.oofCount 63 ≤ (s.dev.lane 63).sdh.errRun + 1) ∧
    (let s := lane63 {} {}
     liveB s = true ∧ (s.dev.lane 63).rxOn = true ∧ s.dev.sliceHeld 15 = false ∧ s.dev.huntHeld 63 true = false ∧
       (s.dev.lane 63).sdh.st = .hunt ∧ (s.dev.lane 63).sdh.cands = [] ∧ (seen63 s.dev []).offs = []) ∧
    ([(0, fas63, true), (15, [], false)].all (fun x =>
       let s := on fun d => (d.wr (l63 0x10) 0x41).setLane 63 { rxOn := true, otu := { st := .sync, lock := 71, errRun := x.1 } }
       let half := s.dev.get (l63 0x4010) 16 3 / 2
       liveB s && (s.dev.lane 63).rxOn && s.dev.isOtu 63 && !s.dev.huntHeld 63 false && (s.dev.lane 63).otu.st == .sync &&
         windowAt (s.dev.otuStream 63 (s.dev.lineIn 63 16320 x.2.1)) 0xF6 0x28 half half
           (2 * otuBits + (s.dev.lane 63).otu.lock + 1 - 24) == x.2.2 &&
         (x.2.2 || decide (s.dev.oofCount 63 ≤ (s.dev.lane 63).otu.errRun + 1)))) = true := by
  refine ⟨⟨by decide, by decide, by decide, by decide, by decide, ?_, ?_⟩, ⟨by decide, by decide, by decide, by decide, by decide, ?_,
    by decide⟩, ⟨by decide, by decide, by decide, by decide, by decide, by decide, ?_⟩, by decide⟩
  · rw [(seen63_of (by decide) (by decide)).2.1]
    decide +kernel
  · rw [(seen63_of (by decide) (by decide)).2.2]
    decide +kernel
  · rw [(seen63_of (by decide) (by decide)).2.1]
    decide +kernel
  · rw [(seen63_of (by decide) (by decide)).1]
    rfl

theorem witness_LaneTransmitsItsOverheadAndRelay :
    (let s := on fun d => (d.wr (l63 0x90) 2).wr (l63 0x60) 1 |>.setLane 63 { txOn := true }
     liveB s && (s.dev.lane 63).txOn && !s.dev.bit (l63 0x24) 1 && !s.dev.bit (l63 0x24) 0 && !s.dev.bit (l63 0x30) 1 &&
       !s.dev.bit (l63 0x4058) 3 && s.dev.bit (l63 0x90) 1 && !(s.dev.ohSelected 63).isEmpty && (s.dev.lane 63).relayTx.isEmpty) = true ∧
    (liveB State.reset && !(State.reset.dev.lane 63).txOn) = true ∧
    (let s := on fun d => ((d.wr (l63 0x90) 1).wr 0x30014 2).setLane 63 { relayBuf := List.replicate 16 [], relayRx := [[], [], []] }
     liveB s && s.dev.bit (l63 0x90) 0 && decide (16 ≤ (s.dev.lane 63).relayBuf.length) && s.dev.porchUp &&
       decide ((s.dev.lane 63).relayRx.length < 4)) = true ∧
    (let s := on fun d => ((d.wr (l63 0x90) 1).wr 0x30014 2).setLane 63 { relayBuf := List.replicate 16 [], relayRx := [[], [], [], []] }
     liveB s && s.dev.bit (l63 0x90) 0 && decide (16 ≤ (s.dev.lane 63).relayBuf.length) && s.dev.porchUp &&
       decide (4 ≤ (s.dev.lane 63).relayRx.length)) = true ∧
    (let s := on fun d => (d.wr (l63 0x90) 1).setLane 63 { relayBuf := List.replicate 16 [] }
     liveB s && s.dev.bit (l63 0x90) 0 && decide (16 ≤ (s.dev.lane 63).relayBuf.length) && !s.dev.porchUp) = true ∧
    (let s := on fun d => (d.wr (l63 0x90) 2).setLane 63 { relayTx := [[], [], [], []] }
     ready s 6 && s.dev.bit (l63 0x90) 1 && decide (4 ≤ (s.dev.lane 63).relayTx.length)) = true ∧
    (let s := on fun d => ((((d.wr (l63 0x90) 2).wr (l63 0x60) 1).wr (l63 0x3100) 0x01000001).wr (l63 0x3108) 0x10000000).setLane 63
       { relayTx := [[], [], []] }
     ready s 6 && s.dev.bit (l63 0x90) 1 && decide ((s.dev.lane 63).relayTx.length < 4) && s.dev.get (l63 0x3100) 24 8 == 1 &&
       s.dev.get (l63 0x3100) 0 8 == (s.dev.ohSelected 63).length && s.dev.get (l63 0x3108) 24 8 == 16) = true := by decide

/-! Contexts. The last head, 12,287: an AU-3 in slot 191 of lane 63, which carries STM-64 after reset. The last tributary, 262,143:
a TU-12 in the last place of that head. -/

/-- HO_CFG of an enabled AU-3 that carries tributaries. -/
def hoUp : Word := 0x31
/-- TC_CFG of a TU-12 at lane 63, slot 191, TUG-2 6, TU-12 2, disabled. -/
def tcAt : Word := BitVec.ofNat 32 (2 + 2 ^ 4 * 63 + 2 ^ 10 * 191 + 2 ^ 20 * 6 + 2 ^ 23 * 2)
/-- The head is enabled and receives; its lane is in SYNC. -/
def headUp (d : Device) : Device :=
  (((d.wr (hoBase 12287) hoUp).wr (laneBase 63 + 0x10) 0x31).setHo 12287 { rx := .on, tx := .on, inMf := true }).setLane 63 { rxOn := true, sdh := { st := .sync } }
/-- The tributary is enabled as well. -/
def tcUp (d : Device) : Device := (headUp d).wr (tcBase 262143) (setFld tcAt 0 1 1)

theorem witness_HighOrderHeadsStartAndStop :
    (let d := State.reset.dev
     ready State.reset 6 && takes d (hoBase 12287) ⟨.ho, 12287, 0⟩ (setFld 0x30 0 1 1) && !d.hoCfgBad 12287 (setFld 0x30 0 1 1) &&
       !d.hoEna 12287) = true ∧
    (let s := on headUp
     ready s 6 && takes s.dev (hoBase 12287) ⟨.ho, 12287, 0⟩ (setFld 0x30 0 1 0) && !s.dev.hoCfgBad 12287 (setFld 0x30 0 1 0) &&
       s.dev.hoEna 12287) = true ∧
    (let s := on fun d => d.setHo 12287 { claim := some 12285 }
     ready s 6 && takes s.dev (hoBase 12287) ⟨.ho, 12287, 0⟩ (setFld 0x30 0 1 1) && s.dev.hoCfgBad 12287 (setFld 0x30 0 1 1) &&
       !s.dev.hoProtect 12287) = true ∧
    (let s := on fun d => (d.wr (hoBase 12287) hoUp).setHo 12287 { rx := .starting, tx := .starting }
     liveB s && s.dev.hoEna 12287 && (s.dev.ho 12287).rx == .starting && (s.dev.ho 12287).tx == .starting) = true ∧
    (let s := on fun d => d.wr (hoBase 12287) 0x30
     liveB s && !s.dev.hoEna 12287 && !s.dev.hoDrained 12287) = true ∧
    (let s := on fun d => d.setHo 12287 { oom := true }
     liveB s && (s.dev.ho 12287).oom) = true ∧
    (liveB State.reset && !(State.reset.dev.ho 12287).oom) = true := by decide

theorem witness_PointerGeneratorsJustifyAndSlip :
    (liveB State.reset && State.reset.dev.hoTxAis 12287 && State.reset.dev.tcTxAis 262143) = true ∧
    (let s := on fun d => (headUp d).setHo 12287 { tx := .on, gen := { value := 782, ais := false } }
     let g := (s.dev.ho 12287).gen
     liveB s && !s.dev.hoTxAis 12287 && !g.newPtr && g.bar == 0 && decide ((g.fill : Int) + -4 ≤ 0) && decide ((g.fill : Int) + 4 ≥ 8) &&
       decide (0 < (g.fill : Int) + -2) && decide ((g.fill : Int) + -2 ≤ 2) && decide (6 ≤ (g.fill : Int) + 2) &&
       decide ((g.fill : Int) + 2 < 8)) = true ∧
    (let s := on fun d => (headUp d).setHo 12287 { tx := .on, gen := { bar := 1, ais := false } }
     let g := (s.dev.ho 12287).gen
     liveB s && !s.dev.hoTxAis 12287 && !g.newPtr && decide (0 < g.bar) && decide (0 < (g.fill : Int) + 3) && decide ((g.fill : Int) + 3 < 8)) = true ∧
    (let s := on fun d => (tcUp d).setTc 262143 { tx := .on, gen := { value := 139, ais := false } }
     let g := (s.dev.tc 262143).gen
     liveB s && !s.dev.tcTxAis 262143 && !s.dev.rtActs 262143 && !g.newPtr && g.bar == 0 && g.value == tcTop (s.dev.tcType 262143) &&
       decide ((g.fill : Int) + -4 ≤ 0) && decide ((g.fill : Int) + 4 ≥ 8) && decide (0 < (g.fill : Int) + -2) &&
       decide ((g.fill : Int) + -2 ≤ 2) && decide (6 ≤ (g.fill : Int) + 2) && decide ((g.fill : Int) + 2 < 8)) = true ∧
    (let s := on fun d => ((tcUp d).wr (tcBase 262143 + 8) 0x41).setTc 262143 { tx := .on, txCli := 0x41 } |>.setRt 262143 { st := 2 }
     liveB s && s.dev.rtActs 262143 && !s.dev.tcTxAis 262143) = true := by decide

theorem witness_TributariesStartAndStop :
    (let s := on fun d => (headUp d).wr (tcBase 262143) tcAt
     ready s 6 && takes s.dev (tcBase 262143) ⟨.tc, 262143, 0⟩ (setFld tcAt 0 1 1) &&
       (s.dev.tcCfgCause 262143 (setFld tcAt 0 1 1)).isNone && !s.dev.tcEna 262143) = true ∧
    (let s := on tcUp
     ready s 6 && takes s.dev (tcBase 262143) ⟨.tc, 262143, 0⟩ (setFld tcAt 0 1 0) &&
       (s.dev.tcCfgCause 262143 (setFld tcAt 0 1 0)).isNone && s.dev.tcEna 262143) = true ∧
    ([4, 3].all (fun leak =>
       let s := on fun d => d.setRt 262143 { p := 40, leak := leak }
       liveB s && decide (s.dev.leakEvery 262143 ≤ (s.dev.rt 262143).leak) == decide (leak = 4))) = true ∧
    (ready State.reset 6 && takes State.reset.dev (tcBase 262143) ⟨.tc, 262143, 0⟩ (setFld tcAt 0 1 1) &&
       State.reset.dev.tcCfgCause 262143 (setFld tcAt 0 1 1) == some 2) = true ∧
    (let s := on fun d => (tcUp d).setTc 262143 { rx := .starting, tx := .starting }
     liveB s && s.dev.tcEna 262143 && (s.dev.tc 262143).rx == .starting && (s.dev.tc 262143).tx == .starting && s.dev.tcPhase 262143) = true ∧
    (let s := on fun d => d.wr (tcBase 262143 + 0x20) 0
     liveB s && !s.dev.tcEna 262143 && !s.dev.tcDrained 262143) = true := by decide

/-- The tributary receives, and its E1 monitor runs with FRAMING `f`. -/
def e1Up (f : Nat) (c : Cli) (d : Device) : Device :=
  (((tcUp d).wr (tcBase 262143 + 8) (BitVec.ofNat 32 (0x21 + 8 * f))).setTc 262143
    { rx := .on, tx := .on, rxCli := BitVec.ofNat 32 (0x21 + 8 * f) }).setCli 262143 c

/-- An E1 double frame whose FAS word is `w` and whose NFAS frame has bit 2 set. -/
def e1Frame (w : List Bool) : List Bool := w ++ List.replicate 249 false ++ [true] ++ List.replicate 255 false

theorem witness_ClientMonitorsFollowTheirConfigurationAndFrames :
    (let s := on fun d => d.wr (tcBase 262143) tcAt
     ready s 6 && takes s.dev (tcBase 262143 + 8) ⟨.tc, 262143, 8⟩ 0x21 && (s.dev.clientCause 262143 0x21).isNone &&
       fld (s.dev.rd (tcBase 262143 + 8)) 0 5 != fld 0x21 0 5) = true ∧
    (ready State.reset 6 && takes State.reset.dev (tcBase 262143 + 8) ⟨.tc, 262143, 8⟩ 0x21 &&
       State.reset.dev.clientCause 262143 0x21 == some 2) = true ∧
    (let s := on fun d => d.wr (hoBase 12287) 0x01
     let v : Word := BitVec.ofNat 32 (1 + 2 * 12287 + 2 ^ 15 * 4 + 2 ^ 18)
     ready s 6 && takes s.dev (entryAddr 15 31) ⟨.slice, 15, 0x600 + 4 * 31⟩ v && !s.dev.hoClientBad 15 31 v &&
       s.dev.rd (entryAddr 15 31) != v) = true ∧
    (ready State.reset 6 && takes State.reset.dev (sliceBase 15 + 0x500) ⟨.slice, 15, 0x500⟩ 262143) = true ∧
    (liveB State.reset && !State.reset.dev.cliRuns 262655) = true ∧
    (let s := on fun d => d.wr (tcBase 262143 + 8) 0x21
     liveB s && fld (s.dev.tc 262143).rxCli 0 5 != s.dev.get (tcBase 262143 + 8) 0 5) = true ∧
    (let s := on (e1Up 0 {})
     liveB s && s.dev.cliRuns 262143 &&
       decide ((s.dev.cli 262143).fifo.length < cliLen (s.dev.cliKind 262143).1 (s.dev.cliKind 262143).2)) = true ∧
    ([([false, false, true, true, false, true, true], true), (List.replicate 7 true, false)].all (fun x =>
       let s := on (e1Up 0 { st := .sync, fasRun := 2, lock := 16, fifo := e1Frame x.1 })
       let c := s.dev.cli 262143
       let o := c.read 1 0 (c.fifo.take (cliLen 1 0))
       liveB s && s.dev.cliRuns 262143 && s.dev.cliKind 262143 == (1, 0) && c.st == .sync && !c.crcWin && c.fasRun == 2 &&
         decide (cliLen 1 0 ≤ c.fifo.length) && o.fas == x.2 && o.bit2)) = true ∧
    (let s := on (e1Up 0 { cands := [{ off := 255, made := 0, basic := some 1 }] })
     liveB s && s.dev.cliRuns 262143 && s.dev.cliKind 262143 == (1, 0) && (s.dev.cli 262143).st != .sync &&
       (s.dev.cli 262143).cands.any (fun c => c.off == 255 && c.basic.isSome)) = true ∧
    (let s := on (e1Up 2 { cands := [{ off := 255, made := 0, basic := some 1 }] })
     liveB s && s.dev.cliRuns 262143 && s.dev.cliKind 262143 == (1, 2) && (s.dev.cli 262143).st != .sync &&
       (s.dev.cli 262143).cands == [{ off := 255, made := 0, basic := some 1 }]) = true := by decide +kernel

/-! The Hall. The last output, the high-order context 12,287, on page 1. -/

/-- A page switch to page 1, in force from GO. -/
def sw1 (cfg crc : Word) : HallSw := { cfg := cfg, sec := 0, ns := 142, crc := crc, op := 0, page := 1 }

theorem witness_PageEntriesAreJudgedAndStored :
    (ready State.reset 6 && (rowOf (entryAddrOf 1 274431)).isSome && (State.reset.dev.pageCause 1 274431 0).isNone &&
      State.reset.dev.pageCause 1 274431 7 == some 1 && (rowOf (entryAddrOf 0 262143)).isSome &&
      State.reset.dev.pageCause 0 262143 0 == some 3) = true := by decide

theorem witness_HallGoOpensAndCancelAbandons :
    (let s := on coresRun
     ready s 6 && !s.dev.standby && s.dev.hall.sw.isNone && !s.dev.cores.mc0Away && !s.dev.todRange && s.dev.opPick == some 0) = true ∧
    (let s := on fun d => d.setSw (some (sw1 0x400 0))
     ready s 6 && !s.dev.standby && s.dev.hall.sw == some (sw1 0x400 0) && !(sw1 0x400 0).committing && !(sw1 0x400 0).deferred) = true := by
  decide

theorem pageCrc_setSw (d : Device) (w : Option HallSw) (p : Nat) : (d.setSw w).pageCrc p = d.pageCrc p := by
  unfold Device.pageCrc
  rfl

/-- A switch to page 1 that expects the CRC `f` makes of the page's own. -/
def prepared (f : Word → Word) (d : Device) : Device := d.setSw (some (sw1 0x400 (f (d.pageCrc 1))))

theorem witness_HallPreparesSamplesAndCommits :
    (let s := on (prepared id)
     Live s ∧ s.dev.hall.sw = some (sw1 0x400 (State.reset.dev.pageCrc 1)) ∧ s.dev.bit 0xC0010 2 = false ∧
       (∀ sl, sl < 16 → s.dev.sliceHeld sl = false) ∧ s.dev.pageCrc 1 = State.reset.dev.pageCrc 1 ∧ s.dev.hall.passed = [] ∧ s.dev.fc.later = [] ∧ 71 / 72 < 274431 / 72 ∧
       s.dev.hall.sw.map (·.missed) = some []) ∧
    (let s := on (prepared (fun w => ~~~w))
     Live s ∧ s.dev.hall.sw = some (sw1 0x400 (~~~State.reset.dev.pageCrc 1)) ∧ s.dev.bit 0xC0010 2 = false ∧
       (∀ sl, sl < 16 → s.dev.sliceHeld sl = false) ∧ s.dev.pageCrc 1 ≠ ~~~State.reset.dev.pageCrc 1) ∧
    (let w := { sw1 0x400 (State.reset.dev.pageCrc 1) with missed := [15] }
     let s := on (·.setSw (some w))
     Live s ∧ s.dev.hall.sw = some w ∧ w.committing = false ∧ w.deferred = false ∧ s.dev.sliceHeld 15 = false ∧
       s.dev.hall.passed.contains 15 = false ∧ w.missed.contains 15 = true ∧ s.dev.pageCrc w.page = w.crc) ∧
    (let s := on fun d => { d.setSw (some (sw1 0x402 0)) with hall := { sw := some (sw1 0x402 0), passed := List.range 16 } }
     liveB s && s.dev.hall.sw == some (sw1 0x402 0) && s.dev.boundaryAllowed (sw1 0x402 0) && s.dev.readyMask == 0xFFFF) = true ∧
    (let s := on fun d => d.setSw (some (sw1 0x402 0))
     liveB s && s.dev.boundaryAllowed (sw1 0x402 0) && s.dev.readyMask != 0xFFFF && fld (sw1 0x402 0).cfg 0 2 == 2) = true ∧
    (let s := on fun d => d.setSw (some { sw1 0x400 0 with waited := 2 })
     liveB s && s.dev.boundaryAllowed { sw1 0x400 0 with waited := 2 } && s.dev.readyMask != 0xFFFF && decide (2 + 1 < fld 0x400 8 5)) = true ∧
    (let s := on fun d => d.setSw (some { sw1 0x400 0 with waited := 3 })
     liveB s && s.dev.boundaryAllowed { sw1 0x400 0 with waited := 3 } && s.dev.readyMask != 0xFFFF && decide (fld 0x400 8 5 ≤ 3 + 1)) = true ∧
    (liveB State.reset && !State.reset.dev.pw.follow && State.reset.dev.hall.sw.isNone) = true ∧
    (let s := on fun d => d.setSw (some { sw1 0x400 0 with waited := 3 })
     liveB s && !s.dev.pw.follow && s.dev.hall.sw == some { sw1 0x400 0 with waited := 3 } && kindCounts 0x400 (s.dev.rd 0xC001C + 1) &&
       decide (fld 0x400 8 5 ≤ 3 + 1) && fld 0x400 0 2 != 2) = true ∧
    (let s := on fun d => (d.wr 0xC001C 3).setSw (some { sw1 0x400 0 with committing := true })
     liveB s && !s.dev.pw.follow && s.dev.hall.sw == some { sw1 0x400 0 with committing := true } &&
       (s.dev.rd 0xC001C + 1).toNat % 4 == 0 && (State.reset.dev.rd 0xC001C + 1).toNat % 4 != 0) = true ∧
    (let s := on fun d => { coresRun d with hall := { outcomes := [⟨15, true, none, 0⟩] } }
     liveB s && s.dev.hall.outcomes == [⟨15, true, none, 0⟩] && !s.dev.cores.mc0Away) = true := by
  refine ⟨⟨rfl, rfl, by decide, by decide, pageCrc_setSw _ _ _, rfl, rfl, by decide, rfl⟩, ⟨rfl, rfl, by decide, by decide, ?_⟩,
    ⟨rfl, rfl, rfl, rfl, by decide, by decide, rfl, pageCrc_setSw _ _ _⟩, ?_⟩
  · show (prepared _ _).pageCrc 1 ≠ _
    unfold prepared
    rw [pageCrc_setSw]
    intro h
    have h0 := congrArg (fun w => w.getLsbD 0) h
    simp at h0
  · decide

/-! The Landing. The last selector of the window, 137,215, and the last pair, 31, of lanes 62 and 63. -/

/-- The request machine of selector 137,215 in state `st`. -/
def selUp (st : Nat) (c : Chooser) (d : Device) : Device :=
  (coresRun d).setSel 137215 { st := st, c := c, used := { p := some 274431 } }
/-- Pair 31 enabled. -/
def pairUp (c : Chooser) (d : Device) : Device :=
  ({ coresRun d with pairs := [⟨31, 62, 63, true, false⟩] } : Device).setMsp 31 { c := c }

theorem witness_SelectorCommandsArePriorityJudged :
    (let s := on (selUp 1 {})
     ready s 6 && !s.dev.standby && !s.dev.cores.mc0Away && (s.dev.sel 137215).st == 1 &&
       [1, 2, 3, 4, 5].all (fun c => (s.dev.sel 137215).c.accepts (s.dev.selCfg 137215).rev {} c)) = true ∧
    (let s := on (selUp 1 { lo := true, req := 15 })
     ready s 6 && !s.dev.standby && !s.dev.cores.mc0Away && (s.dev.sel 137215).st == 1 &&
       [2, 3, 4, 5].all (fun c => !(s.dev.sel 137215).c.accepts (s.dev.selCfg 137215).rev {} c)) = true ∧
    (let s := on (selUp 1 { req := 6, wtr := some 1 })
     ready s 6 && (s.dev.sel 137215).st == 1 && (s.dev.sel 137215).c.req == 6) = true ∧
    (let s := on (selUp 2 {})
     ready s 6 && !s.dev.standby && !s.dev.cores.mc0Away && (s.dev.sel 137215).st != 1) = true := by decide

theorem witness_PairsAreConfiguredCommandedAndWatched :
    (let l : Loc := ⟨.landing, 0, 0x1000 + 0x20 * 31⟩
     let v : Word := BitVec.ofNat 32 (2 * 62 + 128 * 63)
     ready State.reset 6 && takes State.reset.dev (mspBase 31) l (setFld v 0 1 1) && (State.reset.dev.pair 31).isNone &&
       fld v 1 6 == 62 && fld v 7 6 == 63 && (State.reset.dev.mspCause 31 62 63).isNone &&
       takes State.reset.dev (mspBase 31) l (setFld 0 0 1 1) && State.reset.dev.mspCause 31 0 0 == some 2) = true ∧
    (let s := on (pairUp {})
     ready s 6 && takes s.dev (mspBase 31) ⟨.landing, 0, 0x1000 + 0x20 * 31⟩ (setFld 0 0 1 0) && s.dev.mspEna 31) = true ∧
    (let s := on (pairUp {})
     ready s 6 && !s.dev.standby && !s.dev.cores.mc0Away && s.dev.pair 31 == some ⟨31, 62, 63, true, false⟩ && !s.dev.mspBidir 31 &&
       [1, 2, 3, 4, 5].all (fun c => (s.dev.msp 31).c.accepts (s.dev.mspCfg 31).rev {} c)) = true ∧
    (let s := on fun d => (pairUp {} d).wr (mspBase 31) 0x2000
     ready s 6 && !s.dev.standby && !s.dev.cores.mc0Away && s.dev.mspBidir 31 &&
       (s.dev.msp 31).c.accepts (s.dev.mspCfg 31).rev (s.dev.mspFar ⟨31, 62, 63, true, false⟩) 6) = true ∧
    (let s := on (pairUp { exer := true })
     liveB s && (s.dev.msp 31).c.exer) = true ∧
    (let s := on fun d => (pairUp {} d).wr (laneBase 63 + 0x4000) 0x100
     liveB s && (s.dev.fopCauses 31).contains 1 && !(s.dev.msp 31).fop) = true ∧
    (let s := on fun d => ((coresRun d).setMsp 31 { fop := true, cause := 1 })
     liveB s && (s.dev.fopCauses 31).isEmpty && (s.dev.msp 31).fop) = true := by decide

theorem witness_SelectorsMembersAndGroups :
    (let ok := fun (d : Device) (v : Word) => takes d (selBase 137215) ⟨.sel, 137215, 0⟩ v
     ready State.reset 6 && ok State.reset.dev (setFld 0 0 1 1) && (State.reset.dev.sel 137215).st == 0 &&
       (let s := on (selUp 2 { choice := true })
        ready s 6 && ok s.dev (setFld 0 0 1 1) && (s.dev.sel 137215).st == 2) &&
       (let s := on (selUp 1 {})
        ready s 6 && ok s.dev (setFld 0 0 1 0) && (s.dev.sel 137215).st == 1) &&
       (let s := on fun d => (selUp 1 {} d).wr (selBase 137215) 1
        let x := s.dev.get (selBase 137215) 0 1
        ready s 6 && ok s.dev (setFld 2 0 1 x) && x == 1 && fld (s.dev.rd (selBase 137215)) 1 20 != fld 2 1 20 && !(bitAt 2 3 && !bitAt 2 1) &&
          ok s.dev (setFld 8 0 1 x) && fld (s.dev.rd (selBase 137215)) 1 20 != fld 8 1 20 && (bitAt 8 3 && !bitAt 8 1))) = true ∧
    (let v : Word := BitVec.ofNat 32 (6143 + 2 ^ 13)
     let l : Loc := ⟨.ho, 12287, 0x10⟩
     ready State.reset 6 && locOf (protAddr 274431) == some l && takes State.reset.dev (protAddr 274431) l v && protEna 274431 v &&
       (State.reset.dev.ho 12287).claim.isNone && ((State.reset.dev.sel (protSel 274431 v)).named.side (protRole 274431 v)).isNone &&
       (let s := on fun d => d.setSel 137215 { named := { w := some 7 } }
        ready s 6 && protSel 274431 v == 137215 && !protSame 274431 (s.dev.rd (protAddr 274431)) v &&
          (s.dev.sel 137215).named.side (protRole 274431 v) == some 7)) = true ∧
    (let s := on coresRun
     let v : Word := BitVec.ofNat 32 (2 + 16 * 1024)
     ready s 6 && !s.dev.standby && !s.dev.cores.mc0Away && s.dev.land.group.isNone && fld v 4 11 == 1024 && fld v 1 3 != 7 &&
       v &&& 0xFFFF8000 == 0 && s.dev.opPick == some 0) = true ∧
    (let s := on fun d => { d.wr 0xB2000 0xFFFFFFFF with land := { d.land with group := some (15, 1, 1) } }
     liveB s && s.dev.land.group == some (15, 1, 1) && (groupEntry (s.dev.rd 0xB2000)).isNone) = true ∧
    (let s := on fun d => { d with land := { d.land with group := some (0, 6, 1024) } }
     liveB s && s.dev.land.group == some (0, 6, 1024)) = true := by decide

theorem sel_of_one {d : Device} {i : Nat} {x : Sel} (h : d.land.sels = [(i, x)]) (k : Nat) : d.sel k = x ∨ d.sel k = {} := by
  rw [Device.sel, h]
  by_cases e : i = k
  · exact .inl (if_pos e)
  · exact .inr (if_neg e)

/-- No selector waits to restore. -/
theorem no_wtr_of {d : Device} {i : Nat} {x : Sel} (h : d.land.sels = [(i, x)]) (hx : x.c.wtr = none) (k : Nat) :
    (d.sel k).c.wtr = none := by
  rcases sel_of_one h k with e | e <;> rw [e]
  exact hx

theorem witness_ScansTimersAndChoices :
    (let s := on fun d => selUp 1 {} (headUp d)
     let c := (s.dev.sel 137215).c
     liveB s && !s.dev.standby && (s.dev.sel 137215).st == 1 && !(s.dev.sel 137215).moved && !c.reeval && c.hold.isNone && !c.lo &&
       c.fs.isNone && (s.dev.selSig 137215).sfW && !(s.dev.selSig 137215).sfP && !c.sfW && (s.dev.selCfg 137215).hold == 0) = true ∧
    (∀ k, ((on fun d => selUp 1 {} (headUp d)).dev.sel k).c.wtr = none) ∧
    (let s := on fun d => (selUp 1 {} (headUp d)).wr (selBase 137215) 0x11
     liveB s && (s.dev.selSig 137215).sfW && !(s.dev.selSig 137215).sfP && decide (0 < (s.dev.selCfg 137215).hold)) = true ∧
    ([1, 2].all (fun st =>
       let s := on fun d => d.setSel 137215 { st := st, moved := true }
       liveB s && !s.dev.standby && (s.dev.sel 137215).moved && (s.dev.sel 137215).st == st)) = true ∧
    ((let s := on (selUp 1 { hold := some 1 })
      liveB s && !s.dev.standby && (s.dev.sel 137215).st == 1 && !(s.dev.sel 137215).moved && !(s.dev.sel 137215).c.reeval &&
        (s.dev.sel 137215).c.hold == some 1) = true ∧ ∀ k, ((on (selUp 1 { hold := some 1 })).dev.sel k).c.wtr = none) ∧
    ((let s := on (pairUp {})
      liveB s && !s.dev.standby && s.dev.pairs == [⟨31, 62, 63, true, false⟩] && !(s.dev.msp 31).c.reeval && (s.dev.msp 31).c.hold.isNone &&
        (s.dev.mspCfg 31).hold == 0 && !s.dev.mspBidir 31) = true ∧ ∀ k, ((on (pairUp {})).dev.sel k).c.wtr = none) ∧
    (let s := on (selUp 1 { hold := some 0, wtr := some 0 })
     liveB s && (s.dev.sel 137215).st == 1 && (s.dev.sel 137215).c.hold.isSome && (s.dev.sel 137215).c.wtr.isSome) = true ∧
    (let s := on fun d => (selUp 1 { wtr := some 0, choice := true } d).wr (selBase 137215) 5
     let c := (s.dev.sel 137215).c
     liveB s && (s.dev.sel 137215).st == 1 && c.wtr.isSome && (s.dev.selCfg 137215).rev && !c.lo && c.fs.isNone && c.ms.isNone && !c.exer &&
       !c.sfW && !c.sfP && !c.sdW && !c.sdP) = true ∧
    (let s := on (pairUp { hold := some 0, wtr := some 0 })
     liveB s && s.dev.pair 31 == some ⟨31, 62, 63, true, false⟩ && (s.dev.msp 31).c.hold.isSome && (s.dev.msp 31).c.wtr.isSome) = true ∧
    (let s := on (selUp 2 { choice := true })
     liveB s && (s.dev.sel 137215).st != 0 && (s.dev.sel 137215).c.choice != (s.dev.sel 137215).c.applied) = true ∧
    (let s := on (pairUp { choice := true })
     liveB s && s.dev.pair 31 == some ⟨31, 62, 63, true, false⟩ && (s.dev.msp 31).c.choice != (s.dev.msp 31).c.applied) = true := by
  refine ⟨by decide, no_wtr_of rfl rfl, by decide, by decide, ⟨by decide, no_wtr_of rfl rfl⟩, ⟨by decide, fun _ => rfl⟩, ?_⟩
  decide

/-! The Cellar. The last pair, 137,215, of an STM-1 AU-4, and the last ring, 255. -/

/-- PAIR_SET words 0 to 2: pair 137,215, a MAXDELAY of 128 ms, CTYPE AU-4. -/
def pairWords : List Word := [BitVec.ofNat 32 137215, BitVec.ofNat 32 (128 + 2 ^ 8 * 5), 0]
/-- Sixteen hashes, the newest first. -/
def hashes : List HashEnt := (List.range 16).map (fun i => ⟨i, 0, false, none, {}⟩)
/-- A pair in SEARCH whose protect member leads by the whole D of 8 periods. -/
def searching : HPair :=
  { st := 2, maxDelay := 1, ctype := 5, w := { ents := hashes }
    p := { ents := (List.range 8).map (fun i => ⟨100 + i, 0, false, none, {}⟩) ++ hashes } }

theorem witness_CellarTrainsAndAlignsPairs :
    (let s := on fun d => d.wr 0x90010 2
     ready s 6 && s.dev.bit 0x90010 1 && !s.dev.bit 0x90010 0) = true ∧
    (let s := on fun d => d.wr 0x90010 1
     ready s 6 && s.dev.bit 0x90010 0) = true ∧
    (let s := on fun d => (d.wr 0x90010 1).setStaged 6 (some ⟨0x90090, pairWords⟩)
     liveB s && s.dev.staged 6 == some ⟨0x90090, pairWords⟩ && (s.dev.pairCause 137215 128 5 false).isNone && (s.dev.hpair 137215).isNone) = true ∧
    (let s := on fun d => d.setStaged 6 (some ⟨0x90090, pairWords⟩)
     liveB s && s.dev.pairCause 137215 128 5 false == some 6) = true ∧
    (let s := on fun d => (d.wr 0x90010 1).setStaged 6 (some ⟨0x90090, [137216, 129, 0]⟩)
     liveB s && s.dev.pairCause 137216 129 0 false == some 9) = true ∧
    (let s := on fun d => d.setHpair 137215 (some { searching with next := some (0, 5) })
     liveB s && s.dev.hpair 137215 == some { searching with next := some (0, 5) }) = true ∧
    (let s := on fun d => d.setHpair 137215 (some { searching with next := some (128, 5) })
     liveB s && s.dev.hpair 137215 == some { searching with next := some (128, 5) }) = true ∧
    (liveB State.reset && State.reset.dev.buildsStart.searchPick.isNone) = true ∧
    (let s := on fun d => d.setHpair 137215 (some searching)
     liveB s && s.dev.buildsStart.searchPick == some (137215, searching) &&
       searchFind (pairD searching.maxDelay searching.ctype) searching.w searching.p false == .found true 8) = true ∧
    (let s := on fun d => d.wr 0x90010 1
     liveB s && s.dev.bit 0x90010 0 && decide (11 < 12)) = true ∧
    (let p : HPair := { searching with st := 6, build := some { leader := true, d := 8, delta := 0, lead0 := 0, lag0 := 0, locked := true } }
     let s := on fun d => d.setHpair 137215 (some p)
     liveB s && s.dev.hpair 137215 == some p && p.st == 6) = true ∧
    (let p : HPair := { searching with st := 6, waiting := some { leader := true, d := 8, delta := 0, lead0 := 0, lag0 := 0 } }
     let s := on fun d => d.setHpair 137215 (some p)
     liveB s && s.dev.hpair 137215 == some p && p.waiting.isSome && s.dev.canBuild p) = true ∧
    (∀ (p : HPair) (j : Nat) (q : HPair), j ≠ 137215 → (on fun d => d.setHpair 137215 (some p)).dev.hpair j = some q → q.waiting = none) := by
  refine ⟨by decide, by decide, by decide, by decide, by decide, by decide, by decide, by decide, by decide, by decide, by decide, by decide,
    fun p j q hj h => ?_⟩
  have e : (on fun d => d.setHpair 137215 (some p)).dev.hpair j = none :=
    tabGet_tabPut_ne none none State.reset.dev.cel.pairs (some p) hj
  rw [e] at h
  cases h

/-- Ring 255 in state `st`, its control `cfg`. -/
def ringUp (st : Nat) (cfg : Word) (x : Ring) (d : Device) : Device :=
  (((coresRun d).wr (ringBase 255) cfg).put (ringBase 255 + 8) 0 3 st).setRing 255 x

theorem witness_CaptureRingsRecordFreezeAndExport :
    (let ok := fun (d : Device) (v : Word) => takes d (ringBase 255) ⟨.cellar, 0, 0x1000 + 0x10 * 255⟩ v
     ready State.reset 6 && ok State.reset.dev (setFld 0x00640600 0 1 1) && (State.reset.dev.ringCause 255 (setFld 0x00640600 0 1 1)).isNone &&
       State.reset.dev.ringSt 255 == 0 && ok State.reset.dev (setFld 0x00640602 0 1 1) &&
       State.reset.dev.ringCause 255 (setFld 0x00640602 0 1 1) == some 4 &&
       [1, 4].all (fun st =>
         let s := on (ringUp st 0x00640003 {})
         ready s 6 && ok s.dev (setFld 0x00640003 0 1 0) && (s.dev.ringCause 255 (setFld 0x00640003 0 1 0)).isNone && s.dev.ringSt 255 == st)) = true ∧
    ([1, 2].all (fun st =>
       let s := on (ringUp st 0x00640003 {})
       ready s 6 && !s.dev.bit (ringBase 255) 11 && s.dev.ringSt 255 == st)) = true ∧
    (let s := on fun d => { ringUp 3 0x00640003 {} d with cores := ⟨false, true⟩ }
     ready s 6 && s.dev.ringSt 255 == 3 && s.dev.cores.mc1Away) = true ∧
    (let s := on fun d => ((ringUp 3 0x00640003 {} d).put 0x80018 0 3 2).wr 0x8004C 2097152
     ready s 6 && s.dev.ringSt 255 == 3 && !s.dev.cores.mc1Away && s.dev.opPick == some 0 && s.dev.atticState == 2 &&
       decide (4 * objLen (64 + (s.dev.ring 255).recs.flatten.length) ≤ (s.dev.ringEnd - 16) * 4096)) = true ∧
    (let s := on (ringUp 3 0x00640003 {})
     ready s 6 && s.dev.ringSt 255 == 3 && !s.dev.cores.mc1Away && s.dev.opPick == some 0 && s.dev.atticState != 2 &&
       s.dev.attic.reserved.isEmpty) = true ∧
    ([0x00640003, 0x00641003].all (fun cfg =>
       let s := on fun d => (ringUp 4 cfg { op := some 15 } d).put 0x80018 0 3 2
       liveB s && s.dev.ringSt 255 == 4 && (s.dev.ring 255).op == some 15 && !(s.dev.ring 255).offAtEnd && s.dev.atticState == 2 &&
         s.dev.bit (ringBase 255) 12 == bitAt cfg 12)) = true := by decide

/-! PM and the Attic. The last point, 274,687. -/

/-- PM with a second in progress and what waits. -/
def pmUp (queue waiting : List PmSecond) (d : Device) : Device :=
  { coresRun d with pm := { d.pm with cur := some { sec := 11, epoch := 1 }, queue := queue, waiting := waiting } }
/-- A second with a result at the last point. -/
def sec1 : PmSecond := { sec := 899, epoch := 1, ts := [0, 1, 2, 3], results := [{ point := 274687 }] }

theorem witness_SecondsCommitAndEnterTheBins :
    (liveB State.reset && State.reset.dev.pm.cur.isNone && State.reset.dev.pm.waiting.isEmpty && State.reset.dev.cores.mc1Away) = true ∧
    (let s := on (pmUp (List.replicate 9 sec1) [])
     liveB s && s.dev.pm.cur.isSome && decide (s.dev.pm.queue.length < 10)) = true ∧
    (let s := on (pmUp (List.replicate 10 sec1) [sec1])
     liveB s && s.dev.pm.cur.isSome && s.dev.pm.queue == sec1 :: List.replicate 9 sec1 && !sec1.lost && sec1.ts.length == 4 &&
       decide ((sec1.results.map (·.point)).Nodup) && decide (s.dev.pm.waiting.length < 2)) = true ∧
    (let s := on (pmUp (List.replicate 10 sec1) [sec1, sec1])
     liveB s && s.dev.pm.queue == sec1 :: List.replicate 9 sec1 && s.dev.pm.waiting == [sec1, sec1]) = true ∧
    (let cur : PmBins := { cur15 := { valid := true, fin := 900, secs := 1798 }, cur24 := { valid := true, fin := 86400, secs := 89998 } }
     let s := on fun d => { pmUp [] [sec1] d with pm := { d.pm with waiting := [sec1], bins := [(274687, cur)] } }
     liveB s && s.dev.pm.waiting == [sec1] && !s.dev.cores.mc1Away && (sec1.results.find? (fun r => r.point == 274687)).isSome &&
       (s.dev.bins 274687).cur15 == cur.cur15 && decide (sec1.sec < 900) && decide (1798 + 1 < 1800) && decide (sec1.sec < 86400) &&
       decide (89998 + 1 < 90000)) = true ∧
    (let x : PmSecond := { sec1 with sec := 900 }
     let s := on fun d => { pmUp [] [x] d with pm := { d.pm with waiting := [x], bins := [(274687, { cur15 := { valid := true, fin := 900 } })] } }
     liveB s && s.dev.pm.waiting == [x] && !s.dev.cores.mc1Away && (s.dev.bins 274687).cur15.valid &&
       decide ((s.dev.bins 274687).cur15.fin ≤ x.sec)) = true := by decide

theorem witness_PmViewsAndPresetsLoad :
    (let b := State.reset.dev.bins 274687
     ready State.reset 6 && [b.cur15, b.prev15, b.cur24, b.prev24].all (fun x => x.cnt.length == 12) && decide (274687 < 274688) &&
       decide (524287 < 2 ^ 19) && decide (262143 < 2 ^ 18) && decide (2 ^ 18 ≤ 262144)) = true ∧
    (let s := on fun d => d.setStaged 6 (some ⟨0xD0060, [BitVec.ofNat 32 (laneBase 63 + 0x4510), 1, 0xFFFF]⟩)
     liveB s && (s.dev.staged 6).isSome && isWrapCounter (laneBase 63 + 0x4510) && (rawCounter (laneBase 63 + 0x4510)).isNone &&
       fld 0xFFFF 16 16 == 0) = true ∧
    (let s := on fun d => d.setStaged 6 (some ⟨0xD0060, [0x03F00100, 1, 0xFFFF]⟩)
     liveB s && (s.dev.staged 6).isSome && rawCounter 0x03F00100 == some 16 && fld 0xFFFF 16 16 == 0 && fld 0x3FFFF 18 14 == 0) = true ∧
    (let s := on fun d => d.setStaged 6 (some ⟨0xD0060, [0x40, 1, 0x10000]⟩)
     liveB s && (s.dev.staged 6).isSome && fld 0x10000 16 16 != 0 && !isWrapCounter 0x40 && (rawCounter 0x40).isNone) = true := by decide

/-- The Attic in a state, with a record that runs and what is staged and outstanding. -/
def atticUp (st : Nat) (a : AtticSt) (d : Device) : Device := { (coresRun d).put 0x80018 0 3 st with attic := a }
/-- A placed frame. -/
def frame1 : Staged := { obj := { kind := 1, seq := 7, unit := 9 }, staged := 4096, sent := 4096, placed := true }

theorem witness_TheAtticIsEnabledAdoptsAndIsLost :
    (let s := on coresRun
     ready s 6 && domReady s .pcie && decide (5 < 6) && s.dev.atticState == 0 && !s.dev.cores.mc1Away && s.dev.opPick == some 0 &&
       s.dev.attic.op.isNone && s.dev.atticState != 2 && s.dev.atticState != 3) = true ∧
    (ready State.reset 6 && domReady State.reset .pcie && State.reset.dev.cores.mc1Away) = true ∧
    ([[], [frame1]].all (fun l =>
       let s := on (atticUp 2 { staging := l })
       ready s 6 && domReady s .pcie && s.dev.atticState == 2 && s.dev.attic.reserved.isEmpty && s.dev.attic.staging == l &&
         (List.range 256).all (fun r => s.dev.ringSt r != 4))) = true ∧
    ([1, 3].all (fun st =>
       let s := on (atticUp st { op := if st = 1 then some 15 else none })
       ready s 6 && domReady s .pcie && s.dev.atticState == st && !s.dev.cores.mc1Away && s.dev.opPick == some 0)) = true ∧
    ([none, some 0, some 1, some 2, some 3, some 4, some 5].all (fun f =>
       let o : DriveObs := { link := f != some 0, meets := f != some 1, queues := f != some 2, writes := f != some 4, flush := f != some 5 }
       let s := on (atticUp 1 { op := some 15, mode := if f = some 3 then 0 else 2 })
       liveB s && s.dev.attic.op == some 15 && s.dev.atticState == 1 && s.dev.adoptFail o none == f)) = true ∧
    (let s := on (atticUp 2 {})
     liveB s && s.dev.atticState == 2 && s.dev.attic.cmds == []) = true ∧
    (let s := on (atticUp 4 { staging := [frame1] })
     liveB s && s.dev.atticState == 4 && (List.range 256).all (fun r => s.dev.ringSt r != 4)) = true := by decide +kernel

theorem witness_FramesAreStagedWrittenAndFlushed :
    (let s := on fun d => { atticUp 2 {} d with pm := { d.pm with toFrame := [sec1] } }
     liveB s && s.dev.pm.toFrame == [sec1] && !s.dev.cores.mc1Away && s.dev.atticTakes && s.dev.atticState == 2 &&
       decide (1048576 ≤ 2097152 - s.dev.attic.held)) = true ∧
    (let s := on fun d => { atticUp 3 {} d with pm := { d.pm with toFrame := [sec1] } }
     liveB s && s.dev.pm.toFrame == [sec1] && !s.dev.cores.mc1Away && s.dev.atticTakes && s.dev.atticState != 2 &&
       decide ((frameObj sec1 s.dev.attic.dropped).len ≤ 2097152 - s.dev.attic.held)) = true ∧
    (liveB State.reset && State.reset.dev.pm.toFrame.isEmpty) = true ∧
    (let s := on (atticUp 2 { staging := [frame1], cmds := [{ kind := .write 7 4096 }, { kind := .superFlush, retried := true }] })
     liveB s && s.dev.attic.cmds[0]? == some { kind := .write 7 4096 } && s.dev.attic.cmds[1]? == some { kind := .superFlush, retried := true } &&
       s.dev.attic.staging == [frame1] && frame1.placed && frame1.obj.seq == 7 && s.dev.atticState == 2 &&
       (List.range 256).all (fun r => s.dev.ringSt r != 4)) = true ∧
    ([NvmeKind.dealloc 16 1, .header 16, .read 16 256].all (fun c =>
       let s := on (atticUp 2 { staging := [frame1], cmds := [{ kind := c }] })
       liveB s && s.dev.attic.cmds[0]? == some { kind := c } && s.dev.attic.staging.all (·.placed))) = true ∧
    (let s := on (atticUp 2 { staging := [frame1], cmds := [{ kind := .flush [(7, 4096)] }] })
     liveB s && s.dev.attic.cmds == [{ kind := .flush [(7, 4096)] }] && s.dev.attic.staging == [frame1] && frame1.obj.kind == 1 &&
       decide (frame1.obj.len ≤ 4096) && s.dev.atticState == 2) = true := by decide +kernel

/-! The Hearth and the time of day. The last slot, 7, of XREF_B, and the last preset, 2. -/

/-- Slot 7 in a state. -/
def refUp (x : RefSt) (d : Device) : Device := (d.wr (refBase 7) 1).setRef 7 x

theorem witness_ReferencesAreEnabledJudgedAndTicked :
    (let ok := fun (d : Device) (r : Nat) (v : Word) => takes d (refBase r) ⟨.hearth, 0, 0x100 + 0x40 * r⟩ v
     ready State.reset 6 && domReady State.reset .hearth && ok State.reset.dev 7 (setFld 0 0 1 1) &&
       (State.reset.dev.refCfgCause 7 (setFld 0 0 1 1)).isNone && (State.reset.dev.ref 7).st == 0 &&
       !((State.reset.dev.covered.complete 6 {}).wr (refBase 7) (setFld 0 0 1 1)).refBad 7 &&
       ok State.reset.dev 5 (setFld 0 0 1 1) && (State.reset.dev.refCfgCause 5 (setFld 0 0 1 1)).isNone &&
       ((State.reset.dev.covered.complete 6 {}).wr (refBase 5) (setFld 0 0 1 1)).refBad 5 &&
       (let s := on fun d => d.wr (refBase 0) 1
        ready s 6 && domReady s .hearth && ok s.dev 5 (setFld 0 0 1 1) && s.dev.refCfgCause 5 (setFld 0 0 1 1) == some 1) &&
       (let s := on (refUp { st := 3 })
        ready s 6 && domReady s .hearth && ok s.dev 7 (setFld 1 0 1 0) && (s.dev.refCfgCause 7 (setFld 1 0 1 0)).isNone)) = true ∧
    ([1, 3].all (fun v =>
       let p : Posted := ⟨6, refBase 7, .hearth, .word (BitVec.ofNat 32 v)⟩
       let s := on fun d => { d.wr (refBase 7) 1 with bus := { d.bus with xqHk := [p] } }
       liveB s && popFor .hearth (s.dev.queueOf .hearth) == some (p, []) &&
         s.dev.refCfgCause 7 (BitVec.ofNat 32 v) == (if v = 1 then none else some 2))) = true ∧
    (liveB State.reset && (State.reset.dev.queueOf .hearth).isEmpty) = true ∧
    ([0, 35].all (fun n =>
       let s := on fun d => (refUp { st := 2, wtr := 1 } d).setChain 7 { main := { settle := n } }
       liveB s && !s.dev.refBad 7 && (s.dev.ref 7).st == 2 && (s.dev.chain 7).main.settle == n)) = true ∧
    (let s := on (refUp { st := 2, pin := { edges := false } })
     liveB s && s.dev.refBad 7) = true ∧
    ([2, 3].all (fun st =>
       let s := on fun d => (refUp { st := st } d).onHearth (fun h => { h with sel := some 7, dpll := 2 })
       liveB s && !s.dev.refE1 7 && (s.dev.ref 7).st == st && s.dev.hearth.sel == some 7 && s.dev.hearth.phase == 0 && s.dev.hMode != 3 &&
         s.dev.hearth.dpll == 2)) = true ∧
    (let s := on (refUp { st := 1 })
     liveB s && !s.dev.refE1 7 && (s.dev.ref 7).st == 1 && !(s.dev.chain 7).disq && !(s.dev.chain 7).slope) = true := by decide

theorem witness_TheHearthSwitchesLocksAndFollowsItsMode :
    (let s := on fun d => d.onHearth (fun h => { h with phase := 2, swFrom := some 7, cand := some 6 })
     liveB s && s.dev.hearth.phase == 2 && s.dev.hearth.swFrom == some 7 && s.dev.hearth.cand == some 6) = true ∧
    (liveB State.reset && State.reset.dev.hearth.phase != 2 && State.reset.dev.hearth.dpll != 1) = true ∧
    (let s := on fun d => d.onHearth (fun h => { h with dpll := 1 })
     liveB s && s.dev.hearth.dpll == 1) = true ∧
    (let s := on fun d => d.onHearth (fun h => { h with dpll := 3 })
     liveB s && s.dev.hearth.dpll == 3 && s.dev.get 0x50024 0 14 != 0) = true ∧
    ([0, 1, 2, 3].all (fun k =>
       let s := on fun d => d.wr (refBase 0) 1
       ready s 6 && domReady s .hearth && takes s.dev 0x50010 ⟨.hearth, 0, 0x10⟩ (setFld 0x110 0 2 k) && s.dev.hearth.phase == 0 &&
         s.dev.hMode == 0)) = true ∧
    ([1, 2, 3].all (fun k =>
       let s := on fun d => d.wr 0x70014 1
       ready s 6 && domReady s .hearth && (rowOf 0x50010).isSome && s.dev.standby && k != s.dev.hMode)) = true ∧
    (let s := on fun d => d.wr 0x5003C 1
     ready s 6 && domReady s .hearth && decide (s.dev.phaseRemain + signed 32 (0x7FFFFFFE : Word).toNat = 2147483647) &&
       decide (2147483647 < s.dev.phaseRemain + signed 32 (0x7FFFFFFF : Word).toNat) && s.dev.phaseRemain != 0) = true ∧
    (let s := on fun d => d.wr 0x5003C 0xFFFFFFFF
     decide (s.dev.phaseRemain + signed 32 (0x80000001 : Word).toNat = -2147483648) &&
       decide (s.dev.phaseRemain + signed 32 (0x80000000 : Word).toNat < -2147483648)) = true ∧
    (let s := on fun d => d.onHearth (fun h => { h with stepping := true })
     liveB s && s.dev.hearth.stepping && decide (s.dev.phaseRemain = 0)) = true := by decide

theorem witness_FilterChainsRunRestartAndFade :
    (ready State.reset 6 && domReady State.reset .hearth && !State.reset.dev.sampling 7) = true ∧
    ([78, 79].all (fun n =>
       let s := on fun d => (refUp { st := 3 } d).setChain 7 { main := { cnt := n } }
       ready s 6 && domReady s .hearth && s.dev.sampling 7 && (s.dev.chain 7).main.cnt == n && presetR (s.dev.preset 7) == 80 &&
         (s.dev.fadeOf (s.dev.preset 7)).isNone)) = true ∧
    (let sum := fun (d : Device) => ((List.range 32).map (fun t => d.coef 2 (1 - d.activeBank 2) t)).sum
     let s := on (refUp { st := 3 })
     let f := on fun d => d.onHearth (fun h => { h with fades := [⟨2, 64, [(7, true)]⟩] })
     let z := on fun d => d.wr 0x51680 0
     ready State.reset 6 && domReady State.reset .hearth && (State.reset.dev.fadeOf 2).isNone && decide (sum State.reset.dev = 65536) &&
       (State.reset.dev.branchesOf 2).isEmpty && ready s 6 && domReady s .hearth && (s.dev.fadeOf 2).isNone && decide (sum s.dev = 65536) &&
       !(s.dev.branchesOf 2).isEmpty && ready f 6 && domReady f .hearth && (f.dev.fadeOf 2).isSome && ready z 6 && domReady z .hearth &&
       (z.dev.fadeOf 2).isNone && decide (sum z.dev ≠ 65536)) = true := by decide +kernel

/-- Domain B in a state. -/
def domUp (st : Nat) (x : TodDom) (d : Device) : Device := ((d.wr (domBase 1) 1).put (domBase 1 + 4) 0 2 st).setDom 1 x
/-- A time message of R509 for the last second, VALID and STEP_OK, QCLASS 15, with its CRC. -/
def message : List Byte := [0xA7, 1, 0xFF, 0xFF, 0xFF, 0xFF, 0xFF, 0xFF, 3, 0, 0, 15, 0, 0, 0xE0, 0x91]

theorem witness_TimeDomainsAreMeasuredQualifiedAndLost :
    (ready State.reset 6 && domReady State.reset .hearth && !State.reset.dev.bit (domBase 1) 0 && State.reset.dev.domState 1 == 0 &&
      rowMeets (domBase 1) (fun r => r.legal (setFld 0 0 1 1).toNat)) = true ∧
    (let s := on (domUp 2 {})
     liveB s && s.dev.bit (domBase 1) 0 && !(s.dev.dom 1).seen && decide (99 < 100) && !(s.dev.dom 1).acc && s.dev.domState 1 == 2) = true ∧
    (let s := on (domUp 2 { seen := true, acc := true, msg := some (0, true, true), good := 2, lastSec := 2 ^ 48 - 1 })
     liveB s && s.dev.bit (domBase 1) 0 && (s.dev.dom 1).seen && (s.dev.dom 1).msg == some (0, true, true) && decide (2 ≤ (s.dev.dom 1).good) &&
       decide (0 = ((s.dev.dom 1).lastSec + 1) % 2 ^ 48) && s.dev.domState 1 == 2) = true ∧
    (let s := on (domUp 1 { seen := true, msg := some (5, true, false) })
     liveB s && (s.dev.dom 1).seen && (s.dev.dom 1).msg == some (5, true, false) && s.dev.domState 1 == 1) = true ∧
    (let s := on (domUp 3 { seen := true, acc := true, noMeas := 2 })
     ready s 6 && domReady s .hearth && (s.dev.dom 1).seen && (s.dev.dom 1).acc && (s.dev.dom 1).msg.isNone && s.dev.domState 1 == 3 &&
       decide (2 ≤ (s.dev.dom 1).noMeas) && rowMeets (domBase 1) (fun r => r.legal (setFld 1 0 1 0).toNat)) = true ∧
    (let b := fun i => (message.getD i 0).toNat
     b 0 == 0xA7 && message.length == 16 && b 1 == 1 && b 12 == 0 && b 13 == 0 && b 11 == 15 && b 8 == 3 &&
       crc16 (message.take 14) == 256 * b 14 + b 15) = true ∧
    (let bad := message.set 15 0x90
     crc16 (bad.take 14) != 256 * 0xE0 + 0x90 && bad.length == 16) = true ∧
    (message.set 0 0xA6).getD 0 0 ≠ 0xA7 ∧
    (let s := on fun d => d.wr 0x60014 2
     ready s 6 && domReady s .hearth && s.dev.activeIdx == 1 && fld 0 1 1 != s.dev.activeIdx && fld 2 1 1 != s.dev.get 0x60010 1 1) = true := by
  decide +kernel

/-- Output 3 with a mode and its own state. -/
def pulseUp (mode : Word) (x : Tpulse) (d : Device) : Device :=
  ((d.wr (tpBase 3) mode).wr (tpBase 3 + 0x24) 1).onTod (fun t => { t with valid := true }) |>.setPulse 3 x

theorem witness_TimeIsSetAndPulsesAreArmedAndTimed :
    (let s := on fun d => d.setStaged 6 (some ⟨0x60040, [999999999, 0xFFFFFFFF, 0xFFFF]⟩)
     liveB s && domReady s .hearth && s.dev.staged 6 == some ⟨0x60040, [999999999, 0xFFFFFFFF, 0xFFFF]⟩ && decide (s.dev.tod.epoch ≤ 0xFFFF) &&
       !timeWordsBad [999999999, 0xFFFFFFFF, 0xFFFF, 0] && timeWordsBad [999999999, 0xFFFFFFFF, 0xFFFF, 1] &&
       (List.range 4).all (fun r => !(s.dev.pulse r).armed)) = true ∧
    (let s := on fun d => (pulseUp 1 { armed := true, due := 10000000000 } d).setStaged 6 (some ⟨0x60040, [0, 5, 0]⟩)
     liveB s && domReady s .hearth && s.dev.staged 6 == some ⟨0x60040, [0, 5, 0]⟩ && !timeWordsBad [0, 5, 0, 0] &&
       decide (s.dev.tod.epoch ≤ 0xFFFF) && s.dev.tpMode 3 == 1 && (s.dev.pulse 3).armed &&
       (match exec (.todSet 6 0) s with | .next t => t.dev.tod.sec == 5 && !t.dev.reached (s.dev.pulse 3).due | _ => false)) = true ∧
    (ready State.reset 6 && domReady State.reset .hearth && State.reset.dev.tpMode 3 == 0 && fld 7 0 2 == 3 && fld 5 0 2 == 1 &&
      (tpCause 1 (State.reset.dev.get (tpBase 3 + 4) 0 30) (State.reset.dev.tpPeriod 3)).isNone && !State.reset.dev.tod.valid &&
      tpCause 2 (State.reset.dev.get (tpBase 3 + 4) 0 30) (State.reset.dev.tpPeriod 3) == some 1) = true ∧
    (let s := on fun d => d.wr (tpBase 3 + 0x24) 3600
     ready s 6 && domReady s .hearth && s.dev.tpMode 3 == 0 && fld 6 0 2 == 2 &&
       (tpCause 2 (s.dev.get (tpBase 3 + 4) 0 30) (s.dev.tpPeriod 3)).isNone) = true ∧
    (let s := on fun d => (pulseUp 2 {} d).setStaged 6 (some ⟨tpBase 3 + 0x10, [999999999, 0, 0]⟩)
     liveB s && domReady s .hearth && (s.dev.staged 6).isSome && !timeWordsBad [999999999, 0, 0, 0] && s.dev.tpMode 3 == 2) = true ∧
    ([1, 2].all (fun k =>
       let s := on (pulseUp (BitVec.ofNat 32 k) { armed := true, active := true })
       liveB s && (s.dev.pulse 3).armed && s.dev.tod.valid && s.dev.tpMode 3 == k && (s.dev.pulse 3).active)) = true ∧
    (liveB State.reset && !(State.reset.dev.pulse 3).armed && !(State.reset.dev.pulse 3).active) = true := by
  decide +kernel

theorem witness_EveryStepOfTimeOpensAnEpoch :
    (let d := State.reset.dev.onTod (fun t => { t with epoch := 0xFFFF })
     d.tod.epoch = 0xFFFF) ∧ State.reset.dev.tod.epoch ≠ 0xFFFF := by decide

/-! The Party Wall. -/

/-- The Party Wall with its link up in a role: 0 STANDBY_PENDING, 1 STANDBY, 2 ACTIVE. -/
def wall (role : Nat) (x : PwSt) (d : Device) : Device := { (coresRun d).put 0x70014 0 2 role with pw := { x with up := true } }
/-- The link is down. -/
def wallDown (role : Nat) (x : PwSt) (d : Device) : Device := { (coresRun d).put 0x70014 0 2 role with pw := x }

theorem witness_ThePartyWallRoleIsLeased :
    ([0, 1, 2].all (fun role =>
       let s := on (wall role {})
       liveB s && wallUp s && s.dev.pwRole == role && (s.dev.pw.op.isNone) && !s.dev.pwSide && !s.dev.pw.actIn && !s.dev.fc.safe)) = true ∧
    (let s := on fun d => (wall 0 {} d).setBit 0x70010 8 false
     liveB s && wallUp s && s.dev.pwRole == 0 && !s.dev.autoResync) = true ∧
    (let s := on (wall 1 { aligned := true, alignRun := 15 })
     liveB s && wallUp s && s.dev.pwRole == 1 && s.dev.pw.aligned && decide (16 ≤ s.dev.pw.alignRun + 1)) = true ∧
    (let s := on (wall 2 { sent := [(0xFFFFFFFF, 0)] })
     liveB s && s.dev.pwRole == 2 && s.dev.pw.sent.find? (fun x => x.1 == 0xFFFFFFFF) == some (0xFFFFFFFF, 0)) = true ∧
    (let s := on (wall 1 { actIn := true })
     liveB s && wallUp s && s.dev.pwRole == 1 && s.dev.pw.actIn) = true ∧
    (let s := on (wallDown 1 {})
     liveB s && s.dev.pwRole != 2 && s.dev.pw.expired.isNone && s.dev.pw.stopping.isNone && !s.dev.pw.up && s.dev.pw.lowAt.isNone) = true ∧
    ([true, false].all (fun b =>
       let s := on (wallDown 1 { expired := some 7, released := b, guardDone := b })
       let u := on (wallDown 0 { expired := some 7, actIn := b })
       liveB s && s.dev.pw.expired == some 7 && s.dev.pwRole == 1 && !s.dev.pw.actIn && !s.dev.fc.safe && s.dev.pw.released == b &&
         s.dev.pw.guardDone == b && liveB u && u.dev.pwRole == 0 && u.dev.pw.expired == some 7 && u.dev.pw.actIn == b)) = true ∧
    (let s := on (wallDown 2 { established := true, mate := true })
     liveB s && s.dev.pwRole == 2 && s.dev.pw.established && s.dev.pw.mate) = true ∧
    (let s := on fun d => (wallDown 2 {} d).wr 0x1C 1
     liveB s && s.dev.pwRole == 2 && s.dev.pwSide) = true ∧
    ([true, false].all (fun b =>
       let s := on (wallDown 1 { stopping := some b })
       let u := on fun d => (wallDown 1 { stopping := some b } d).setLane 63 { txOn := true }
       liveB s && s.dev.pw.stopping == some b && !s.dev.lanes.any (fun e => e.2.txOn) && u.dev.lanes.any (fun e => e.2.txOn))) = true ∧
    (let s := on (wall 2 { fit := true })
     let u := on (wall 2 {})
     ready s 6 && s.dev.pwRole == 2 && s.dev.pw.fit && s.dev.pw.up && ready u 6 && u.dev.pwRole == 2 && !u.dev.pw.fit) = true ∧
    (let s := on (wallDown 2 { lowAt := some 0 })
     liveB s && s.dev.pw.lowAt == some 0 && s.dev.pwRole == 2 && !s.dev.pwSide) = true := by decide

theorem witness_ThePartyWallLinkMirrorsAndCounts :
    (liveB State.reset && !State.reset.dev.pw.reqDue && !State.reset.dev.pw.up && (State.reset.dev.rd 0xC001C).toNat % 16 == 0) = true ∧
    (let s := on (wall 1 { op := some 15, good := 15 })
     liveB s && s.dev.pw.up && s.dev.pw.op == some 15 && s.dev.pwRole == 1) = true ∧
    (let s := on fun d => d.wr 0xC001C 15
     liveB s && (s.dev.rd 0xC001C).toNat % 16 == 15) = true ∧
    ([1, 2].all (fun role =>
       let s := on fun d => (wall role {} d).wr 0xC001C 0xFFFFFFF0
       liveB s && (s.dev.rd 0xC001C).toNat % 16 == 0 && s.dev.pwRole == role && s.dev.pw.up && s.dev.pw.rxSeq.isNone)) = true ∧
    (let s := on (wall 1 { rxSeq := some 0xFFFFFFFF, bulk := true })
     liveB s && s.dev.pw.up && s.dev.pw.rxSeq == some ((0 + 2 ^ 32 - 1) % 2 ^ 32) && s.dev.pwRole == 1 && s.dev.pw.bulk &&
       decide (1 ≠ (0xFFFFFFFF + 1) % 2 ^ 32) && s.dev.pw.op.isNone) = true ∧
    (let s := on (wall 1 { rxSeq := some 4 })
     liveB s && s.dev.pw.up && s.dev.pw.rxSeq == some ((5 + 2 ^ 32 - 1) % 2 ^ 32) && s.dev.pwRole == 1 && !s.dev.pw.bulk &&
       s.dev.tcWord 262143 != 0x7FF) = true ∧
    (let s := on (wall 1 {})
     liveB s && s.dev.pw.up && s.dev.pw.rxSeq.isNone && s.dev.pwRole == 1 && !s.dev.cores.mc1Away && s.dev.pw.snap.isEmpty &&
       !s.dev.pw.snapGap) = true ∧
    (let s := on fun d => { wall 1 {} d with cores := ⟨false, true⟩ }
     liveB s && s.dev.pw.up && s.dev.pw.rxSeq.isNone && s.dev.pwRole == 1 && s.dev.cores.mc1Away) = true := by
  decide

theorem witness_MessagesOfBothKinds : liveB State.reset = true ∧ pwValid [] = false ∧ pwValid (pwBytes { body := .idle }) = true := by decide +kernel

theorem imageWhole_one {l : List Word} (h : l.length = 6369280) : imageWhole 0 [(0, 0, l)] = true := by
  simp only [imageWhole, h]
  decide

theorem image_exists : ∃ l : List Word, imageWhole 0 [(0, 0, l)] = true :=
  ⟨List.replicate 6369280 0, imageWhole_one List.length_replicate⟩

theorem witness_TheStandbyIsResyncedComparedAndAttested :
    (let s := on (wall 1 {})
     ready s 6 && s.dev.pwRole == 1 && !s.dev.pw.bulk && s.dev.opPick == some 0 && s.dev.pw.up && s.dev.pw.own.isNone &&
       s.dev.porch.atts.isEmpty && decide (32 ≤ 32) && !s.dev.cores.mc0Away && s.dev.mateState == 0) = true ∧
    ([0, 2].all (fun role =>
       let s := on (wall role {})
       ready s 6 && s.dev.pwRole != 1 && s.dev.pwRole == role && !s.dev.cores.mc1Away)) = true ∧
    (let s := on (wall 1 { bulk := true, op := some 15 })
     liveB s && s.dev.pw.up && s.dev.pwRole == 1 && s.dev.pw.bulk && s.dev.pw.op == some 15 && s.dev.pw.rxSeq.isNone &&
       !imageWhole 0 s.dev.pw.image && !((wall 1 { bulk := true, op := some 15 } State.reset.dev).setBit 0x70010 8 false).autoResync) = true ∧
    (∀ im, let s := on (wall 1 { bulk := true, op := some 15, image := im })
     Live s ∧ s.dev.pw.up = true ∧ s.dev.pwRole = 1 ∧ s.dev.pw.bulk = true ∧ s.dev.pw.op = some 15 ∧ s.dev.pw.image = im ∧
       s.dev.pw.carried = [] ∧ s.dev.pw.queued = []) ∧
    (∃ l : List Word, imageWhole 0 [(0, 0, l)] = true) ∧
    (let own : List Word := List.replicate 16 1
     let s := on fun d => (wall 1 { own := some (3, 0, own), aligned := true } d).wr 0x70024 0xFFFF
     let cmp := (List.range 16).filter (fun i => s.dev.bit 0x70024 i && s.dev.pw.aligned && !(0 / 2 ^ i % 2 == 1) && 0xFFFF / 2 ^ i % 2 == 1)
     liveB s && s.dev.pw.up && s.dev.pw.own == some (3, 0, own) && s.dev.pwRole == 1 &&
       (cmp.filter (fun i => decide (own.getD i 0 ≠ own.getD i 0))).isEmpty &&
       cmp.filter (fun i => decide (own.getD i 0 ≠ (own.set 15 0).getD i 0)) == [15]) = true ∧
    (let s := on fun d => { wall 1 {} d with porch := { d.porch with atts := List.replicate 3 { src := .mate 0, nonceLen := 0, nonce := [] } } }
     liveB s && s.dev.pw.up && !s.dev.cores.mc0Away && decide (3 ≤ s.dev.porch.atts.length)) = true ∧
    (let s := on fun d => { wall 1 { bulk := true, op := some 15 } d with cores := ⟨true, true⟩ }
     liveB s && s.dev.pw.up && s.dev.pwRole == 1 && s.dev.pw.bulk && s.dev.pw.op == some 15 && s.dev.pw.rxSeq.isNone &&
       s.dev.cores.mc1Away && s.dev.cores.mc0Away) = true ∧
    (let s := on fun d => (List.range 16).foldl (fun d k => d.put (oprecBase k + 4) 12 2 1) (wall 1 {} d)
     liveB s && s.dev.pw.up && !s.dev.cores.mc0Away && s.dev.porch.atts.isEmpty && s.dev.opPick.isNone) = true ∧
    (let a : AttReq := { src := .mate 0, nonceLen := 0, nonce := [], op := some 15 }
     let s := on fun d => { wall 1 {} d with porch := { d.porch with atts := [a, a] } }
     liveB s && s.dev.pw.up && !s.dev.cores.mc0Away && decide (s.dev.porch.atts.length < 3) && s.dev.porch.atts.head? == some a) = true ∧
    (let s := on fun d => { (wall 1 {} d).put 0x40094 0 2 1 with meas := { d.meas with reqId := 0xFFFF } }
     liveB s && s.dev.pw.up && s.dev.mateState == 1 && s.dev.meas.reqId == 0xFFFF) = true :=
  ⟨by decide, by decide, by decide, fun _ => ⟨rfl, rfl, rfl, rfl, rfl, rfl, rfl, rfl⟩, image_exists, by decide, by decide, by decide, by decide +kernel, by decide,
    by decide⟩

/-! Pins, resets and the Fault Collector. Lane 63's transmitter source, 255, and the last source, 459. -/

/-- A first capture of the class of source `i` is held, and the source promotes at its first event with reaction `re`. -/
def hot (i re : Nat) (d : Device) : Device :=
  (d.wr (0x10200 + 0x20 * srcClass i) 1).wr (srcBase i) (BitVec.ofNat 32 (0x100 + re))
/-- An event of source `i`. -/
def rep (i : Nat) : SrcReport := { src := i, addr := 0xFFFFFFFC, master := 7, access := 3, syndrome := 1 }

theorem witness_PinsPowerAndResetActAtAnyTime :
    (let s := on fun d => { d with boot := { d.boot with held := true } }
     s.dev.boot.held) = true ∧
    (let s := on fun d => { d with boot := { d.boot with power := true } }
     s.dev.boot.power && !s.dev.boot.warm && !s.dev.boot.test && s.dev.get 0x20010 0 4 == 0 && 63 / 32 % 2 == 1 && 31 / 32 % 2 == 0) = true ∧
    (let s := on fun d => d.wr 0x20010 7
     s.dev.get 0x20010 0 4 != 0 && !s.dev.boot.held) = true ∧
    (let s := on fun d => { d with boot := { d.boot with held := true, warm := true } }
     s.dev.boot.held && s.dev.boot.warm && s.dev.porch.busy.isEmpty) = true := by decide

/-- The warning level of the die temperature is 105 degC. -/
def warm (d : Device) : Device := d.wr 0x10068 0x69
theorem warm_ne39 : srcBase 39 + 8 ≠ 0x10068 := by decide
theorem warm_ne40 : srcBase 40 + 8 ≠ 0x10068 := by decide
theorem warm_neCfg : srcBase 39 ≠ 0x10068 := by decide

theorem witness_Rails :
    ((0, 638) : Nat × Nat) ∈ [(0, 638), (1, 680), (2, 723), (3, 1020), (4, 1020), (5, 1530), (6, 1530)] ∧ 637 < 638 ∧
      liveB State.reset = true ∧ State.reset.dev.fc.raised = [] ∧ State.reset.dev.fc.later = [] ∧ State.reset.dev.fc.railWarn = [] ∧
      State.reset.dev.fc.railCrit = [] ∧ State.reset.dev.srcReact 41 ≤ 1 := by decide

theorem witness_AnEvaluationSlotCountsMasksPromotesAndReacts :
    (let s := on fun d => { d with fc := { d.fc with masks := [⟨.device, 0xFFFF, 1⟩] } }
     liveB s && s.dev.fc.raised.isEmpty && srcNamed 255 && !srcLives 255 && s.dev.maskedBy s.dev.fc.masks (rep 255) == some 0xFFFF) = true ∧
    (liveB State.reset && State.reset.dev.fc.raised.isEmpty && srcNamed 321 && !srcLives 321 &&
      (State.reset.dev.maskedBy State.reset.dev.fc.masks (rep 321)).isNone && !State.reset.dev.promotes (rep 321) &&
      State.reset.dev.rd (0x10200 + 0x20 * srcClass 321) == 0) = true ∧
    ([0, 4, 0x7FC].all (fun st =>
       let s := on fun d => (d.wr (0x10200 + 0x20 * srcClass 255) 1).wr (srcBase 255 + 8) (BitVec.ofNat 32 st) |>.wr (srcBase 255) 0xFF01
       liveB s && (s.dev.maskedBy s.dev.fc.masks (rep 255)).isNone && s.dev.rd (0x10200 + 0x20 * srcClass 255) != 0 &&
         (s.dev.promotes (rep 255) == (st == 0x7FC)) && s.dev.bit (srcBase 255 + 8) 2 == (st != 0))) = true ∧
    ([0, 1, 2, 3, 4].all (fun re =>
       let s := on (hot 255 re)
       liveB s && s.dev.fc.raised.isEmpty && (s.dev.maskedBy s.dev.fc.masks (rep 255)).isNone && s.dev.promotes (rep 255) &&
         s.dev.rd (0x10200 + 0x20 * srcClass 255) != 0 && !s.dev.bit (srcBase 255 + 8) 1 && s.dev.srcReact 255 == re && !s.dev.fc.safe)) = true ∧
    (let s := on fun d => (hot 255 5 d).wr 0x20010 7
     liveB s && s.dev.promotes (rep 255) && s.dev.srcReact 255 == 5 && s.dev.get 0x20010 0 4 == 7) = true ∧
    (let s := on fun d => (hot 255 1 d).wr (srcBase 255 + 8) 3
     liveB s && s.dev.promotes (rep 255) && s.dev.bit (srcBase 255 + 8) 1) = true ∧
    (let s := on fun d => hot 255 3 (wall 2 { mateStandby := true } d)
     let u := on fun d => hot 255 3 (wall 2 {} d)
     liveB s && s.dev.promotes (rep 255) && s.dev.srcReact 255 == 3 && s.dev.pwRole == 2 && s.dev.pw.mateStandby && s.dev.pw.up &&
       u.dev.promotes (rep 255) && u.dev.srcReact 255 == 3 && !u.dev.pw.mateStandby) = true ∧
    (let s := on warm
     Live s ∧ s.dev.fc.raised = [] ∧ s.dev.fc.later = [] ∧ s.dev.fcLive 39 = false ∧ s.dev.fcLive 40 = false ∧ s.dev.srcReact 39 ≤ 1 ∧
       (420 : Int) ≤ 4 * (s.dev.get 0x10068 0 8 : Nat) ∧ 4 * (s.dev.get 0x10068 0 8 : Nat) < (421 : Int)) ∧
    (let s := on fun d => warm (d.setBit (srcBase 39 + 8) 12 true)
     Live s ∧ s.dev.fc.raised = [] ∧ s.dev.fcLive 39 = true ∧ s.dev.fcLive 40 = false ∧
       (400 : Int) ≤ 4 * (((s.dev.get 0x10068 0 8 : Nat) : Int) - 5)) := by
  refine ⟨by decide, by decide, by decide, by decide, by decide, by decide, by decide, ⟨rfl, rfl, rfl, ?_, ?_, ?_, ?_, ?_⟩, rfl, rfl, ?_, ?_, ?_⟩ <;>
    simp only [on, warm, Device.fcLive, Device.srcReact, Device.bit, Device.get, rd_wr_same, rd_wr_ne _ _ warm_ne39, rd_wr_ne _ _ warm_ne40,
      rd_wr_ne _ _ warm_neCfg] <;> decide

theorem witness_FaultTimersInjectionAndCommands :
    (let s := on fun d => d.wr (srcBase 459 + 8) 6
     liveB s && s.dev.bit (srcBase 459 + 8) 2 && s.dev.bit (srcBase 459 + 8) 1) = true ∧
    (liveB State.reset && !State.reset.dev.bit (srcBase 459 + 8) 2 && !State.reset.dev.bit (srcBase 459 + 8) 1 &&
      !State.reset.dev.opKindRunning 6 && State.reset.dev.get 0x20010 0 4 == 0 && State.reset.dev.get 0x10064 0 14 == 500 && State.reset.dev.fc.injections.isEmpty) = true ∧
    ([3, 7].all (fun p =>
       let s := on fun d => d.wr 0x20010 (BitVec.ofNat 32 p)
       liveB s && s.dev.get 0x20010 0 4 == p && !s.dev.opKindRunning 6 && s.dev.get 0x10064 0 14 == 500)) = true ∧
    (let s := on fun d => { d with fc := { d.fc with masks := [⟨.lane 63, 1, 9⟩], holds := [(.lane 63, 5)] } }
     liveB s && !s.dev.fc.masks.isEmpty && s.dev.fc.holds == [(.lane 63, 5)]) = true ∧
    (let s := on fun d => d.wr (oprecBase 15 + 4) 0x1006
     liveB s && s.dev.opKindRunning 6) = true ∧
    ([1, 2].all (fun n =>
       let x : Injection := ⟨459, n, 3, 7⟩
       let s := on fun d => { d with fc := { d.fc with injections := [x], raised := if n = 1 then [] else [⟨459, 0, 7, 3, 0, false, true⟩] } }
       liveB s && s.dev.fc.raised.any (fun y => y.src == 459 && y.inj) == (n == 2) && s.dev.fc.injections.find? (fun y => y.src == 459) == some x)) = true ∧
    (ready State.reset 6 && srcNamed 459 && !srcNamed 460 && fld 0xFFFF 0 8 != 0 && !State.reset.dev.fcLive 40 && !State.reset.dev.fcLive 42 &&
      !State.reset.dev.fc.safe) = true ∧
    (let s := on fun d => d.setBit (srcBase 42 + 8) 12 true
     ready s 6 && s.dev.fcLive 42) = true ∧
    (let s := on fun d => { wall 2 { actIn := true } d with fc := { d.fc with safe := true } }
     ready s 6 && !s.dev.fcLive 40 && !s.dev.fcLive 42 && s.dev.fc.safe && s.dev.pw.actIn && s.dev.pwRole == 2) = true ∧
    (liveB State.reset && State.reset.dev.inputUsed 11 && inputFails 11 2 36 && !inputFails 11 2 35 && inputFails 1 1 1001 &&
     !inputFails 1 1 1000 && inputFails 1 1 (2 ^ 16 - 1001) && !inputFails 3 1 (2 ^ 16 - 3000) && inputFails 9 1 3 && !inputFails 9 1 4 && !State.reset.dev.fcLive 459 && !State.reset.dev.inputUsed 3) = true := by decide

/-! The Pantry. The last configuration slot, 3. -/

/-- A directory of four slots of 64 KiB, DIR_GEN 1, with its CRC-32C (R596). -/
def dirWords : List Word :=
  [0x52445A47, 1, 1, 0, 0x20000, 0x10000, 0x30000, 0x10000, 0x40000, 0x10000, 0x50000, 0x10000, 0, 0, 0, 1861673171]
/-- The device runs from firmware slot 0 with that directory, which also stands in the flash window. -/
def pantryUp (d : Device) : Device :=
  { ((coresRun d).wr 0x20010 7).wrs 0x28000 dirWords with boot := { d.boot with dir := dirSlots (dirWords.flatMap wordBytesLE) } }
/-- Every operation record is RUNNING. -/
def recordsBusy (d : Device) : Device := (List.range 16).foldl (fun d k => d.wr (oprecBase k + 4) 0x1000) d

theorem witness_FlashCommandsRunStepByStepAndOwnersEnrol :
    (let s := on pantryUp
     let d := s.dev
     ready s 6 && d.rd 0x20084 == 0 && d.flashLen == 32768 && !d.bit 0x2008C 0 && d.get 0x20010 0 4 == 7 && d.slotActive 0 && !d.slotActive 3 &&
       decide (0 + d.flashLen ≤ d.slotCap 3) && d.opPick == some 0 && d.pantry.cmd.isNone && !d.winBusy) = true ∧
    (let s := on fun d => (pantryUp d).put 0x20048 0 8 28
     ready s 6 && !s.dev.dirInvalid && (on pantryUp).dev.dirInvalid) = true ∧
    (let s := on fun d => (pantryUp d).wr 0x20084 0x8100
     ready s 6 && decide (s.dev.slotCap 3 < 0x8100 + s.dev.flashLen) && (s.dev.rd 0x20084).toNat % 256 == 0) = true ∧
    (let s := on fun d => (pantryUp d).wr 0x20084 4
     ready s 6 && (s.dev.rd 0x20084).toNat % 256 != 0) = true ∧
    (let s := on fun d => (pantryUp d).wr 0x20010 5
     ready s 6 && s.dev.get 0x20010 0 4 != 7 && s.dev.get 0x20010 0 4 != 8 && s.dev.winBusy) = true ∧
    (let s := on fun d => recordsBusy (pantryUp d)
     ready s 6 && s.dev.opPick.isNone) = true ∧
    ([1, 2, 3, 4, 5].all (fun f =>
       let c : FlashCmd := { fop := f, target := if f = 5 then 4 else 3, op := 15, total := 2, done := 0, len := 4 }
       let e : FlashCmd := { c with done := 1 }
       let s := on fun d => { pantryUp d with pantry := { d.pantry with cmd := some c } }
       let t := on fun d => { pantryUp d with pantry := { d.pantry with cmd := some e } }
       liveB s && s.dev.pantry.cmd == some c && decide (c.done + 1 < c.total) && liveB t && t.dev.pantry.cmd == some e &&
         decide (e.total ≤ e.done + 1) && decide (0 < e.done))) = true ∧
    (let s := on fun d => { pantryUp d with boot := { d.boot with otp := [1, 0, 0, 0, 0, 0, 0, 0, 0, 0, 0, 0] } }
     ready s 6 && !s.dev.boot.otp.isEmpty) = true ∧
    (let s := on fun d => (pantryUp d).wr 0x200EC 1
     ready s 6 && s.dev.boot.otp.isEmpty && (s.dev.rds 0x200C0 12).any (· != 0) && (s.dev.rds 0x200C0 12).any (· != 0xFFFFFFFF) &&
       !s.dev.bit 0x2008C 0 && s.dev.pantry.enrolling.isNone && ((on pantryUp).dev.rds 0x200C0 12).all (· == 0)) = true ∧
    (let s := on fun d => { (pantryUp d).wr 0x200EC 1 with pantry := { d.pantry with enrolling := some [1] } }
     ready s 6 && s.dev.boot.otp.isEmpty && s.dev.pantry.enrolling == some [1]) = true := by decide +kernel

/-! Boot. No Lean value of the signature check or of the SHA-384 function is known (log entry 2), so the configuration images here carry the
digest the function gives, whatever it is, and need no signature: no owner key is enrolled (R599). That some firmware image carries the
vendor's signature no Lean term can show: where a clause needs one, the witness takes it as given. -/

/-- The first 64 header bytes of a configuration image: GENERATION 1, BODY_LEN 4, RECORD_COUNT 1, CHIP_TYPE 0x6440 (R598). -/
def cfgPre : List Byte :=
  [0x47, 0x5A, 0x48, 0x52, 2, 1, 0, 0, 1, 0, 0, 0, 4, 0, 0, 0, 1, 0, 0, 0, 0, 0, 0, 0, 0, 0, 0, 0, 0, 0, 0, 0, 0x40, 0x64, 0, 0, 0, 0, 0, 0,
   0, 0, 0, 0, 0, 0, 0, 0, 0, 0, 0, 0, 0, 0, 0, 0, 0, 0, 0, 0, 0, 0, 0, 0]
/-- Its body: the END record. -/
def cfgBody : List Byte := [0x0F, 0, 0, 0]
/-- The image with a digest. -/
def cfgWith (ws : List Word) : SlotObs := { hdr := cfgPre ++ bytesOf ws ++ List.replicate 400 0, body := cfgBody }
/-- The image with its own digest. -/
def cfgImage : SlotObs := cfgWith (sha12 (cfgPre ++ cfgBody))

theorem word_of_bytes (x : Word) : wd (bytesNat (wordBytes x)) = x := by
  apply BitVec.eq_of_toNat_eq
  simp only [wd, bytesNat, wordBytes, List.foldl, BitVec.toNat_ofNat]
  have := x.isLt
  omega

theorem words_of_bytes (l : List Word) : bytesWords (bytesOf l) = l := by
  induction l with
  | nil => rfl
  | cons a t ih =>
    show wd (bytesNat (wordBytes a)) :: bytesWords (bytesOf t) = a :: t
    rw [word_of_bytes, ih]

/-- Header fields of the image, whatever its digest. -/
structure CfgHeader (s : SlotObs) (ws : List Word) : Prop where
  ok : headerOk s = true
  digest : slotDigest s = bytesWords (bytesOf ws)
  pre : s.hdr.take 64 = cfgPre
  typ : leAt s.hdr 4 1 = 2
  serial : leAt s.hdr 24 8 = 0
  chip : leAt s.hdr 32 2 = 0x6440
  rev : leAt s.hdr 34 1 = 0
  len : slotLen s = 4
  body : s.body.take 4 = cfgBody
  notEmpty : slotEmpty s = false

set_option maxRecDepth 8000 in
theorem cfgWith_header (a b c d e f g h i j k l : Word) :
    CfgHeader (cfgWith [a, b, c, d, e, f, g, h, i, j, k, l]) [a, b, c, d, e, f, g, h, i, j, k, l] :=
  ⟨rfl, rfl, rfl, rfl, rfl, rfl, rfl, rfl, rfl, rfl⟩

/-- A device without an owner key whose configuration slots are large enough takes the image. -/
theorem cfgImage_ok {dev : Device} {slot : Nat} (h2 : 2 ≤ slot) (hotp : dev.boot.otp = []) (hcap : 516 ≤ dev.slotCap slot) :
    dev.slotOk slot cfgImage = true := by
  obtain ⟨a, b, c, d, e, f, g, h, i, j, k, l, hs⟩ : ∃ a b c d e f g h i j k l, sha12 (cfgPre ++ cfgBody) = [a, b, c, d, e, f, g, h, i, j, k, l] :=
    ⟨_, _, _, _, _, _, _, _, _, _, _, _, rfl⟩
  have x := cfgWith_header a b c d e f g h i j k l
  have hd := x.digest
  rw [words_of_bytes] at hd
  unfold cfgImage
  rw [hs]
  unfold Device.slotOk Device.slotCause slotSum
  rw [x.ok, hd, x.pre, x.typ, x.serial, x.chip, x.rev, x.len, x.body, hs, x.notEmpty, if_neg (by decide),
    if_neg (by rw [if_neg (by omega)]; decide), if_neg (by rw [if_neg (by omega)]; omega), if_neg (by decide), if_neg (by simp),
    if_pos ⟨h2, hotp⟩]
  rfl

/-- Its digest is the sum over it. -/
theorem cfgImage_sum : slotSum cfgImage = slotDigest cfgImage := by
  obtain ⟨a, b, c, d, e, f, g, h, i, j, k, l, hs⟩ : ∃ a b c d e f g h i j k l, sha12 (cfgPre ++ cfgBody) = [a, b, c, d, e, f, g, h, i, j, k, l] :=
    ⟨_, _, _, _, _, _, _, _, _, _, _, _, rfl⟩
  have x := cfgWith_header a b c d e f g h i j k l
  have hd := x.digest
  rw [words_of_bytes] at hd
  unfold cfgImage slotSum
  rw [hs, hd, x.pre, x.len, x.body, hs]

/-- The device in a phase of R581 with the directory above. -/
def bootAt (phase : Nat) (d : Device) : Device := (pantryUp d).put 0x20010 0 4 phase

theorem witness_BootFindsItsImagesAndStartsTheCores :
    (let s := on (bootAt 1)
     let dir := dirWords.flatMap wordBytesLE
     let old := (dirWords.set 2 0).flatMap wordBytesLE
     liveB s && s.dev.get 0x20010 0 4 == 1 && dirValid (2 ^ 25) dir && dirValid (2 ^ 28) dir && !dirValid (2 ^ 28) old &&
       !s.dev.bit 0x1C 2 && !s.dev.nvmBad 2500 && s.dev.nvmBad 2501 &&
       decide (dirGen dir ≤ dirGen dir) && decide (24 < 25) && decide (28 < 29)) = true ∧
    (let s := on (bootAt 2)
     Live s ∧ s.dev.get 0x20010 0 4 = 2 ∧ s.dev.slotOk 0 {} = false ∧ s.dev.slotOk 1 {} = false ∧
       slotEmpty { hdr := List.replicate 512 0xFF } = true) ∧
    (let s := on (bootAt 3)
     liveB s && s.dev.get 0x20010 0 4 == 3 && s.dev.pw.held.isEmpty) = true ∧
    (let s := on (bootAt 4)
     Live s ∧ s.dev.get 0x20010 0 4 = 4 ∧ s.dev.slotOk 2 {} = false ∧ s.dev.slotOk 3 {} = false ∧ s.dev.slotOk 2 cfgImage = true ∧
       s.dev.slotOk 3 cfgImage = true ∧ slotEmpty { hdr := List.replicate 512 0xFF } = true ∧ s.dev.opPick = some 0 ∧
       ({ op := some 0, slot := 3, count := 1, body := [0xF] } : Load).malformed = false) ∧
    (let l : Load := { op := some 0, slot := 2, count := 1 }
     let s := fun (tried : List Nat) (o : SlotObs) =>
       on (fun d => { bootAt 6 d with boot := { (bootAt 6 d).boot with load := some l, tried := tried, cfgB := o } })
     (∀ tried o, Live (s tried o) ∧ (s tried o).dev.get 0x20010 0 4 = 6 ∧ (s tried o).dev.boot.load = some l ∧
       (s tried o).dev.boot.tried = tried ∧ (s tried o).dev.boot.cfgB = o) ∧ 5 - l.slot ∈ [2, 3] ∧ 5 - l.slot ∉ [2] ∧
       slotEmpty {} = false ∧ (s [2] {}).dev.slotOk 3 {} = false ∧ (s [2] cfgImage).dev.slotOk 3 cfgImage = true ∧
       ({ op := some 0, slot := 3, count := 1, fallback := true, body := [0xF] } : Load).malformed = false) ∧
    (leAt cfgImage.hdr 16 4 = 1 ∧ slotLen cfgImage = 4 ∧ slotEmpty cfgImage = false ∧
      (bytesWords (cfgImage.body.take 4)).map (fun w => wd (bytesNat (wordBytesLE w))) = [0xF]) ∧
    (liveB State.reset && State.reset.dev.get 0x20010 0 4 == 0 && State.reset.dev.boot.load.isNone) = true ∧
    (let s := on (fun d => recordsBusy (bootAt 4 d))
     Live s ∧ s.dev.get 0x20010 0 4 = 4 ∧ s.dev.slotOk 2 cfgImage = true ∧ s.dev.opPick = none) := by
  refine ⟨by decide +kernel, ⟨rfl, by decide, by decide, by decide, by decide⟩, by decide, ⟨rfl, by decide, by decide, by decide, ?_, ?_, by decide, by decide, by decide⟩,
    ⟨fun tried o => ⟨rfl, rfl, rfl, rfl, rfl⟩, by decide, by decide, by decide, by decide, ?_, by decide⟩, ⟨rfl, rfl, rfl, by decide⟩, by decide,
    ⟨rfl, by decide +kernel, ?_, by decide +kernel⟩⟩
  · exact cfgImage_ok (by decide) rfl (by decide)
  · exact cfgImage_ok (by decide) rfl (by decide)
  · exact cfgImage_ok (by decide) rfl (by decide)
  · exact cfgImage_ok (by decide) rfl (by decide +kernel)

/-- Given a firmware image that verifies, the premises of the clauses about it are met together: it is the only image, or the newer of two. -/
theorem witness_FirmwareImage (x : SlotObs) (h : (on (bootAt 2)).dev.slotOk 0 x = true) :
    Live (on (bootAt 2)) ∧ (on (bootAt 2)).dev.get 0x20010 0 4 = 2 ∧ (on (bootAt 2)).dev.slotOk 0 x = true ∧
      slotEmpty { hdr := List.replicate 512 0xFF } = true :=
  ⟨rfl, by decide, h, by decide⟩

/-! Configuration records. -/

/-- The header word of a record. -/
def recHead (typ n : Nat) : Word := BitVec.ofNat 32 (typ + 2 ^ 8 * n)
/-- The END record. -/
def endRec : List Word := [recHead 15 0]
/-- A load in front of a body, its last record but one in hand. -/
def loadOf (body : List Word) (wait : Option LoadWait) : Load := { op := some 15, slot := 2, count := 2, body := body, wait := wait }
/-- The device applies that load. -/
def loadAt (l : Load) (d : Device) : Device := { (coresRun d).put 0x20010 0 4 5 with boot := { d.boot with load := some l } }
/-- The Hearth's domain has stopped. -/
def hearthStopped (d : Device) : Device := { d with bus := { d.bus with stopped := [.hearth] } }
/-- The premises of a record of type `typ` with payload `pl` whose accesses end with `st`: what `run` does leaves the load in front. -/
def recMeets (typ : Nat) (pl : List Word) (st : Status) (run : Device → Status × Device) : Bool :=
  let l := loadOf (recHead typ pl.length :: pl ++ endRec) none
  let s := on (loadAt l)
  liveB s && s.dev.nextRec typ == some (l, pl) && (run s.dev).1 == st && (run s.dev).2.loading == some l && !(afterRecord l).malformed

theorem witness_ConfigurationRecordsAreAppliedOrFailTheLoad :
    (let s := on (loadAt (loadOf (recHead 3 0 :: endRec) (some (.delay 9))))
     liveB s && [1, 2, 3, 4, 5, 7, 8, 9, 15].all (fun t => (s.dev.nextRec t).isNone)) = true ∧
    (recMeets 1 [0x34, 0xE10] .ok (fun d => d.loadWord 0x34 0xE10) && recMeets 1 [0x34, 0xE11] .range (fun d => d.loadWord 0x34 0xE11)) = true ∧
    (let l : Load := { loadOf [recHead 1 2, 0x34, 5] none with count := 3 }
     let s := on (loadAt l)
     liveB s && s.dev.nextRec 1 == some (l, [0x34, 5]) && (s.dev.loadWord 0x34 5).1 == .ok && (s.dev.loadWord 0x34 5).2.loading == some l &&
       (afterRecord l).malformed) = true ∧
    ((let f := fun (v : Word) (d : Device) => let x := (d.drainFor 0x34).rmwNow 3 0x34 0xFFF v false; (x.1, x.2.2)
      recMeets 2 [0x34, 0xFFF, 5] .ok (f 5) && recMeets 2 [0x34, 0xFFF, 0] .range (f 0))) = true ∧
    ((let f := fun (ws : List Word) (d : Device) => let x := d.writeWords 3 0xC0030 0 ws; (x.1, x.2.2.2)
      (domainAt 0xC0030).isNone && recMeets 3 [0xC0030, 999999999, 1, 0xFFFF, 0] .ok (f [999999999, 1, 0xFFFF, 0]) &&
        recMeets 3 [0xC0030, 1000000000, 1, 0xFFFF, 0] .range (f [1000000000, 1, 0xFFFF, 0]))) = true ∧
    ((let f := fun (ws : List Word) (d : Device) => let x := d.loadWords 0x50020 0 ws; (x.1, x.2.2)
      (domainAt 0x50020).isSome && recMeets 3 [0x50020, 10, 0x3C05A0, 0xFBB0, 0x320A] .ok (f [10, 0x3C05A0, 0xFBB0, 0x320A]) &&
        recMeets 3 [0x50020, 9, 0x3C05A0, 0xFBB0, 0x320A] .range (f [9, 0x3C05A0, 0xFBB0, 0x320A]))) = true ∧
    ((let f := fun (v : Word) (d : Device) => let x := d.loadWords 0x70 0 (List.replicate 2 v); (x.1, x.2.2)
      recMeets 4 [0x70, 2, 0x33FFF] .ok (f 0x33FFF) && recMeets 4 [0x70, 2, 0x34000] .range (f 0x34000))) = true ∧
    ((let f := fun (v : Word) (d : Device) => let x := d.loadWords 0x34 0 [v]; (x.1, x.2.2)
      recMeets 5 [0x34, 1] .ok (f 1) && recMeets 5 [0x34, 0] .range (f 0))) = true ∧
    ((let f := fun (d : Device) => let x := d.readWord 3 0x34; (if x.2.1 &&& 0xFFF = 0xA then x.1 else .busy, x.2.2)
      recMeets 6 [0x34, 0xFFF, 0xA, 10000000] .ok f && recMeets 6 [0x34, 0xFFF, 0xB, 1] .ok f)) = true ∧
    (let l := loadOf (recHead 6 4 :: [0x50020, 0, 1, 1] ++ endRec) none
     let s := on (fun d => hearthStopped (loadAt l d))
     liveB s && s.dev.nextRec 6 == some (l, [0x50020, 0, 1, 1]) && (s.dev.readWord 3 0x50020).1 != .ok &&
       (s.dev.readWord 3 0x50020).2.2.loading == some l) = true ∧
    ([LoadWait.poll 0x34 0xFFF 5 9, .delay 9, .commit 9].all (fun w =>
       let l := loadOf (recHead 7 1 :: 1 :: endRec) (some w)
       let s := on (loadAt l)
       liveB s && s.dev.loading == some l && l.wait == some w && (s.dev.readWord 3 0x34).2.2.loading == some l &&
         !(afterRecord l).malformed)) = true ∧
    (recMeets 7 [10000000] .ok (fun d => (.ok, d)) && recMeets 8 [] .ok (fun d => d.loadWord 0x30 1) && recMeets 9 [0xD0000] .ok (fun d => (.ok, d))) = true ∧
    (let l := loadOf (recHead 8 0 :: endRec) none
     let s := on (fun d => recordsBusy (loadAt l d))
     liveB s && s.dev.nextRec 8 == some (l, []) && (s.dev.loadWord 0x30 1).1 != .ok && (s.dev.loadWord 0x30 1).2.loading == some l) = true ∧
    (liveB State.reset && State.reset.dev.boot.load.isNone) = true ∧
    ([(1, [0x4006C, 5]), (2, [0x4006C, 0xFF, 5]), (3, [0x40060, 1, 2, 3, 4]), (5, [0x4006C, 7]), (4, [0x4006C, 1, 9]), (6, [0x4006C, 0, 0, 1]),
        (6, [0x4006C, 0xF, 1, 1])].all (fun x =>
       recMeets x.1 x.2 .ok (fun d => (.ok, d)) && ((on coresRun).dev.staged 3).isNone && (on coresRun).dev.rd 0x4006C == 0 &&
         decide (0x40040 + 4 * 11 = 0x4006C) && decide (0x40040 + 4 * 8 = 0x40060) && decide (8 + 4 ≤ 12))) = true ∧
    (let l := loadOf (recHead 8 0 :: endRec) none
     let s := on (loadAt l)
     liveB s && s.dev.nextRec 8 == some (l, []) && (s.dev.staged 3).isNone && !s.dev.bit 0x50 2 && s.dev.opPick == some 0) = true ∧
    (let l : Load := { loadOf endRec none with count := 1 }
     let s := on (loadAt l)
     liveB s && s.dev.nextRec 15 == some (l, []) && l.locks.isEmpty && !l.fallback && l.op == some 15 && s.dev.pw.op.isNone) = true ∧
    ([true, false].all (fun fb =>
       let l : Load := { loadOf endRec none with count := 1, locks := [0xD0000], fallback := fb }
       let s := on (loadAt l)
       let x := s.dev.applyLocks l.locks.eraseDups
       liveB s && s.dev.nextRec 15 == some (l, []) && x.1 == .ok && x.2.loading == some l && x.2.pw.op.isNone && !x.2.fcLive 40 &&
         !x.2.fcLive 42)) = true ∧
    (let l : Load := { loadOf endRec none with count := 1, locks := [0x50014] }
     let s := on (loadAt l)
     let x := s.dev.applyLocks l.locks.eraseDups
     liveB s && s.dev.nextRec 15 == some (l, []) && x.1 != .ok && x.2.loading == some l) = true := by
  refine ⟨?_, ?_, ?_, ?_, ?_, ?_, ?_, ?_, ?_, ?_, ?_, ?_, ?_, ?_, ?_, ?_, ?_, ?_, ?_⟩ <;> decide +kernel

/-- The image of the load in hand, read twice alike, and one that is not: the premises of END's clauses. -/
theorem witness_ApplyPass :
    let l : Load := { loadOf endRec none with count := 1 }
    let s := fun (o : SlotObs) => on (fun d => { loadAt l d with boot := { (loadAt l d).boot with cfgA := o } })
    (∀ o, Live (s o) ∧ (s o).dev.nextRec 15 = some (l, []) ∧ (s o).dev.loadImage l = o) ∧ slotSum cfgImage = slotDigest cfgImage ∧
      slotSum cfgImage ≠ slotDigest {} :=
  ⟨fun _ => ⟨rfl, rfl, rfl⟩, cfgImage_sum, by decide⟩
/-! The Porch. -/

/-- The link in LINK_STATE `st`. -/
def linkAt (st : Nat) (x : PorchSt) (d : Device) : Device := { (coresRun d).put 0x30014 0 2 st with porch := x }
/-- A frame in flight, sent again `n` times. -/
def flight (q n : Nat) : Unacked := { seq := q, frame := { ttype := 1 }, again := n }
/-- `PorchFresh`, as a computation. -/
def porchFresh (s : State) (h : PHead) : Bool :=
  liveB s && s.dev.porchUp && h.seq == s.dev.porch.rxNext && !(s.dev.porchAck h.ack).porch.tags.contains h.tag && decide (h.tag < 64) &&
    s.dev.porch.rmw.isNone

theorem porchFresh_of {s : State} {h : PHead} (e : porchFresh s h = true) : PorchFresh s h := by
  simp only [porchFresh, Bool.and_eq_true, beq_iff_eq, Bool.not_eq_true', Option.isNone_iff_eq_none, List.contains_eq_mem,
    decide_eq_false_iff_not, decide_eq_true_eq] at e
  exact ⟨live_of e.1.1.1.1.1, e.1.1.1.1.2, e.1.1.1.2, e.1.1.2, e.1.2, e.2⟩

theorem witness_TheEnienLinkComesUpRepeatsAndGoesDown :
    ([0, 1, 2, 3].all (fun st =>
       [2, 3].all (fun k =>
         let s := on (linkAt st { markers := k })
         ready s 6 && s.dev.get 0x30014 0 2 == st && s.dev.porch.markers == k && s.dev.porch.unacked.isEmpty && s.dev.porch.summary.isNone &&
           s.dev.follow.isEmpty))) = true ∧
    (let s := on fun d => { linkAt 2 {} d with boot := { d.boot with held := true, warm := true } }
     s.dev.boot.held && s.dev.boot.warm && s.dev.get 0x30014 0 2 == 2) = true ∧
    (let s := on fun d => ((linkAt 1 { markers := 3 } d).wr 0x54 1).wr 0x58 1 |>.wr 0x74 1
     s.dev.get 0x30014 0 2 == 1 && s.dev.porch.markers == 3 && s.dev.irqSummary &&& s.dev.rd 0x74 != 0) = true ∧
    (let s := on (linkAt 2 { unacked := [flight 4094 2, flight 4095 2] })
     s.dev.get 0x30014 0 2 == 2 && s.dev.porch.unacked == [flight 4094 2] ++ flight 4095 2 :: [] && s.dev.porch.queue.isEmpty &&
       s.dev.porch.unacked.all (fun u => decide (u.again < 3)) && s.dev.porch.unacked.all (fun u => u.seq != 0)) = true ∧
    (let s := on (linkAt 2 { unacked := [flight 4095 3] })
     s.dev.get 0x30014 0 2 == 2 && s.dev.porch.unacked.any (fun u => decide (3 ≤ u.again))) = true ∧
    (let s := on (linkAt 2 { summary := some (true, [0, 0, 0, 0]) })
     s.dev.get 0x30014 0 2 == 2 && s.dev.porch.summary.isSome) = true ∧
    (let f : FollowUp := ⟨4, 1023, 1, 1, [0, 0, 0, 0]⟩
     let s := on fun d => { (linkAt 2 {} d).setBit 0x30010 8 true with follow := [f] }
     s.dev.follow == [f] && s.dev.get 0x30014 0 2 == 2 && s.dev.bit 0x30010 8 && !s.dev.cores.mc0Away && s.dev.porch.summary.isNone &&
       !(on (fun d => { linkAt 2 {} d with follow := [f] })).dev.bit 0x30010 8) = true ∧
    (let s := on (linkAt 2 {})
     let v := s.dev.rd 0x30010 &&& 0x11F
     ready s 6 && v &&& ~~~0x11F == 0 && fld v 0 5 == s.dev.get 0x30010 0 5 && (v ^^^ 0x1F) &&& ~~~0x11F == 0 &&
       fld (v ^^^ 0x1F) 0 5 != s.dev.get 0x30010 0 5) = true := by decide

theorem witness_FramesOfBothKinds : frameValid [] = false ∧ frameValid (frameBytes 1 4095 7 { ttype := 0x10, resp := false }) = true := by
  decide +kernel

theorem witness_PorchTransactionsAreTakenOnceAndAnswered :
    (∃ c, HostRequest c { seq := 0 } 0x20 ∧ c = .atticRead { seq := 0 } 0 64) ∧
    (let up := on (linkAt 2 { rxNext := 16, tags := [63] })
     !State.reset.dev.porchUp && liveB State.reset && up.dev.porchUp && (16 + 4096 - 0 % 4096) % 4096 == 16 &&
       decide (16 < (16 + 4096 - 4095 % 4096) % 4096) && up.dev.porch.tags.contains 63 && porchFresh up { seq := 16, tag := 62 } &&
       (up.dev.staged 0).isNone && up.dev.opPick == some 0) = true ∧
    (let warmUp := on fun d => { linkAt 2 {} d with boot := { d.boot with held := true, warm := true } }
     warmUp.dev.boot.held && warmUp.dev.boot.warm && warmUp.dev.porchUp && warmUp.dev.porch.tags.isEmpty) = true ∧
    (let up := on (linkAt 2 { nak := true })
     up.dev.porchUp && up.dev.porch.nak) = true ∧
    (let q := Safety.taken (on (linkAt 2 {})).dev { seq := 0 }
     let rd := q.readWords 0 0x100 [] 0 64
     let wr := q.writeWords 0 0x70 0 [0x33FFF, 0x33FFF]
     let by1 := q.writeBytes false 0 0x70 1 0x33FFF
     let rm := q.rmwNow 0 0x70 0xFFFF 1 false
     let bk := (q.opOpenAt 0 3 0 1).bulkPairs 0 [0x70, 1]
     porchFresh (on (linkAt 2 {})) { seq := 0 } && rd.2.2.2.porch == q.porch && rd.2.2.2.porchUp && wr.2.2.2.porch == q.porch &&
       wr.2.2.2.porchUp && by1.2.porch == q.porch && by1.2.porchUp && (domainAt 0x70).isNone && rm.2.2.porch == q.porch && rm.2.2.porchUp &&
       bk.2.2.porch == q.porch && bk.2.2.porchUp && locOf 0x70 == some ⟨.global, 0, 0x70⟩ && rowMeets 0x70 (fun r => !r.wide) &&
       (domainOf ⟨.global, 0, 0x70⟩).isNone) = true ∧
    (let s := on fun d => (linkAt 2 {} d).wr 0x20010 7
     porchFresh s { seq := 0 } && (s.dev.staged 0).isNone && !s.dev.winBusy && s.dev.opPick == some 0 && decide (8191 < 8192)) = true ∧
    (let a : AttReq := { src := .mate 0, nonceLen := 0, nonce := [], op := some 15 }
     let s := on (linkAt 2 { atts := [a, a] })
     porchFresh s { seq := 0 } && !s.dev.cores.mc0Away && decide (s.dev.porch.atts.length < 3) && s.dev.porch.atts.head? == some a) = true ∧
    (let s := on fun d => { linkAt 2 { reads := [(63, 0, 1, true)] } d with attic := { d.attic with cmds := List.replicate 56 { kind := .log } } }
     s.dev.porch.reads.length == 1 && !s.dev.attic.reading && decide (56 ≤ s.dev.attic.cmds.length)) = true ∧
    (let s := on (linkAt 2 {})
     domainAt 0x50024 == some .hearth && (s.dev.queueOf .hearth).isEmpty && (s.dev.staged 0).isNone) = true ∧
    (let s := on (fun d => recordsBusy (linkAt 2 {} d))
     porchFresh s { seq := 0 } && s.dev.opPick.isNone && !s.dev.cores.mc0Away && s.dev.porch.atts.isEmpty) = true ∧
    (let s := on fun d => ((linkAt 2 {} d).put 0x80018 0 3 2).wr 0x8004C 2097152
     porchFresh s { seq := 0 } && !s.dev.cores.mc0Away && s.dev.porch.reads.isEmpty && (s.dev.readCause 2097088 64).isNone) = true ∧
    (let s := on (linkAt 2 { reads := List.replicate 5 (0, 0, 1, true), atts := List.replicate 3 { src := .porch 63, nonceLen := 32, nonce := [] } })
     porchFresh s { seq := 0 } && !s.dev.cores.mc0Away && decide (5 ≤ s.dev.porch.reads.length) && decide (3 ≤ s.dev.porch.atts.length)) = true ∧
    (let s := on (linkAt 2 { rmw := some 7 })
     s.dev.porch.rmw == some 7 && porchFresh (on (linkAt 2 {})) { seq := 0 }) = true ∧
    (let s := on fun d => (linkAt 2 {} d).wr (l63 0x90) 2
     let rec1 : List Byte := [1, 0, 0, 0, 0, 0, 0, 0, 16]
     liveB s && s.dev.porchUp && s.dev.bit (l63 0x90) 1 && decide ((s.dev.lane 63).relayTx.length < 4) &&
       (rec1.getD 3 0).toNat == (s.dev.ohSelected 63).length && (rec1.getD 8 0).toNat == 16 && rec1.getD 0 0 == 1 &&
       !(on (linkAt 2 {})).dev.bit (l63 0x90) 1) = true ∧
    ([true, false].all (fun go =>
       let s := on (linkAt 2 { reads := [(63, 0, 1, go)], atts := [{ src := if go then .porch 63 else .mate 1, nonceLen := 32, nonce := [], op := some 15 }] })
       s.dev.porch.reads == [(63, 0, 1, go)] && !s.dev.cores.mc0Away && decide (s.dev.attic.cmds.length < 56) && s.dev.porchUp && s.dev.porch.atts.length == 1)) = true ∧
    (State.reset.dev.porch.reads.isEmpty && State.reset.dev.porch.atts.isEmpty) = true := by
  refine ⟨⟨_, .inr (.inr (.inr (.inr (.inl ⟨0, 64, rfl, rfl⟩)))), rfl⟩, ?_, ?_, ?_, ?_, ?_, ?_, ?_, ?_, ?_, ?_, ?_, ?_, ?_, ?_, ?_⟩ <;> decide +kernel

/-! Measurement, the swap, the mate's report, the I2C target, and the owner key. -/

/-- RUNNING, both cores running, the swap at `STEP` n. -/
def swapAt (n : Nat) (w : Option Swap) (d : Device) : Device :=
  { ((coresRun d).put 0x20010 0 4 7).put 0x40084 0 3 n with meas := { d.meas with swap := w } }
/-- The Party Wall up, MATE_ATTEST_STATUS `k`. -/
def mateAt (k : Nat) (d : Device) : Device := { (coresRun d).put 0x40094 0 2 k with pw := { d.pw with up := true } }
/-- The I2C pointer at `a`. -/
def ptrAt (a : Nat) (b : Bool) (d : Device) : Device := { d with porch := { d.porch with ptr := a, ptrSet := b } }
/-- An image whose header is free. -/
def blank : SlotObs := { hdr := List.replicate 512 0 }

theorem witness_MeasurementsAttestationsSwapsAndTheI2cTargetRun :
    ([true, false].all (fun b =>
       [0, 255, 256].all (fun n =>
         let s := on fun d => { d.put 0x40010 0 9 n with meas := { d.meas with busy := b } }
         ready s 6 && s.dev.meas.busy == b && s.dev.get 0x40010 0 9 == n))) = true ∧
    (let a := on (swapAt 1 (some { op := 15 }))
     let b := on (swapAt 0 none)
     let c := on fun d => (swapAt 0 none d).setBit 0x2008C 0 true
     let e := on fun d => { swapAt 0 none d with pantry := { d.pantry with empty := 15 } }
     let f := on fun d => recordsBusy (swapAt 0 none d)
     ready a 6 && a.dev.meas.swap.isSome && ready (on coresRun) 6 && (on coresRun).dev.meas.swap.isNone && (on coresRun).dev.get 0x20010 0 4 != 7 &&
       ready c 6 && c.dev.meas.swap.isNone && c.dev.get 0x20010 0 4 == 7 && c.dev.bit 0x2008C 0 &&
       ready e 6 && e.dev.get 0x20010 0 4 == 7 && !e.dev.bit 0x2008C 0 && e.dev.knownEmpty (1 - e.dev.fwSlot) &&
       ready f 6 && f.dev.get 0x20010 0 4 == 7 && !f.dev.bit 0x2008C 0 && !f.dev.knownEmpty (1 - f.dev.fwSlot) && f.dev.opPick.isNone &&
       ready b 6 && b.dev.get 0x20010 0 4 == 7 && !b.dev.bit 0x2008C 0 && !b.dev.knownEmpty (1 - b.dev.fwSlot) && b.dev.opPick == some 0) = true ∧
    ([1, 2, 3, 4].all (fun n =>
       [none, some (2, 1), some (3, 0)].all (fun f =>
         [none, some 0].all (fun t =>
           let w : Swap := { op := 15, began := t, failed := f, digest := List.replicate 12 7 }
           let s := on (swapAt n (some w))
           liveB s && s.dev.meas.swap == some w && s.dev.get 0x40084 0 3 == n && s.dev.pw.held.isEmpty && (s.dev.rd 0xC001C).toNat % 16 == 0)))) = true ∧
    (let s := on (swapAt 1 (some { op := 15 }))
     liveB s && s.dev.get 0x40084 0 3 == 1 && !s.dev.slotOk (1 - s.dev.fwSlot) { hdr := List.replicate 512 0xFF } &&
       decide (slotGen blank ≤ (s.dev.rd 0x20020).toNat) && liveB State.reset && State.reset.dev.meas.swap.isNone) = true ∧
    (let s := on (mateAt 2)
     let w := on (mateAt 1)
     let a := on fun d => { mateAt 0 d with cores := { mc0Away := true, mc1Away := false } }
     ready (on coresRun) 6 && !(on coresRun).dev.pw.up && ready s 6 && s.dev.pw.up && s.dev.mateState != 1 && !s.dev.cores.mc0Away &&
       ready w 6 && w.dev.pw.up && w.dev.mateState == 1 && ready a 6 && ready a 0 && a.dev.pw.up && a.dev.mateState != 1 && a.dev.cores.mc0Away) = true ∧
    ([0x20, 0x54, 0xA0, 0x1001C, 0x10014].all i2cWritable && !i2cWritable 0x70 && (State.reset.dev.staged 6).isNone &&
       [0x1FFFC, 0x1FFFE, 0x20000, 0xFFFFFFFC].all (fun a =>
         [true, false].all (fun b =>
           let s := on (ptrAt a b)
           liveB s && s.dev.porch.ptr == a && s.dev.porch.ptrSet == b)) &&
       locOf 0x8C == some ⟨.global, 0, 0x8C⟩ && rowMeets 0x8C (fun r => !r.wide) &&
       liveB (on (ptrAt 0x8C true)) && ((on (ptrAt 0x8C true)).dev.staged 6).isNone && !State.reset.dev.fcLive 458) = true := by
  refine ⟨?_, ?_, ?_, ?_, ?_, ?_⟩ <;> decide +kernel

/-- Given a firmware image that verifies in the other slot and is newer, the premises of PRECHECK's first clause are met together. -/
theorem witness_NewerImage (x : SlotObs) (h : (on (swapAt 1 (some { op := 15 }))).dev.slotOk 1 x = true) (g : 0 < slotGen x) :
    let s := on (swapAt 1 (some { op := 15 }))
    Live s ∧ s.dev.get 0x40084 0 3 = 1 ∧ s.dev.slotOk (1 - s.dev.fwSlot) x = true ∧ (s.dev.rd 0x20020).toNat < slotGen x :=
  ⟨rfl, by decide +kernel, h, g⟩

/-- An enrolled digest and no programming beside it: a step on an idle block is met, and one of a command. -/
theorem witness_AnEnrolledOwnerKeyNeverChanges :
    let s : State := { (on fun d => { d with boot := { d.boot with otp := [1, 2, 3] } }) with pending := [.hostExtend 6] }
    EnrolledOnce s ∧ s.dev.boot.otp ≠ [] ∧ (∃ t, step s = .next t) ∧
      EnrolledOnce State.reset ∧ ∃ t, step State.reset = .next t :=
  ⟨.inr rfl, by decide, ⟨_, rfl⟩, .inl rfl, ⟨_, rfl⟩⟩

/-- A swap whose kept digest is that of the image read, and one whose is not: the premises of LOAD's clauses. -/
theorem witness_LoadReads :
    let s := fun (ws : List Word) => on (swapAt 3 (some { op := 15, digest := ws }))
    (∀ ws, Live (s ws) ∧ (s ws).dev.meas.swap = some { op := 15, digest := ws } ∧ (s ws).dev.get 0x40084 0 3 = 3) ∧ slotSum blank ≠ [] :=
  ⟨fun _ => ⟨rfl, rfl, rfl⟩, by decide⟩
/-! What WellFormed refuses: an ill-formed term for each check, and a well-formed one at the edge of it. -/

theorem smoke_masters_addresses_and_fields :
    [Instr.registerWrite 7 0x70 15 0, .registerWrite 0 0x100000000 15 0, .registerWrite 0 0x70 16 0, .wideSnapshotRead 7 0xC0030 true,
     .wideStageWrite 0 0xC0030 3 0, .wideApplyWrite 0 0x100000000 0, .blockLockWrite 0 0x10004 1, .blockLockWrite 7 0x10000 1, .cfgCommit 7,
     .cfgCrcPassEnd [(0x100002, 0)], .accCntClr 7, .warmResetCmd 7, .postedWriteTakesEffect (.laneRx 64), .postedWriteLost (.laneRx 64),
     .crossDomainRmwAnswer (.laneRx 64) false, .crossDomainRmwTimeout (.laneRx 64)].all (fun c => !c.wf) ∧
    [Instr.registerWrite 6 0xFFFFFFFF 15 0, .wideSnapshotRead 6 0xC0030 true, .wideStageWrite 6 0xC0030 2 0, .wideApplyWrite 6 0xC0030 0,
     .blockLockWrite 6 0x10000 1, .cfgCommit 6, .cfgCrcPassEnd [(0x100004, 0)], .postedWriteTakesEffect (.laneRx 63)].all (·.wf) := by decide +kernel

theorem smoke_lanes_and_paths :
    [Instr.laneEnable 0 64 1, .laneEnable 7 0 1, .laneDisable 0 64 0, .laneDrainDone 64, .laneTxStart 64, .txIdleAtFrameEnd 64, .txResume 64,
     .adaptRestart 0 64, .adaptDone 64, .marginStart 0 64, .marginAbort 0 64, .marginPointDone 64 0, .losDeclare 64, .losClear 64,
     .freqOorDeclare 64 0, .freqOorClear 64 0, .sdhFrameEnd 64 [] 0 [], .sdhFrameEnd 0 [] 0 [{ ctx := 274432 }], .lofDeclare 64 true,
     .lofClear 64 false, .otuFrameEnd 64 [], .otuLomDeclare 64, .otuLomClear 64, .laneTxFrame 64, .ohRxRecordBuild 64, .ohTxPush 0 64,
     .ohCntClr 0 64].all (fun c => !c.wf) ∧
    [Instr.hoEnable 0 12288 1, .hoRxStart 12288, .hoTxStart 12288, .hoDisable 0 12288 0, .hoDrainDone 12288, .hoLomDeclare 12288,
     .hoLomClear 12288, .hoRegenFrame 12288 0, .tcEnable 0 262144 1, .tcRxStart 262144, .tcTxStart 262144, .tcDisable 0 262144 0,
     .tcDrainDone 262144, .tcEventPop 0 16, .tcRegenPeriod 262144 0, .clientConfigWrite 0 262144 0, .clientFrameEnd 262656,
     .e1Crc4CandidateTimeout 262656 0, .e1Crc4AutoTimeout 262656, .clientLofDeclare 262656, .clientLofClear 262656, .retimeLeak 262144,
     .hoClientWrite 0 16 0 0, .hoClientWrite 0 0 32 0, .clientSel 0 16 0].all (fun c => !c.wf) ∧
    [Instr.laneEnable 6 63 1, .sdhFrameEnd 63 [0xF6] 0 [{ ctx := 274431 }], .otuFrameEnd 63 [0xF6], .hoEnable 6 12287 1, .tcEnable 6 262143 1, .clientFrameEnd 262655,
     .hoClientWrite 6 15 31 0].all (·.wf) := by decide +kernel

theorem smoke_switch_protection_and_cellar :
    [Instr.pageEntryWrite 0 2 0 0, .pageEntryWrite 0 0 274432 0, .hallSwitchGo 7, .hallSwitchCancel 7, .systemFrameBoundary [274432] [], .systemFrameBoundary [] [274432], .preparePassEnd [274432],
     .slicePreparePassEnd 16 [], .hallCntClr 7, .sfsdWindowEnd (.ms 64) true, .sfsdWindowEnd (.sm 64) true, .sfsdWindowEnd (.ho 12288) true,
     .sfsdWindowEnd (.tc 262144) true, .holdoffExpiry true 32, .holdoffExpiry false 137216, .wtrExpiry true 32, .selectorChoiceApply true 32,
     .protWordWrite 0 274432 0, .selEnable 0 137216 0, .selDisable 0 137216 0, .selCfgChange 0 137216 0, .landClear 0 true 32,
     .lockout 0 true 32, .forcedP 0 true 32, .forcedW 0 true 32, .manualP 0 true 32, .manualW 0 true 32, .exercise 0 true 32, .exerTimeout 32,
     .mspEnable 0 32 0, .mspDisable 0 32 0, .fopDeclare 32 0, .fopClear 32, .landingGroupGo 7 0, .selEventPop 7, .landingCntClr 7].all (fun c => !c.wf) ∧
    [Instr.cellarTrainingDone [12], .cellarRetrain 7, .cellarRecal 12 true, .pairSet 7 0, .pairReservationApply 137216, .pairSel 7 0,
     .pairRetryDue 137216, .rehomeChangeover 137216 0, .ringEnable 0 256 1, .ringDisable 0 256 0, .ringPostExpiry 256, .ringFreeze 0 256,
     .ringExport 0 256, .ringRearm 0 256, .captureExportEnd 256 true 0 [], .captureExportEnd 255 true 0 [(0, 12)], .alignSearchSlot (some 12), .cellarCntClr 7, .tcaPop 7, .viewSel 7 0 [], .viewSel 0 0 [(4, 0)], .binUpdate [(0, true, 12)], .pmSecondBoundary [(0, 12)], .rawSel 7 0, .cntPreset 7 0,
     .atticEnable 7 0, .atticDisable 7 0, .adopt 7, .smartNow 7, .smartPoll [0, 0, 0], .atticCntClr 7].all (fun c => !c.wf) ∧
    [Instr.pageEntryWrite 6 1 274431 0, .holdoffExpiry true 31, .holdoffExpiry false 137215, .lockout 6 false 32, .cellarTrainingDone [11],
     .ringEnable 6 255 1, .smartPoll [0, 0, 0, 0], .smartPoll [], .systemFrameBoundary [274431] [274431]].all (·.wf) := by decide +kernel

theorem smoke_clocks_wall_and_collector :
    [Instr.refEnable 0 8 1, .refDisable 0 8 0, .refWtrExpiry 8, .hearthAuto 7 0, .hearthManual 7 0, .forcedHoldover 7 0, .freeRun 7 0,
     .phaseStep 7 0, .hearthCntClr 7, .filterOutput 8 [], .filterRestart 0 8, .filterFade 0 3, .ppsEdge 2 0 0,
     .todMessage 0 (List.replicate 15 0) true 0, .todMessage 2 (List.replicate 16 0) true 0, .domainLost 2, .domainEnable 0 2 1,
     .domainDisable 0 2 0, .todDomainSelect 7 0, .todSet 7 0, .tpArm 0 4 true 0, .tpPulseDue 4, .tpPulseEnd 4, .todCntClr 7].all (fun c => !c.wf) ∧
    [Instr.managementCycleBoundary 0 65536,
     .leaseReceived 4294967296 0 false 0 true, .leaseReceived 0 0 false 268435456 true, .mirrorDeltaReceived 4294967296 0 true [],
     .pmSnapReceived 4294967296 true 0 [], .bulkDataReceived 4294967296 0 0 [] [], .digestReceived 0 65536 (List.replicate 16 0),
     .digestReceived 0 0 [], .attestReqReceived 0 0 (List.replicate 31 0), .attestRspReceived 0 0 (List.replicate 511 0), .handover 7, .resync 7,
     .pwCntClr 7].all (fun c => !c.wf) ∧
    [Instr.faultSourceEvent [{ src := 512 }] [] none [], .faultSourceEvent [] [] none [(7, 0)], .powerGood [750], .railFail 7 0, .faultWindowExpiry 512, .cooldownEnd 512, .wdogExpiry 2 0, .srcInj 0 512 0,
     .injectedEvent 512, .safeExit 7, .logClear 7, .fcRearm 0 1024, .inputConditionEnter 12 1 0, .inputConditionEnter 0 0 0].all (fun c => !c.wf) ∧
    [Instr.refEnable 6 7 1, .todMessage 1 (List.replicate 16 0) true 0, .managementCycleBoundary 0 65535,
     .faultSourceEvent [{ src := 511 }] [] none [(6, 0)], .inputConditionEnter 11 2 36].all (·.wf) := by decide +kernel

theorem smoke_boot_flash_porch_and_test_port :
    [Instr.resetRelease 64, .flashErase 0 8, .flashProgram 0 8, .flashRead 0 8, .flashVerify 0 8, .dirWrite 7, .flashWinWrite 0 32768 0,
     .enroll 7].all (fun c => !c.wf) ∧
    [Instr.porchRead { seq := 4096 } 0 4 15 [], .porchRead { seq := 0, tag := 64 } 0 4 15 [], .porchRead { seq := 0, ack := some 4096 } 0 4 15 [],
     .porchRead { seq := 0 } 0 65536 15 [], .porchRead { seq := 0 } 0 4 16 [], .porchWrite { seq := 0 } 0x100000000 15 [],
     .porchWrite { seq := 0 } 0 15 (List.replicate 65 0), .porchRmw { seq := 0 } 0 (List.replicate 65 0) false,
     .writeBulk { seq := 0 } (List.replicate 65 0), .ohStream { seq := 0 } 0 (List.replicate 257 0), .atticRead { seq := 4096 } 0 0,
     .attest { seq := 0 } 0 (List.replicate 257 0), .porchBadTtype { seq := 4096 } 0, .porchCfgWrite 7 0, .porchCntClr 7,
     .i2cPointerWrite 4294967296 false, .i2cWordWrite 4294967296 0, .hostExtend 7, .fwSwap 7, .mateAttestGo 0 64, .mateAttestGo 7 0,
     .slotSnap 0 16, .slotSnapAll 7, .tracerPop 7, .histClr 7, .tracerEnable 7 1, .tracerDisable 7 0, .tracerCntClr 7].all (fun c => !c.wf) ∧
    [Instr.tapBypass 0x00, .tapBypass 0x0A, .tapBypass 256].all (fun c => !c.wf) ∧ Instr.wf (.tapBypass 0xFF) ∧ Instr.wf (.tapBypass 0x03) ∧
    Instr.wf (.porchRead { seq := 4095, tag := 63, ack := some 4095 } 0xFFFFFFFC 256 15 []) := by decide +kernel

theorem smoke_boundary_lengths (l : List Bool) (h : l.length ≠ 1642) :
    Instr.wf (.extest l) = false ∧ Instr.wf (.samplePreload l) = false ∧ Instr.wf (.extestPulse l) = false ∧ Instr.wf (.extestTrain l) = false := by
  simp [Instr.wf, h]

theorem witness_smoke_boundary_lengths : ([] : List Bool).length ≠ 1642 := by decide

theorem smoke_frame_lengths (l : List Byte) :
    (155520 < l.length → Instr.wf (.sdhFrameEnd 0 l 0 []) = false) ∧ (16320 < l.length → Instr.wf (.otuFrameEnd 0 l) = false) := by
  constructor <;> intro h <;> simp [Instr.wf] <;> omega

theorem witness_smoke_frame_lengths : 155520 < (List.replicate 155521 (0 : Byte)).length ∧ 16320 < (List.replicate 155521 (0 : Byte)).length := by
  rw [List.length_replicate]
  decide
/-! Single steps and worked examples taken from the spec's own words. -/

/-- The device after a command that answers a next state. -/
def result (c : Instr) (s : State) : Device := match exec c s with | .next t => t.dev | _ => s.dev

/-- 01, the example at R39; 04, the example at R168: addresses of contexts. R13: slices of lanes. -/
theorem test_addresses_of_the_worked_examples :
    laneBase 17 = 0x00210000 ∧ sliceBase 4 = 0x00840000 ∧ hoBase (192 * 17 + 6) = 0x010CC600 ∧ tcBase 70000 = 0x02445C00 ∧
      hoBase 972 = 0x0103CC00 ∧ hoBase 2319 = 0x01090F00 ∧ sliceOfLane 17 = 4 ∧ sliceOfLane 41 = 10 ∧ sliceOfLane 44 = 11 := by decide

/-- 08, the example at R317: declare and clear counts of a TU12 and of a multiplex section. -/
theorem test_sd_counts_of_the_worked_example :
    sfCount 4000 560 6 = 3 ∧ sfCount 40000 560 7 = 3 ∧ sfCount 12288000 801 8 = 99 ∧ sfCount 40 560 3 = 14 := by decide +kernel

/-- 10, the examples at R377 and R397: units, histories, rates and record lengths of a TU12. -/
theorem test_cellar_sizes_of_the_worked_examples :
    pairUnits 30 1 = 3 ∧ pairUnits 128 1 = 9 ∧ pairHist 30 1 = 80 ∧ pairHist 128 1 = 272 ∧ pairRate 1 = 2240000 ∧ recBytes 1 = 160 := by decide

/-- 12, the example at R441: the length of a frame with 5,000 non-clean points. -/
theorem test_attic_frame_length_of_the_worked_example : objLen (34400 + 5000 * 16) = 114688 := by decide

/-- 14, the example at R489: the rank filter never passes the spike. -/
theorem test_rank_filter_of_the_worked_example :
    [[100], [100, 140], [100, 140, 9000], [100, 140, 9000, 120], [100, 140, 9000, 120, 130], [140, 9000, 120, 130, 150]].map medianInt =
      [100, 100, 140, 120, 130, 140] := by decide

/-- 14, the example at R499: 4,650,000 units exceed WARN_ON of 4,600 ppb, 4,650 do not, and WARN clears at 4,000 ppb. -/
theorem test_threshold_of_the_worked_example :
    threshold false 4650000 4600000 4000000 = true ∧ threshold false 4650 4600000 4000000 = false ∧
      threshold true 4000001 4600000 4000000 = true ∧ threshold true 4000000 4600000 4000000 = false := by decide

/-- 04, the example at R178: the active value and state after each step of the table. -/
theorem test_pointer_sequence_of_the_worked_example :
    let r : PtrRule := { top := 782, ssCheck := false, ss := 2 }
    let inc : Nat → Nat := fun v => 0x6800 + (v ^^^ 0x2AA)
    let p1 := (Pi.period r { active := 522 } (inc 522)).1
    let x2 := Pi.period r p1 (inc 523)
    let p5 := [0x6864, 0x6864, 0x6864].foldl (fun p w => (Pi.period r p w).1) x2.1
    let p6 := (List.replicate 8 0x0864).foldl (fun p w => (Pi.period r p w).1) p5
    let p7 := (List.replicate 3 0x6864).foldl (fun p w => (Pi.period r p w).1) p6
    p1.active = 523 ∧ x2.1.active = 523 ∧ x2.2.inv = true ∧ p5.active = 100 ∧ p5.st = .norm ∧ p6.st = .lop ∧ p7.st = .norm ∧ p7.active = 100 := by
  decide

/-- R509: the CRC of a time message; the polynomial's published check value over the nine digits. -/
theorem test_crc16_of_the_nine_digits : crc16 [0x31, 0x32, 0x33, 0x34, 0x35, 0x36, 0x37, 0x38, 0x39] = 0x29B1 := by decide +kernel
/-- R291: CRC-32C; the polynomial's published check value over the nine digits. -/
theorem test_crc32c_of_the_nine_digits : crc32c [0x31, 0x32, 0x33, 0x34, 0x35, 0x36, 0x37, 0x38, 0x39] = 0xE3069283 := by decide +kernel

/-- R609: BLOCK_ID and BLOCK_CAPS of the Pantry. R158: LANE_CTL after reset. R614: the link is down. -/
theorem test_values_after_reset :
    State.reset.dev.view 0x20000 = 0x64400200 ∧ State.reset.dev.view 0x20008 = 3 ∧ State.reset.dev.view 0x1C0010 = 0x30 ∧
      State.reset.dev.porchUp = false := by decide +kernel

/-- R165, R166 and the example at R168: an AU4_4C head at slot 12 of an STM-16 on LN5 is taken, and slot 15 then belongs to its group. -/
theorem test_ho_enable_of_the_worked_example :
    let s := on fun d => d.put (laneBase 5 + 0x10) 4 3 2
    let d := result (.hoEnable 1 972 0x5) s
    (d.rd (hoBase 972)).toNat % 16 = 5 ∧ (tabGet {} d.bus.done 1).status = .ok ∧
      (tabGet {} (result (.hoEnable 1 975 0x3) { s with dev := d }).bus.done 1).status = .range ∧
      (tabGet {} (result (.hoEnable 1 973 0x1) s).bus.done 1).status = .ok := by decide +kernel

/-- 02, the example at R65: a staged write is discarded by another access of its master, and a write of word 3 alone is NARROW. -/
theorem test_wide_discard_of_the_worked_example :
    let s := on fun d => d.setStaged 0 (some ⟨0xC0030, [1, 2]⟩)
    let d := result (.registerWrite 0 0x70 15 0) s
    d.rd 0x98 = 1 ∧ d.staged 0 = none ∧ (result (.wideApplyWrite 0 0xC0030 0) { s with dev := d }).rd 0x80 = 1 ∧
      (result (.wideApplyWrite 0 0xC0030 0) { s with dev := d }).rd 0x98 = 1 := by decide +kernel

/-- 19, the example image: the MODE its first record writes equals the value after reset, so R97 does not refuse. -/
theorem test_first_record_of_the_example_image :
    let l := loadOf ([0x00000201, 0x001C0010, 0x31] ++ endRec) none
    let s := on (loadAt l)
    s.dev.nextRec 1 = some (l, [0x001C0010, 0x31]) ∧ (s.dev.loadWord 0x001C0010 0x31).1 = .ok := by decide +kernel

/-- R54, R91: the address must be a multiple of 4, and ACC_UNALIGNED_CNT counts the refusal. -/
theorem test_unaligned_write_is_counted :
    let d := result (.registerWrite 1 0x72 15 5) State.reset
    (tabGet {} d.bus.done 1).status = .unaligned ∧ d.rd 0x84 = 1 ∧ d.rd 0x70 = State.reset.dev.rd 0x70 := by decide +kernel

/-- R75: BLOCK_LOCK.LOCK is set by a write of 1. -/
theorem test_block_lock_is_set :
    (result (.blockLockWrite 1 0x10000 1) State.reset).bit 0x1000C 0 = true := by decide +kernel

/-- R680, R681: IDCODE and BYPASS select their registers, HIGHZ selects BYPASS; a reset of the port selects IDCODE. -/
theorem test_test_port_selects :
    (match exec .highz State.reset with | .next t => decide (t.tap.ir = 0x04) | _ => false) = true ∧
      (match exec (.tapBypass 0xFF) State.reset with | .next t => decide (t.tap.ir = 0xFF) | _ => false) = true := by decide +kernel

/-- R604: an ENROLL before RUNNING or HALT changes nothing but its refusal. -/
theorem test_enroll_waits_for_boot :
    let d := result (.enroll 1) (on coresRun)
    d.boot.otp = [] ∧ d.pantry.enrolling = none := by decide +kernel

/-- An idle block takes one HK period, 40 ns: 8 units of 5 ns (log entry 3). -/
theorem test_idle_step_is_one_hk_period :
    (match step State.reset with | .next t => decide (t.dev.uptime = State.reset.dev.uptime + 8) && t.pending.isEmpty | _ => false) = true := by
  decide +kernel

/-- R526, R527: a message as it is written is valid; with another LENGTH or a changed byte it is not. -/
theorem test_message_validity :
    pwValid (pwBytes { body := .lease 5 10 }) = true ∧ pwValid ((pwBytes { body := .lease 5 10 }).set 16 1) = false ∧
      pwValid ((pwBytes { body := .lease 5 10 }).dropLast) = false ∧
      (pwBytes { side := true, body := .digest 3 1 (List.replicate 16 0) }).take 12 = [9, 2, 0, 72, 0, 0, 0, 0, 0, 0, 0, 0] := by
  decide +kernel

/-- R542: the digest of a slice runs over its outputs in rising order; high-order output 768 is of slice 1. -/
theorem test_digest_order :
    ({ State.reset.dev with pw := { State.reset.dev.pw with begun := [(262144, [0x31, 0x32, 0x33]), (262145, [0x34, 0x35, 0x36, 0x37, 0x38, 0x39]), (262912, [1])] } } :
      Device).digests.getD 0 0 = 0xE3069283 := by
  decide +kernel

/-- CRC-32 of the nine digits is 0xCBF43926; R616: the header of a response and of a KEEPALIVE. -/
theorem test_frame_bytes :
    crc32 [0x31, 0x32, 0x33, 0x34, 0x35, 0x36, 0x37, 0x38, 0x39] = 0xCBF43926 ∧
      (frameBytes 1 0x100 0x0FF { ttype := 4, tag := 5, status := 3, aux := 3, payload := [0, 0, 0, 9] }).take 20 =
        [1, 1, 0, 0x10, 0xFF, 4, 0x45, 3, 0, 0, 0, 0, 0, 4, 0, 3, 0, 0, 0, 9] ∧
      frameValid ((frameBytes 4 0 0 { ttype := 0, resp := false }).set 0 5) = false ∧
      frameValid (frameBytes 4 0 0 { ttype := 0, resp := false }) = true := by
  decide +kernel
end Sys2Proof.Tests
end

section
/-! SUPPORT. Fields of words, and what the stores of words, fields and counters leave: the value read back at the address
written, and every other address as it was. -/

namespace Sys2Proof

namespace Machine
open Safety

/-! Fields of a word. -/

theorem wd_toNat {n : Nat} (h : n < 2 ^ 32) : (wd n).toNat = n := by
  rw [wd, BitVec.toNat_ofNat, Nat.mod_eq_of_lt h]

@[simp] theorem wd_toNat_self (x : Word) : wd x.toNat = x := by simp [wd]

theorem fld_lt (x : Word) (lo w : Nat) : fld x lo w < 2 ^ w := Nat.mod_lt _ (Nat.two_pow_pos w)

/-- A store of a field changes the bits of the field alone: what lies below it and above it stays. -/
theorem setFld_split (x : Word) {lo w : Nat} (v : Nat) (h : lo + w ≤ 32) :
    ∃ low hi, low < 2 ^ lo ∧ x.toNat = low + 2 ^ lo * (fld x lo w + 2 ^ w * hi) ∧
      (setFld x lo w v).toNat = low + 2 ^ lo * (v % 2 ^ w + 2 ^ w * hi) := by
  have hx : x.toNat < 2 ^ 32 := x.isLt
  have hsplit : x.toNat = x.toNat % 2 ^ lo + 2 ^ lo * (fld x lo w + 2 ^ w * (x.toNat / 2 ^ lo / 2 ^ w)) := by
    rw [fld, Nat.shiftRight_eq_div_pow, Nat.mod_add_div, Nat.mod_add_div]
  have hlow : x.toNat % 2 ^ lo < 2 ^ lo := Nat.mod_lt _ (Nat.two_pow_pos lo)
  have hhi : x.toNat / 2 ^ lo / 2 ^ w < 2 ^ (32 - (lo + w)) := by
    rw [Nat.div_div_eq_div_mul, ← pow_add, Nat.div_lt_iff_lt_mul (Nat.two_pow_pos _), ← pow_add]
    rwa [Nat.sub_add_cancel h]
  generalize hi' : x.toNat / 2 ^ lo / 2 ^ w = hi at hsplit hhi
  generalize x.toNat % 2 ^ lo = low at hsplit hlow
  refine ⟨low, hi, hlow, hsplit, ?_⟩
  have hv : v % 2 ^ w < 2 ^ w := Nat.mod_lt _ (Nat.two_pow_pos w)
  have heq : x.toNat - fld x lo w * 2 ^ lo + v % 2 ^ w * 2 ^ lo = low + 2 ^ lo * (v % 2 ^ w + 2 ^ w * hi) := by
    rw [Nat.mul_comm (fld x lo w), Nat.mul_comm (v % 2 ^ w)]
    rw [Nat.mul_add] at hsplit ⊢
    omega
  have hlt : low + 2 ^ lo * (v % 2 ^ w + 2 ^ w * hi) < 2 ^ 32 := by
    have h1 : v % 2 ^ w + 2 ^ w * hi < 2 ^ (32 - lo) := by
      calc v % 2 ^ w + 2 ^ w * hi < 2 ^ w * (hi + 1) := by rw [Nat.mul_add]; omega
        _ ≤ 2 ^ w * 2 ^ (32 - (lo + w)) := Nat.mul_le_mul_left _ hhi
        _ = 2 ^ (32 - lo) := by rw [← pow_add]; congr 1; omega
    calc low + 2 ^ lo * (v % 2 ^ w + 2 ^ w * hi) < 2 ^ lo * (v % 2 ^ w + 2 ^ w * hi + 1) := by rw [Nat.mul_add _ _ 1]; omega
      _ ≤ 2 ^ lo * 2 ^ (32 - lo) := Nat.mul_le_mul_left _ h1
      _ = 2 ^ 32 := by rw [← pow_add]; congr 1; omega
  have hset : setFld x lo w v = wd (x.toNat - fld x lo w * 2 ^ lo + v % 2 ^ w * 2 ^ lo) := rfl
  rw [hset, heq, wd_toNat hlt]

theorem fld_setFld_same (x : Word) {lo w : Nat} (v : Nat) (h : lo + w ≤ 32) : fld (setFld x lo w v) lo w = v % 2 ^ w := by
  obtain ⟨low, hi, hlow, -, hs⟩ := setFld_split x v h
  rw [fld, hs, Nat.shiftRight_eq_div_pow, Nat.add_mul_div_left _ _ (Nat.two_pow_pos lo), Nat.div_eq_of_lt hlow, Nat.zero_add,
    Nat.add_mul_mod_self_left, Nat.mod_mod]

/-- A field that lies below or above the one stored keeps its value. -/
theorem fld_setFld_ne (x : Word) {lo w lo' w' : Nat} (v : Nat) (h : lo + w ≤ 32) (hd : lo' + w' ≤ lo ∨ lo + w ≤ lo') :
    fld (setFld x lo w v) lo' w' = fld x lo' w' := by
  obtain ⟨low, hi, hlow, hx, hs⟩ := setFld_split x v h
  have below : ∀ n : Nat, lo' + w' ≤ lo → (low + 2 ^ lo * n) >>> lo' % 2 ^ w' = low >>> lo' % 2 ^ w' := by
    intro n hb
    have e : 2 ^ lo = 2 ^ lo' * (2 ^ w' * 2 ^ (lo - lo' - w')) := by
      rw [← pow_add, ← pow_add]; congr 1; omega
    rw [Nat.shiftRight_eq_div_pow, Nat.shiftRight_eq_div_pow, e, Nat.mul_assoc, Nat.add_mul_div_left _ _ (Nat.two_pow_pos lo'),
      Nat.mul_assoc, Nat.add_mul_mod_self_left]
  have above : ∀ f : Nat, f < 2 ^ w → lo + w ≤ lo' → (low + 2 ^ lo * (f + 2 ^ w * hi)) >>> lo' = hi / 2 ^ (lo' - lo - w) := by
    intro f hf hb
    have e : 2 ^ lo' = 2 ^ lo * (2 ^ w * 2 ^ (lo' - lo - w)) := by
      rw [← pow_add, ← pow_add]; congr 1; omega
    rw [Nat.shiftRight_eq_div_pow, e, ← Nat.div_div_eq_div_mul, Nat.add_mul_div_left _ _ (Nat.two_pow_pos lo),
      Nat.div_eq_of_lt hlow, Nat.zero_add, ← Nat.div_div_eq_div_mul, Nat.add_mul_div_left _ _ (Nat.two_pow_pos w),
      Nat.div_eq_of_lt hf, Nat.zero_add]
  rcases hd with hb | hb
  · rw [fld, fld, hs, hx, below _ hb, below _ hb]
  · rw [fld, fld, hs, hx, above _ (Nat.mod_lt _ (Nat.two_pow_pos w)) hb, above _ (fld_lt x lo w) hb]

@[simp] theorem b2n_mod_two (b : Bool) : b2n b % 2 ^ 1 = b2n b := by cases b <;> rfl

theorem bitAt_setFld_same (x : Word) {i : Nat} (b : Bool) (h : i < 32) : bitAt (setFld x i 1 (b2n b)) i = b := by
  rw [bitAt, fld_setFld_same x _ h, b2n_mod_two]
  cases b <;> rfl

theorem bitAt_setFld_ne (x : Word) {lo w i : Nat} (v : Nat) (h : lo + w ≤ 32) (hi : i < lo ∨ lo + w ≤ i) :
    bitAt (setFld x lo w v) i = bitAt x i := by
  rw [bitAt, bitAt, fld_setFld_ne x v h (by omega)]

/-! Reads after the stores of fields, bits and counters. -/

theorem rd_put (d : Device) (a lo w v b : Nat) : (d.put a lo w v).rd b = if b = a then setFld (d.rd a) lo w v else d.rd b := rd_wr d a b _
theorem rd_setBit (d : Device) (a i : Nat) (x : Bool) (b : Nat) :
    (d.setBit a i x).rd b = if b = a then setFld (d.rd a) i 1 (b2n x) else d.rd b := rd_wr d a b _
theorem rd_ev (d : Device) (a i b : Nat) : (d.ev a i).rd b = if b = a then setFld (d.rd a) i 1 (b2n true) else d.rd b := rd_wr d a b _
theorem rd_add (d : Device) (a n b : Nat) : (d.add a n).rd b = if b = a then wd (satAdd 32 (d.rd a).toNat n) else d.rd b := rd_wr d a b _
theorem rd_inc (d : Device) (a b : Nat) : (d.inc a).rd b = if b = a then wd (satAdd 32 (d.rd a).toNat 1) else d.rd b := rd_wr d a b _

/-- Consecutive words reach from the address up to the last of them. -/
theorem rd_wrs_out (l : List Word) : ∀ (d : Device) (a b : Nat), b < a ∨ a + 4 * l.length ≤ b → (d.wrs a l).rd b = d.rd b := by
  induction l with
  | nil => intro d a b _; rfl
  | cons v t ih =>
    intro d a b h
    simp only [List.length_cons] at h
    rw [Device.wrs, ih _ _ _ (by omega), rd_wr_ne _ _ (by omega)]

@[simp] theorem stamp_length (d : Device) : d.stamp.length = 4 := rfl

theorem rd_wrStamp_out (d : Device) {a b : Nat} (h : b < a ∨ a + 16 ≤ b) : (d.wrStamp a).rd b = d.rd b :=
  rd_wrs_out _ d a b (by simpa using h)

@[simp] theorem bit_ev_same (d : Device) (a : Nat) {i : Nat} (h : i < 32) : (d.ev a i).bit a i = true := by
  rw [Device.bit, rd_ev, if_pos rfl]; exact bitAt_setFld_same _ true h

theorem bit_setBit_same (d : Device) (a : Nat) {i : Nat} (x : Bool) (h : i < 32) : (d.setBit a i x).bit a i = x := by
  rw [Device.bit, rd_setBit, if_pos rfl]; exact bitAt_setFld_same _ x h

/-- An event of one bit leaves every bit of its register that is set. -/
theorem bit_ev_mono {d : Device} {a i b : Nat} (j : Nat) (hi : i < 32) (hj : j < 32) (h : d.bit a i = true) : (d.ev b j).bit a i = true := by
  rw [Device.bit, rd_ev]
  split
  · rename_i e
    subst e
    by_cases hij : i = j
    · subst hij; exact bitAt_setFld_same _ true hi
    · rw [bitAt_setFld_ne _ _ hj (by omega)]; exact h
  · exact h

/-- A bit of a register that is written elsewhere reads as before. -/
theorem bit_of_rd {d d' : Device} {a : Nat} (h : d'.rd a = d.rd a) (i : Nat) : d'.bit a i = d.bit a i := by
  rw [Device.bit, Device.bit, h]

theorem get_of_rd {d d' : Device} {a : Nat} (h : d'.rd a = d.rd a) (lo w : Nat) : d'.get a lo w = d.get a lo w := by
  rw [Device.get, Device.get, h]

theorem get_put_same (d : Device) (a : Nat) {lo w : Nat} (v : Nat) (h : lo + w ≤ 32) : (d.put a lo w v).get a lo w = v % 2 ^ w := by
  rw [Device.get, rd_put, if_pos rfl, fld_setFld_same _ _ h]

/-! A condition that is applied or not. -/

/-- A property both ways give holds of an update under a condition. -/
theorem when_ind {P : Device → Prop} {d : Device} {c : Bool} {f : Device → Device} (hd : P d) (hf : c = true → P (f d)) : P (d.when c f) := by
  cases c with
  | true => exact hf rfl
  | false => exact hd

end Machine

namespace Safety
open Machine

/-! Updates of the register file alone. -/

theorem OnlyRegs.refl (d : Device) : OnlyRegs d d := rfl

theorem OnlyRegs.trans {d d' d'' : Device} (h : OnlyRegs d d') (h' : OnlyRegs d' d'') : OnlyRegs d d'' := by
  rw [OnlyRegs, h', h]

theorem OnlyRegs.wr {d d' : Device} (h : OnlyRegs d d') (a : Nat) (v : Word) : OnlyRegs d (d'.wr a v) := h.trans rfl
theorem OnlyRegs.put {d d' : Device} (h : OnlyRegs d d') (a lo w v : Nat) : OnlyRegs d (d'.put a lo w v) := h.trans rfl
theorem OnlyRegs.setBit {d d' : Device} (h : OnlyRegs d d') (a i : Nat) (b : Bool) : OnlyRegs d (d'.setBit a i b) := h.trans rfl
theorem OnlyRegs.ev {d d' : Device} (h : OnlyRegs d d') (a i : Nat) : OnlyRegs d (d'.ev a i) := h.trans rfl
theorem OnlyRegs.add {d d' : Device} (h : OnlyRegs d d') (a n : Nat) : OnlyRegs d (d'.add a n) := h.trans rfl
theorem OnlyRegs.inc {d d' : Device} (h : OnlyRegs d d') (a : Nat) : OnlyRegs d (d'.inc a) := h.trans rfl

theorem OnlyRegs.wrs {d d' : Device} (h : OnlyRegs d d') (a : Nat) (l : List Word) : OnlyRegs d (d'.wrs a l) := by
  induction l generalizing d' a with
  | nil => exact h
  | cons v t ih => exact ih (h.wr a v) (a + 4)

theorem OnlyRegs.wrStamp {d d' : Device} (h : OnlyRegs d d') (a : Nat) : OnlyRegs d (d'.wrStamp a) := h.wrs a _

theorem OnlyRegs.when {d d' : Device} (h : OnlyRegs d d') {c : Bool} {f : Device → Device} (hf : OnlyRegs d (f d')) :
    OnlyRegs d (d'.when c f) := by
  cases c
  · exact h
  · exact hf

theorem OnlyRegs.bus {d d' : Device} (h : OnlyRegs d d') : d'.bus = d.bus := by rw [h]
theorem OnlyRegs.fc {d d' : Device} (h : OnlyRegs d d') : d'.fc = d.fc := by rw [h]
theorem OnlyRegs.pw {d d' : Device} (h : OnlyRegs d d') : d'.pw = d.pw := by rw [h]
theorem OnlyRegs.boot {d d' : Device} (h : OnlyRegs d d') : d'.boot = d.boot := by rw [h]
theorem OnlyRegs.porch {d d' : Device} (h : OnlyRegs d d') : d'.porch = d.porch := by rw [h]
theorem OnlyRegs.cores {d d' : Device} (h : OnlyRegs d d') : d'.cores = d.cores := by rw [h]
theorem OnlyRegs.uptime {d d' : Device} (h : OnlyRegs d d') : d'.uptime = d.uptime := by rw [h]

/-! The registers kept, step by step. -/

theorem KeepsBut.refl (l : List Nat) (d : Device) : KeepsBut l d d := fun _ _ => rfl

theorem KeepsBut.trans {l : List Nat} {d d' d'' : Device} (h : KeepsBut l d d') (h' : KeepsBut l d' d'') : KeepsBut l d d'' :=
  fun a ha => (h' a ha).trans (h a ha)

/-- An update that leaves the register file keeps every register. -/
theorem KeepsBut.of_regs {d d' : Device} (h : d'.regs = d.regs) (l : List Nat) : KeepsBut l d d' :=
  fun a _ => by simp [Device.rd, h]

/-- What waited still waits. -/
theorem Raised.raise {d : Device} {src : Nat} (h : Raised d src) (r : SrcReport) : Raised (d.raise r) src := by
  obtain ⟨x, hx, hs⟩ := h
  unfold Device.raise
  split
  · exact ⟨x, hx, hs⟩
  · exact ⟨x, by simp [hx], hs⟩

theorem Raised.of_fc {d d' : Device} {src : Nat} (h : Raised d src) (hf : d'.fc = d.fc) : Raised d' src := by
  rw [Raised, hf]; exact h

end Safety

namespace Machine
open Safety

theorem rd_of_regs {d d' : Device} (h : d'.regs = d.regs) (a : Nat) : d'.rd a = d.rd a := by simp [Device.rd, h]

/-! Registers kept by their addresses. -/

/-- The registers whose addresses have a property are as they were. -/
def KeptOn (S : Nat → Prop) (d d' : Device) : Prop := ∀ a, S a → d'.rd a = d.rd a

section
variable {S : Nat → Prop} {d d' d'' : Device}

theorem KeptOn.refl (S : Nat → Prop) (d : Device) : KeptOn S d d := fun _ _ => rfl
theorem KeptOn.trans (h : KeptOn S d d') (h' : KeptOn S d' d'') : KeptOn S d d'' := fun a ha => (h' a ha).trans (h a ha)
theorem KeptOn.of_regs (h : d'.regs = d.regs) : KeptOn S d d' := fun a _ => rd_of_regs h a
theorem KeptOn.wr (h : KeptOn S d d') {b : Nat} (v : Word) (hb : ¬S b) : KeptOn S d (d'.wr b v) :=
  h.trans fun _ ha => rd_wr_ne _ _ (fun e => hb (e ▸ ha))
theorem KeptOn.put (h : KeptOn S d d') {b : Nat} (lo w v : Nat) (hb : ¬S b) : KeptOn S d (d'.put b lo w v) := h.wr _ hb
theorem KeptOn.inc (h : KeptOn S d d') {b : Nat} (hb : ¬S b) : KeptOn S d (d'.inc b) := h.wr _ hb
theorem KeptOn.ev (h : KeptOn S d d') {b : Nat} (i : Nat) (hb : ¬S b) : KeptOn S d (d'.ev b i) := h.wr _ hb
theorem KeptOn.setBit (h : KeptOn S d d') {b : Nat} (i : Nat) (x : Bool) (hb : ¬S b) : KeptOn S d (d'.setBit b i x) := h.wr _ hb
theorem KeptOn.wrs (h : KeptOn S d d') {b : Nat} (l : List Word) (hb : ∀ a, S a → a < b ∨ b + 4 * l.length ≤ a) : KeptOn S d (d'.wrs b l) :=
  h.trans fun a ha => rd_wrs_out l _ _ _ (hb a ha)
end

/-! Reports. -/

/-- A report is among those that wait, whether or not an equal one stood there before. -/
theorem raised_raise (d : Device) {r : SrcReport} (h : r.real = true) : Raised (d.raise r) r.src := by
  unfold Device.raise
  split
  · rename_i hany
    obtain ⟨x, hx, he⟩ := List.any_eq_true.1 hany
    simp only [Bool.and_eq_true, beq_iff_eq] at he
    exact ⟨x, hx, he.1, he.2⟩
  · exact ⟨r, by simp, rfl, h⟩

theorem raised_raiseSrc (d : Device) (src : Nat) : Raised (d.raiseSrc src) src := raised_raise d rfl

/-- A report touches the Fault Collector alone. -/
theorem raise_only (d : Device) (r : SrcReport) : d.raise r = { d with fc := (d.raise r).fc } := by
  obtain ⟨l, h⟩ := raise_eq d r
  rw [h]

@[simp] theorem raiseSrc_regs (d : Device) (n : Nat) : (d.raiseSrc n).regs = d.regs := raise_regs d _
@[simp] theorem rd_raiseSrc (d : Device) (n a : Nat) : (d.raiseSrc n).rd a = d.rd a := rd_raise d _ a
@[simp] theorem raise_bus (d : Device) (r : SrcReport) : (d.raise r).bus = d.bus := by rw [raise_only]
@[simp] theorem raise_pw (d : Device) (r : SrcReport) : (d.raise r).pw = d.pw := by rw [raise_only]
@[simp] theorem raise_boot (d : Device) (r : SrcReport) : (d.raise r).boot = d.boot := by rw [raise_only]
@[simp] theorem raise_porch (d : Device) (r : SrcReport) : (d.raise r).porch = d.porch := by rw [raise_only]
@[simp] theorem raise_cores (d : Device) (r : SrcReport) : (d.raise r).cores = d.cores := by rw [raise_only]
@[simp] theorem raise_uptime (d : Device) (r : SrcReport) : (d.raise r).uptime = d.uptime := by rw [raise_only]
@[simp] theorem raiseSrc_bus (d : Device) (n : Nat) : (d.raiseSrc n).bus = d.bus := raise_bus d _
@[simp] theorem raiseSrc_pw (d : Device) (n : Nat) : (d.raiseSrc n).pw = d.pw := raise_pw d _
@[simp] theorem raiseSrc_boot (d : Device) (n : Nat) : (d.raiseSrc n).boot = d.boot := raise_boot d _
@[simp] theorem raiseSrc_porch (d : Device) (n : Nat) : (d.raiseSrc n).porch = d.porch := raise_porch d _
@[simp] theorem raiseSrc_cores (d : Device) (n : Nat) : (d.raiseSrc n).cores = d.cores := raise_cores d _

/-! The record of a refusal. -/

/-- An access that ends OK leaves no record. -/
@[simp] theorem refused_ok (d : Device) (x : Access) (a : Nat) : d.refused x .ok a = d := rfl

/-- The record of a refusal touches the register file and the Fault Collector alone. -/
theorem refused_only (d : Device) (x : Access) (st : Status) (a : Nat) :
    d.refused x st a = { d with regs := (d.refused x st a).regs, fc := (d.refused x st a).fc } := by
  unfold Device.refused
  split
  · rfl
  · obtain ⟨l, h⟩ := raise_eq _ _
    rw [h]; rfl

@[simp] theorem refused_bus (d : Device) (x : Access) (st : Status) (a : Nat) : (d.refused x st a).bus = d.bus := by rw [refused_only]
@[simp] theorem refused_boot (d : Device) (x : Access) (st : Status) (a : Nat) : (d.refused x st a).boot = d.boot := by rw [refused_only]
@[simp] theorem refused_porch (d : Device) (x : Access) (st : Status) (a : Nat) : (d.refused x st a).porch = d.porch := by rw [refused_only]
@[simp] theorem refused_pw (d : Device) (x : Access) (st : Status) (a : Nat) : (d.refused x st a).pw = d.pw := by rw [refused_only]
@[simp] theorem refused_uptime (d : Device) (x : Access) (st : Status) (a : Nat) : (d.refused x st a).uptime = d.uptime := by
  rw [refused_only]

/-- The registers of the record: the status's counter, ACCESS_REFUSED, REFUSE_ADDR and REFUSE_INFO. -/
theorem refused_keeps (d : Device) (x : Access) {st : Status} (a : Nat) {c : Nat} (hc : refuseCounter st = some c) :
    KeepsBut [c, 0x54, 0xB0, 0xB4] d (d.refused x st a) := by
  intro b hb
  simp only [List.mem_cons, List.not_mem_nil, or_false, not_or] at hb
  obtain ⟨h1, h2, h3, h4⟩ := hb
  simp [Device.refused, hc, rd_wr, rd_ev, rd_inc, h1, h2, h3, h4]

/-- The record of a refusal stands in GLOBAL. -/
theorem rd_refused (d : Device) (x : Access) (st : Status) (a : Nat) {b : Nat} (hb : b < 0x54 ∨ 0xB4 < b) :
    (d.refused x st a).rd b = d.rd b := by
  cases hc : refuseCounter st with
  | none => simp [Device.refused, hc]
  | some c =>
    refine refused_keeps d x a hc b ?_
    have : 0x54 < c ∧ c ≤ 0xA8 := by cases st <;> simp_all [refuseCounter] <;> omega
    simp
    omega

/-- What every command brings with it leaves the bridge. -/
@[simp] theorem irqSettle_bus (d0 d : Device) : (irqSettle d0 d).bus = d.bus := by
  unfold irqSettle; split
  · rfl
  · split <;> rfl

end Machine
end Sys2Proof
end

section
/-! PROOFS. Snapshots of wide registers (R49, R59). -/

namespace Sys2Proof.Machine
open Sys2Proof Sys2Proof.Safety

/-- Clearing the WRAP flag of a counter has nothing to do with the bridge. -/
theorem wrapClear_onBus (d : Device) (f : Bus → Bus) (a : Nat) : (d.onBus f).wrapClear a = (d.wrapClear a).onBus f := by
  unfold Device.wrapClear
  split
  · rfl
  · split <;> rfl

theorem snapshot_regs (d : Device) (m a : Nat) : (d.snapshot m a).regs = (d.wrapClear a).regs := by
  rw [Device.snapshot, wrapClear_onBus]; rfl

@[simp] theorem wrapClear_bus (d : Device) (a : Nat) : (d.wrapClear a).bus = d.bus := by
  unfold Device.wrapClear
  split
  · rfl
  · split <;> rfl

theorem snapshot_snaps (d : Device) (m a : Nat) :
    (d.snapshot m a).bus.snaps = tabPut [] d.bus.snaps m [d.view a, d.view (a + 4), d.view (a + 8), d.view (a + 12)] := by
  rw [Device.snapshot, wrapClear_bus]; rfl

/-- A read of word 0 of a wide register of the management domain (R59): its value, and the snapshot. -/
theorem readWord_wide {d : Device} {m a : Nat} {l : Loc} {r : RegRow} (hs : d.staged m = none) (ha : a % 16 = 0)
    (hl : locOf a = some l) (hr : rowAt l = some r) (hw : r.wide = true) (hd : domainOf l = none) :
    d.readWord m a = (.ok, d.view a, d.snapshot m a) := by
  have hbase : a / 16 * 16 = a := by omega
  simp [Device.readWord, touch_unstaged hs, Device.readAt, hl, hr, hd, hw, ha, hbase]

theorem exec_wideSnapshotRead (m a : Nat) (ecc : Bool) (s : State) :
    exec (.wideSnapshotRead m a ecc) s = s.live (fun d => d.busRead m (a / 16 * 16) ecc) := rfl

/-- The completion of an access stands for its master. -/
@[simp] theorem done_complete (d : Device) (m : Nat) (c : Completion) : tabGet {} (d.complete m c).bus.done m = c :=
  tabGet_tabPut_same _ _ _ _

@[simp] theorem complete_snaps (d : Device) (m : Nat) (c : Completion) : (d.complete m c).bus.snaps = d.bus.snaps := rfl


/-- Settles O10: the read takes the four views into the reader's buffer and, but for the WRAP flag, touches the bridge alone. -/
theorem snapshotHoldsAllFourWords : Obligations.SnapshotHoldsAllFourWords := by
  intro s m a l r ⟨hlive, _, hs⟩ ha hl hr hw hd
  have hrun : ∀ ecc, exec (.wideSnapshotRead m a ecc) s = .next (after s (s.dev.busRead m a ecc)) := by
    intro ecc
    have hbase : a / 16 * 16 = a := by omega
    rw [exec_wideSnapshotRead, live_run hlive, hbase, after]
  have hread := readWord_wide hs ha hl hr hw hd
  constructor
  · have hb : s.dev.busRead m a false = (s.dev.snapshot m a).complete m { status := .ok, words := [s.dev.view a] } := by
      simp [Device.busRead, Device.readEcc, hread]
    refine ⟨_, hrun false, ?_, ?_, fun k hk => ?_, ?_⟩ <;> simp only [after, irqSettle_bus, irqSettle_regs, hb]
    · exact done_complete _ _ _
    · rw [complete_snaps, snapshot_snaps]; exact tabGet_tabPut_same _ _ _ _
    · rw [complete_snaps, snapshot_snaps]; exact tabGet_tabPut_ne _ _ _ _ hk
    · exact snapshot_regs _ _ _
  · refine ⟨_, hrun true, ?_⟩
    simp only [after, irqSettle_bus, Device.busRead, Device.readEcc, hread, if_true]
    exact done_complete _ _ _

end Sys2Proof.Machine
end

section
/-! PROOFS. The dual-clock queues: posted writes that are taken or lost, and read-modify-writes that are answered or time out
(R66 to R73). -/

namespace Sys2Proof.Machine
open Sys2Proof Sys2Proof.Safety

theorem exec_postedWriteTakesEffect (dom : Domain) (s : State) :
    exec (.postedWriteTakesEffect dom) s = s.live (fun d => d.takePosted dom) := rfl
theorem exec_postedWriteLost (dom : Domain) (s : State) : exec (.postedWriteLost dom) s = s.live (fun d => d.losePosted dom) := rfl
theorem exec_crossDomainRmwAnswer (dom : Domain) (ecc : Bool) (s : State) :
    exec (.crossDomainRmwAnswer dom ecc) s = s.live (fun d => d.crossAnswer dom ecc) := rfl
theorem exec_crossDomainRmwTimeout (dom : Domain) (s : State) :
    exec (.crossDomainRmwTimeout dom) s = s.live (fun d => d.crossTimeout dom) := rfl

/-! The queues and the stopped domains. -/

@[simp] theorem setQueue_regs (d : Device) (m : Domain) (q : List Posted) : (d.setQueue m q).regs = d.regs := rfl
@[simp] theorem rd_setQueue (d : Device) (m : Domain) (q : List Posted) (a : Nat) : (d.setQueue m q).rd a = d.rd a := rfl
@[simp] theorem domRun_regs (d : Device) (m : Domain) : (d.domRun m).regs = d.regs := rfl
@[simp] theorem rd_domRun (d : Device) (m : Domain) (a : Nat) : (d.domRun m).rd a = d.rd a := rfl
@[simp] theorem rd_domStop (d : Device) (m : Domain) (a : Nat) : (d.domStop m).rd a = d.rd a := rfl

theorem queueOf_of_bus {d d' : Device} (h : d'.bus = d.bus) (m : Domain) : d'.queueOf m = d.queueOf m := by
  rw [Device.queueOf, Device.queueOf, h]

@[simp] theorem queueOf_setQueue (d : Device) (m : Domain) (q : List Posted) : (d.setQueue m q).queueOf m = q := by
  cases m <;> simp [Device.queueOf, Device.setQueue, Device.onBus]

@[simp] theorem queueOf_domRun (d : Device) (m n : Domain) : (d.domRun m).queueOf n = d.queueOf n := rfl
@[simp] theorem queueOf_domStop (d : Device) (m n : Domain) : (d.domStop m).queueOf n = d.queueOf n := rfl

@[simp] theorem queueOf_complete (d : Device) (m : Nat) (c : Completion) (n : Domain) : (d.complete m c).queueOf n = d.queueOf n := rfl

/-- A domain that has answered runs. -/
theorem domRun_runs (d : Device) (m : Domain) : (d.domRun m).bus.stopped.contains m = false := by
  simp [Device.domRun]

theorem domStop_stopped (d : Device) (m : Domain) : (d.domStop m).bus.stopped.contains m = true := by
  simp [Device.domStop]

@[simp] theorem complete_stopped (d : Device) (m : Nat) (c : Completion) : (d.complete m c).bus.stopped = d.bus.stopped := rfl

theorem staged_of_stages {d d' : Device} (h : d'.bus.stages = d.bus.stages) (m : Nat) : d'.staged m = d.staged m := by
  rw [Device.staged, Device.staged, h]

@[simp] theorem staged_setQueue_domRun (d : Device) (m : Domain) (q : List Posted) (n : Nat) :
    ((d.setQueue m q).domRun m).staged n = d.staged n := by
  apply staged_of_stages
  cases m <;> simp [Device.domRun, Device.setQueue, Device.onBus]

theorem takePosted_write {d : Device} {m : Domain} {p : Posted} {q : List Posted} (h : popFor m (d.queueOf m) = some (p, q))
    (hk : ∀ mask v, p.kind ≠ .rmw mask v) : d.takePosted m = ((d.setQueue m q).domRun m).takeEffect p := by
  rw [Device.takePosted, h]
  dsimp only
  split
  · exact absurd ‹_› (hk _ _)
  · rfl

/-! Accesses of plain registers. -/

/-- A read of a 32-bit register whose domain runs, by a master with nothing staged. -/
theorem readWord_plain {d : Device} {m a : Nat} {l : Loc} {r : RegRow} (hs : d.staged m = none) (hl : locOf a = some l)
    (hr : rowAt l = some r) (hw : r.wide = false) (hd : ∀ x, domainOf l = some x → d.bus.stopped.contains x = false) :
    d.readWord m a = (.ok, d.view a, d) := by
  simp only [Device.readWord, touch_unstaged hs, Device.readAt, hl, hr, hw]
  cases hdom : domainOf l with
  | none => simp
  | some x => simp only [hd x hdom, Bool.false_eq_true, if_false]

/-- A write of a 32-bit register that its domain judges itself: taken in place. -/
theorem writeWord_taken {d : Device} {direct : Bool} {m a : Nat} {v : Word} {l : Loc} {r : RegRow} (hs : d.staged m = none)
    (hl : locOf a = some l) (hr : rowAt l = some r) (hd : direct = true ∨ domainOf l = none) (hw : r.wide = false) (hro : r.acc ≠ .ro)
    (hrs : r.acc ≠ .rs) (hk : r.acc ≠ .lock) (hn : d.refusal a l r v = none) :
    d.writeWord direct m a v = d.takeWrite m a l r v := by
  rcases hd with hd | hd
  · subst hd
    cases hdom : domainOf l <;>
      simp [Device.writeWord, touch_unstaged hs, touched_unstaged hs, Device.writeAt, hl, hr, hro, hrs, hk, hw, hn, hdom]
  · simp [Device.writeWord, touch_unstaged hs, touched_unstaged hs, Device.writeAt, hl, hr, hro, hrs, hk, hw, hn, hd]

/-- What a master sees of a register its block shows as stored. -/
theorem view_of_row {d : Device} {a : Nat} {l : Loc} {r : RegRow} (hl : locOf a = some l) (hr : rowAt l = some r) (hwo : r.acc ≠ .wo)
    (hk : r.acc ≠ .lock) : d.view a = d.viewLoc l (d.rd a) := by
  rw [rowAt] at hr
  simp [Device.view, hl, hr, hwo, hk]

/-! HOLDOVER_LIMIT, a 32-bit register of the Hearth. -/

/-- The row of HOLDOVER_LIMIT (R479). -/
def holdoverLimitRow : RegRow := rw 0x24 0x00FF3FFF 0x003C05A0 [⟨0, 14, [(0, 10080)]⟩, ⟨16, 8, [(1, 240)]⟩]

theorem locOf_holdoverLimit : locOf 0x50024 = some ⟨.hearth, 0, 0x24⟩ := by decide
theorem rowAt_holdoverLimit : rowAt ⟨.hearth, 0, 0x24⟩ = some holdoverLimitRow := by decide
theorem domainOf_holdoverLimit : domainOf ⟨.hearth, 0, 0x24⟩ = some .hearth := by decide
theorem rowOf_holdoverLimit : rowOf 0x50024 = some holdoverLimitRow := by decide

/-- A register without read-only bits stores the word written. -/
theorem store_plain (d : Device) (a : Nat) {r : RegRow} (v : Word) (h : r.roBits = 0) : d.store a r v = d.wr a v := by
  have h0 : wd 0 = 0#32 := rfl
  rw [Device.store, h, h0, BitVec.not_zero, BitVec.and_allOnes, BitVec.and_zero, BitVec.or_zero]

theorem applyLoc_holdoverLimit (d : Device) (m : Nat) (v : Word) :
    d.applyLoc m 0x50024 ⟨.hearth, 0, 0x24⟩ holdoverLimitRow v = (.ok, d.wr 0x50024 v) := by
  have hs : d.store 0x50024 holdoverLimitRow v = d.wr 0x50024 v := store_plain d _ v rfl
  simp [Device.applyLoc, Device.memberWord, holdoverLimitRow, rw, Device.applyBlk, Device.applyHearth, ← hs]

theorem settleAt_holdoverLimit (d0 d : Device) : settleAt 0x50024 d0 d = d := by
  simp [settleAt, locOf_holdoverLimit]

theorem takeEffect_holdoverLimit (d : Device) (m : Nat) (dom : Domain) (v : Word) :
    d.takeEffect ⟨m, 0x50024, dom, .word v⟩ = d.wr 0x50024 v := by
  simp [Device.takeEffect, locOf_holdoverLimit, rowAt_holdoverLimit, applyLoc_holdoverLimit, settleAt_holdoverLimit]

theorem view_holdoverLimit (d : Device) : d.view 0x50024 = d.rd 0x50024 := by
  rw [view_of_row locOf_holdoverLimit rowAt_holdoverLimit (by decide) (by decide)]
  simp [Device.viewLoc, Device.viewHearth]

/-- The bridge judges a write of HOLDOVER_LIMIT by its row alone (R57). -/
theorem refusal_holdoverLimit {d : Device} {v : Word} (h : holdoverLimitRow.legal v.toNat = true) :
    d.refusal 0x50024 ⟨.hearth, 0, 0x24⟩ holdoverLimitRow v = none := by
  have hb : d.bridgeBad ⟨.hearth, 0, 0x24⟩ holdoverLimitRow v = false := by simp [Device.bridgeBad, h]
  have hs : d.standbyBars ⟨.hearth, 0, 0x24⟩ v = false := by simp [Device.standbyBars]
  have hacc : holdoverLimitRow.acc = .rw := rfl
  simp [Device.refusal, hs, hb, hacc]

@[simp] theorem rd_covered (d : Device) {a : Nat} (h : a ≠ 0x50) : d.covered.rd a = d.rd a := by
  simp [Device.covered, rd_setBit, h]
  rfl

/-- A read-modify-write of HOLDOVER_LIMIT in the running Hearth (R58, R70): the word before, and the bits under the mask replaced. -/
theorem rmwNow_holdoverLimit {d : Device} {m : Nat} {mask v : Word} (hs : d.staged m = none) (hd : d.bus.stopped.contains .hearth = false)
    (hl : holdoverLimitRow.legal ((d.rd 0x50024 &&& ~~~mask) ||| (v &&& mask)).toNat = true) :
    d.rmwNow m 0x50024 mask v false =
      (.ok, d.rd 0x50024, (d.wr 0x50024 ((d.rd 0x50024 &&& ~~~mask) ||| (v &&& mask))).covered) := by
  have hread : d.readEcc m 0x50024 false = (.ok, d.rd 0x50024, d) := by
    rw [Device.readEcc, readWord_plain hs locOf_holdoverLimit rowAt_holdoverLimit rfl
      (by rw [domainOf_holdoverLimit]; rintro x ⟨⟩; exact hd), view_holdoverLimit]
    rfl
  have hwrite := writeWord_taken (direct := true) hs locOf_holdoverLimit rowAt_holdoverLimit (.inl rfl) rfl (by decide) (by decide)
    (by decide) (refusal_holdoverLimit (d := d) hl)
  have hcov : holdoverLimitRow.cov = true := rfl
  simp [Device.rmwNow, hread, hwrite, Device.takeWrite, applyLoc_holdoverLimit, noteCovered, hcov, settleAt_holdoverLimit,
    touched_unstaged hs]

/-! The answer of a domain. -/

/-- The answer of a domain to the read-modify-write that stands first for it. -/
theorem crossAnswer_rmw {d : Device} {dom : Domain} {m a : Nat} {mask v : Word} {q : List Posted} {ecc : Bool}
    {x : Status × Word × Device} (h : popFor dom (d.queueOf dom) = some (⟨m, a, dom, .rmw mask v⟩, q))
    (hx : ((d.setQueue dom q).domRun dom).rmwNow m a mask v ecc = x) :
    d.crossAnswer dom ecc =
      (x.2.2.refused { master := m, rmw := true, wide := wideReg a } x.1 a).rmwReply ⟨m, a, dom, .rmw mask v⟩ x.1 x.2.1 := by
  subst hx
  rw [Device.crossAnswer, Device.rmwAnswer, h]

/-- The timeout of the read-modify-write that stands first for a domain. -/
theorem crossTimeout_rmw {d : Device} {dom : Domain} {m a : Nat} {mask v : Word} {q : List Posted}
    (h : popFor dom (d.queueOf dom) = some (⟨m, a, dom, .rmw mask v⟩, q)) :
    d.crossTimeout dom =
      (((d.setQueue dom q).refused { master := m, rmw := true, wide := wideReg a } .timeout a).raise
          { src := 22, addr := a, master := m, access := 2, syndrome := 5 }).rmwReply ⟨m, a, dom, .rmw mask v⟩ .timeout 0 := by
  rw [Device.crossTimeout, Device.rmwLost, h]

/-- A master other than the Porch takes its answer as its completion. -/
theorem rmwReply_other (d : Device) {p : Posted} (st : Status) (old : Word) (h : p.master ≠ 0) :
    d.rmwReply p st old = d.complete p.master { status := st, words := [old] } := by
  rw [Device.rmwReply]
  dsimp only
  split
  · rw [if_neg h]
  · rfl

/-- A frame the link takes stands last among those on their way. -/
theorem outgoing_flush (l : List PFrame) : ∀ p : PorchSt,
    (p.flush l).unacked.map (·.frame) ++ (p.flush l).queue = p.unacked.map (·.frame) ++ l := by
  induction l with
  | nil => intro p; rfl
  | cons f t ih =>
    intro p
    rw [PorchSt.flush]
    split
    · rw [ih]; simp [PorchSt.place]
    · rfl

/-- What the sending of frames leaves of the Porch. -/
theorem flush_keeps (l : List PFrame) : ∀ p : PorchSt, (p.flush l).rmw = p.rmw ∧ (p.flush l).waiting = p.waiting := by
  induction l with
  | nil => intro p; exact ⟨rfl, rfl⟩
  | cons f t ih =>
    intro p
    rw [PorchSt.flush]
    split
    · exact ih _
    · exact ⟨rfl, rfl⟩

theorem porchReply_keeps (d : Device) (ttype tag : Nat) (st : Status) (addr aux : Nat) (payload : List Byte) :
    (d.porchReply ttype tag st addr aux payload).porch.rmw = d.porch.rmw ∧
      (d.porchReply ttype tag st addr aux payload).porch.waiting = d.porch.waiting := by
  unfold Device.porchReply Device.porchSend
  split
  · exact ⟨rfl, rfl⟩
  · split
    · exact flush_keeps _ _
    · exact ⟨rfl, rfl⟩

theorem outgoing_of_frames {d d' : Device} (hu : d'.porch.unacked = d.porch.unacked) (hq : d'.porch.queue = d.porch.queue) :
    outgoing d' = outgoing d := by
  rw [outgoing, outgoing, hu, hq]

/-- A response over a link that is up goes out behind what is on its way. -/
theorem outgoing_porchReply (d : Device) {ttype tag : Nat} (st : Status) (addr aux : Nat) (payload : List Byte) (ht : tag ≠ noTag)
    (hu : d.porchUp = true) :
    outgoing (d.porchReply ttype tag st addr aux payload) =
      outgoing d ++ [{ ttype := ttype, tag := tag, status := st.code, addr := addr, aux := aux, payload := payload }] := by
  rw [Device.porchReply, if_neg ht, Device.porchSend, if_pos hu]
  simp only [outgoing, onPorch_porch, outgoing_flush, List.append_assoc]

/-- The Porch takes the answer of its RMW as completion and response; nothing waits behind it. -/
theorem rmwReply_porch (d : Device) {p : Posted} {tag : Nat} (st : Status) (old : Word) (hp : p.master = 0) (hr : d.porch.rmw = some tag)
    (hw : d.porch.waiting = []) :
    d.rmwReply p st old =
      ((d.complete 0 { status := st, words := [old] }).onPorch (fun q => { q with rmw := none })).porchReply 3 tag st p.addr 0
        (wordBytes old) := by
  have hc : (d.complete p.master { status := st, words := [old] }).porch = d.porch := rfl
  have hn : ((((d.complete 0 { status := st, words := [old] }).onPorch (fun q => { q with rmw := none })).porchReply 3 tag st p.addr 0
      (wordBytes old)).porch.waiting) = [] := by
    rw [(porchReply_keeps _ _ _ _ _ _ _).2]; exact hw
  rw [Device.rmwReply]
  dsimp only
  rw [hc, hr, hp]
  simp only [if_true]
  rw [hn]
  rfl

/-! The loss of a posted write. -/

theorem ite_eq_some_iff {α : Type} {c : Prop} [Decidable c] {x y : Option α} {v : α} :
    (if c then x else y) = some v ↔ c ∧ x = some v ∨ ¬c ∧ y = some v := by
  by_cases h : c <;> simp [h]

/-- The blocks and entries of the map stand at multiples of 32 (R40). -/
theorem locOf_base {a : Nat} {l : Loc} (h : locOf a = some l) : (a - l.off) % 32 = 0 := by
  have key : ∀ {b : Blk} {n o : Nat}, some (Loc.mk b n o) = some l → (a - o) % 32 = 0 → (a - l.off) % 32 = 0 := by
    rintro b n o ⟨⟩ h
    exact h
  unfold locOf at h
  simp only [ite_eq_some_iff, Option.map_eq_some_iff, reduceCtorEq, and_false, false_or, or_false] at h
  rcases h with ⟨-, b, -, hb⟩ | ⟨-, -, ⟨-, h⟩ | ⟨-, -, ⟨-, h⟩ | ⟨-, -, ⟨-, h⟩ | ⟨-, -, ⟨-, h⟩ | ⟨tc, ⟨-, h⟩ | ⟨pm, ⟨-, h⟩ |
    ⟨-, pages, ⟨-, h⟩ | ⟨-, gap, ⟨-, h⟩ | ⟨-, -, h⟩⟩⟩⟩⟩⟩⟩⟩⟩
  · exact key (congrArg some hb) (by omega)
  all_goals exact key h (by omega)

/-- The loss of a posted write: WRITE_LOST of its block, the count, the event and the report, with its domain stopped. -/
theorem losePosted_write {d : Device} {m : Domain} {p : Posted} {l : Loc} {q : List Posted} (h : popFor m (d.queueOf m) = some (p, q))
    (hk : ∀ mask v, p.kind ≠ .rmw mask v) (hl : locOf p.addr = some l) :
    d.losePosted m =
      (((((d.setQueue m q).domStop m).setBit (p.addr - l.off + 0xC) 9 true).inc 0x90).ev 0x54 4).raise
        { src := 22, addr := p.addr, master := p.master, access := 1, syndrome := 5 } := by
  rw [Device.losePosted, h]
  dsimp only
  split
  · exact absurd ‹_› (hk _ _)
  · rw [hl]

/-! The statement, clause by clause. -/

/-- A lost posted write (R72): what it leaves behind. -/
theorem losePosted_record {d : Device} {m : Domain} {p : Posted} {l : Loc} {q : List Posted} (h : popFor m (d.queueOf m) = some (p, q))
    (hk : ∀ mask v, p.kind ≠ .rmw mask v) (hl : locOf p.addr = some l) :
    (d.losePosted m).bit (p.addr - l.off + 0xC) 9 = true ∧ (d.losePosted m).bit 0x54 4 = true ∧
      KeepsBut [p.addr - l.off + 0xC, 0x90, 0x54] d (d.losePosted m) ∧ (d.losePosted m).queueOf m = q ∧
      (d.losePosted m).bus.stopped.contains m = true ∧ Raised (d.losePosted m) 22 := by
  have hb := locOf_base hl
  have h1 : p.addr - l.off + 0xC ≠ 0x90 := by omega
  have h2 : p.addr - l.off + 0xC ≠ 0x54 := by omega
  rw [losePosted_write h hk hl]
  refine ⟨?_, ?_, fun a ha => ?_, ?_, ?_, raised_raise _ rfl⟩
  · simp only [Device.bit, rd_raise, rd_ev, rd_inc, rd_setBit, h1, h2, if_false, if_true]
    exact bitAt_setFld_same _ true (by decide)
  · simp only [Device.bit, rd_raise, rd_ev, if_true]
    exact bitAt_setFld_same _ true (by decide)
  · simp only [List.mem_cons, List.not_mem_nil, or_false, not_or] at ha
    simp [rd_ev, rd_inc, rd_setBit, ha]
  · rw [queueOf_of_bus (d := (d.setQueue m q).domStop m) (by simp)]
    simp
  · simp only [raise_bus, ev_bus, inc_bus, setBit_bus]
    exact domStop_stopped _ _

/-- An RMW that nothing answers (R70, R72): its entry is gone, and no register changes but the record of the refusal. -/
theorem crossTimeout_record {d : Device} {dom : Domain} {m a : Nat} {mask v : Word} {q : List Posted} (hm : 0 < m)
    (h : popFor dom (d.queueOf dom) = some (⟨m, a, dom, .rmw mask v⟩, q)) :
    (d.crossTimeout dom).queueOf dom = q ∧ Raised (d.crossTimeout dom) 22 ∧
      KeepsBut [0x90, 0x54, 0xB0, 0xB4] d (d.crossTimeout dom) ∧
      tabGet {} (d.crossTimeout dom).bus.done m = { status := .timeout, words := [0] } := by
  rw [crossTimeout_rmw h, rmwReply_other _ _ _ (Nat.pos_iff_ne_zero.1 hm)]
  refine ⟨?_, (raised_raise _ rfl).of_fc rfl, fun b hb => ?_, done_complete _ _ _⟩
  · rw [queueOf_complete, queueOf_of_bus (d := d.setQueue dom q) (by simp), queueOf_setQueue]
  · rw [rd_complete, rd_raise, refused_keeps _ _ a rfl b hb, rd_setQueue]

/-- An RMW of the Porch that its domain has answered (R70, R622): nothing waits behind it. -/
theorem crossAnswer_porch {d : Device} {dom : Domain} {a tag : Nat} {mask v : Word} {q : List Posted} {ecc : Bool}
    {x : Status × Word × Device} (h : popFor dom (d.queueOf dom) = some (⟨0, a, dom, .rmw mask v⟩, q))
    (hx : ((d.setQueue dom q).domRun dom).rmwNow 0 a mask v ecc = x) (hp : d.porch.rmw = some tag) (ht : tag < 64)
    (hw : d.porch.waiting = []) (hk : x.2.2.porch = d.porch) :
    (d.crossAnswer dom ecc).porch.rmw = none ∧
      (x.2.2.porchUp = true → outgoing (d.crossAnswer dom ecc) = outgoing d ++
        [{ ttype := 3, tag := tag, status := x.1.code, addr := a, payload := wordBytes x.2.1 }]) := by
  have hpo : (x.2.2.refused { master := 0, rmw := true, wide := wideReg a } x.1 a).porch = d.porch := by rw [refused_porch, hk]
  rw [crossAnswer_rmw h hx, rmwReply_porch _ _ _ rfl (by rw [hpo]; exact hp) (by rw [hpo]; exact hw)]
  refine ⟨(porchReply_keeps _ _ _ _ _ _ _).1, fun hu => ?_⟩
  rw [outgoing_porchReply _ _ _ _ _ (by rw [noTag]; omega)]
  · have hu' : (x.2.2.refused { master := 0, rmw := true, wide := wideReg a } x.1 a).porch.unacked = d.porch.unacked := by rw [hpo]
    have hq' : (x.2.2.refused { master := 0, rmw := true, wide := wideReg a } x.1 a).porch.queue = d.porch.queue := by rw [hpo]
    exact congrArg (· ++ _) (outgoing_of_frames hu' hq')
  · rw [Device.porchUp, Device.get, rd_onPorch, rd_complete, rd_refused _ _ _ _ (by decide)]
    exact hu

/-- Settles O12, queue by queue: what is taken, what is lost, what a domain answers and what it does not. -/
theorem postedWritesAreTakenOrLost : Obligations.PostedWritesAreTakenOrLost := by
  intro s hlive
  have hrun : ∀ f : Device → Device, s.live f = .next (after s (f s.dev)) := fun f => live_run hlive f
  refine ⟨fun m v q h => ?_, fun dom p q h hk => ⟨?_, ?_, ?_⟩, fun dom p l q h hk hl => ?_, fun m mask v hm hm7 hs hd hq hp hl => ?_,
    fun dom ecc m a mask v q hm h => ?_, fun dom ecc a tag mask v q hp ht hw h => ?_, fun dom m a mask v q hm h => ?_,
    fun m mask v hm hm7 hq hp => ?_⟩
  · have he := takePosted_write h (by simp)
    rw [takeEffect_holdoverLimit] at he
    refine ⟨s.dev.takePosted .hearth, by rw [exec_postedWriteTakesEffect, hrun], ?_⟩
    rw [he]
    refine ⟨rd_wr_same _ _ _, fun a ha => ?_, ?_, domRun_runs _ _⟩
    · rw [rd_wr_ne _ _ (by simpa using ha), rd_domRun, rd_setQueue]
    · rw [queueOf_of_bus (wr_bus _ _ _), queueOf_domRun, queueOf_setQueue]
  · rw [exec_postedWriteTakesEffect, hrun, takePosted_write h hk]
  · rw [queueOf_domRun, queueOf_setQueue]
  · exact domRun_runs _ _
  · exact ⟨s.dev.losePosted dom, by rw [exec_postedWriteLost, hrun], losePosted_record h hk hl⟩
  · have hpop : popFor .hearth (s.dev.queueOf .hearth) = some (⟨m, 0x50024, .hearth, .rmw mask v⟩, []) := by rw [hq]; rfl
    have hrmw := rmwNow_holdoverLimit (d := (s.dev.setQueue .hearth []).domRun .hearth) (m := m) (mask := mask) (v := v)
      (by rw [staged_setQueue_domRun]; exact hs) (domRun_runs _ _) (hl _ rowOf_holdoverLimit)
    refine ⟨s.dev.crossAnswer .hearth false, by rw [exec_crossDomainRmwAnswer, hrun], ?_⟩
    rw [crossAnswer_rmw hpop hrmw, rmwReply_other _ _ _ (Nat.pos_iff_ne_zero.1 hm), refused_ok]
    refine ⟨?_, ?_, done_complete _ _ _⟩
    · rw [rd_complete, rd_covered _ (by decide), rd_wr_same, rd_domRun, rd_setQueue]
    · rw [queueOf_complete, queueOf_of_bus (covered_bus _), queueOf_of_bus (wr_bus _ _ _), queueOf_domRun, queueOf_setQueue]
  · have he := (crossAnswer_rmw (ecc := ecc) h rfl).trans (rmwReply_other _ _ _ (Nat.pos_iff_ne_zero.1 hm))
    exact ⟨_, s.dev.crossAnswer dom ecc, rfl, by rw [exec_crossDomainRmwAnswer, hrun], he, by rw [he]; exact done_complete _ _ _⟩
  · exact ⟨_, s.dev.crossAnswer dom ecc, rfl, by rw [exec_crossDomainRmwAnswer, hrun], crossAnswer_porch h rfl hp ht hw⟩
  · exact ⟨s.dev.crossTimeout dom, by rw [exec_crossDomainRmwTimeout, hrun], crossTimeout_record hm h⟩
  · have hpop : popFor .hearth (s.dev.queueOf .hearth) = some (⟨m, 0x50024, .hearth, .rmw mask v⟩, []) := by rw [hq]; rfl
    obtain ⟨hqueue, -, hkeeps, hdone⟩ := crossTimeout_record hm hpop
    exact ⟨s.dev.crossTimeout .hearth, by rw [exec_crossDomainRmwTimeout, hrun], hkeeps _ (by decide), hqueue, hdone⟩

end Sys2Proof.Machine
end

section
/-! SUPPORT. Operation records: what opening, stepping and closing one writes, and what it leaves (R83 to R88). -/

namespace Sys2Proof.Machine
open Sys2Proof Sys2Proof.Safety

/-- The addresses of GLOBAL an operation record can touch lie below 0x800. -/
theorem oprecBase_le {k : Nat} (h : k < 16) : oprecBase k + 0x40 ≤ 0x800 := by unfold oprecBase; omega
theorem oprecBase_ge (k : Nat) : 0x400 ≤ oprecBase k := by unfold oprecBase; omega

theorem opPick_of_regs {d d' : Device} (h : d'.regs = d.regs) : d'.opPick = d.opPick := by
  have key : ∀ x : Device, x.opPick = ({ State.reset.dev with regs := x.regs } : Device).opPick := fun _ => rfl
  rw [key, key d, h]

/-- The record picked is one of the sixteen (R83). -/
theorem opPick_lt {d : Device} {k : Nat} (h : d.opPick = some k) : k < 16 := by
  refine List.foldlRecOn (motive := fun o => ∀ y, o = some y → y < 16) _ _ (by simp) (fun b hb x hx y hy => ?_) k h
  have hx16 : x < 16 := List.mem_range.1 (List.mem_filter.1 hx).1
  cases b with
  | none => cases hy; exact hx16
  | some z =>
    dsimp only at hy
    split at hy
    · cases hy; exact hx16
    · exact hb y hy

theorem opOpen_some {d : Device} {kind origin total k : Nat} (h : d.opPick = some k) :
    d.opOpen kind origin total = (some k, d.opOpenAt k kind origin total) := by rw [Device.opOpen, h]

theorem opOpen_none {d : Device} {kind origin total : Nat} (h : d.opPick = none) :
    d.opOpen kind origin total = (none, (d.inc 0x9C).ev 0x54 6) := by rw [Device.opOpen, h]

/-! An operation record touches the register file alone. -/

theorem opOpenAt_only (d : Device) (k kind origin total : Nat) : OnlyRegs d (d.opOpenAt k kind origin total) :=
  ((((((((OnlyRegs.refl d).wr _ _).wr _ _).wr _ _).wr _ _).wr _ _).wr _ _).wr _ _).wrStamp _ |>.wr _ _

theorem opOpen_only (d : Device) (kind origin total : Nat) : OnlyRegs d (d.opOpen kind origin total).2 := by
  unfold Device.opOpen
  split
  · exact opOpenAt_only _ _ _ _ _
  · exact ((OnlyRegs.refl d).inc _).ev _ _

theorem opClose_only (d : Device) (k : Nat) (st : Status) : OnlyRegs d (d.opClose k st) :=
  ((((OnlyRegs.refl d).put _ _ _ _).put _ _ _ _).wrStamp _).ev _ _

theorem opSteps_only (d : Device) (k n : Nat) : OnlyRegs d (d.opSteps k n) := (OnlyRegs.refl d).wr _ _

/-! Its words. -/

/-- An opened record writes its own words, OPREC_LAST and OPREC_NEXT_ID. -/
theorem rd_opOpenAt_out (d : Device) {k a : Nat} (kind origin total : Nat) (h1 : a ≠ 0x100) (h2 : a ≠ 0x104)
    (h : a < oprecBase k ∨ oprecBase k + 0x30 ≤ a) : (d.opOpenAt k kind origin total).rd a = d.rd a := by
  unfold Device.opOpenAt
  rw [rd_wr_ne _ _ h1, rd_wrStamp_out _ (by omega)]
  iterate 5 rw [rd_wr_ne _ _ (by omega)]
  rw [rd_wr_ne _ _ h2, rd_wr_ne _ _ (by omega)]

/-- An operation that is opened, or refused for want of a record, leaves every register below 0x54 and from 0x800 up. -/
theorem rd_opOpen_outside (d : Device) (kind origin total : Nat) {a : Nat} (ha : a < 0x54 ∨ 0x800 ≤ a) :
    (d.opOpen kind origin total).2.rd a = d.rd a := by
  cases h : d.opPick with
  | none => rw [opOpen_none h, rd_ev_ne _ _ (by omega), rd_inc_ne _ (by omega)]
  | some k =>
    have hk := oprecBase_le (opPick_lt h)
    have hg := oprecBase_ge k
    rw [opOpen_some h, rd_opOpenAt_out _ _ _ _ (by omega) (by omega) (by omega)]

/-- The words of a record just opened (R83, R85): KIND, RUNNING and the steps to come. -/
theorem opOpenAt_words (d : Device) (k : Nat) {kind origin : Nat} (total : Nat) (hkind : kind < 256) (ho : origin < 16) :
    (d.opOpenAt k kind origin total).get (oprecBase k + 4) 0 8 = kind ∧ (d.opOpenAt k kind origin total).get (oprecBase k + 4) 12 2 = 1 ∧
      (d.opOpenAt k kind origin total).rd (oprecBase k + 8) = wd total := by
  have hb := oprecBase_ge k
  have h4 : (d.opOpenAt k kind origin total).rd (oprecBase k + 4) = wd (kind + 2 ^ 12 + 2 ^ 16 * origin) := by
    unfold Device.opOpenAt
    rw [rd_wr_ne _ _ (by omega), rd_wrStamp_out _ (by omega)]
    iterate 4 rw [rd_wr_ne _ _ (by omega)]
    rw [rd_wr_same]
  have hn : (wd (kind + 2 ^ 12 + 2 ^ 16 * origin)).toNat = kind + 2 ^ 12 + 2 ^ 16 * origin := wd_toNat (by omega)
  refine ⟨?_, ?_, ?_⟩
  · rw [Device.get, h4, fld, hn, Nat.shiftRight_zero]; omega
  · rw [Device.get, h4, fld, hn, Nat.shiftRight_eq_div_pow]; omega
  · unfold Device.opOpenAt
    rw [rd_wr_ne _ _ (by omega), rd_wrStamp_out _ (by omega)]
    iterate 3 rw [rd_wr_ne _ _ (by omega)]
    rw [rd_wr_same]

/-- A closed record writes its STATE word, its time stamp and OPREC_DONE. -/
theorem rd_opClose_out (d : Device) {k a : Nat} (st : Status) (h1 : a ≠ 0x54) (h : a ≠ oprecBase k + 4)
    (h2 : a < oprecBase k + 0x20 ∨ oprecBase k + 0x30 ≤ a) : (d.opClose k st).rd a = d.rd a := by
  rw [Device.opClose, rd_ev_ne _ _ h1, rd_wrStamp_out _ (by omega), rd_put_ne _ _ _ _ h, rd_put_ne _ _ _ _ h]

theorem rd_opClose_outside (d : Device) {k : Nat} (st : Status) (hk : k < 16) {a : Nat} (ha : a < 0x54 ∨ 0x800 ≤ a) :
    (d.opClose k st).rd a = d.rd a := by
  have := oprecBase_le hk
  have := oprecBase_ge k
  exact rd_opClose_out d st (by omega) (by omega) (by omega)

theorem Status.code_lt (st : Status) : st.code < 16 := by cases st <;> decide

/-- A closed record is DONE with its RESULT (R86). -/
theorem opClose_result (d : Device) (k : Nat) (st : Status) :
    (d.opClose k st).get (oprecBase k + 4) 12 2 = 2 ∧ (d.opClose k st).get (oprecBase k + 4) 8 4 = st.code := by
  have hb := oprecBase_ge k
  have h4 : (d.opClose k st).rd (oprecBase k + 4) = setFld (setFld (d.rd (oprecBase k + 4)) 8 4 st.code) 12 2 2 := by
    rw [Device.opClose, rd_ev_ne _ _ (by omega), rd_wrStamp_out _ (by omega), rd_put_same, rd_put_same]
  refine ⟨?_, ?_⟩
  · rw [Device.get, h4, fld_setFld_same _ _ (by decide)]
    rfl
  · rw [Device.get, h4, fld_setFld_ne _ _ (by decide) (by decide), fld_setFld_same _ _ (by decide)]
    exact Nat.mod_eq_of_lt (Status.code_lt st)

theorem rd_opSteps_ne (d : Device) {k n a : Nat} (h : a ≠ oprecBase k + 0xC) : (d.opSteps k n).rd a = d.rd a := rd_wr_ne _ _ h

end Sys2Proof.Machine
end

section
/-! SUPPORT. The Party Wall: what each of its operations does to its own state and to the registers (R525 to R546). -/

namespace Sys2Proof.Machine
open Sys2Proof Sys2Proof.Safety

/-! The commands of the link, as the runs of a live device. -/

theorem live_after {s : State} (h : Live s) (f : Device → Device) : s.live f = .next (after s (f s.dev)) := live_run h f
theorem path_followed {s : State} (h : Live s) (f : Device → Device) : s.path f = .next (followed s (f s.dev)) := path_run h f

theorem exec_idleReceived (s : State) : exec .idleReceived s = s.live (fun d => d.pwBegin.pwHear 1) := rfl
theorem exec_pwBadMessage (l : List Byte) (s : State) : exec (.pwBadMessage l) s = s.live (fun d => d.pwBad l) := rfl
theorem exec_pwIdleSend (s : State) : exec .pwIdleSend s = s.live (fun d => d.pwIdle) := rfl
theorem exec_pwLinkDown (s : State) : exec .pwLinkDown s = s.live (fun d => d.pwLinkDown) := rfl
theorem exec_managementCycleBoundary (idles held : Nat) (s : State) :
    exec (.managementCycleBoundary idles held) s = s.path (fun d => d.cycleBoundary idles held) := rfl
theorem exec_mirrorDeltaReceived (seq cycle : Nat) (last : Bool) (recs : List MirRec) (s : State) :
    exec (.mirrorDeltaReceived seq cycle last recs) s = s.path (fun d => d.mirrorDelta seq cycle last recs) := rfl
theorem exec_pmSnapReceived (seq : Nat) (last : Bool) (off : Nat) (data : List Word) (s : State) :
    exec (.pmSnapReceived seq last off data) s = s.live (fun d => d.pmSnap seq last off data) := rfl
theorem exec_resync (m : Nat) (s : State) : exec (.resync m) s = s.live (fun d => d.cmdWrite m 0x70020 2) := rfl
theorem exec_bulkReqReceived (s : State) : exec .bulkReqReceived s = s.live (fun d => d.bulkReq d.view) := rfl
theorem exec_bulkDataReceived (seq cycle off : Nat) (data : List Word) (recs : List MirRec) (s : State) :
    exec (.bulkDataReceived seq cycle off data recs) s = s.live (fun d => d.bulkData seq cycle off data recs) := rfl
theorem exec_bulkEndReceived (n : Nat) (c : Word) (s : State) : exec (.bulkEndReceived n c) s = s.path (fun d => d.bulkEnd n c) := rfl
theorem exec_digestReceived (cycle mask : Nat) (sums : List Word) (s : State) :
    exec (.digestReceived cycle mask sums) s = s.live (fun d => d.digestReceived cycle mask sums) := rfl
theorem exec_attestReqReceived (id n : Nat) (nonce : List Byte) (s : State) :
    exec (.attestReqReceived id n nonce) s = s.live (fun d => d.attestReq id n nonce) := rfl
theorem exec_attestRspReceived (id st : Nat) (report : List Byte) (s : State) :
    exec (.attestRspReceived id st report) s = s.live (fun d => d.attestRsp id st report) := rfl

/-! Roles and settings stand in registers. -/

theorem pwRole_of_rd {d d' : Device} (h : d'.rd 0x70014 = d.rd 0x70014) : d'.pwRole = d.pwRole := get_of_rd h _ _
theorem autoResync_of_rd {d d' : Device} (h : d'.rd 0x70010 = d.rd 0x70010) : d'.autoResync = d.autoResync := bit_of_rd h _
@[simp] theorem pwRole_onPw (d : Device) (f : PwSt → PwSt) : (d.onPw f).pwRole = d.pwRole := rfl
@[simp] theorem autoResync_onPw (d : Device) (f : PwSt → PwSt) : (d.onPw f).autoResync = d.autoResync := rfl

/-- Updates of the Party Wall alone follow one another. -/
@[simp] theorem onPw_onPw (d : Device) (f g : PwSt → PwSt) : (d.onPw f).onPw g = d.onPw (fun p => g (f p)) := rfl

theorem onPw_congr {d : Device} {f g : PwSt → PwSt} (h : f d.pw = g d.pw) : d.onPw f = d.onPw g := by rw [Device.onPw, Device.onPw, h]

/-! Updates of the Party Wall's own state alone. -/

/-- The Party Wall's own state alone may have changed. -/
def OnlyPw (d d' : Device) : Prop := d' = { d with pw := d'.pw }

theorem OnlyPw.refl (d : Device) : OnlyPw d d := rfl
theorem OnlyPw.trans {d d' d'' : Device} (h : OnlyPw d d') (h' : OnlyPw d' d'') : OnlyPw d d'' := by rw [OnlyPw, h', h]
theorem OnlyPw.regs {d d' : Device} (h : OnlyPw d d') : d'.regs = d.regs := by rw [h]
theorem onlyPw_onPw (d : Device) (f : PwSt → PwSt) : OnlyPw d (d.onPw f) := rfl

/-! Messages sent. -/

@[simp] theorem pwSend_regs (d : Device) (last : Bool) (b : PwBody) : (d.pwSend last b).regs = d.regs := rfl


theorem lastSent_of_out {d : Device} {l : List PwMsg} {m : PwMsg} (h : d.pw.out = l ++ [m]) : lastSent d = some m.body := by
  simp [lastSent, h]

theorem lastSent_of_pw {d d' : Device} (h : d'.pw.out = d.pw.out) : lastSent d' = lastSent d := by rw [lastSent, lastSent, h]

/-- A message sent stands last among those of its command. -/
theorem lastSent_pwSend (d : Device) (last : Bool) (b : PwBody) : lastSent (d.pwSend last b) = some b :=
  lastSent_of_out (l := d.pw.out)
    (m := ⟨last, d.pwSide, d.acting, if pwCounted b then (d.pw.txSeq + 1) % 2 ^ 32 else 0, d.pwCycle, b⟩) rfl

theorem pwSend_onlyPw (d : Device) (last : Bool) (b : PwBody) : OnlyPw d (d.pwSend last b) := rfl

theorem pwSendAll_onlyPw (l : List PwBody) : ∀ d : Device, OnlyPw d (d.pwSendAll l) := by
  induction l with
  | nil => exact OnlyPw.refl
  | cons b t ih => exact fun d => (pwSend_onlyPw d t.isEmpty b).trans (ih _)

/-! Messages heard (R525). -/

/-- The Party Wall when valid messages have arrived: counted, and the link up after 16 in succession. -/
def heard (n : Nat) (p : PwSt) : PwSt :=
  { p with out := [], good := min 16 (p.good + n), up := p.up || decide (16 ≤ min 16 (p.good + n)) }

/-- Messages that make no request of the device's own: with the link up, none due, or a role that makes none. -/
theorem begin_hear {d : Device} (n : Nat) (h : d.pw.up = true ∨ d.pw.reqDue = false ∨ d.pwRole ≠ 1) :
    d.pwBegin.pwHear n = d.onPw (heard n) := by
  by_cases hup : d.pw.up = true
  · simp [Device.pwHear, Device.pwBegin, Device.onPw, heard, hup]
  · rw [Bool.not_eq_true] at hup
    have hauto : d.pw.reqDue = true → ∀ f, (d.onPw f).pwAuto = d.onPw f := by
      intro hreq f
      have hrole : d.pwRole ≠ 1 := by simpa [hup, hreq] using h
      simp [Device.pwAuto, hrole]
    by_cases hg : 16 ≤ d.pw.good + n
    · cases hreq : d.pw.reqDue with
      | true =>
        simp only [Device.pwHear, Device.pwBegin, onPw_onPw, onPw_pw, hup, hreq, hauto hreq, Bool.not_false, Bool.true_and,
          decide_eq_true_eq, le_min_iff, le_refl, true_and, hg, if_true]
        exact onPw_congr (by simp [heard, hup, hg])
      | false => simp [Device.pwHear, Device.pwBegin, hup, hg, hreq, Device.onPw, heard]
    · simp [Device.pwHear, Device.pwBegin, Device.onPw, heard, hup, hg]

/-! What the ends and the beginnings of transfers leave (R544, R546). -/

/-- What fitness, an ended transfer and a new request leave: the registers below 0x54 and from 0x800 up but the events of PARTYWALL and BULK_OP,
the events that are set, the reports, the link and the SEQ received. -/
structure WallKept (d d' : Device) : Prop where
  regs : ∀ a, a < 0x54 ∨ 0x800 ≤ a → a ≠ 0x70018 → a ≠ 0x70068 → d'.rd a = d.rd a
  events : ∀ i, i < 32 → d.bit 0x70018 i = true → d'.bit 0x70018 i = true
  fc : d'.fc = d.fc
  rxSeq : d'.pw.rxSeq = d.pw.rxSeq
  up : d'.pw.up = d.pw.up
  aligned : d'.pw.aligned = d.pw.aligned
  good : d'.pw.good = d.pw.good
  unfit : d.pw.fit = false → d'.pw.fit = false
  op : (∀ k, d.pw.op = some k → k < 16) → ∀ k, d'.pw.op = some k → k < 16

theorem WallKept.refl (d : Device) : WallKept d d := ⟨fun _ _ _ _ => rfl, fun _ _ h => h, rfl, rfl, rfl, rfl, rfl, id, id⟩

theorem WallKept.trans {d d' d'' : Device} (h : WallKept d d') (h' : WallKept d' d'') : WallKept d d'' where
  regs a h1 h2 h3 := (h'.regs a h1 h2 h3).trans (h.regs a h1 h2 h3)
  events i hi hb := h'.events i hi (h.events i hi hb)
  fc := h'.fc.trans h.fc
  rxSeq := h'.rxSeq.trans h.rxSeq
  up := h'.up.trans h.up
  aligned := h'.aligned.trans h.aligned
  good := h'.good.trans h.good
  unfit hf := h'.unfit (h.unfit hf)
  op ho := h'.op (h.op ho)

theorem WallKept.role {d d' : Device} (h : WallKept d d') : d'.pwRole = d.pwRole :=
  pwRole_of_rd (h.regs _ (by decide) (by decide) (by decide))

theorem WallKept.auto {d d' : Device} (h : WallKept d d') : d'.autoResync = d.autoResync :=
  autoResync_of_rd (h.regs _ (by decide) (by decide) (by decide))

/-- An update of the register file that keeps these registers. -/
theorem WallKept.of_only {d d' : Device} (h : OnlyRegs d d') (hr : ∀ a, a < 0x54 ∨ 0x800 ≤ a → a ≠ 0x70018 → a ≠ 0x70068 → d'.rd a = d.rd a)
    (he : ∀ i, i < 32 → d.bit 0x70018 i = true → d'.bit 0x70018 i = true) : WallKept d d' where
  regs := hr
  events := he
  fc := h.fc
  rxSeq := by rw [h.pw]
  up := by rw [h.pw]
  aligned := by rw [h.pw]
  good := by rw [h.pw]
  unfit hf := by rw [h.pw, hf]
  op ho := by rw [h.pw]; exact ho

/-- An update of the Party Wall's own state that keeps these fields. -/
theorem WallKept.onPw (d : Device) {f : PwSt → PwSt} (hs : (f d.pw).rxSeq = d.pw.rxSeq) (hu : (f d.pw).up = d.pw.up)
    (ha : (f d.pw).aligned = d.pw.aligned) (hg : (f d.pw).good = d.pw.good) (hf : d.pw.fit = false → (f d.pw).fit = false)
    (ho : (∀ k, d.pw.op = some k → k < 16) → ∀ k, (f d.pw).op = some k → k < 16) : WallKept d (d.onPw f) :=
  ⟨fun _ _ _ _ => rfl, fun _ _ h => h, rfl, hs, hu, ha, hg, hf, ho⟩

theorem opClose_wallKept (d : Device) {k : Nat} (st : Status) (hk : k < 16) : WallKept d (d.opClose k st) :=
  .of_only (opClose_only d k st) (fun _ h _ _ => rd_opClose_outside d st hk h)
    (fun i _ h => by rwa [bit_of_rd (rd_opClose_outside d st hk (by decide)) i])

theorem ev_wallKept (d : Device) {i : Nat} (hi : i < 32) : WallKept d (d.ev 0x70018 i) :=
  .of_only ((OnlyRegs.refl d).ev _ _) (fun _ _ h _ => rd_ev_ne d i h) (fun _ hj h => bit_ev_mono i hj hi h)

/-- A device of another role has no fitness. -/
theorem pwUnfit_other {d : Device} {cause : Nat} (h : d.pwRole ≠ 1) : d.pwUnfit cause = d := if_neg h

theorem pwUnfit_standby {d : Device} (cause : Nat) (h : d.pwRole = 1) :
    d.pwUnfit cause = (d.onPw (fun p => { p with fit := false, unfit := cause, spoiled := true })).when d.pw.fit (·.ev 0x70018 5) :=
  if_pos h

/-- A STANDBY device that becomes UNFIT holds the cause. -/
theorem pwUnfit_pw {d : Device} (cause : Nat) (h : d.pwRole = 1) :
    (d.pwUnfit cause).pw = { d.pw with fit := false, unfit := cause, spoiled := true } := by
  rw [pwUnfit_standby cause h]
  cases d.pw.fit <;> rfl

theorem pwUnfit_wallKept (d : Device) (cause : Nat) : WallKept d (d.pwUnfit cause) := by
  by_cases h : d.pwRole = 1
  · rw [pwUnfit_standby cause h]
    have hp : WallKept d (d.onPw (fun p => { p with fit := false, unfit := cause, spoiled := true })) :=
      .onPw d rfl rfl rfl rfl (fun _ => rfl) id
    exact when_ind (P := WallKept d) hp (fun _ => hp.trans (ev_wallKept _ (by decide)))
  · rw [pwUnfit_other h]; exact .refl d

theorem pwBulkDrop_idle {d : Device} (h : d.pw.bulk = false) : d.pwBulkDrop = d := by simp [Device.pwBulkDrop, h]

/-- A transfer that ends ABANDONED: its record closed. -/
theorem pwBulkDrop_some {d : Device} {k : Nat} (h : d.pw.bulk = true) (hk : d.pw.op = some k) :
    d.pwBulkDrop = (d.opClose k .abandoned).onPw (fun p =>
      { p with
          bulk := false, op := none, image := [], carried := [], queued := [], spoiled := true
          held := p.held.filter (fun e => !pwBulkPart e.2.body) }) := by
  simp [Device.pwBulkDrop, h, hk]

theorem pwBulkDrop_none {d : Device} (h : d.pw.bulk = true) (hk : d.pw.op = none) :
    d.pwBulkDrop = d.onPw (fun p =>
      { p with
          bulk := false, op := none, image := [], carried := [], queued := [], spoiled := true
          held := p.held.filter (fun e => !pwBulkPart e.2.body) }) := by
  simp [Device.pwBulkDrop, h, hk]

theorem pwBulkDrop_wallKept {d : Device} (hop : ∀ k, d.pw.op = some k → k < 16) : WallKept d d.pwBulkDrop := by
  by_cases h : d.pw.bulk = true
  · cases hk : d.pw.op with
    | none =>
      rw [pwBulkDrop_none h hk]
      exact .onPw d rfl rfl rfl rfl id (fun _ => by simp)
    | some k =>
      rw [pwBulkDrop_some h hk]
      exact (opClose_wallKept d _ (hop k hk)).trans (.onPw _ rfl rfl rfl rfl id (fun _ => by simp))
  · rw [pwBulkDrop_idle (by simpa using h)]; exact .refl d

/-- A request for a bulk transfer that finds a record (R546). -/
theorem pwBulkReq_some {d : Device} {origin k : Nat} (h : d.pwBulkDrop.opPick = some k) :
    d.pwBulkReq origin =
      (.ok, (((((d.pwBulkDrop.opOpenAt k 7 origin 389).wr 0x70068 ((d.pwBulkDrop.opOpenAt k 7 origin 389).opId k)).onPw (fun p =>
        { p with bulk := true, op := some k, image := [], carried := [], queued := [], reqDue := false })).pwUnfit 3).pwSend false .bulkReq)) := by
  rw [Device.pwBulkReq, opOpen_some h]

theorem pwBulkReq_none {d : Device} {origin : Nat} (h : d.pwBulkDrop.opPick = none) :
    d.pwBulkReq origin = (.busy, (d.pwBulkDrop.inc 0x9C).ev 0x54 6) := by
  rw [Device.pwBulkReq, opOpen_none h]

theorem pwSend_wallKept (d : Device) (last : Bool) (b : PwBody) : WallKept d (d.pwSend last b) :=
  ⟨fun _ _ _ _ => rfl, fun _ _ h => h, rfl, rfl, rfl, rfl, rfl, id, id⟩

theorem opOpen_wallKept (d : Device) (kind origin total : Nat) : WallKept d (d.opOpen kind origin total).2 :=
  .of_only (opOpen_only d kind origin total) (fun _ h _ _ => rd_opOpen_outside d kind origin total h)
    (fun i _ h => by rwa [bit_of_rd (rd_opOpen_outside d kind origin total (by decide)) i])

theorem pwBulkReq_wallKept {d : Device} (origin : Nat) (hop : ∀ k, d.pw.op = some k → k < 16) : WallKept d (d.pwBulkReq origin).2 := by
  have hdrop := pwBulkDrop_wallKept hop
  have hopen := hdrop.trans (opOpen_wallKept d.pwBulkDrop 7 origin 389)
  cases h : d.pwBulkDrop.opPick with
  | none =>
    rw [opOpen_none h] at hopen
    rw [pwBulkReq_none h]
    exact hopen
  | some k =>
    rw [opOpen_some h] at hopen
    rw [pwBulkReq_some h]
    have hid : WallKept (d.pwBulkDrop.opOpenAt k 7 origin 389)
        ((d.pwBulkDrop.opOpenAt k 7 origin 389).wr 0x70068 ((d.pwBulkDrop.opOpenAt k 7 origin 389).opId k)) :=
      .of_only ((OnlyRegs.refl _).wr _ _) (fun _ _ _ h => rd_wr_ne _ _ h) (fun i _ h => by rwa [bit_of_rd (rd_wr_ne _ _ (by decide)) i])
    refine (((hopen.trans hid).trans (.onPw _ rfl rfl rfl rfl id (fun _ j hj => ?_))).trans (pwUnfit_wallKept _ 3)).trans
      (pwSend_wallKept _ _ _)
    cases hj
    exact opPick_lt h

theorem pwAuto_wallKept {d : Device} (hop : ∀ k, d.pw.op = some k → k < 16) : WallKept d d.pwAuto := by
  unfold Device.pwAuto
  split
  · split
    · exact pwBulkReq_wallKept 5 hop
    · exact .onPw d rfl rfl rfl rfl id id
  · exact .refl d

/-! The SEQ of counted messages (R526, R528). -/

/-- A message that follows the one before. -/
theorem pwSeq_next {d : Device} {seq : Nat} (h : d.pw.rxSeq = none ∨ d.pw.rxSeq = some ((seq + 2 ^ 32 - 1) % 2 ^ 32)) (hs : d.pw.rxSeq = none ∨ seq < 2 ^ 32) :
    d.pwSeq seq = d.onPw (fun p => { p with rxSeq := some seq }) := by
  rcases h with h | h
  · simp [Device.pwSeq, h]
  · have hlt : seq < 2 ^ 32 := by
      rcases hs with hs | hs
      · rw [hs] at h; cases h
      · exact hs
    have he : seq = ((seq + 2 ^ 32 - 1) % 2 ^ 32 + 1) % 2 ^ 32 := by omega
    simp only [Device.pwSeq, h]
    rw [if_pos he]

/-- A gap of SEQ: what it counts and reports before it ends a transfer. -/
theorem pwSeq_gap {d : Device} {seq n : Nat} (h : d.pw.rxSeq = some n) (hn : seq ≠ (n + 1) % 2 ^ 32) :
    d.pwSeq seq =
      ((((((d.onPw (fun p => { p with rxSeq := some seq })).inc 0x70054).raiseSrc 28).onPw (fun p =>
        { p with snapGap := true })).pwBulkDrop).pwUnfit 2).pwAuto := by
  simp only [Device.pwSeq, h, if_neg hn]

/-! A message for MC1 (R21, R538). -/

theorem pwTake_other {d : Device} {m : PwMsg} {f : Device → Device} (h : d.pwRole ≠ 1) : d.pwTake m f = d := if_pos h

theorem pwTake_away {d : Device} {m : PwMsg} {f : Device → Device} (h : d.pwRole = 1) (ha : d.cores.mc1Away = true) :
    d.pwTake m f = d.onPw (fun p => { p with held := p.held ++ [(p.snapGap, m)], snapGap := false }) := by
  rw [Device.pwTake, if_neg (not_not.2 h), if_pos ha]

theorem pwTake_here {d : Device} {m : PwMsg} {f : Device → Device} (h : d.pwRole = 1) (ha : d.cores.mc1Away = false) :
    d.pwTake m f = f d := by
  rw [Device.pwTake, if_neg (not_not.2 h), if_neg (by simp [ha])]

end Sys2Proof.Machine
end

section
/-! PROOFS. The Party Wall link (R525 to R528), the management cycle (R531, R542), mirror deltas and PM snapshots (R537, R538,
R541). -/

namespace Sys2Proof.Machine
open Sys2Proof Sys2Proof.Safety

/-! The link. -/

theorem pwBad_invalid {d : Device} {l : List Byte} (h : pwValid l = false) :
    d.pwBad l = ((d.onPw (fun p => { p with good := 0 })).inc 0x70050).raiseSrc 28 := by
  rw [Device.pwBad, if_neg (by simp [h])]

/-- A message that is not valid (R527): the run starts again, the count, the report. -/
theorem pwBad_counts {d : Device} {l : List Byte} (h : pwValid l = false) :
    (d.pwBad l).pw = { d.pw with good := 0 } ∧ Raised (d.pwBad l) 28 ∧
      (d.pwBad l).rd 0x70050 = wd (satAdd 32 (d.rd 0x70050).toNat 1) ∧ KeepsBut [0x70050] d (d.pwBad l) := by
  rw [pwBad_invalid h]
  refine ⟨by simp, raised_raiseSrc _ _, ?_, fun a ha => ?_⟩
  · rw [rd_raiseSrc, rd_inc, if_pos rfl, rd_onPw]
  · rw [rd_raiseSrc, rd_inc_ne _ (by simpa using ha), rd_onPw]

/-- The device the link leaves when it goes down, before fitness and transfers follow. -/
def linkLost (d : Device) : Device :=
  ((d.onPw (fun p => { p with up := false, good := 0, aligned := false, alignRun := 0, mateStandby := false })).ev 0x70018 6).raiseSrc 28

theorem pwLinkDown_up {d : Device} (h : d.pw.up = true) :
    d.pwLinkDown = ((((if d.pw.aligned then (linkLost d).pwUnfit 4 else linkLost d).pwBulkDrop).pwUnfit 2).pwAuto) := by
  rw [Device.pwLinkDown, if_pos h]; rfl

theorem linkLost_pw (d : Device) :
    (linkLost d).pw = { d.pw with up := false, good := 0, aligned := false, alignRun := 0, mateStandby := false } := by
  simp [linkLost]

theorem rd_linkLost {d : Device} {a : Nat} (h : a ≠ 0x70018) : (linkLost d).rd a = d.rd a := by
  rw [linkLost, rd_raiseSrc, rd_ev_ne _ _ h, rd_onPw]

/-- A request of the device's own with the link down waits for it. -/
theorem pwAuto_down {d : Device} (h : d.pw.up = false) (hr : d.pwRole = 1) :
    d.pwAuto = if d.autoResync then d.onPw (fun p => { p with reqDue := true }) else d := by
  cases ha : d.autoResync <;> simp [Device.pwAuto, ha, hr, h]

/-- The link goes down (R525, R544, R546). -/
theorem pwLinkDown_keeps {d : Device} (h : d.pw.up = true) (hop : ∀ k, d.pw.op = some k → k < 16) :
    d.pwLinkDown.pw.up = false ∧ d.pwLinkDown.pw.aligned = false ∧ d.pwLinkDown.pw.good = 0 ∧ d.pwLinkDown.bit 0x70018 6 = true ∧
      Raised d.pwLinkDown 28 ∧
      (d.pwRole = 1 → d.pwLinkDown.pw.fit = false ∧ d.pwLinkDown.pw.unfit = 2 ∧ (d.autoResync = true → d.pwLinkDown.pw.reqDue = true)) := by
  rw [pwLinkDown_up h]
  generalize hd2 : (if d.pw.aligned = true then (linkLost d).pwUnfit 4 else linkLost d) = d2
  have k2 : WallKept (linkLost d) d2 := by
    subst hd2
    split
    · exact pwUnfit_wallKept _ _
    · exact .refl _
  have hop1 : ∀ k, (linkLost d).pw.op = some k → k < 16 := by rw [linkLost_pw]; exact hop
  have k3 := k2.trans (pwBulkDrop_wallKept (k2.op hop1))
  have k4 := k3.trans (pwUnfit_wallKept d2.pwBulkDrop 2)
  have k5 := k4.trans (pwAuto_wallKept (k4.op hop1))
  refine ⟨by rw [k5.up, linkLost_pw], by rw [k5.aligned, linkLost_pw], by rw [k5.good, linkLost_pw], k5.events 6 (by decide) ?_,
    (raised_raiseSrc _ 28).of_fc k5.fc, fun hrole => ?_⟩
  · rw [linkLost, bit_of_rd (rd_raiseSrc _ _ _)]
    exact bit_ev_same _ _ (by decide)
  · have h3 : d2.pwBulkDrop.pwRole = 1 := by rw [k3.role, pwRole_of_rd (rd_linkLost (by decide))]; exact hrole
    have h4 : (d2.pwBulkDrop.pwUnfit 2).pwRole = 1 := by rw [(pwUnfit_wallKept _ 2).role]; exact h3
    have hauto : (d2.pwBulkDrop.pwUnfit 2).autoResync = d.autoResync := by rw [k4.auto, autoResync_of_rd (rd_linkLost (by decide))]
    rw [pwAuto_down (by rw [k4.up, linkLost_pw]) h4, hauto]
    cases ha : d.autoResync <;> simp [pwUnfit_pw 2 h3]

/-! The management cycle (R531, R542). -/

/-- What a new cycle takes of the ended one. -/
def cycleTaken (d : Device) (idles held : Nat) : Device :=
  (d.onPw (heard idles)).onPw (fun p =>
    { p with own := some ((d.pwCycle + 2 ^ 28 - 1) % 2 ^ 28, held ||| d.heldMask ||| p.moved, d.digests), moved := 0, begun := [] })

theorem cycleBoundary_other {d : Device} {idles held : Nat} (hc : (d.rd 0xC001C).toNat % 16 = 0) (hr : d.pwRole ≠ 2) (hu : d.pw.up = true) :
    d.cycleBoundary idles held = (cycleTaken d idles held).mirNote := by
  have hrole : (cycleTaken d idles held).pwRole ≠ 2 := hr
  simp only [Device.cycleBoundary, hc, begin_hear idles (.inl hu)]
  exact if_neg hrole

/-- What an acting device sends first: the deltas and the snapshot that is due, when MC1 is present. -/
def cycleMirrored (d1 : Device) : Device :=
  if d1.cores.mc1Away then d1
  else
    (fun d2 : Device => (if d2.pw.snapDue then d2.pmSnapSend.onPw (fun p => { p with snapDue := false }) else d2).mirNote)
      (d1.pwSendAll ((mirChunks d1.mirDelta [] 0).map .delta))

theorem mirNote_onlyPw (d : Device) : OnlyPw d d.mirNote := rfl

/-- The deltas and the snapshot go out, and nothing but the Party Wall's own state changes. -/
theorem cycleMirrored_onlyPw (d : Device) : OnlyPw d (cycleMirrored d) := by
  unfold cycleMirrored
  split
  · exact .refl d
  · have h := pwSendAll_onlyPw ((mirChunks d.mirDelta [] 0).map .delta) d
    refine OnlyPw.trans ?_ (mirNote_onlyPw _)
    split
    · exact (h.trans (pwSendAll_onlyPw _ _)).trans (onlyPw_onPw _ _)
    · exact h

/-- The LEASE of a cycle (R531): one number up, remembered with its time. -/
def leaseSent (d3 : Device) (t : Nat) : Device :=
  (fun num : Nat =>
    ((d3.pwSend false (.lease num (d3.get 0x70010 0 7))).wr 0x70034 (wd num)).onPw (fun p => { p with sent := ((num, t) :: p.sent).take 64 }))
  (((d3.rd 0x70034).toNat + 1) % 2 ^ 32)

theorem cycleBoundary_acting {d : Device} {idles held : Nat} (hc : (d.rd 0xC001C).toNat % 16 = 0) (hr : d.pwRole = 2) :
    d.cycleBoundary idles held =
      leaseSent ((cycleMirrored (cycleTaken d idles held)).pwSend true
        (.digest ((d.pwCycle + 2 ^ 28 - 1) % 2 ^ 28) (0xFFFF - (held ||| d.heldMask) % 2 ^ 16) d.digests)) d.uptime := by
  have hrole : (cycleTaken d idles held).pwRole = 2 := hr
  have hhear : d.pwBegin.pwHear idles = d.onPw (heard idles) := begin_hear idles (.inr (.inr (by rw [hr]; decide)))
  rw [Device.cycleBoundary, if_neg (not_not.2 hc), hhear]
  unfold leaseSent cycleMirrored
  unfold cycleTaken at hrole ⊢
  exact if_pos hrole

/-- A LEASE goes out one number up, and its number stands in LEASE_NUM. -/
theorem leaseSent_sends (d : Device) (t : Nat) :
    (leaseSent d t).rd 0x70034 = wd (((d.rd 0x70034).toNat + 1) % 2 ^ 32) ∧
      lastSent (leaseSent d t) = some (.lease (((d.rd 0x70034).toNat + 1) % 2 ^ 32) (d.get 0x70010 0 7)) ∧
      (leaseSent d t).pw.sent.head? = some (((d.rd 0x70034).toNat + 1) % 2 ^ 32, t) ∧
      (∀ x ∈ d.pw.out, x ∈ (leaseSent d t).pw.out) ∧ KeepsBut [0x70034] d (leaseSent d t) := by
  unfold leaseSent
  generalize ((d.rd 0x70034).toNat + 1) % 2 ^ 32 = num
  dsimp only
  refine ⟨by rw [rd_onPw, rd_wr_same], (lastSent_of_pw rfl).trans (lastSent_pwSend d false _), rfl, fun x hx => List.mem_append_left _ hx,
    fun a ha => ?_⟩
  rw [rd_onPw, rd_wr_ne _ _ (by simpa using ha)]
  rfl

theorem mem_pwSend (d : Device) (last : Bool) (b : PwBody) : ∃ x ∈ (d.pwSend last b).pw.out, x.body = b :=
  ⟨⟨last, d.pwSide, d.acting, if pwCounted b then (d.pw.txSeq + 1) % 2 ^ 32 else 0, d.pwCycle, b⟩,
    List.mem_append_right _ (List.mem_singleton_self _), rfl⟩

/-- An acting device's boundary (R531, R542): the digests, then a LEASE one number up. -/
theorem cycleBoundary_sends {d : Device} (idles held : Nat) (hc : (d.rd 0xC001C).toNat % 16 = 0) (hr : d.pwRole = 2) :
    (d.cycleBoundary idles held).rd 0x70034 = wd (((d.rd 0x70034).toNat + 1) % 2 ^ 32) ∧
      lastSent (d.cycleBoundary idles held) = some (.lease (((d.rd 0x70034).toNat + 1) % 2 ^ 32) (d.get 0x70010 0 7)) ∧
      (d.cycleBoundary idles held).pw.sent.head? = some (((d.rd 0x70034).toNat + 1) % 2 ^ 32, d.uptime) ∧
      (∃ x ∈ (d.cycleBoundary idles held).pw.out, x.body =
        .digest ((d.pwCycle + 2 ^ 28 - 1) % 2 ^ 28) (0xFFFF - (held ||| d.heldMask) % 2 ^ 16) d.digests) ∧
      KeepsBut [0x70034] d (d.cycleBoundary idles held) := by
  have hregs : (cycleMirrored (cycleTaken d idles held)).regs = d.regs := by
    rw [(cycleMirrored_onlyPw _).regs, cycleTaken, onPw_regs, onPw_regs]
  rw [cycleBoundary_acting hc hr]
  generalize cycleMirrored (cycleTaken d idles held) = d2 at hregs ⊢
  have hmem := mem_pwSend d2 true (.digest ((d.pwCycle + 2 ^ 28 - 1) % 2 ^ 28) (0xFFFF - (held ||| d.heldMask) % 2 ^ 16) d.digests)
  rw [← pwSend_regs d2 true (.digest ((d.pwCycle + 2 ^ 28 - 1) % 2 ^ 28) (0xFFFF - (held ||| d.heldMask) % 2 ^ 16) d.digests)] at hregs
  generalize d2.pwSend true (.digest ((d.pwCycle + 2 ^ 28 - 1) % 2 ^ 28) (0xFFFF - (held ||| d.heldMask) % 2 ^ 16) d.digests) = d3
    at hmem hregs ⊢
  obtain ⟨hnum, hlast, hhead, hout, hkeep⟩ := leaseSent_sends d3 d.uptime
  rw [rd_of_regs hregs] at hnum hlast hhead
  rw [get_of_rd (rd_of_regs hregs _)] at hlast
  obtain ⟨x, hx, hb⟩ := hmem
  exact ⟨hnum, hlast, hhead, ⟨x, hout x hx, hb⟩, (KeepsBut.of_regs hregs _).trans hkeep⟩

/-! Mirror deltas (R528, R538). -/

/-- The Party Wall when a counted message has arrived. -/
def counted (seq : Nat) (p : PwSt) : PwSt := { heard 1 p with rxSeq := some seq }

/-- A counted message that follows the one before, with the link up. -/
theorem begin_counted {d : Device} {seq : Nat} (hu : d.pw.up = true)
    (h : d.pw.rxSeq = none ∨ d.pw.rxSeq = some ((seq + 2 ^ 32 - 1) % 2 ^ 32)) (hs : d.pw.rxSeq = none ∨ seq < 2 ^ 32) :
    (d.pwBegin.pwHear 1).pwSeq seq = d.onPw (counted seq) := by
  rw [begin_hear 1 (.inl hu), pwSeq_next (d := d.onPw (heard 1)) h hs]
  rfl

theorem mirrorDelta_next {d : Device} {seq cycle : Nat} {last : Bool} {recs : List MirRec} (hu : d.pw.up = true)
    (h : d.pw.rxSeq = none ∨ d.pw.rxSeq = some ((seq + 2 ^ 32 - 1) % 2 ^ 32)) (hs : seq < 2 ^ 32) :
    d.mirrorDelta seq cycle last recs =
      (d.onPw (counted seq)).pwTake ⟨last, d.pw.mateSide, true, seq, cycle, .delta recs⟩
        (·.mirUse ⟨last, d.pw.mateSide, true, seq, cycle, .delta recs⟩ recs) := by
  rw [Device.mirrorDelta]
  dsimp only
  rw [begin_counted hu h (.inr hs)]

/-- MC1 of a standby takes the records of a delta, outside a transfer. -/
theorem mirUse_idle {d : Device} {m : PwMsg} {recs : List MirRec} (h : d.pw.bulk = false) :
    d.mirUse m recs = recs.foldl Device.mirApply d := by simp [Device.mirUse, h]

theorem mirUse_bulk {d : Device} {m : PwMsg} {recs : List MirRec} (h : d.pw.bulk = true) :
    d.mirUse m recs = d.onPw (fun p => { p with queued := p.queued ++ [m] }) := by simp [Device.mirUse, h]

/-- The marks of moved slices are the Party Wall's own. -/
theorem pwMoved_sel (d : Device) (mask i : Nat) : (d.pwMoved mask).sel i = d.sel i := rfl

/-- A selector record is taken (R538). -/
theorem mirApply_sel (d : Device) (i : Nat) (c : MirSel) : ((d.mirApply ⟨1, i, .sel c⟩).sel i).c = (d.sel i).c.take c := by
  have h : ((d.setSelC i ((d.sel i).c.take c)).sel i).c = (d.sel i).c.take c := by rw [Device.setSelC, sel_setSel]
  exact when_ind (P := fun x => (x.sel i).c = (d.sel i).c.take c) h (fun _ => by rw [pwMoved_sel]; exact h)

theorem mirApply_hearth (d : Device) (x : Option Nat) (st : Nat) (f : Word) (v : Bool) :
    d.mirApply ⟨7, 0, .hearth x st f v⟩ = d.onHearth (fun h => { h with mirSlot := x, mirFreq := if v then some f else none }) := rfl

/-- A defect word is compared with the device's own (R538). -/
theorem mirApply_defects (d : Device) (k : Nat) (w : Word) :
    (d.mirApply ⟨3, k, .defects w⟩).rd 0x7004C = if d.tcWord k = w then d.rd 0x7004C else wd (satAdd 32 (d.rd 0x7004C).toNat 1) := by
  have h : d.mirApply ⟨3, k, .defects w⟩ = if d.tcWord k = w then d else d.inc 0x7004C := rfl
  rw [h]
  split
  · rfl
  · rw [rd_inc, if_pos rfl]

/-- The defect word of a tributary does not depend on the Party Wall's own state. -/
theorem tcWord_onPw (d : Device) (f : PwSt → PwSt) (k : Nat) : (d.onPw f).tcWord k = d.tcWord k := rfl

/-- A delta without records leaves what a gap left. -/
theorem pwTake_empty_wallKept (d : Device) (m : PwMsg) : WallKept d (d.pwTake m (·.mirUse m [])) := by
  by_cases hr : d.pwRole = 1
  · cases ha : d.cores.mc1Away with
    | true => rw [pwTake_away hr ha]; exact .onPw d rfl rfl rfl rfl id id
    | false =>
      rw [pwTake_here hr ha]
      cases hb : d.pw.bulk with
      | true => rw [mirUse_bulk hb]; exact .onPw d rfl rfl rfl rfl id id
      | false => rw [mirUse_idle hb]; exact .refl d
  · rw [pwTake_other hr]; exact .refl d

/-- A gap of SEQ (R528, R544): counted, reported, and a STANDBY device UNFIT. -/
theorem mirrorDelta_gap {d : Device} {seq cycle n : Nat} {last : Bool} (hu : d.pw.up = true) (h : d.pw.rxSeq = some n)
    (hn : seq ≠ (n + 1) % 2 ^ 32) (hop : ∀ k, d.pw.op = some k → k < 16) :
    Raised (d.mirrorDelta seq cycle last []) 28 ∧ (d.mirrorDelta seq cycle last []).pw.rxSeq = some seq ∧
      (d.mirrorDelta seq cycle last []).rd 0x70054 = wd (satAdd 32 (d.rd 0x70054).toNat 1) ∧
      (d.pwRole = 1 → (d.mirrorDelta seq cycle last []).pw.fit = false) := by
  rw [Device.mirrorDelta]
  dsimp only
  rw [begin_hear 1 (.inl hu), pwSeq_gap (d := d.onPw (heard 1)) h hn]
  generalize hd1 : (((d.onPw (heard 1)).onPw (fun p => { p with rxSeq := some seq })).inc 0x70054).raiseSrc 28 = d1
  have hpw : d1.pw = counted seq d.pw := by subst hd1; simp [counted]
  have hcount : d1.rd 0x70054 = wd (satAdd 32 (d.rd 0x70054).toNat 1) := by
    subst hd1
    rw [rd_raiseSrc, rd_inc, if_pos rfl]
    rfl
  have hrole : d1.pwRole = d.pwRole := by
    subst hd1
    exact pwRole_of_rd (by rw [rd_raiseSrc, rd_inc_ne _ (by decide)]; rfl)
  have hraised : Raised d1 28 := by subst hd1; exact raised_raiseSrc _ _
  have hop1 : ∀ k, d1.pw.op = some k → k < 16 := by rw [hpw]; exact hop
  have k2 : WallKept d1 (d1.onPw (fun p => { p with snapGap := true })) := .onPw d1 rfl rfl rfl rfl id id
  have k3 := k2.trans (pwBulkDrop_wallKept (k2.op hop1))
  have k4 := k3.trans (pwUnfit_wallKept _ 2)
  have k5 := pwAuto_wallKept (k4.op hop1)
  have k6 := k5.trans (pwTake_empty_wallKept _ ⟨last, d.pw.mateSide, true, seq, cycle, .delta []⟩)
  have k := k4.trans k6
  refine ⟨hraised.of_fc k.fc, by rw [k.rxSeq, hpw]; rfl, by rw [k.regs _ (by decide) (by decide) (by decide), hcount],
    fun hr => k6.unfit ?_⟩
  rw [pwUnfit_pw 2 (by rw [k3.role, hrole, hr])]

/-! PM snapshots (R541). -/

/-- A PM_SNAP with the link up, the first counted message. -/
theorem pmSnap_first {d : Device} {seq off : Nat} {last : Bool} {data : List Word} (hu : d.pw.up = true) (h : d.pw.rxSeq = none) :
    d.pmSnap seq last off data =
      (d.onPw (counted seq)).pwTake ⟨last, d.pw.mateSide, true, seq, d.pwCycle, .pmSnap off data⟩ (·.snapUse last off data) := by
  rw [Device.pmSnap, begin_counted hu (.inl h) (.inl h)]

/-- The first piece of a snapshot begins it anew. -/
theorem snapUse_start (d : Device) (data : List Word) :
    d.snapUse false 0 data = d.onPw (fun p => { p with snap := [(0, data)], snapGap := false }) := rfl

/-- The words of a point's bins stand in the PM store as its registers (R429). -/
theorem pmStoreTake_bins (d : Device) {p : Nat} (w : Word) (hp : p < 274688) :
    d.pmStoreTake (32 * p + 16) w = d.wr (pmBase p + 0x10) w := by
  have ha : 0x03000000 + (32 * p + 16) = pmBase p + 0x10 := by unfold pmBase; omega
  rw [Device.pmStoreTake, if_neg (by omega), if_neg (by omega), ha]

/-- At LAST of a snapshot without a gap its words are taken. -/
theorem snapUse_last {d : Device} {p : Nat} (w : Word) (hp : p < 274688) (hs : d.pw.snap = []) (hg : d.pw.snapGap = false) :
    d.snapUse true (32 * p + 16) [w] =
      ((d.onPw (fun q => { q with snap := [(32 * p + 16, [w])] })).wr (pmBase p + 0x10) w).onPw (fun q =>
        { q with snap := [], snapGap := false }) := by
  have ho : 32 * p + 16 ≠ 0 := by omega
  simp only [Device.snapUse, if_neg ho, onPw_pw, hs, hg, List.nil_append, if_true, Bool.false_eq_true, if_false, List.foldl_cons,
    List.foldl_nil, Device.takeWords]
  rw [pmStoreTake_bins _ w hp]
  rfl

/-- Settles O48, clause by clause from the rules above. -/
theorem thePartyWallLinkMirrorsAndCounts : Obligations.ThePartyWallLinkMirrorsAndCounts := by
  intro s hlive
  refine ⟨fun hreq => ?_, fun l hl => ?_, fun l hl => ?_, ?_, fun hu hop => ?_, fun hu => ?_, fun idles held => ⟨fun hc => ?_, fun hc hr => ?_,
    fun hc hr hu => ?_⟩, fun seq cycle last hu => ⟨fun recs hseq hlt => ?_, fun n hn hne hop => ?_⟩, fun seq hu hseq => ?_⟩
  · refine ⟨_, by rw [exec_idleReceived, live_after hlive], ?_⟩
    rw [begin_hear 1 (.inr (.inl hreq))]
    refine ⟨rfl, rfl, ?_⟩
    simp [heard]
  · exact ⟨_, by rw [exec_pwBadMessage, live_after hlive], pwBad_counts hl⟩
  · rw [exec_pwBadMessage, live_after hlive, Device.pwBad, if_pos hl]
  · exact ⟨s.dev.pwIdle, by rw [exec_pwIdleSend, live_after hlive], rfl, rfl⟩
  · exact ⟨_, by rw [exec_pwLinkDown, live_after hlive], pwLinkDown_keeps hu hop⟩
  · rw [exec_pwLinkDown, live_after hlive, Device.pwLinkDown, if_neg (by simp [hu])]
  · rw [exec_managementCycleBoundary, path_followed hlive, Device.cycleBoundary, if_pos hc]
  · exact ⟨_, by rw [exec_managementCycleBoundary, path_followed hlive], cycleBoundary_sends idles held hc hr⟩
  · refine ⟨_, by rw [exec_managementCycleBoundary, path_followed hlive], ?_⟩
    rw [cycleBoundary_other hc hr hu]
    exact ⟨rfl, rfl, rfl, rfl⟩
  · have hexec : exec (.mirrorDeltaReceived seq cycle last recs) s = .next (followed s
        ((s.dev.onPw (counted seq)).pwTake ⟨last, s.dev.pw.mateSide, true, seq, cycle, .delta recs⟩
          (·.mirUse ⟨last, s.dev.pw.mateSide, true, seq, cycle, .delta recs⟩ recs))) := by
      rw [exec_mirrorDeltaReceived, path_followed hlive, mirrorDelta_next hu hseq hlt]
    refine ⟨fun hr => ⟨_, hexec, ?_⟩, fun hr ha => ⟨_, hexec, ?_⟩, fun hr ha hb => ⟨_, hexec, ?_⟩, fun hr ha hb =>
      ⟨fun i c hrec => ⟨_, hexec, ?_⟩, fun x st f v hrec => ⟨_, hexec, ?_⟩, fun k w hrec => ⟨_, hexec, ?_⟩⟩⟩
    · rw [pwTake_other (d := s.dev.onPw (counted seq)) hr]
      exact ⟨rfl, rfl, rfl⟩
    · rw [pwTake_away (d := s.dev.onPw (counted seq)) hr ha]
      exact ⟨rfl, rfl, rfl, rfl⟩
    · rw [pwTake_here (d := s.dev.onPw (counted seq)) hr ha, mirUse_bulk (d := s.dev.onPw (counted seq)) hb]
      exact ⟨rfl, rfl, rfl⟩
    · rw [pwTake_here (d := s.dev.onPw (counted seq)) hr ha, mirUse_idle (d := s.dev.onPw (counted seq)) hb, hrec]
      exact mirApply_sel _ i c
    · rw [pwTake_here (d := s.dev.onPw (counted seq)) hr ha, mirUse_idle (d := s.dev.onPw (counted seq)) hb, hrec, List.foldl_cons, mirApply_hearth]
      exact ⟨rfl, rfl⟩
    · rw [pwTake_here (d := s.dev.onPw (counted seq)) hr ha, mirUse_idle (d := s.dev.onPw (counted seq)) hb, hrec, List.foldl_cons, List.foldl_nil, mirApply_defects, tcWord_onPw,
        rd_onPw]
  · exact ⟨_, by rw [exec_mirrorDeltaReceived, path_followed hlive], mirrorDelta_gap hu hn hne hop⟩
  · have hexec : ∀ last off data, exec (.pmSnapReceived seq last off data) s = .next (after s
        ((s.dev.onPw (counted seq)).pwTake ⟨last, s.dev.pw.mateSide, true, seq, s.dev.pwCycle, .pmSnap off data⟩ (·.snapUse last off data))) := by
      intro last off data
      rw [exec_pmSnapReceived, live_after hlive, pmSnap_first hu hseq]
    refine ⟨fun off data last hr => ⟨_, hexec last off data, ?_⟩, fun off data last hr ha => ⟨_, hexec last off data, ?_⟩,
      fun data hr ha => ⟨_, hexec false 0 data, ?_⟩, fun p w hr ha hp hs hg => ⟨_, hexec true (32 * p + 16) [w], ?_⟩⟩
    · rw [pwTake_other (d := s.dev.onPw (counted seq)) hr]
      exact ⟨rfl, rfl⟩
    · rw [pwTake_away (d := s.dev.onPw (counted seq)) hr ha]
      exact ⟨rfl, rfl, _, rfl, rfl, rfl⟩
    · rw [pwTake_here (d := s.dev.onPw (counted seq)) hr ha, snapUse_start]
      exact ⟨rfl, rfl, rfl⟩
    · rw [pwTake_here (d := s.dev.onPw (counted seq)) hr ha, snapUse_last (d := s.dev.onPw (counted seq)) w hp hs hg]
      refine ⟨by rw [rd_onPw, rd_wr_same], rfl, fun a ha => ?_⟩
      rw [rd_onPw, rd_wr_ne _ _ (by simpa using ha)]
      rfl

end Sys2Proof.Machine
end

section
/-! PROOFS. RESYNC and the bulk transfer (R546), the digests (R543, R550) and the attestation messages (R643 to R645). -/

namespace Sys2Proof.Machine
open Sys2Proof Sys2Proof.Safety

/-! RESYNC. -/

/-- The row of PW_CMD (R550). -/
def pwCmdRow : RegRow := wo 0x20 0x3

theorem locOf_pwCmd : locOf 0x70020 = some ⟨.partywall, 0, 0x20⟩ := by decide
theorem rowAt_pwCmd : rowAt ⟨.partywall, 0, 0x20⟩ = some pwCmdRow := by decide

/-- The bridge takes the number of RESYNC. -/
theorem refusal_resync (d : Device) : d.refusal 0x70020 ⟨.partywall, 0, 0x20⟩ pwCmdRow 2 = none := by
  have hlegal : pwCmdRow.legal 2 = true := by decide
  have hacc : pwCmdRow.acc = .wo := rfl
  simp [Device.refusal, Device.standbyBars, Device.bridgeBad, hlegal, hacc]

theorem applyLoc_resync (d : Device) (m : Nat) : d.applyLoc m 0x70020 ⟨.partywall, 0, 0x20⟩ pwCmdRow 2 = d.resync m := rfl

theorem settleAt_pwCmd (d0 d : Device) : settleAt 0x70020 d0 d = d := by simp [settleAt, locOf_pwCmd]

/-- A register command of the management domain that its block refuses: the record of the refusal and the completion. -/
theorem cmdWrite_blockRefused {d d1 : Device} {m a : Nat} {v : Word} {l : Loc} {r : RegRow} {st : Status} (hs : d.staged m = none)
    (hl : locOf a = some l) (hr : rowAt l = some r) (hd : domainOf l = none) (ha : a % 4 = 0) (hw : r.wide = false) (hro : r.acc ≠ .ro)
    (hrs : r.acc ≠ .rs) (hk : r.acc ≠ .lock) (hn : d.refusal a l r v = none) (he : d.applyLoc m a l r v = (st, d1)) (hst : st ≠ .ok) :
    d.cmdWrite m a v = (d1.refused { master := m, wide := false } st a).complete m { status := st } := by
  have hda : domainAt a = none := by rw [domainAt_of hl, hd]
  have h1 : d.writeAt false m a v = (st, d1) := by
    simp [Device.writeAt, hl, hr, hro, hrs, hk, hw, hn, hd, Device.takeWrite, he, noteCovered, hst]
  have h2 : d.writeBytes false m a 15 v = (st, d1) := by
    simp [Device.writeBytes, Device.writeWord, touch_unstaged hs, touched_unstaged hs, h1]
  simp [Device.cmdWrite, Device.drainFor, hda, Device.busWrite, ha, h2, Device.ended, wideReg_of hl hr, hw]

theorem rd_pwUnfit_ne (d : Device) (cause : Nat) {a : Nat} (h : a ≠ 0x70018) : (d.pwUnfit cause).rd a = d.rd a := by
  by_cases hr : d.pwRole = 1
  · rw [pwUnfit_standby cause hr]
    exact when_ind (P := fun x => x.rd a = d.rd a) rfl (fun _ => by rw [rd_ev_ne _ _ h, rd_onPw])
  · rw [pwUnfit_other hr]

/-- The device a request for a bulk transfer leaves, of a standby without one: its record in a free place (R546). -/
def bulkAsked (d : Device) (m k : Nat) : Device :=
  (((((d.pwBegin.opOpenAt k 7 m 389).wr 0x70068 ((d.pwBegin.opOpenAt k 7 m 389).opId k)).onPw (fun p =>
    { p with bulk := true, op := some k, image := [], carried := [], queued := [], reqDue := false })).pwUnfit 3).pwSend false .bulkReq)

theorem resync_opens {d : Device} {m k : Nat} (hr : d.pwRole = 1) (hb : d.pw.bulk = false) (hk : d.opPick = some k) :
    d.resync m = (.ok, bulkAsked d m k) := by
  have hidle : d.pwBegin.pwBulkDrop = d.pwBegin := pwBulkDrop_idle hb
  have hpick : d.pwBegin.pwBulkDrop.opPick = some k := by
    rw [hidle]
    exact (opPick_of_regs rfl).trans hk
  rw [Device.resync, if_neg (not_not.2 hr), pwBulkReq_some hpick, hidle]
  rfl

/-- What RESYNC leaves (R546): the request out, the record open, and the device UNFIT. -/
theorem bulkAsked_opened {d : Device} {m k : Nat} (hr : d.pwRole = 1) (hk : k < 16) (hm : m < 16) :
    (bulkAsked d m k).pw.bulk = true ∧ (bulkAsked d m k).pw.op = some k ∧ (bulkAsked d m k).pw.fit = false ∧
      (bulkAsked d m k).pw.unfit = 3 ∧ lastSent (bulkAsked d m k) = some .bulkReq ∧ (bulkAsked d m k).get (oprecBase k + 4) 0 8 = 7 ∧
      (bulkAsked d m k).get (oprecBase k + 4) 12 2 = 1 ∧ (bulkAsked d m k).rd (oprecBase k + 8) = 389 := by
  have hb := oprecBase_le hk
  obtain ⟨hkind, hstate, htotal⟩ := opOpenAt_words d.pwBegin k (kind := 7) (origin := m) 389 (by decide) hm
  unfold bulkAsked
  generalize he : ((d.pwBegin.opOpenAt k 7 m 389).wr 0x70068 ((d.pwBegin.opOpenAt k 7 m 389).opId k)).onPw (fun p =>
    { p with bulk := true, op := some k, image := [], carried := [], queued := [], reqDue := false }) = e
  have hrd : ∀ a, a < 0x800 → ((e.pwUnfit 3).pwSend false .bulkReq).rd a = (d.pwBegin.opOpenAt k 7 m 389).rd a := by
    intro a ha
    rw [rd_of_regs (pwSend_regs _ _ _), rd_pwUnfit_ne _ _ (by omega), ← he, rd_onPw, rd_wr_ne _ _ (by omega)]
  have hrole : e.pwRole = 1 := by
    rw [← he, pwRole_onPw, pwRole_of_rd (rd_wr_ne _ _ (by decide)),
      pwRole_of_rd (rd_opOpenAt_out _ _ _ _ (by decide) (by decide) (.inr (by omega)))]
    exact hr
  have hpw : ((e.pwUnfit 3).pwSend false .bulkReq).pw.bulk = e.pw.bulk ∧ ((e.pwUnfit 3).pwSend false .bulkReq).pw.op = e.pw.op ∧
      ((e.pwUnfit 3).pwSend false .bulkReq).pw.fit = false ∧ ((e.pwUnfit 3).pwSend false .bulkReq).pw.unfit = 3 := by
    simp [Device.pwSend, pwUnfit_pw 3 hrole]
  obtain ⟨hbulk, hop, hfit, hunfit⟩ := hpw
  refine ⟨by rw [hbulk, ← he]; rfl, by rw [hop, ← he]; rfl, hfit, hunfit, lastSent_pwSend _ _ _, ?_, ?_, ?_⟩
  · rw [get_of_rd (hrd _ (by omega)), hkind]
  · rw [get_of_rd (hrd _ (by omega)), hstate]
  · rw [hrd _ (by omega), htotal]; rfl

theorem exec_resync_standby {s : State} {m k : Nat} (h : Ready s m) (hr : s.dev.pwRole = 1) (hb : s.dev.pw.bulk = false)
    (hk : s.dev.opPick = some k) : exec (.resync m) s = .next (accepted s m (bulkAsked s.dev m k)) := by
  obtain ⟨hlive, -, hs⟩ := h
  have happly := (applyLoc_resync s.dev m).trans (resync_opens (m := m) hr hb hk)
  rw [exec_resync, live_after hlive, cmdWrite_mgmt hs locOf_pwCmd rowAt_pwCmd rfl (by decide) rfl (by decide) (by decide) (by decide)
    (refusal_resync _) (by rw [happly]), happly, settleAt_pwCmd]
  rfl

theorem exec_resync_other {s : State} {m : Nat} (h : Ready s m) (hr : s.dev.pwRole ≠ 1) :
    exec (.resync m) s = .next (after s (((s.dev.pwRefuse 3).refused { master := m, wide := false } .range 0x70020).complete m
      { status := .range })) := by
  obtain ⟨hlive, -, hs⟩ := h
  have happly : s.dev.applyLoc m 0x70020 ⟨.partywall, 0, 0x20⟩ pwCmdRow 2 = (.range, s.dev.pwRefuse 3) := by
    rw [applyLoc_resync, Device.resync, if_pos hr]
  rw [exec_resync, live_after hlive, cmdWrite_blockRefused hs locOf_pwCmd rowAt_pwCmd rfl (by decide) rfl (by decide) (by decide) (by decide)
    (refusal_resync _) happly (by decide)]

@[simp] theorem irqSettle_pw (d0 d : Device) : (irqSettle d0 d).pw = d.pw := by
  unfold irqSettle; split
  · rfl
  · split <;> rfl

@[simp] theorem pwRefuse_pw (d : Device) (cause : Nat) : (d.pwRefuse cause).pw = d.pw := by
  simp [Device.pwRefuse]

/-- A refusal of the Party Wall's own: its cause and its event. -/
theorem pwRefuse_record (d : Device) (cause : Nat) :
    (d.pwRefuse cause).rd 0x70060 = wd cause ∧ (d.pwRefuse cause).bit 0x70018 9 = true := by
  refine ⟨?_, bit_ev_same _ _ (by decide)⟩
  rw [Device.pwRefuse, rd_ev_ne _ _ (by decide), rd_wr_same]

/-- A refused RESYNC: the completion, cause 3 and the event. -/
theorem resync_refused (d0 d : Device) (m : Nat) (x : Access) :
    let t := irqSettle d0 (((d.pwRefuse 3).refused x .range 0x70020).complete m { status := .range })
    tabGet {} t.bus.done m = { status := .range } ∧ t.pw = d.pw ∧ t.rd 0x70060 = 3 ∧ t.bit 0x70018 9 = true := by
  intro t
  have hrd : ∀ a, 0xB4 < a → t.rd a = (d.pwRefuse 3).rd a := by
    intro a ha
    rw [rd_irqSettle, rd_complete, rd_refused _ _ _ _ (.inr ha)]
  refine ⟨by rw [irqSettle_bus]; exact done_complete _ _ _, ?_, ?_, ?_⟩
  · rw [irqSettle_pw]
    exact (refused_pw _ _ _ _).trans (pwRefuse_pw d 3)
  · rw [hrd _ (by decide), (pwRefuse_record d 3).1]; rfl
  · rw [bit_of_rd (hrd _ (by decide)), (pwRefuse_record d 3).2]

/-! BULK_REQ. -/

/-- A device that does not act, or whose MC1 is away, sends nothing. -/
theorem bulkReq_other {d : Device} (view : Nat → Word) (hu : d.pw.up = true) (h : d.pwRole ≠ 2 ∨ d.cores.mc1Away = true) :
    d.bulkReq view = d.onPw (heard 1) := by
  have h' : (d.onPw (heard 1)).pwRole ≠ 2 ∨ (d.onPw (heard 1)).cores.mc1Away = true := h
  rw [Device.bulkReq, begin_hear 1 (.inl hu)]
  exact if_pos h'

/-- The last message of an image, after its pieces. -/
def imageSent (d : Device) (l : List PwBody) (n : Nat) (c : Word) : Device :=
  { (d.pwSendAll l).pwSend false (.bulkEnd imageLen c) with fresh := n }

theorem bulkReq_acting {d : Device} (view : Nat → Word) (hu : d.pw.up = true) (hr : d.pwRole = 2) (ha : d.cores.mc1Away = false) :
    ∃ l n c, d.bulkReq view = imageSent (d.onPw (heard 1)) l n c := by
  have h' : ¬((d.onPw (heard 1)).pwRole ≠ 2 ∨ (d.onPw (heard 1)).cores.mc1Away = true) := by
    rintro (h | h)
    · exact h hr
    · exact absurd (ha.symm.trans h) (by decide)
  rw [Device.bulkReq, begin_hear 1 (.inl hu)]
  beta_reduce
  rw [if_neg h']
  exact ⟨_, _, _, rfl⟩

theorem imageSent_last (d : Device) (l : List PwBody) (n : Nat) (c : Word) :
    lastSent (imageSent d l n c) = some (.bulkEnd 25477120 c) := (lastSent_of_pw rfl).trans (lastSent_pwSend _ false _)

theorem imageSent_regs (d : Device) (l : List PwBody) (n : Nat) (c : Word) : (imageSent d l n c).regs = d.regs :=
  (pwSendAll_onlyPw l d).regs

/-! BULK_DATA. -/

/-- A piece of an image, the first counted message, during a transfer. -/
theorem bulkData_first {d : Device} {seq cycle off : Nat} {data : List Word} {recs : List MirRec} (hu : d.pw.up = true)
    (hb : d.pw.bulk = true) (h : d.pw.rxSeq = none) :
    d.bulkData seq cycle off data recs =
      (d.onPw (counted seq)).pwTake ⟨false, d.pw.mateSide, true, seq, cycle, .bulkData off data recs⟩ (·.bulkUse cycle off data recs) := by
  have hsame : ((d.onPw (counted seq)).pw.bulk && d.pw.bulk && decide ((d.onPw (counted seq)).pw.op = d.pw.op)) = true := by
    simp [counted, heard, hb]
  rw [Device.bulkData, begin_counted hu (.inl h) (.inl h)]
  exact if_pos hsame

/-- The Party Wall with one piece more of the image: a piece at 0 begins it anew. -/
def pieceKept (cycle off : Nat) (data : List Word) (recs : List MirRec) (p : PwSt) : PwSt :=
  if off = 0 then { p with image := [(0, cycle, data)], carried := recs }
  else { p with image := p.image ++ [(off, cycle, data)], carried := p.carried ++ recs }

theorem pieceKept_keeps (cycle off : Nat) (data : List Word) (recs : List MirRec) (p : PwSt) :
    (pieceKept cycle off data recs p).op = p.op ∧ (pieceKept cycle off data recs p).rxSeq = p.rxSeq := by
  unfold pieceKept
  split <;> exact ⟨rfl, rfl⟩

/-- A standby keeps the pieces of the image and counts them in the record (R546). -/
theorem bulkUse_keeps {d : Device} {k : Nat} (cycle off : Nat) (data : List Word) (recs : List MirRec) (hb : d.pw.bulk = true)
    (hk : d.pw.op = some k) :
    d.bulkUse cycle off data recs =
      (d.onPw (pieceKept cycle off data recs)).opSteps k (min 389 ((off + 4 * data.length) / 65536)) := by
  have hop : (d.onPw (pieceKept cycle off data recs)).pw.op = some k := by rw [onPw_pw, (pieceKept_keeps _ _ _ _ _).1, hk]
  unfold pieceKept at hop ⊢
  rw [Device.bulkUse, if_pos hb]
  beta_reduce
  rw [hop]

/-! BULK_END. -/

theorem bulkEnd_take {d : Device} (len : Nat) (crc : Word) (hu : d.pw.up = true) :
    d.bulkEnd len crc =
      (d.onPw (heard 1)).pwTake ⟨true, d.pw.mateSide, true, 0, d.pwCycle, .bulkEnd len crc⟩ (·.bulkClose len crc) := by
  rw [Device.bulkEnd, begin_hear 1 (.inl hu)]

/-! What the taking of an image leaves: the management registers below 0x90000, and the Party Wall's own state until objects follow. -/

/-- The management registers below those of the Cellar are as they were. -/
def LowKept : Device → Device → Prop := KeptOn (· < 0x90000)

/-- What the words of an image leave. -/
def WordsKept (d d' : Device) : Prop := LowKept d d' ∧ d'.pw = d.pw

theorem WordsKept.refl (d : Device) : WordsKept d d := ⟨KeptOn.refl _ d, rfl⟩
theorem WordsKept.trans {d d' d'' : Device} (h : WordsKept d d') (h' : WordsKept d' d'') : WordsKept d d'' :=
  ⟨h.1.trans h'.1, h'.2.trans h.2⟩
theorem WordsKept.wr (d : Device) {b : Nat} (v : Word) (hb : 0x90000 ≤ b) : WordsKept d (d.wr b v) :=
  ⟨(KeptOn.refl _ d).wr v (by omega), rfl⟩

theorem pmStoreTake_kept (d : Device) (o : Nat) (v : Word) : WordsKept d (d.pmStoreTake o v) := by
  unfold Device.pmStoreTake
  split
  · exact .refl d
  · split
    · exact ⟨KeptOn.of_regs rfl, rfl⟩
    · exact .wr d v (by omega)

theorem imageTake_kept (d : Device) (o : Nat) (v : Word) : WordsKept d (d.imageTake o v) := by
  unfold Device.imageTake
  split
  · exact .refl d
  split
  · exact pmStoreTake_kept d _ v
  split
  · exact .wr d v (by omega)
  split
  · exact .wr d v (by omega)
  split
  · exact .wr d v (by omega)
  split
  · exact .wr d v (by omega)
  · exact .refl d

theorem takeWords_kept {f : Device → Nat → Word → Device} (hf : ∀ d o v, WordsKept d (f d o v)) (l : List Word) :
    ∀ d o, WordsKept d (d.takeWords f o l) := by
  induction l with
  | nil => exact fun d _ => .refl d
  | cons v t ih => exact fun d o => (hf d o v).trans (ih _ _)

theorem tcQueuePush_kept (d : Device) (s k : Nat) : WordsKept d (d.tcQueuePush s k) := by
  have hs : 0x90000 ≤ sliceBase s := by unfold sliceBase; omega
  unfold Device.tcQueuePush
  split
  · exact ⟨((KeptOn.refl _ d).inc (by omega)).ev _ (by omega), by simp⟩
  · have he : WordsKept d (d.when (d.tcQueue s).isEmpty (·.ev (sliceBase s + 0x420) 0)) :=
      when_ind (P := WordsKept d) (.refl d) (fun _ => ⟨(KeptOn.refl _ d).ev _ (by omega), by simp⟩)
    exact he.trans ⟨KeptOn.of_regs rfl, rfl⟩

theorem tcRequeue_kept (d0 d : Device) : WordsKept d (tcRequeue d0 d) := by
  refine List.foldlRecOn _ _ (WordsKept.refl d) (fun e he k _ => he.trans ?_)
  split
  · exact tcQueuePush_kept e _ _
  · exact .refl e

/-- The words of an image, and what waits to be produced again with them. -/
def imageWords (d : Device) : Device := tcRequeue d (d.pw.image.foldl (fun d e => d.takeWords Device.imageTake e.1 e.2.2) d)

theorem imageWords_kept (d : Device) : WordsKept d (imageWords d) := by
  have hwords : WordsKept d (d.pw.image.foldl (fun d e => d.takeWords Device.imageTake e.1 e.2.2) d) :=
    List.foldlRecOn _ _ (WordsKept.refl d) (fun e he x _ => he.trans (takeWords_kept imageTake_kept x.2.2 e x.1))
  exact hwords.trans (tcRequeue_kept d _)

theorem setHpair_lowKept (d : Device) (i : Nat) (p : Option HPair) : LowKept d (d.setHpair i p) := KeptOn.of_regs rfl

/-- A path pair that the image does not carry: taken out, or the Cellar's refusal of it. -/
theorem pairSet_lowKept (d : Device) (w0 w1 w2 w3 : Word) : LowKept d (d.pairSet w0 w1 w2 w3).2 := by
  unfold Device.pairSet
  split
  · exact (((KeptOn.refl _ d).inc (by decide)).wr _ (by decide)).ev _ (by decide)
  · unfold Device.pairTake
    split
    · split
      · exact .refl _ d
      · exact setHpair_lowKept _ _ _
    · exact setHpair_lowKept _ _ _

theorem mirApply_sel_lowKept (d : Device) (kind i : Nat) (c : MirSel) : LowKept d (d.mirApply ⟨kind, i, .sel c⟩) :=
  when_ind (P := LowKept d) (KeptOn.of_regs rfl) (fun _ => KeptOn.of_regs rfl)

theorem emptyRec_lowKept (d : Device) (kind i : Nat) : LowKept d (d.mirApply (emptyRec kind i)) := by
  unfold emptyRec
  split
  · exact pairSet_lowKept d _ _ _ _
  · exact mirApply_sel_lowKept d kind i {}

/-- The objects of an image without records: what the standby holds beyond it goes. -/
theorem imageObjects_lowKept {d : Device} (h : d.pw.carried = []) : LowKept d d.imageObjects := by
  unfold Device.imageObjects
  beta_reduce
  rw [h, List.foldl_nil]
  exact List.foldlRecOn _ _ (KeptOn.refl _ d) (fun e he k _ => he.trans (emptyRec_lowKept e _ _))

/-- The end of a whole transfer: the record OK, counted, with its event (R546). -/
def bulkDone (d : Device) (k : Nat) : Device :=
  ((((d.opSteps k 389).opClose k .ok).onPw (fun p =>
    { p with bulk := false, op := none, image := [], carried := [], queued := [] })).inc 0x70058).ev 0x70018 7

theorem bulkClose_whole {d : Device} {k : Nat} {crc : Word} (hb : d.pw.bulk = true) (hk : d.pw.op = some k)
    (hw : imageWhole 0 d.pw.image = true) (hc : crc = wd (crc32c (d.pw.image.flatMap (fun e => e.2.2.flatMap wordBytes))))
    (hq : d.pw.queued = []) : d.bulkClose 25477120 crc = bulkDone (imageWords d).imageObjects k := by
  have hcond : 25477120 = imageLen ∧ imageWhole 0 d.pw.image = true ∧
      wd (crc32c (d.pw.image.flatMap (fun e => e.2.2.flatMap wordBytes))) = crc := ⟨rfl, hw, hc.symm⟩
  unfold imageWords bulkDone
  rw [Device.bulkClose, if_pos hb, if_pos hcond, hq, hk]
  rfl

theorem bulkDone_record (d : Device) {k : Nat} (hk : k < 16) :
    (bulkDone d k).pw.bulk = false ∧ (bulkDone d k).pw.op = none ∧ (bulkDone d k).bit 0x70018 7 = true ∧
      (bulkDone d k).rd 0x70058 = wd (satAdd 32 (d.rd 0x70058).toNat 1) ∧ (bulkDone d k).get (oprecBase k + 4) 12 2 = 2 ∧
      (bulkDone d k).get (oprecBase k + 4) 8 4 = 0 := by
  have hb := oprecBase_le hk
  obtain ⟨hstate, hres⟩ := opClose_result (d.opSteps k 389) k .ok
  have hrd : ∀ a, a ≠ 0x70058 → a ≠ 0x70018 → (bulkDone d k).rd a = ((d.opSteps k 389).opClose k .ok).rd a := by
    intro a h1 h2
    rw [bulkDone, rd_ev_ne _ _ h2, rd_inc_ne _ h1, rd_onPw]
  refine ⟨by simp [bulkDone], by simp [bulkDone], bit_ev_same _ _ (by decide), ?_, ?_, ?_⟩
  · rw [bulkDone, rd_ev_ne _ _ (by decide), rd_inc, if_pos rfl, rd_onPw, rd_opClose_outside _ _ hk (by decide),
      rd_opSteps_ne _ (by omega)]
  · rw [get_of_rd (hrd _ (by omega) (by omega)), hstate]
  · rw [get_of_rd (hrd _ (by omega) (by omega)), hres]; rfl

theorem bulkClose_broken {d : Device} {len : Nat} {crc : Word} (hb : d.pw.bulk = true)
    (h : len ≠ 25477120 ∨ imageWhole 0 d.pw.image = false ∨
      crc ≠ wd (crc32c (d.pw.image.flatMap (fun e => e.2.2.flatMap wordBytes)))) : d.bulkClose len crc = d.pwBulkDrop.pwAuto := by
  have hcond : ¬(len = imageLen ∧ imageWhole 0 d.pw.image = true ∧
      wd (crc32c (d.pw.image.flatMap (fun e => e.2.2.flatMap wordBytes))) = crc) := by
    rintro ⟨h1, h2, h3⟩
    rcases h with h | h | h
    · exact h h1
    · rw [h] at h2; cases h2
    · exact h h3.symm
  rw [Device.bulkClose, if_pos hb, if_neg hcond]

theorem pwAuto_never {d : Device} (h : d.autoResync = false) : d.pwAuto = d := by simp [Device.pwAuto, h]

/-- A transfer that ends ABANDONED without a new one (R546). -/
theorem pwBulkDrop_abandons {d : Device} {k : Nat} (hb : d.pw.bulk = true) (hk : d.pw.op = some k) (hlt : k < 16) :
    d.pwBulkDrop.pw.bulk = false ∧ d.pwBulkDrop.pw.op = none ∧ d.pwBulkDrop.pw.image = [] ∧ d.pwBulkDrop.rd 0x70058 = d.rd 0x70058 ∧
      d.pwBulkDrop.get (oprecBase k + 4) 12 2 = 2 ∧ d.pwBulkDrop.get (oprecBase k + 4) 8 4 = 9 := by
  obtain ⟨hstate, hres⟩ := opClose_result d k .abandoned
  rw [pwBulkDrop_some hb hk]
  exact ⟨rfl, rfl, rfl, (rd_onPw _ _ _).trans (rd_opClose_outside d _ hlt (by decide)), (get_of_rd (rd_onPw _ _ _) _ _).trans hstate,
    (get_of_rd (rd_onPw _ _ _) _ _).trans hres⟩

/-! Digests (R543). -/

/-- A standby after a DIGEST: each slice not compared counted. -/
def digestCounted (d : Device) (cmp : List Nat) : Device :=
  ((d.onPw (heard 1)).add 0x70048 (16 - cmp.length)).onPw (fun p => { p with compared := p.compared ||| cmp.foldl (fun a s => a + 2 ^ s) 0 })

/-- What slices that differ leave, before the device may be UNFIT. -/
def digestDiffers (d1 : Device) (cycle t : Nat) (bad : List Nat) : Device :=
  (((((d1.add 0x70044 bad.length).wr 0x70064 (wd (bad.foldl (fun a s => a + 2 ^ s) 0 + 2 ^ 16 * (cycle % 2 ^ 16)))).ev 0x70018 11).raiseSrc
    35).onPw (fun p =>
      { p with mismatches :=
          ((bad.map (fun _ => t)) ++ p.mismatches).filter (fun u => decide (t - u ≤ ms (d1.get 0x70028 0 22))) }))

/-- The DIGEST of the cycle the standby computed its own of. -/
theorem digestReceived_standby {d : Device} {cycle mask held : Nat} {sums own : List Word} {cmp bad : List Nat} (hu : d.pw.up = true)
    (ho : d.pw.own = some (cycle, held, own)) (hr : d.pwRole = 1)
    (hcmp : (List.range 16).filter (fun i =>
      d.bit 0x70024 i && d.pw.aligned && !(held / 2 ^ i % 2 == 1) && mask / 2 ^ i % 2 == 1) = cmp)
    (hbad : cmp.filter (fun i => own.getD i 0 ≠ sums.getD i 0) = bad) :
    d.digestReceived cycle mask sums =
      if bad = [] then digestCounted d cmp
      else
        if (digestDiffers (digestCounted d cmp) cycle d.uptime bad).get 0x70024 16 8 ≤
            (digestDiffers (digestCounted d cmp) cycle d.uptime bad).pw.mismatches.length then
          (digestDiffers (digestCounted d cmp) cycle d.uptime bad).pwUnfit 1
        else digestDiffers (digestCounted d cmp) cycle d.uptime bad := by
  have hown : (d.onPw (heard 1)).pw.own = some (cycle, held, own) := ho
  have hrole : ¬((d.onPw (heard 1)).pwRole ≠ 1 ∨ cycle ≠ cycle) := by
    rintro (h | h)
    · exact h hr
    · exact h rfl
  subst hcmp hbad
  rw [Device.digestReceived, begin_hear 1 (.inl hu)]
  beta_reduce
  rw [hown]
  exact if_neg hrole

theorem digestReceived_other {d : Device} {cycle mask : Nat} {sums : List Word} (hu : d.pw.up = true)
    (h : d.pw.own = none ∨ d.pwRole ≠ 1) : d.digestReceived cycle mask sums = d.onPw (heard 1) := by
  rw [Device.digestReceived, begin_hear 1 (.inl hu)]
  beta_reduce
  rcases ho : (d.onPw (heard 1)).pw.own with _ | ⟨c, held, own⟩
  · rfl
  · have hr : (d.onPw (heard 1)).pwRole ≠ 1 ∨ c ≠ cycle := by
      rcases h with h | h
      · exact absurd (h.symm.trans ho) (by simp)
      · exact .inl h
    exact if_pos hr

theorem digestCounted_record (d : Device) (cmp : List Nat) :
    (digestCounted d cmp).rd 0x70048 = wd (satAdd 32 (d.rd 0x70048).toNat (16 - cmp.length)) ∧
      KeepsBut [0x70048] d (digestCounted d cmp) ∧ (digestCounted d cmp).pw.fit = d.pw.fit := by
  refine ⟨?_, fun a ha => ?_, rfl⟩
  · rw [digestCounted, rd_onPw, rd_add, if_pos rfl, rd_onPw]
  · rw [digestCounted, rd_onPw, rd_add, if_neg (by simpa using ha), rd_onPw]

/-- Slices that differ: counted, with the event and the report. -/
theorem digestDiffers_record (d1 : Device) (cycle t : Nat) (bad : List Nat) :
    (digestDiffers d1 cycle t bad).rd 0x70044 = wd (satAdd 32 (d1.rd 0x70044).toNat bad.length) ∧
      (digestDiffers d1 cycle t bad).bit 0x70018 11 = true ∧ Raised (digestDiffers d1 cycle t bad) 35 ∧
      (digestDiffers d1 cycle t bad).rd 0x70048 = d1.rd 0x70048 := by
  unfold digestDiffers
  refine ⟨?_, ?_, (raised_raiseSrc _ 35).of_fc rfl, ?_⟩
  · rw [rd_onPw, rd_raiseSrc, rd_ev_ne _ _ (by decide), rd_wr_ne _ _ (by decide), rd_add, if_pos rfl]
  · rw [bit_of_rd (rd_onPw _ _ _), bit_of_rd (rd_raiseSrc _ _ _)]
    exact bit_ev_same _ _ (by decide)
  · rw [rd_onPw, rd_raiseSrc, rd_ev_ne _ _ (by decide), rd_wr_ne _ _ (by decide), rd_add, if_neg (by decide)]

/-- A DIGEST of the cycle (R543): what is counted and what is reported. -/
theorem digestReceived_record {d : Device} {cycle mask held : Nat} {sums own : List Word} {cmp bad : List Nat} (hu : d.pw.up = true)
    (ho : d.pw.own = some (cycle, held, own)) (hr : d.pwRole = 1)
    (hcmp : (List.range 16).filter (fun i =>
      d.bit 0x70024 i && d.pw.aligned && !(held / 2 ^ i % 2 == 1) && mask / 2 ^ i % 2 == 1) = cmp)
    (hbad : cmp.filter (fun i => own.getD i 0 ≠ sums.getD i 0) = bad) :
    (d.digestReceived cycle mask sums).rd 0x70048 = wd (satAdd 32 (d.rd 0x70048).toNat (16 - cmp.length)) ∧
      (bad = [] → KeepsBut [0x70048] d (d.digestReceived cycle mask sums) ∧ (d.digestReceived cycle mask sums).pw.fit = d.pw.fit) ∧
      (bad ≠ [] → (d.digestReceived cycle mask sums).rd 0x70044 = wd (satAdd 32 (d.rd 0x70044).toNat bad.length) ∧
        (d.digestReceived cycle mask sums).bit 0x70018 11 = true ∧ Raised (d.digestReceived cycle mask sums) 35) := by
  obtain ⟨hcount, hkeep, hfit⟩ := digestCounted_record d cmp
  rw [digestReceived_standby hu ho hr hcmp hbad]
  by_cases hb : bad = []
  · rw [if_pos hb]
    exact ⟨hcount, fun _ => ⟨hkeep, hfit⟩, fun h => absurd hb h⟩
  · rw [if_neg hb]
    obtain ⟨hdiff, hev, hrep, hsame⟩ := digestDiffers_record (digestCounted d cmp) cycle d.uptime bad
    generalize digestDiffers (digestCounted d cmp) cycle d.uptime bad = d2 at *
    have hkept : WallKept d2 (if d2.get 0x70024 16 8 ≤ d2.pw.mismatches.length then d2.pwUnfit 1 else d2) := by
      split
      · exact pwUnfit_wallKept d2 1
      · exact .refl d2
    refine ⟨?_, fun h => absurd h hb, fun _ => ⟨?_, hkept.events 11 (by decide) hev, hrep.of_fc hkept.fc⟩⟩
    · rw [hkept.regs _ (by decide) (by decide) (by decide), hsame, hcount]
    · rw [hkept.regs _ (by decide) (by decide) (by decide), hdiff, hkeep _ (by decide)]

/-! ATTEST_REQ (R643, R644). -/

/-- The record of a request that has arrived over the Party Wall. -/
def mateAsk (id n : Nat) (nonce : List Byte) : AttReq := { src := .mate id, nonceLen := n, nonce := nonce }

theorem attestReq_long {d : Device} {id n : Nat} (nonce : List Byte) (hu : d.pw.up = true) (h : 32 < n) :
    d.attestReq id n nonce = (d.onPw (heard 1)).pwSend false (.attestRsp id 4 (List.replicate 512 0)) := by
  rw [Device.attestReq, begin_hear 1 (.inl hu)]
  exact if_pos h

theorem attestReq_queues {d : Device} {id n : Nat} (nonce : List Byte) (hu : d.pw.up = true) (h : n ≤ 32) :
    d.attestReq id n nonce = (d.onPw (heard 1)).attQueue (mateAsk id n nonce) := by
  rw [Device.attestReq, begin_hear 1 (.inl hu)]
  exact if_neg (Nat.not_lt.2 h)

/-- A request that finds no place is answered BUSY at once. -/
theorem attBusy_mate (d : Device) (id n : Nat) (nonce : List Byte) :
    d.attBusy (mateAsk id n nonce) = (d.inc 0x30020).pwSend false (.attestRsp id 6 (List.replicate 512 0)) := rfl

theorem attBusy_mate_record (d : Device) (id n : Nat) (nonce : List Byte) :
    lastSent (d.attBusy (mateAsk id n nonce)) = some (.attestRsp id 6 (List.replicate 512 0)) ∧
      (d.attBusy (mateAsk id n nonce)).porch = d.porch ∧
      (d.attBusy (mateAsk id n nonce)).rd 0x30020 = wd (satAdd 32 (d.rd 0x30020).toNat 1) := by
  rw [attBusy_mate]
  refine ⟨lastSent_pwSend _ _ _, rfl, ?_⟩
  rw [rd_of_regs (pwSend_regs _ _ _), rd_inc, if_pos rfl]

theorem attQueue_full {d : Device} {r : AttReq} (h : d.cores.mc0Away = true ∨ 3 ≤ d.porch.atts.length) : d.attQueue r = d.attBusy r := by
  have hc : (d.cores.mc0Away || decide (3 ≤ d.porch.atts.length)) = true := by simpa using h
  rw [Device.attQueue, if_pos hc]

theorem attQueue_room {d : Device} {r : AttReq} (ha : d.cores.mc0Away = false) (h : d.porch.atts.length < 3) :
    d.attQueue r = d.attTake (d.porch.atts ++ [r]) := by
  have hc : ¬(d.cores.mc0Away || decide (3 ≤ d.porch.atts.length)) = true := by simp [ha, h]
  rw [Device.attQueue, if_neg hc]

@[simp] theorem setAtts_atts (d : Device) (l : List AttReq) : (d.setAtts l).porch.atts = l := rfl
@[simp] theorem setAtts_pw (d : Device) (l : List AttReq) : (d.setAtts l).pw = d.pw := rfl

/-- A request of the mate that finds no operation record (R84). -/
theorem attTake_none {d : Device} {id n : Nat} {nonce : List Byte} (h : d.opPick = none) :
    d.attTake [mateAsk id n nonce] = (((d.inc 0x9C).ev 0x54 6).attBusy (mateAsk id n nonce)).setAtts [] := by
  have hop : ¬(mateAsk id n nonce).op.isSome = true := by simp [mateAsk]
  rw [Device.attTake, if_neg hop, opOpen_none h]
  rfl

/-- A request of the mate that opens its record, which runs. -/
theorem attTake_some {d : Device} {id n k : Nat} {nonce : List Byte} (h : d.opPick = some k) :
    ∃ body, d.attTake [mateAsk id n nonce] =
      ((d.opOpenAt k 11 5 2).setAtts [{ mateAsk id n nonce with op := some k, body := body }]).opSteps k 1 := by
  have hop : ¬(mateAsk id n nonce).op.isSome = true := by simp [mateAsk]
  refine ⟨(d.opOpenAt k 11 5 2).attBody n nonce, ?_⟩
  rw [Device.attTake, if_neg hop, opOpen_some h]
  rfl

/-- A request behind one that runs waits for it. -/
theorem attTake_waits {d : Device} {x : AttReq} {k : Nat} (l : List AttReq) (h : x.op = some k) : d.attTake (x :: l) = d.setAtts (x :: l) := by
  have hop : x.op.isSome = true := by simp [h]
  rw [Device.attTake, if_pos hop]

/-- A request with a place in the queue stands last in it, and nothing is sent. -/
theorem attQueue_last {d : Device} {id n : Nat} {nonce : List Byte} (ha : d.cores.mc0Away = false) (hl : d.porch.atts.length < 3)
    (h : (d.porch.atts = [] ∧ d.opPick ≠ none) ∨ (∃ x k, d.porch.atts.head? = some x ∧ x.op = some k)) :
    (d.attQueue (mateAsk id n nonce)).pw = d.pw ∧
      (d.attQueue (mateAsk id n nonce)).porch.atts.length = d.porch.atts.length + 1 ∧
      ∃ r, (d.attQueue (mateAsk id n nonce)).porch.atts.getLast? = some r ∧ r.src = .mate id ∧ r.nonceLen = n ∧ r.nonce = nonce := by
  rw [attQueue_room ha hl]
  rcases h with ⟨hnil, hpick⟩ | ⟨x, k, hx, hk⟩
  · obtain ⟨k, hk⟩ := Option.ne_none_iff_exists'.1 hpick
    obtain ⟨body, htake⟩ := attTake_some (id := id) (n := n) (nonce := nonce) hk
    rw [hnil, List.nil_append, htake]
    have hatts : (((d.opOpenAt k 11 5 2).setAtts [{ mateAsk id n nonce with op := some k, body := body }]).opSteps k 1).porch.atts =
        [{ mateAsk id n nonce with op := some k, body := body }] := by rw [(opSteps_only _ k 1).porch, setAtts_atts]
    refine ⟨by rw [(opSteps_only _ k 1).pw, setAtts_pw, (opOpenAt_only d k 11 5 2).pw], by rw [hatts]; rfl, _, by rw [hatts]; rfl,
      rfl, rfl, rfl⟩
  · obtain ⟨t, ht⟩ := List.head?_eq_some_iff.1 hx
    rw [ht, List.cons_append, attTake_waits _ hk]
    refine ⟨rfl, ?_, mateAsk id n nonce, ?_, rfl, rfl, rfl⟩
    · simp
    · rw [setAtts_atts, ← List.cons_append, List.getLast?_concat]

/-! ATTEST_RSP (R645). -/

theorem bytesWords_length (l : List Byte) : (bytesWords l).length = (l.length + 3) / 4 := by
  induction l using bytesWords.induct with
  | case1 | case2 | case3 | case4 => simp [bytesWords]
  | case5 a b c d t ih =>
    simp only [bytesWords, List.length_cons, ih]
    omega

/-- Consecutive words read back as they were stored. -/
theorem rds_wrs (l : List Word) : ∀ (d : Device) (a : Nat), (d.wrs a l).rds a l.length = l := by
  induction l with
  | nil => exact fun d a => rfl
  | cons v t ih =>
    intro d a
    have hhead : ((d.wr a v).wrs (a + 4) t).rd a = v := by rw [rd_wrs_out _ _ _ _ (.inl (by omega)), rd_wr_same]
    have htail := ih (d.wr a v) (a + 4)
    rw [Device.rds] at htail ⊢
    simp only [List.length_cons, List.range_succ_eq_map, List.map_cons, List.map_map, Device.wrs, Nat.mul_zero, Nat.add_zero, hhead]
    refine congrArg (v :: ·) (Eq.trans (List.map_congr_left fun i _ => ?_) htail)
    rw [Function.comp_apply, Nat.succ_eq_add_one, show a + 4 * (i + 1) = a + 4 + 4 * i by omega]

theorem rds_congr {d d' : Device} {a n : Nat} (h : ∀ i, i < n → d'.rd (a + 4 * i) = d.rd (a + 4 * i)) : d'.rds a n = d.rds a n :=
  List.map_congr_left fun i hi => h i (List.mem_range.1 hi)

theorem attestRsp_taken {d : Device} {id st : Nat} {report : List Byte} (hu : d.pw.up = true) (hs : d.mateState = 1)
    (hi : id = d.meas.reqId) :
    d.attestRsp id st report =
      if st = 0 then ((d.onPw (heard 1)).wrs 0x41000 ((bytesWords (report ++ List.replicate 512 0)).take 128)).mateEnd 2 0
      else (d.onPw (heard 1)).mateEnd 3 st := by
  rw [Device.attestRsp, begin_hear 1 (.inl hu)]
  exact if_pos ⟨hs, hi⟩

theorem attestRsp_dropped {d : Device} {id st : Nat} {report : List Byte} (hu : d.pw.up = true)
    (h : d.mateState ≠ 1 ∨ id ≠ d.meas.reqId) : d.attestRsp id st report = d.onPw (heard 1) := by
  rw [Device.attestRsp, begin_hear 1 (.inl hu)]
  exact if_neg (fun hc => h.elim (· hc.1) (· hc.2))

/-- The end of the mate's attestation: its state, its result and the event. -/
theorem mateEnd_record (d : Device) {state code : Nat} (hs : state < 4) (hc : code < 16) :
    (d.mateEnd state code).bit 0x40014 2 = true ∧ (d.mateEnd state code).get 0x40094 4 4 = code ∧ (d.mateEnd state code).mateState = state ∧
      KeepsBut [0x40094, 0x40014] d (d.mateEnd state code) := by
  have hrd : (d.mateEnd state code).rd 0x40094 = setFld (setFld (d.rd 0x40094) 0 2 state) 4 4 code := by
    rw [Device.mateEnd, rd_ev_ne _ _ (by decide), rd_put, if_pos rfl, rd_put, if_pos rfl]
  refine ⟨bit_ev_same _ _ (by decide), ?_, ?_, fun a ha => ?_⟩
  · rw [Device.get, hrd, fld_setFld_same _ _ (by decide), Nat.mod_eq_of_lt (b := 2 ^ 4) hc]
  · rw [Device.mateState, Device.get, hrd, fld_setFld_ne _ _ (by decide) (by decide), fld_setFld_same _ _ (by decide),
      Nat.mod_eq_of_lt (b := 2 ^ 2) hs]
  · simp only [List.mem_cons, List.not_mem_nil, or_false, not_or] at ha
    obtain ⟨h1, h2⟩ := ha
    rw [Device.mateEnd, rd_ev_ne _ _ h2, rd_put_ne _ _ _ _ h1, rd_put_ne _ _ _ _ h1]

/-- The report of the mate, 128 words. -/
theorem mateReport_length (report : List Byte) : ((bytesWords (report ++ List.replicate 512 0)).take 128).length = 128 := by
  rw [List.length_take, bytesWords_length, List.length_append, List.length_replicate]
  omega

theorem attestRsp_record {d : Device} {id st : Nat} {report : List Byte} (hu : d.pw.up = true) (hs : d.mateState = 1)
    (hi : id = d.meas.reqId) (hst : st < 16) :
    (d.attestRsp id st report).bit 0x40014 2 = true ∧ (d.attestRsp id st report).get 0x40094 4 4 = st ∧
      (st = 0 → (d.attestRsp id st report).mateState = 2 ∧
        (d.attestRsp id st report).rds 0x41000 128 = (bytesWords (report ++ List.replicate 512 0)).take 128) ∧
      (st ≠ 0 → (d.attestRsp id st report).mateState = 3 ∧ KeepsBut [0x40094, 0x40014] d (d.attestRsp id st report)) := by
  rw [attestRsp_taken hu hs hi]
  by_cases h0 : st = 0
  · subst h0
    rw [if_pos rfl]
    have hlen := mateReport_length report
    generalize (bytesWords (report ++ List.replicate 512 0)).take 128 = words at hlen ⊢
    obtain ⟨hev, hres, hstate, hkeep⟩ := mateEnd_record ((d.onPw (heard 1)).wrs 0x41000 words) (state := 2) (code := 0) (by decide) (by decide)
    refine ⟨hev, hres, fun _ => ⟨hstate, ?_⟩, fun h => absurd rfl h⟩
    rw [rds_congr fun i hi => hkeep _ (by simp; omega), ← hlen]
    exact rds_wrs words _ _
  · rw [if_neg h0]
    obtain ⟨hev, hres, hstate, hkeep⟩ := mateEnd_record (d.onPw (heard 1)) (state := 3) (by decide) hst
    exact ⟨hev, hres, fun h => absurd h h0, fun _ => ⟨hstate, (KeepsBut.of_regs (onPw_regs _ _) _).trans hkeep⟩⟩

/-! The statement, clause by clause. -/

/-- The transfer of a standby (R546): pieces and end, held while MC1 is away. -/
theorem bulk_transfer {s : State} (hlive : Live s) {k : Nat} (hu : s.dev.pw.up = true) (hr : s.dev.pwRole = 1)
    (hb : s.dev.pw.bulk = true) (hk : s.dev.pw.op = some k) (hlt : k < 16) :
    (∀ seq cycle off data recs, s.dev.pw.rxSeq = none → s.dev.cores.mc1Away = true →
      ∃ d m, exec (.bulkDataReceived seq cycle off data recs) s = .next (after s d) ∧ d.pw.rxSeq = some seq ∧ d.regs = s.dev.regs ∧
        d.pw.image = s.dev.pw.image ∧ d.pw.held = s.dev.pw.held ++ [(s.dev.pw.snapGap, m)] ∧ m.body = .bulkData off data recs) ∧
    (∀ n c, s.dev.cores.mc1Away = true →
      ∃ d m, exec (.bulkEndReceived n c) s = .next (followed s d) ∧ d.pw.bulk = true ∧ d.regs = s.dev.regs ∧
        d.pw.held = s.dev.pw.held ++ [(s.dev.pw.snapGap, m)] ∧ m.body = .bulkEnd n c) ∧
    (∀ seq cycle off data recs, s.dev.pw.rxSeq = none → s.dev.cores.mc1Away = false →
      ∃ d, exec (.bulkDataReceived seq cycle off data recs) s = .next (after s d) ∧ d.pw.rxSeq = some seq ∧
        (off = 0 → d.pw.image = [(0, cycle, data)] ∧ d.pw.carried = recs) ∧
        (off ≠ 0 → d.pw.image = s.dev.pw.image ++ [(off, cycle, data)] ∧ d.pw.carried = s.dev.pw.carried ++ recs) ∧
        KeepsBut [oprecBase k + 0xC] s.dev d) ∧
    (∀ c, s.dev.cores.mc1Away = false → imageWhole 0 s.dev.pw.image = true →
      c = wd (crc32c (s.dev.pw.image.flatMap (fun e => e.2.2.flatMap wordBytes))) → s.dev.pw.carried = [] → s.dev.pw.queued = [] →
      ∃ d, exec (.bulkEndReceived 25477120 c) s = .next (followed s d) ∧ d.pw.bulk = false ∧ d.pw.op = none ∧ d.bit 0x70018 7 = true ∧
        d.rd 0x70058 = wd (satAdd 32 (s.dev.rd 0x70058).toNat 1) ∧ d.get (oprecBase k + 4) 12 2 = 2 ∧ d.get (oprecBase k + 4) 8 4 = 0) ∧
    (∀ n c, s.dev.cores.mc1Away = false → n ≠ 25477120 ∨ imageWhole 0 s.dev.pw.image = false ∨
        c ≠ wd (crc32c (s.dev.pw.image.flatMap (fun e => e.2.2.flatMap wordBytes))) → s.dev.autoResync = false →
      ∃ d, exec (.bulkEndReceived n c) s = .next (followed s d) ∧ d.pw.bulk = false ∧ d.pw.op = none ∧ d.pw.image = [] ∧
        d.rd 0x70058 = s.dev.rd 0x70058 ∧ d.get (oprecBase k + 4) 12 2 = 2 ∧ d.get (oprecBase k + 4) 8 4 = 9) := by
  have hdata : ∀ seq cycle off data recs, s.dev.pw.rxSeq = none → exec (.bulkDataReceived seq cycle off data recs) s =
      .next (after s ((s.dev.onPw (counted seq)).pwTake ⟨false, s.dev.pw.mateSide, true, seq, cycle, .bulkData off data recs⟩
        (·.bulkUse cycle off data recs))) := by
    intro seq cycle off data recs hseq
    rw [exec_bulkDataReceived, live_after hlive, bulkData_first hu hb hseq]
  have hend : ∀ n c, exec (.bulkEndReceived n c) s = .next (followed s ((s.dev.onPw (heard 1)).pwTake
      ⟨true, s.dev.pw.mateSide, true, 0, s.dev.pwCycle, .bulkEnd n c⟩ (·.bulkClose n c))) := by
    intro n c
    rw [exec_bulkEndReceived, path_followed hlive, bulkEnd_take n c hu]
  refine ⟨fun seq cycle off data recs hseq ha =>
      ⟨_, ⟨false, s.dev.pw.mateSide, true, seq, cycle, .bulkData off data recs⟩, hdata seq cycle off data recs hseq, ?_⟩,
    fun n c ha => ⟨_, ⟨true, s.dev.pw.mateSide, true, 0, s.dev.pwCycle, .bulkEnd n c⟩, hend n c, ?_⟩,
    fun seq cycle off data recs hseq ha => ⟨_, hdata seq cycle off data recs hseq, ?_⟩, fun c ha hw hc hcar hq => ⟨_, hend _ c, ?_⟩,
    fun n c ha hbad hauto => ⟨_, hend n c, ?_⟩⟩
  · rw [pwTake_away (d := s.dev.onPw (counted seq)) hr ha]
    exact ⟨rfl, rfl, rfl, rfl, rfl⟩
  · rw [pwTake_away (d := s.dev.onPw (heard 1)) hr ha]
    exact ⟨hb, rfl, rfl, rfl⟩
  · rw [pwTake_here (d := s.dev.onPw (counted seq)) hr ha, bulkUse_keeps (d := s.dev.onPw (counted seq)) cycle off data recs hb hk]
    have hpw : ∀ n, (((s.dev.onPw (counted seq)).onPw (pieceKept cycle off data recs)).opSteps k n).pw =
        pieceKept cycle off data recs (counted seq s.dev.pw) := fun n => (opSteps_only _ k n).pw
    refine ⟨by rw [hpw, (pieceKept_keeps _ _ _ _ _).2]; rfl, fun h => ?_, fun h => ?_, fun a ha => ?_⟩
    · rw [hpw, pieceKept, if_pos h]; exact ⟨rfl, rfl⟩
    · rw [hpw, pieceKept, if_neg h]; exact ⟨rfl, rfl⟩
    · rw [rd_opSteps_ne _ (by simpa using ha)]; rfl
  · rw [pwTake_here (d := s.dev.onPw (heard 1)) hr ha, bulkClose_whole (d := s.dev.onPw (heard 1)) hb hk hw hc hq]
    obtain ⟨hlow, hpw⟩ := imageWords_kept (s.dev.onPw (heard 1))
    have hobj : LowKept (imageWords (s.dev.onPw (heard 1))) (imageWords (s.dev.onPw (heard 1))).imageObjects :=
      imageObjects_lowKept (by rw [hpw]; exact hcar)
    have hcount : (imageWords (s.dev.onPw (heard 1))).imageObjects.rd 0x70058 = s.dev.rd 0x70058 := by
      rw [(hlow.trans hobj) _ (by decide), rd_onPw]
    rw [← hcount]
    exact bulkDone_record _ hlt
  · rw [pwTake_here (d := s.dev.onPw (heard 1)) hr ha, bulkClose_broken (d := s.dev.onPw (heard 1)) hb hbad]
    have hkept : WallKept (s.dev.onPw (heard 1)) (s.dev.onPw (heard 1)).pwBulkDrop :=
      pwBulkDrop_wallKept (fun j hj => by cases hk.symm.trans hj; exact hlt)
    rw [pwAuto_never (hkept.auto.trans hauto)]
    exact pwBulkDrop_abandons (d := s.dev.onPw (heard 1)) hb hk hlt

/-- Settles O49, clause by clause from the rules above. -/
theorem theStandbyIsResyncedComparedAndAttested : Obligations.TheStandbyIsResyncedComparedAndAttested := by
  intro s hlive
  refine ⟨fun m hready => ⟨fun k hr hb hk hlt => ?_, fun hr => ?_⟩, fun hu => ⟨fun hr ha => ?_, fun h => ?_⟩,
    fun k hu hr hb hk hlt => bulk_transfer hlive hu hr hb hk hlt, fun cycle mask sums hu => ⟨fun held own ho hr => ?_, fun h => ?_⟩,
    fun id n nonce hu => ⟨fun hn => ?_, fun hn hfull => ?_, fun hn ha hnil hpick => ?_, fun hn ha hl hroom => ?_⟩,
    fun id st report hu => ⟨fun hs hi hst => ?_, fun h => ?_⟩⟩
  · exact ⟨_, exec_resync_standby hready hr hb hk, bulkAsked_opened hr hlt (Nat.lt_trans hready.master (by decide))⟩
  · exact ⟨_, exec_resync_other hready hr, resync_refused s.dev s.dev m { master := m, wide := false }⟩
  · obtain ⟨l, n, c, hreq⟩ := bulkReq_acting s.dev.view hu hr ha
    exact ⟨imageSent (s.dev.onPw (heard 1)) l n c, c, by rw [exec_bulkReqReceived, live_after hlive, hreq], imageSent_last _ l n c,
      imageSent_regs _ l n c⟩
  · exact ⟨s.dev.onPw (heard 1), by rw [exec_bulkReqReceived, live_after hlive, bulkReq_other _ hu h], rfl, rfl⟩
  · exact ⟨_, by rw [exec_digestReceived, live_after hlive], digestReceived_record hu ho hr rfl rfl⟩
  · exact ⟨s.dev.onPw (heard 1), by rw [exec_digestReceived, live_after hlive, digestReceived_other hu h], rfl⟩
  · exact ⟨(s.dev.onPw (heard 1)).pwSend false (.attestRsp id 4 (List.replicate 512 0)),
      by rw [exec_attestReqReceived, live_after hlive, attestReq_long nonce hu hn], lastSent_pwSend _ _ _, rfl⟩
  · refine ⟨_, by rw [exec_attestReqReceived, live_after hlive, attestReq_queues nonce hu hn], ?_⟩
    rw [attQueue_full (d := s.dev.onPw (heard 1)) hfull]
    exact attBusy_mate_record (s.dev.onPw (heard 1)) id n nonce
  · have hpick' : (s.dev.onPw (heard 1)).opPick = none := (opPick_of_regs rfl).trans hpick
    have hatts : (s.dev.onPw (heard 1)).porch.atts = [] := hnil
    refine ⟨_, by rw [exec_attestReqReceived, live_after hlive, attestReq_queues nonce hu hn], ?_⟩
    rw [attQueue_room (d := s.dev.onPw (heard 1)) ha (by rw [hatts]; decide), hatts, List.nil_append, attTake_none hpick']
    exact ⟨(lastSent_of_pw (by rw [setAtts_pw])).trans (attBusy_mate_record _ id n nonce).1, setAtts_atts _ _⟩
  · have hroom' : ((s.dev.onPw (heard 1)).porch.atts = [] ∧ (s.dev.onPw (heard 1)).opPick ≠ none) ∨
        (∃ x k, (s.dev.onPw (heard 1)).porch.atts.head? = some x ∧ x.op = some k) :=
      hroom.imp_left fun h => ⟨h.1, by rw [opPick_of_regs (onPw_regs s.dev (heard 1))]; exact h.2⟩
    obtain ⟨hpw, hlen, r, hlast⟩ := attQueue_last (d := s.dev.onPw (heard 1)) (id := id) (n := n) (nonce := nonce) ha hl hroom'
    exact ⟨_, r, by rw [exec_attestReqReceived, live_after hlive, attestReq_queues nonce hu hn], by rw [hpw]; rfl, hlen, hlast⟩
  · exact ⟨_, by rw [exec_attestRspReceived, live_after hlive], attestRsp_record hu hs hi hst⟩
  · exact ⟨s.dev.onPw (heard 1), by rw [exec_attestRspReceived, live_after hlive, attestRsp_dropped hu h], rfl⟩

end Sys2Proof.Machine
end

section
/-! SUPPORT. The records of a configuration load (R590, R591, R602): what the end of one leaves, applied or failed. -/

namespace Sys2Proof.Machine
open Sys2Proof Sys2Proof.Safety

theorem bit_setBit_ne (d : Device) {a i j : Nat} (b : Bool) (hi : i < 32) (h : j ≠ i) : (d.setBit a i b).bit a j = d.bit a j := by
  rw [Device.bit, Device.bit, rd_setBit, if_pos rfl, bitAt_setFld_ne _ _ (by omega) (by omega)]

/-! The load in progress. -/

theorem loading_iff {d : Device} {l : Load} : d.loading = some l ↔ d.get 0x20010 0 4 = 5 ∧ d.boot.load = some l := by
  rw [Device.loading, ite_eq_some_iff]
  simp [Device.bootPhase]

/-- A load depends on the boot's own state and on the phase. -/
theorem loading_of {d d' : Device} (hr : d'.rd 0x20010 = d.rd 0x20010) (hb : d'.boot = d.boot) : d'.loading = d.loading := by
  rw [Device.loading, Device.loading, Device.bootPhase, Device.bootPhase, get_of_rd hr, hb]

theorem onLoad_some {d : Device} {l : Load} (f : Load → Load) (h : d.boot.load = some l) :
    d.onLoad f = d.onBoot (fun b => { b with load := some (f l) }) := by
  simp [Device.onLoad, Device.onBoot, h]

/-- The record of a type that stands next is of the load in progress, which waits for nothing. -/
theorem nextRec_loading {d : Device} {typ : Nat} {l : Load} {pl : List Word} (h : d.nextRec typ = some (l, pl)) :
    d.loading = some l ∧ l.wait = none := by
  unfold Device.nextRec at h
  split at h
  · rename_i l' hl
    split at h
    · rw [ite_eq_some_iff] at h
      rcases h with ⟨⟨-, hw⟩, he⟩ | ⟨-, he⟩
      · cases he; exact ⟨hl, hw⟩
      · cases he
    · cases h
  · cases h

/-! SAFE_STATE (R565). -/

/-- The registers of GLOBAL and of the Pantry. -/
def BootRegs (a : Nat) : Prop := a < 0x10000 ∨ (0x20000 ≤ a ∧ a < 0x30000)

/-- What the entry of SAFE_STATE leaves: the registers of GLOBAL and of the Pantry, and the boot's own state. -/
structure BootKept (d d' : Device) : Prop where
  regs : KeptOn BootRegs d d'
  boot : d'.boot = d.boot
  safe : d.fc.safe = true → d'.fc.safe = true

theorem BootKept.refl (d : Device) : BootKept d d := ⟨.refl _ d, rfl, id⟩

theorem BootKept.trans {d d' d'' : Device} (h : BootKept d d') (h' : BootKept d' d'') : BootKept d d'' :=
  ⟨h.regs.trans h'.regs, h'.boot.trans h.boot, fun hs => h'.safe (h.safe hs)⟩

theorem not_bootRegs {a : Nat} (h : 0x10000 ≤ a) (h' : a < 0x20000 ∨ 0x30000 ≤ a) : ¬BootRegs a := by unfold BootRegs; omega

theorem laneFaultIdle_bootKept (d : Device) (n : Nat) : BootKept d (d.laneFaultIdle n) := by
  refine ⟨(KeptOn.of_regs (onLane_regs _ _ _)).ev _ (not_bootRegs ?_ (.inr ?_)), rfl, id⟩ <;> unfold laneBase <;> omega

theorem squelchLanes_bootKept (d : Device) (l : List Nat) : BootKept d (d.squelchLanes l) := by
  refine List.foldlRecOn _ _ (BootKept.refl d) (fun e he n _ => he.trans ?_)
  split
  · exact laneFaultIdle_bootKept e n
  · exact .refl e

theorem pwStop_bootKept (d : Device) (release : Bool) : BootKept d (d.pwStop release) := by
  unfold Device.pwStop
  split
  · have hto : BootKept d (d.pwTo 1) :=
      ⟨((KeptOn.refl _ d).put _ _ _ (not_bootRegs (by decide) (by decide))).ev _ (not_bootRegs (by decide) (by decide)), by
        simp [Device.pwTo], by simp [Device.pwTo]⟩
    exact hto.trans ⟨.of_regs rfl, rfl, id⟩
  · exact .refl d

/-- The device enters SAFE_STATE, or is in it. -/
theorem safeEnter_safe (d : Device) (id origin : Nat) :
    KeptOn BootRegs d (d.safeEnter id origin) ∧ (d.safeEnter id origin).boot = d.boot ∧ (d.safeEnter id origin).fc.safe = true := by
  unfold Device.safeEnter
  split
  · rename_i h
    exact ⟨.refl _ d, rfl, h⟩
  · generalize he : ((d.onFc (fun c => { c with safe := true })).wr 0x10078 (wd (id + 2 ^ 16 * origin))).ev 0x10014 2 = e
    have hd : KeptOn BootRegs d e ∧ e.boot = d.boot ∧ e.fc.safe = true := by
      subst he
      refine ⟨((KeptOn.of_regs (onFc_regs _ _)).wr _ (not_bootRegs (by decide) (by decide))).ev _ (not_bootRegs (by decide) (by decide)),
        by simp [Device.onFc], by simp⟩
    obtain ⟨hregs, hboot, hsafe⟩ := hd
    have hk := (squelchLanes_bootKept e (List.range 64)).trans (pwStop_bootKept _ d.pw.up)
    exact ⟨hregs.trans hk.regs, hk.boot.trans hboot, hk.safe hsafe⟩

/-! A record that fails. -/

/-- The operation record of a load that ends with a record that fails (R86, R602). -/
def recordClosed (d : Device) (l : Load) (kind : Nat) (st : Status) (pw : Nat) : Device :=
  match l.op with
  | some k =>
    ((d.opFail k l.idx).opDetail k (st.code + 16 * kind + 256 * (pw % 2 ^ 24))).opClose k (if l.idx = 0 then .abandoned else .partly)
  | none => d

/-- The boot after a record that has failed: the configuration clear next, or its end (R591). -/
def loadDropped (d : Device) (l : Load) : Device :=
  if l.fallback || !d.bit 0x20040 3 then (d.onBoot (fun b => { b with load := none })).bootDone
  else (d.onBoot (fun b => { b with load := some { l with wait := none } })).phaseTo 6

theorem loadFail_eq (d : Device) (l : Load) (kind : Nat) (st : Status) (pw : Nat) :
    d.loadFail l kind st pw = loadDropped (((recordClosed d l kind st pw).ev 0x20014 1).safeEnter 0 2) l := rfl

/-- The words of the record: where it failed, and why. -/
theorem recordClosed_words {d : Device} {l : Load} {k : Nat} (kind : Nat) (st : Status) (pw : Nat) (hk : l.op = some k) :
    (recordClosed d l kind st pw).get (oprecBase k + 4) 12 2 = 2 ∧
      (recordClosed d l kind st pw).get (oprecBase k + 4) 8 4 = (if l.idx = 0 then 9 else 10) ∧
      (recordClosed d l kind st pw).rd (oprecBase k + 0x10) = wd l.idx ∧
      (recordClosed d l kind st pw).rd (oprecBase k + 0x14) = wd (st.code + 16 * kind + 256 * (pw % 2 ^ 24)) := by
  have hb := oprecBase_ge k
  unfold recordClosed
  rw [hk]
  dsimp only
  generalize hres : (if l.idx = 0 then Status.abandoned else .partly) = res
  have hcode : res.code = if l.idx = 0 then 9 else 10 := by rw [← hres]; split <;> rfl
  obtain ⟨hstate, hresult⟩ := opClose_result ((d.opFail k l.idx).opDetail k (st.code + 16 * kind + 256 * (pw % 2 ^ 24))) k res
  refine ⟨hstate, hresult.trans hcode, ?_, ?_⟩
  · rw [rd_opClose_out _ _ (by omega) (by omega) (by omega), Device.opDetail, rd_wr_ne _ _ (by omega), Device.opFail, rd_wr_same]
  · rw [rd_opClose_out _ _ (by omega) (by omega) (by omega), Device.opDetail, rd_wr_same]

/-- The registers that the end of a boot leaves. -/
def DoneRegs (a : Nat) : Prop := a ≠ 0x20010 ∧ a ≠ 0x20014 ∧ a ≠ 0x20028

@[simp] theorem onBoot_fc (d : Device) (f : BootSt → BootSt) : (d.onBoot f).fc = d.fc := rfl

theorem bootDone_keeps (d : Device) : KeptOn DoneRegs d d.bootDone :=
  (((KeptOn.refl _ d).put _ _ _ (fun h => h.1 rfl)).wr _ (fun h => h.2.2 rfl)).ev _ (fun h => h.2.1 rfl)

@[simp] theorem bootDone_boot (d : Device) : d.bootDone.boot = d.boot := by simp [Device.bootDone, Device.phaseTo]
@[simp] theorem bootDone_fc (d : Device) : d.bootDone.fc = d.fc := by simp [Device.bootDone, Device.phaseTo]

/-- The word of BOOT_STATUS after the end of a boot. -/
theorem rd_bootDone_status (d : Device) : d.bootDone.rd 0x20010 = setFld (d.rd 0x20010) 0 4 7 := by
  rw [Device.bootDone, rd_ev_ne _ _ (by decide), rd_wr_ne _ _ (by decide), Device.phaseTo, rd_put_same]

theorem bootDone_phase (d : Device) : d.bootDone.get 0x20010 0 4 = 7 := by
  rw [Device.get, rd_bootDone_status]
  exact fld_setFld_same _ _ (by decide)

/-- The other flags of BOOT_STATUS stay. -/
theorem bootDone_flag (d : Device) {i : Nat} (h : 4 ≤ i) : d.bootDone.bit 0x20010 i = d.bit 0x20010 i := by
  rw [Device.bit, rd_bootDone_status, bitAt_setFld_ne _ _ (by decide) (by omega), ← Device.bit]

theorem bootDone_event (d : Device) : d.bootDone.bit 0x20014 0 = true := bit_ev_same _ _ (by decide)

theorem loadDropped_keeps (d : Device) (l : Load) : KeptOn DoneRegs d (loadDropped d l) := by
  unfold loadDropped
  split
  · exact (KeptOn.of_regs (onBoot_regs _ _)).trans (bootDone_keeps _)
  · exact (KeptOn.of_regs (onBoot_regs _ _)).put _ _ _ (fun h => h.1 rfl)

theorem loadDropped_fc (d : Device) (l : Load) : (loadDropped d l).fc = d.fc := by
  unfold loadDropped
  split
  · rw [bootDone_fc]; rfl
  · rfl

/-- An event that is set stays set. -/
theorem loadDropped_event {d : Device} (l : Load) (h : d.bit 0x20014 1 = true) : (loadDropped d l).bit 0x20014 1 = true := by
  unfold loadDropped
  split
  · refine bit_ev_mono _ (by decide) (by decide) ?_
    rw [bit_of_rd (rd_wr_ne _ _ (by decide)), Device.phaseTo, bit_of_rd (rd_put_ne _ _ _ _ (by decide)), bit_of_rd (rd_onBoot _ _ _), h]
  · rw [Device.phaseTo, bit_of_rd (rd_put_ne _ _ _ _ (by decide)), bit_of_rd (rd_onBoot _ _ _), h]

theorem loadDropped_clear {d : Device} {l : Load} (hf : l.fallback = false) (hb : d.bit 0x20040 3 = true) :
    (loadDropped d l).get 0x20010 0 4 = 6 ∧ (loadDropped d l).boot.load = some { l with wait := none } := by
  rw [loadDropped, if_neg (by simp [hf, hb])]
  exact ⟨get_put_same _ _ _ (by decide), rfl⟩

theorem loadDropped_ends {d : Device} {l : Load} (h : l.fallback = true ∨ d.bit 0x20040 3 = false) :
    (loadDropped d l).get 0x20010 0 4 = 7 ∧ (loadDropped d l).boot.load = none := by
  rw [loadDropped, if_pos (by simpa using h)]
  exact ⟨bootDone_phase _, by rw [bootDone_boot]; rfl⟩

/-- A record that fails (R590, R591, R602). -/
theorem loadFail_failed (d : Device) (l : Load) (kind : Nat) (st : Status) (pw : Nat) :
    RecordFailed l kind st pw (d.loadFail l kind st pw) := by
  rw [loadFail_eq]
  obtain ⟨hregs, hboot, hsafe⟩ := safeEnter_safe ((recordClosed d l kind st pw).ev 0x20014 1) 0 2
  have hev : (((recordClosed d l kind st pw).ev 0x20014 1).safeEnter 0 2).bit 0x20014 1 = true := by
    rw [bit_of_rd (hregs 0x20014 (.inr (by decide))), bit_ev_same _ _ (by decide)]
  have hrec : ∀ a, a < 0x800 → (((recordClosed d l kind st pw).ev 0x20014 1).safeEnter 0 2).rd a = (recordClosed d l kind st pw).rd a := by
    intro a ha
    rw [hregs a (.inl (by omega)), rd_ev_ne _ _ (by omega)]
  generalize ((recordClosed d l kind st pw).ev 0x20014 1).safeEnter 0 2 = d2 at *
  have hkeep := loadDropped_keeps d2 l
  have hdir : (loadDropped d2 l).bit 0x20040 3 = d2.bit 0x20040 3 := bit_of_rd (hkeep _ (by unfold DoneRegs; decide)) 3
  refine ⟨loadDropped_event l hev, by rw [loadDropped_fc, hsafe], fun hf hb => loadDropped_clear hf (hdir ▸ hb),
    fun h => loadDropped_ends (hdir ▸ h), fun k hk hlt => ?_⟩
  have hb := oprecBase_le hlt
  have hrd : ∀ a, a < 0x800 → (loadDropped d2 l).rd a = (recordClosed d l kind st pw).rd a := by
    intro a ha
    rw [hkeep a (by unfold DoneRegs; omega), hrec a ha]
  obtain ⟨hstate, hres, hidx, hwhy⟩ := recordClosed_words (d := d) kind st pw hk
  exact ⟨by rw [get_of_rd (hrd _ (by omega)), hstate], by rw [get_of_rd (hrd _ (by omega)), hres], by rw [hrd _ (by omega), hidx],
    by rw [hrd _ (by omega), hwhy]⟩

/-! A record that is applied. -/

/-- The record at the front counted in the operation record. -/
def recordCounted (d : Device) (l : Load) : Device :=
  match l.op with
  | some k => d.opSteps k (l.idx + 1)
  | none => d

/-- The next record of the image in hand. -/
def recordNext (d : Device) (l : Load) : Device := (recordCounted d l).onBoot (fun b => { b with load := some (afterRecord l) })

theorem recordCounted_only (d : Device) (l : Load) : OnlyRegs d (recordCounted d l) := by
  unfold recordCounted
  split
  · exact opSteps_only _ _ _
  · exact .refl d

/-- The words of operation records do not stand at the address of BOOT_STATUS. -/
theorem rd_recordCounted_status (d : Device) (l : Load) : (recordCounted d l).rd 0x20010 = d.rd 0x20010 := by
  unfold recordCounted
  split
  · exact rd_opSteps_ne _ (by unfold oprecBase; omega)
  · rfl

theorem loadOk_eq {d : Device} {l : Load} (h : d.loading = some l) : d.loadOk = (recordNext d l).loadPeek := by
  have hload : (recordCounted d l).boot.load = some l := by rw [(recordCounted_only d l).boot]; exact (loading_iff.1 h).2
  have hstep : (fun l : Load =>
      { l with idx := l.idx + 1, body := l.body.drop (1 + (match l.body with | w :: _ => fld w 8 16 | [] => 0)), wait := none }) =
      afterRecord := by
    funext l
    cases hb : l.body <;> simp [afterRecord, hb]
  have hok : d.loadOk = ((recordCounted d l).onLoad afterRecord).loadPeek := by
    rw [← hstep, Device.loadOk, h]
    rfl
  rw [hok, onLoad_some afterRecord hload]
  rfl

theorem recordNext_loading {d : Device} {l : Load} (h : d.loading = some l) : (recordNext d l).loading = some (afterRecord l) := by
  refine loading_iff.2 ⟨?_, rfl⟩
  rw [recordNext, get_of_rd ((rd_onBoot _ _ _).trans (rd_recordCounted_status d l))]
  exact (loading_iff.1 h).1

/-- What the accesses of a record left, and the next record well formed: it is applied (R590). -/
theorem loadOk_applied {d : Device} {l : Load} (h : d.loading = some l) (hm : (afterRecord l).malformed = false) :
    RecordApplied l d d.loadOk := by
  have hnext := recordNext_loading h
  have hok : d.loadOk = recordNext d l := by rw [loadOk_eq h, Device.loadPeek, hnext]; simp [hm]
  rw [hok]
  refine ⟨rfl, (loading_iff.1 hnext).1, fun k hk => ?_, fun a ha => ?_⟩
  · rw [recordNext, rd_onBoot, recordCounted, hk]
    exact rd_wr_same _ _ _
  · rw [recordNext, rd_onBoot, recordCounted]
    cases hk : l.op with
    | none => rfl
    | some k => exact rd_opSteps_ne _ (by simpa [hk] using ha)

/-- The next record malformed: it fails before it acts (R602). -/
theorem loadOk_malformed {d : Device} {l : Load} (h : d.loading = some l) (hm : (afterRecord l).malformed = true) :
    RecordFailed (afterRecord l) 1 .range 0 d.loadOk := by
  have hok : d.loadOk = (recordNext d l).loadFail (afterRecord l) 1 .range 0 := by
    rw [loadOk_eq h, Device.loadPeek, recordNext_loading h]; simp [hm]
  rw [hok]
  exact loadFail_failed _ _ _ _ _

/-- The record of a refused access leaves the load. -/
theorem refused_loading (d : Device) (x : Access) (st : Status) (a : Nat) : (d.refused x st a).loading = d.loading :=
  loading_of (rd_refused _ _ _ _ (by decide)) (refused_boot _ _ _ _)

theorem loadDone_ok (d : Device) (pw : Nat) : d.loadDone .ok pw = d.loadOk := if_pos rfl

theorem loadDone_fails {d : Device} {l : Load} {st : Status} (pw : Nat) (hl : d.loading = some l) (h : st ≠ .ok) :
    d.loadDone st pw = d.loadFail l 0 st pw := by rw [Device.loadDone, if_neg h, hl]

end Sys2Proof.Machine
end

section
/-! SUPPORT. The accesses of the records of a configuration load (R58, R64, R600, R601): plain registers of the management domain,
CFG_COMMIT, and the locks of blocks. -/

namespace Sys2Proof.Machine
open Sys2Proof Sys2Proof.Safety

/-! HOST_MEASUREMENT of MEASURE: twelve plain 32-bit registers. -/

/-- The row of HOST_MEASUREMENT (R654). -/
def hostMeasRow : RegRow := (rw 0x40 0xFFFFFFFF 0 [] 0x30).uncovered

theorem locOf_hostMeas : ∀ i < 12, locOf (0x40040 + 4 * i) = some ⟨.measure, 0, 0x40 + 4 * i⟩ := by decide
theorem rowAt_hostMeas : ∀ i < 12, rowAt ⟨.measure, 0, 0x40 + 4 * i⟩ = some hostMeasRow := by decide

theorem domainAt_hostMeas {i : Nat} (hi : i < 12) : domainAt (0x40040 + 4 * i) = none := by
  rw [domainAt_of (locOf_hostMeas i hi)]; rfl

theorem wideAt_hostMeas {i : Nat} (hi : i < 12) : wideAt (0x40040 + 4 * i) = none := by
  rw [wideAt, locOf_hostMeas i hi]
  simp only [rowAt_hostMeas i hi]
  rfl

/-- Every word is legal there. -/
theorem hostMeas_legal (v : Word) : hostMeasRow.legal v.toNat = true := by
  have hres : hostMeasRow.reserved v.toNat = false := by
    have hbits : 0xFFFFFFFF - hostMeasRow.bits % 0x100000000 = 0 := by decide
    rw [RegRow.reserved, hbits, Nat.and_zero]
    rfl
  have hchks : hostMeasRow.chks = [] := rfl
  simp [RegRow.legal, hres, hchks]

theorem refusal_hostMeas (d : Device) (a i : Nat) (v : Word) : d.refusal a ⟨.measure, 0, 0x40 + 4 * i⟩ hostMeasRow v = none := by
  have hacc : hostMeasRow.acc = .rw := rfl
  simp [Device.refusal, Device.standbyBars, Device.bridgeBad, hostMeas_legal, hacc]

theorem applyLoc_hostMeas (d : Device) (m a i : Nat) (v : Word) (hi : i < 12) :
    d.applyLoc m a ⟨.measure, 0, 0x40 + 4 * i⟩ hostMeasRow v = (.ok, d.wr a v) := by
  have hs : d.store a hostMeasRow v = d.wr a v := store_plain d a v rfl
  have hacc : hostMeasRow.acc = .rw := rfl
  have h1 : 0x40 + 4 * i ≠ 0x30 := by omega
  have h2 : 0x40 + 4 * i ≠ 0x80 := by omega
  have h3 : 0x40 + 4 * i ≠ 0x90 := by omega
  simp [Device.applyLoc, Device.memberWord, hacc, Device.applyBlk, Device.applyMeasure, h1, h2, h3, hs]

/-- A word is written to HOST_MEASUREMENT by a master with nothing staged. -/
theorem writeWord_hostMeas {d : Device} {direct : Bool} {m i : Nat} (v : Word) (hs : d.staged m = none) (hi : i < 12) :
    d.writeWord direct m (0x40040 + 4 * i) v = (.ok, d.wr (0x40040 + 4 * i) v) := by
  have hcov : hostMeasRow.cov = false := rfl
  rw [writeWord_taken hs (locOf_hostMeas i hi) (rowAt_hostMeas i hi) (.inr rfl) rfl (by decide) (by decide) (by decide)
    (refusal_hostMeas d _ i v), Device.takeWrite, applyLoc_hostMeas d m _ i v hi]
  simp [noteCovered, hcov, settleAt, locOf_hostMeas i hi]

theorem readWord_hostMeas {d : Device} {m i : Nat} (hs : d.staged m = none) (hi : i < 12) :
    d.readWord m (0x40040 + 4 * i) = (.ok, d.rd (0x40040 + 4 * i), d) := by
  have hview : d.view (0x40040 + 4 * i) = d.rd (0x40040 + 4 * i) := by
    rw [view_of_row (locOf_hostMeas i hi) (rowAt_hostMeas i hi) (by decide) (by decide)]
    have h : 0x40 + 4 * i ≠ 0x10 := by omega
    simp [Device.viewLoc, h]
  rw [readWord_plain hs (locOf_hostMeas i hi) (rowAt_hostMeas i hi) rfl (fun x hx => by cases hx), hview]

theorem loadWord_hostMeas {d : Device} {i : Nat} (v : Word) (hs : d.staged 3 = none) (hi : i < 12) :
    d.loadWord (0x40040 + 4 * i) v = (.ok, d.wr (0x40040 + 4 * i) v) := by
  rw [Device.loadWord, domainAt_hostMeas hi, writeWord_hostMeas v hs hi]
  rfl

theorem rmwNow_hostMeas {d : Device} {i : Nat} (mask v : Word) (hs : d.staged 3 = none) (hi : i < 12) :
    (d.drainFor (0x40040 + 4 * i)).rmwNow 3 (0x40040 + 4 * i) mask v false =
      (.ok, d.rd (0x40040 + 4 * i),
        d.wr (0x40040 + 4 * i) ((d.rd (0x40040 + 4 * i) &&& ~~~mask) ||| (v &&& mask))) := by
  have hdrain : d.drainFor (0x40040 + 4 * i) = d := by rw [Device.drainFor, domainAt_hostMeas hi]
  rw [hdrain, Device.rmwNow, Device.readEcc, readWord_hostMeas hs hi]
  simp [writeWord_hostMeas _ hs hi, touched_unstaged hs]

/-- Consecutive words are written to HOST_MEASUREMENT. -/
theorem loadWords_hostMeas {i : Nat} (ws : List Word) : ∀ (d : Device) (n : Nat), d.staged 3 = none → i + n + ws.length ≤ 12 →
    d.loadWords (0x40040 + 4 * i) n ws = (.ok, n + ws.length, d.wrs (0x40040 + 4 * (i + n)) ws) := by
  induction ws with
  | nil => intro d n _ _; rfl
  | cons v t ih =>
    intro d n hs h
    rw [List.length_cons] at h
    have ha : 0x40040 + 4 * i + 4 * n = 0x40040 + 4 * (i + n) := by omega
    rw [Device.loadWords, ha, loadWord_hostMeas v hs (by omega)]
    dsimp only
    rw [ih (d.wr _ v) (n + 1) hs (by omega), Device.wrs, List.length_cons, show i + (n + 1) = i + n + 1 by omega,
      show n + 1 + t.length = n + (t.length + 1) by omega]
    rfl

/-- A word of a 16-byte write at an address that begins no wide register. -/
theorem writeWords_cons {d d1 : Device} {m a n : Nat} {v : Word} (t : List Word) (hw : wideAt (a + 4 * n) = none)
    (h : d.writeWord false m (a + 4 * n) v = (.ok, d1)) : d.writeWords m a n (v :: t) = d1.writeWords m a (n + 1) t := by
  rcases t with _ | ⟨w1, _ | ⟨w2, _ | ⟨w3, t⟩⟩⟩ <;> simp [Device.writeWords, hw, h]

theorem writeWords_hostMeas {i : Nat} (ws : List Word) : ∀ (d : Device) (n : Nat), d.staged 3 = none → i + n + ws.length ≤ 12 →
    d.writeWords 3 (0x40040 + 4 * i) n ws = (.ok, n + ws.length, false, d.wrs (0x40040 + 4 * (i + n)) ws) := by
  induction ws with
  | nil => intro d n _ _; simp [Device.writeWords, Device.wrs]
  | cons v t ih =>
    intro d n hs h
    rw [List.length_cons] at h
    have ha : 0x40040 + 4 * i + 4 * n = 0x40040 + 4 * (i + n) := by omega
    rw [writeWords_cons t (by rw [ha]; exact wideAt_hostMeas (by omega)) (by rw [ha]; exact writeWord_hostMeas v hs (by omega)),
      ih (d.wr _ v) (n + 1) hs (by omega), Device.wrs, List.length_cons, show i + (n + 1) = i + n + 1 by omega,
      show n + 1 + t.length = n + (t.length + 1) by omega]
    rfl

/-! A write by a master whatever it has staged. -/

/-- What a staging that is discarded touches: SNAP_LOST's count and its event, and the bridge. -/
theorem touch_kept (d : Device) (m a : Nat) {S : Nat → Prop} (h1 : ¬S 0x98) (h2 : ¬S 0x54) :
    KeptOn S d (d.touch m a) ∧ (d.touch m a).boot = d.boot ∧ (d.touch m a).fc = d.fc ∧ (d.touch m a).pw = d.pw ∧
      (d.touch m a).uptime = d.uptime := by
  unfold Device.touch
  split
  · have hst : (d.setStaged m none).regs = d.regs := rfl
    exact ⟨((KeptOn.of_regs hst).inc h1).ev _ h2, by simp [Device.discard, Device.setStaged, Device.onBus]⟩
  · exact ⟨.refl _ d, rfl, rfl, rfl, rfl⟩

theorem touched_only (d : Device) (m a : Nat) (d1 : Device) : OnlyRegs d1 (d.touched m a d1) := by
  unfold Device.touched
  split
  · exact (OnlyRegs.refl d1).ev _ _
  · exact .refl d1

theorem rd_touched (d : Device) (m a : Nat) (d1 : Device) {b : Nat} (h : b ≠ 0x54) : (d.touched m a d1).rd b = d1.rd b := by
  unfold Device.touched
  split
  · exact rd_ev_ne _ _ h
  · rfl

/-- A write of a 32-bit register of the management domain that the bridge accepts. -/
theorem writeWord_mgmt {d : Device} {m a : Nat} {v : Word} {l : Loc} {r : RegRow} (hl : locOf a = some l) (hr : rowAt l = some r)
    (hd : domainOf l = none) (hw : r.wide = false) (hro : r.acc ≠ .ro) (hrs : r.acc ≠ .rs) (hk : r.acc ≠ .lock)
    (hn : (d.touch m a).refusal a l r v = none) :
    d.writeWord false m a v = (((d.touch m a).takeWrite m a l r v).1, d.touched m a ((d.touch m a).takeWrite m a l r v).2) := by
  simp [Device.writeWord, Device.writeAt, hl, hr, hro, hrs, hk, hw, hn, hd]

/-! CFG_COMMIT (R77). -/

/-- The row of CFG_COMMIT. -/
def cfgCommitRow : RegRow := wo 0x30 0x1

theorem locOf_cfgCommit : locOf 0x30 = some ⟨.global, 0, 0x30⟩ := by decide
theorem rowAt_cfgCommit : rowAt ⟨.global, 0, 0x30⟩ = some cfgCommitRow := by decide
theorem domainAt_cfgCommit : domainAt 0x30 = none := by decide
theorem wideReg_cfgCommit : wideReg 0x30 = false := by decide

theorem refusal_cfgCommit (d : Device) : d.refusal 0x30 ⟨.global, 0, 0x30⟩ cfgCommitRow 1 = none := by
  have hlegal : cfgCommitRow.legal 1 = true := by decide
  have hacc : cfgCommitRow.acc = .wo := rfl
  simp [Device.refusal, Device.standbyBars, Device.bridgeBad, hlegal, hacc]

theorem takeWrite_cfgCommit (d : Device) (m : Nat) : d.takeWrite m 0x30 ⟨.global, 0, 0x30⟩ cfgCommitRow 1 = d.commit m 1 := by
  have happly : d.applyLoc m 0x30 ⟨.global, 0, 0x30⟩ cfgCommitRow 1 = d.commit m 1 := rfl
  have hcov : cfgCommitRow.cov = false := rfl
  rw [Device.takeWrite, happly]
  simp [noteCovered, hcov, settleAt, locOf_cfgCommit]

theorem loadWord_cfgCommit (d : Device) :
    d.loadWord 0x30 1 =
      (((d.touch 3 0x30).commit 3 1).1,
        (d.touched 3 0x30 ((d.touch 3 0x30).commit 3 1).2).refused { master := 3, wide := false } ((d.touch 3 0x30).commit 3 1).1 0x30) := by
  rw [Device.loadWord, domainAt_cfgCommit]
  dsimp only
  rw [wideReg_cfgCommit, writeWord_mgmt locOf_cfgCommit rowAt_cfgCommit rfl rfl (by decide) (by decide) (by decide) (refusal_cfgCommit _),
    takeWrite_cfgCommit]

theorem commit_uptime (d : Device) (m : Nat) : (d.commit m 1).2.uptime = d.uptime := by
  have hopen := (opOpen_only d 0x0A m 1).uptime
  unfold Device.commit
  split
  · rfl
  · cases h : d.opPick with
    | none => rw [opOpen_none h] at hopen ⊢; exact hopen
    | some k =>
      rw [opOpen_some h] at hopen ⊢
      dsimp only at hopen ⊢
      generalize d.opOpenAt k 0x0A m 1 = d1 at hopen ⊢
      exact hopen

/-- A commit takes no time. -/
theorem loadWord_cfgCommit_uptime (d : Device) : (d.loadWord 0x30 1).2.uptime = d.uptime := by
  rw [loadWord_cfgCommit, refused_uptime, (touched_only _ _ _ _).uptime, commit_uptime]
  exact (touch_kept d 3 0x30 (S := fun _ => False) id id).2.2.2.2

/-- The device of a commit that has found its record (R77). -/
def committing (d : Device) (k : Nat) : Device :=
  ({ d.opOpenAt k 0x0A 3 1 with crc := { (d.opOpenAt k 0x0A 3 1).crc with latchThis := false, commitRec := some k } } : Device).setBit 0x50 2
    true

theorem loadWord_cfgCommit_opens {d : Device} {k : Nat} (hs : d.staged 3 = none) (hp : d.bit 0x50 2 = false) (hk : d.opPick = some k) :
    d.loadWord 0x30 1 = (.ok, committing d k) := by
  have hbit : bitAt 1#32 0 = true := by decide
  have hcommit : d.commit 3 1 = (.ok, committing d k) := by
    rw [Device.commit, if_neg (by simp [hbit, hp]), opOpen_some hk]
    rfl
  rw [loadWord_cfgCommit, touch_unstaged hs, hcommit, touched_unstaged hs]
  rfl

/-! The locks of blocks (R43, R603). -/

/-- The row of BLOCK_LOCK. -/
def blockLockRow : RegRow := { base := 0xC, acc := .lock, bits := 0x301, cov := false }

theorem locOf_blockLock : ∀ i < 14, (locOf (0x10000 * i + 0xC)).bind rowAt = some blockLockRow := by decide
theorem domainAt_blockLock : ∀ i < 14, domainAt (0x10000 * i + 0xC) = none := by decide

/-- A lock that is set, or stood set, is set. -/
theorem lockWrite_sets (d : Device) (a : Nat) : (d.lockWrite a blockLockRow 1).2.bit a 0 = true := by
  have hlegal : blockLockRow.legal 1 = true := by decide
  have h0 : bitAt 1#32 0 = true := by decide
  have h9 : bitAt 1#32 9 = false := by decide
  by_cases h : d.bit a 0 = true
  · simp [Device.lockWrite, h, h0, h9]
  · rw [Bool.not_eq_true] at h
    have hset : d.lockWrite a blockLockRow 1 = (.ok, d.setBit a 0 true) := by
      simp [Device.lockWrite, h, h0, h9, hlegal, Device.when]
    rw [hset]
    exact bit_setBit_same _ _ _ (by decide)

/-- The lock of a global block after a record's write of it. -/
theorem loadWord_blockLock {i : Nat} (d : Device) (hi : i < 14) : (d.loadWord (0x10000 * i + 0xC) 1).2.bit (0x10000 * i + 0xC) 0 = true := by
  obtain ⟨l, hl, hr⟩ := Option.bind_eq_some_iff.1 (locOf_blockLock i hi)
  have hacc : blockLockRow.acc = .lock := rfl
  have hwrite : d.writeWord false 3 (0x10000 * i + 0xC) 1 =
      (((d.touch 3 (0x10000 * i + 0xC)).lockWrite (0x10000 * i + 0xC) blockLockRow 1).1,
        d.touched 3 (0x10000 * i + 0xC) ((d.touch 3 (0x10000 * i + 0xC)).lockWrite (0x10000 * i + 0xC) blockLockRow 1).2) := by
    simp [Device.writeWord, Device.writeAt, hl, hr, hacc]
  rw [Device.loadWord, domainAt_blockLock i hi]
  dsimp only
  have hb : 0x10000 * i + 0xC < 0x54 ∨ 0xB4 < 0x10000 * i + 0xC := by omega
  rw [hwrite, bit_of_rd ((rd_refused _ _ _ _ hb).trans (rd_touched _ _ _ _ (by omega)))]
  exact lockWrite_sets _ _

end Sys2Proof.Machine
end

section
/-! SUPPORT. The end of a configuration load (R562, R590, R591, R603): the locks, SAFE_EXIT of a fallback load, and the end of the
boot. -/

namespace Sys2Proof.Machine
open Sys2Proof Sys2Proof.Safety

/-! SAFE_EXIT. -/

/-- The locks of the blocks, and the registers of the Pantry. -/
def LockRegs (a : Nat) : Prop := a % 0x10000 = 0xC ∨ (0x20000 ≤ a ∧ a < 0x30000)

theorem not_lockRegs {a : Nat} (h : a % 0x10000 ≠ 0xC) (h' : a < 0x20000 ∨ 0x30000 ≤ a) : ¬LockRegs a := by unfold LockRegs; omega

/-- What SAFE_EXIT leaves: the locks, the Pantry, and of the Fault Collector all but SAFE_STATE. -/
structure ExitKept (d d' : Device) : Prop where
  regs : KeptOn LockRegs d d'
  fc : d'.fc = d.fc

theorem ExitKept.refl (d : Device) : ExitKept d d := ⟨.refl _ d, rfl⟩
theorem ExitKept.trans {d d' d'' : Device} (h : ExitKept d d') (h' : ExitKept d' d'') : ExitKept d d'' :=
  ⟨h.regs.trans h'.regs, h'.fc.trans h.fc⟩
theorem ExitKept.of_regs {d d' : Device} (h : d'.regs = d.regs) (hf : d'.fc = d.fc) : ExitKept d d' := ⟨.of_regs h, hf⟩
theorem ExitKept.wr {d d' : Device} (h : ExitKept d d') {b : Nat} (v : Word) (hb : ¬LockRegs b) : ExitKept d (d'.wr b v) :=
  ⟨h.regs.wr v hb, h.fc⟩
theorem ExitKept.put {d d' : Device} (h : ExitKept d d') {b : Nat} (lo w v : Nat) (hb : ¬LockRegs b) : ExitKept d (d'.put b lo w v) :=
  h.wr _ hb
theorem ExitKept.inc {d d' : Device} (h : ExitKept d d') {b : Nat} (hb : ¬LockRegs b) : ExitKept d (d'.inc b) := h.wr _ hb
theorem ExitKept.ev {d d' : Device} (h : ExitKept d d') {b : Nat} (i : Nat) (hb : ¬LockRegs b) : ExitKept d (d'.ev b i) := h.wr _ hb

theorem WallKept.exitKept {d d' : Device} (h : WallKept d d') : ExitKept d d' :=
  ⟨fun a ha => h.regs a (by unfold LockRegs at ha; omega) (by unfold LockRegs at ha; omega) (by unfold LockRegs at ha; omega), h.fc⟩

theorem goRefuse_exitKept (d : Device) (cause : Nat) : ExitKept d (d.goRefuse cause) :=
  (((ExitKept.refl d).inc (not_lockRegs (by decide) (by decide))).wr _ (not_lockRegs (by decide) (by decide))).ev _
    (not_lockRegs (by decide) (by decide))

theorem goTake_exitKept (d : Device) (k : Nat) : ExitKept d (d.goTake k) := by
  refine List.foldlRecOn (motive := ExitKept d) _ _ ?_ (fun e he n _ => he.wr _ (not_lockRegs ?_ (.inr ?_)))
  · exact ((ExitKept.refl d).put _ _ _ (not_lockRegs (a := 0xC0010) (by decide) (by decide))).trans (.of_regs rfl rfl)
  all_goals unfold sliceBase; omega

theorem setSw_exitKept (d : Device) (w : Option HallSw) : ExitKept d (d.setSw w) := .of_regs rfl rfl

theorem hallRestart_exitKept (d : Device) (cfg : Word) (sec ns : Nat) (crc : Word) : ExitKept d (d.hallRestart cfg sec ns crc) := by
  unfold Device.hallRestart
  beta_reduce
  split
  · exact goRefuse_exitKept d 5
  split
  · exact goRefuse_exitKept d 6
  split
  · exact goRefuse_exitKept d 7
  have hopen := (opOpen_wallKept d 1 5 2).exitKept
  cases h : d.opPick with
  | none =>
    rw [opOpen_none h] at hopen ⊢
    exact hopen.trans (goRefuse_exitKept _ 7)
  | some k =>
    rw [opOpen_some h] at hopen ⊢
    exact (hopen.trans (goTake_exitKept _ k)).trans (setSw_exitKept _ _)

theorem hallClaim_exitKept (d : Device) : ExitKept d d.hallClaim := by
  unfold Device.hallClaim
  split
  · have hput := fun page => (ExitKept.refl d).put (b := 0xC0010) 0 1 page (not_lockRegs (by decide) (by decide))
    split
    · exact hput _
    split
    · exact (hput _).trans (hallRestart_exitKept _ _ _ _ _)
    · exact (hput _).ev _ (not_lockRegs (by decide) (by decide))
  · exact .refl d

theorem sinceLease_exitKept (d : Device) : ExitKept d d.sinceLease.2 := by
  unfold Device.sinceLease
  split
  · exact .refl d
  · exact .of_regs rfl rfl

theorem pwTo_exitKept (d : Device) (role : Nat) : ExitKept d (d.pwTo role) :=
  ((ExitKept.refl d).put _ _ _ (not_lockRegs (by decide) (by decide))).ev _ (not_lockRegs (by decide) (by decide))

/-- The registers a claim writes. -/
theorem pwClaim_exitKept {d : Device} (cause : Nat) (hop : ∀ k, d.pw.op = some k → k < 16) : ExitKept d (d.pwClaim cause) := by
  have hfree := (pwBulkDrop_wallKept hop).exitKept.trans (sinceLease_exitKept d.pwBulkDrop)
  unfold Device.pwClaim
  generalize d.pwBulkDrop.sinceLease = p at hfree ⊢
  have hto := ((hfree.trans (pwTo_exitKept p.2 2)).ev (b := 0x70018) 2 (not_lockRegs (by decide) (by decide))).inc (b := 0x70038)
    (not_lockRegs (by decide) (by decide))
  beta_reduce
  generalize ((p.2.pwTo 2).ev 0x70018 2).inc 0x70038 = e at hto ⊢
  have hwords : ExitKept e ((e.wrs 0x70070 [wd cause, p.2.pw.rxNum, p.1, 0]).wrStamp 0x70080) := by
    refine ⟨((KeptOn.refl _ e).wrs _ (fun a ha => ?_)).wrs _ (fun a ha => ?_), by simp [Device.wrStamp]⟩
    · unfold LockRegs at ha
      simp only [List.length_cons, List.length_nil]
      omega
    · unfold LockRegs at ha
      rw [stamp_length]
      omega
  have hlast := hto.trans hwords
  generalize (e.wrs 0x70070 [wd cause, p.2.pw.rxNum, p.1, 0]).wrStamp 0x70080 = e' at hlast ⊢
  exact (hlast.trans (.of_regs (onPw_regs _ _) rfl)).trans (hallClaim_exitKept _)

theorem pwTry_exitKept {d : Device} (hop : ∀ k, d.pw.op = some k → k < 16) : ExitKept d d.pwTry := by
  unfold Device.pwTry
  split
  · exact .refl d
  split
  · exact pwClaim_exitKept 1 hop
  split
  · exact pwClaim_exitKept _ hop
  · exact .refl d

/-- The device leaves SAFE_STATE, or was not in it (R562). -/
theorem safeExit_exits {d : Device} (hop : ∀ k, d.pw.op = some k → k < 16) : KeptOn LockRegs d d.safeExit ∧ d.safeExit.fc.safe = false := by
  unfold Device.safeExit
  split
  · generalize he : d.onFc (fun c => { c with safe := false }) = e
    have hregs : KeptOn LockRegs d e := by rw [← he]; exact .of_regs (onFc_regs _ _)
    have hpw : e.pw = d.pw := by rw [← he]; rfl
    have hsafe : e.fc.safe = false := by rw [← he]; rfl
    have hto : ExitKept e (if e.pwRole = 0 then e.pwTo 1 else e) ∧ (if e.pwRole = 0 then e.pwTo 1 else e).pw = e.pw := by
      split
      · exact ⟨pwTo_exitKept e 1, by simp [Device.pwTo]⟩
      · exact ⟨.refl e, rfl⟩
    have hk := hto.1.trans (pwTry_exitKept (by rw [hto.2, hpw]; exact hop))
    exact ⟨hregs.trans hk.regs, by rw [hk.fc, hsafe]⟩
  · rename_i h
    exact ⟨.refl _ d, by simpa using h⟩

/-- FC_CMD with SAFE_EXIT alone. -/
theorem fcCmd_exit (d : Device) : d.fcCmd 1 = if d.fatalLive then (.range, d.fcRefuse 0 2) else (.ok, d.safeExit) := by
  have hlegal : ¬((1 : Word) &&& ~~~0x03FF0003 ≠ 0) := by decide
  have h0 : bitAt (1 : Word) 0 = true := by decide
  have h1 : bitAt (1 : Word) 1 = false := by decide
  have hf : fld (1 : Word) 16 10 = 0 := by decide
  have hrearm : ∀ e : Device, e.rearm 0 = e := fun e => by simp [Device.rearm]
  rw [Device.fcCmd, if_neg hlegal, h0, h1, hf, hrearm, Bool.true_and]
  rfl

/-- The row of FC_CMD (R574). -/
def fcCmdRow : RegRow := wo 0x1C 0x03FF0003

theorem locOf_fcCmd : locOf 0x1001C = some ⟨.fault, 0, 0x1C⟩ := by decide
theorem rowAt_fcCmd : rowAt ⟨.fault, 0, 0x1C⟩ = some fcCmdRow := by decide

theorem refusal_fcCmd (d : Device) (v : Word) : d.refusal 0x1001C ⟨.fault, 0, 0x1C⟩ fcCmdRow v = none := by
  have hacc : fcCmdRow.acc = .wo := rfl
  simp [Device.refusal, Device.standbyBars, hacc, faultCause]

theorem takeWrite_fcCmd (d : Device) (m : Nat) (v : Word) : d.takeWrite m 0x1001C ⟨.fault, 0, 0x1C⟩ fcCmdRow v = d.fcCmd v := by
  have happly : d.applyLoc m 0x1001C ⟨.fault, 0, 0x1C⟩ fcCmdRow v = d.fcCmd v := rfl
  have hcov : fcCmdRow.cov = false := rfl
  rw [Device.takeWrite, happly]
  simp [noteCovered, hcov, settleAt, locOf_fcCmd]

theorem busWrite_fcCmd (d : Device) (v : Word) :
    d.busWrite 3 0x1001C 15 v =
      ((d.touched 3 0x1001C ((d.touch 3 0x1001C).fcCmd v).2).refused { master := 3, wide := wideReg 0x1001C }
        ((d.touch 3 0x1001C).fcCmd v).1 0x1001C).complete 3 { status := ((d.touch 3 0x1001C).fcCmd v).1 } := by
  have hwrite := writeWord_mgmt (m := 3) locOf_fcCmd rowAt_fcCmd rfl rfl (by decide) (by decide) (by decide) (refusal_fcCmd (d.touch 3 0x1001C) v)
  rw [takeWrite_fcCmd] at hwrite
  have hbytes : d.writeBytes false 3 0x1001C 15 v = d.writeWord false 3 0x1001C v := if_pos rfl
  have ha : ¬(0x1001C % 4 ≠ 0) := by decide
  rw [Device.busWrite, if_neg ha, hbytes, hwrite]
  rfl

theorem fcLive_of_rd {d d' : Device} {i : Nat} (h : d'.rd (srcBase i + 8) = d.rd (srcBase i + 8)) : d'.fcLive i = d.fcLive i := bit_of_rd h _

/-- SAFE_EXIT by the loader (R562, R591): the locks and the Pantry stay, and without a fatal condition the device leaves SAFE_STATE. -/
theorem busWrite_exit {d : Device} (hop : ∀ k, d.pw.op = some k → k < 16) :
    KeptOn LockRegs d (d.busWrite 3 0x1001C 15 1) ∧
      (d.fcLive 40 = false → d.fcLive 42 = false → (d.busWrite 3 0x1001C 15 1).fc.safe = false) := by
  rw [busWrite_fcCmd, fcCmd_exit]
  obtain ⟨htouch, -, -, hpw, -⟩ := touch_kept d 3 0x1001C (S := LockRegs) (not_lockRegs (by decide) (by decide))
    (not_lockRegs (by decide) (by decide))
  obtain ⟨hlive, -⟩ := touch_kept d 3 0x1001C (S := fun a => 0x10000 ≤ a) (by decide) (by decide)
  have hfatal : (d.touch 3 0x1001C).fatalLive = d.fatalLive := by
    rw [Device.fatalLive, Device.fatalLive, fcLive_of_rd (hlive _ (by decide)), fcLive_of_rd (hlive _ (by decide))]
  rw [hfatal]
  generalize d.touch 3 0x1001C = e at htouch hpw
  have hout : ∀ (x : Status × Device) (c : Completion),
      KeptOn LockRegs x.2 (((d.touched 3 0x1001C x.2).refused { master := 3, wide := wideReg 0x1001C } x.1 0x1001C).complete 3 c) := by
    intro x c a ha
    unfold LockRegs at ha
    rw [rd_complete, rd_refused _ _ _ _ (by omega), rd_touched _ _ _ _ (by omega)]
  cases hf : d.fatalLive with
  | true =>
    have hrefuse : KeptOn LockRegs e (e.fcRefuse 0 2) :=
      (((KeptOn.refl _ e).inc (not_lockRegs (by decide) (by decide))).wr _ (not_lockRegs (by decide) (by decide))).ev _
        (not_lockRegs (by decide) (by decide))
    refine ⟨(htouch.trans hrefuse).trans (hout (.range, e.fcRefuse 0 2) _), fun h40 h42 => ?_⟩
    simp [Device.fatalLive, h40, h42] at hf
  | false =>
    obtain ⟨hregs, hsafe⟩ := safeExit_exits (d := e) (by rw [hpw]; exact hop)
    refine ⟨(htouch.trans hregs).trans (hout (.ok, e.safeExit) _), fun _ _ => ?_⟩
    have hfc := (touched_only d 3 0x1001C e.safeExit).fc
    simp only [Bool.false_eq_true, if_false, refused_ok]
    exact (congrArg FaultCol.safe hfc).trans hsafe

/-! The end of a load. -/

/-- The operation record and the flags of a load that has ended OK (R590). -/
def loadClosed (d : Device) (l : Load) : Device :=
  (((match l.op with | some k => (d.opSteps k (l.idx + 1)).opClose k .ok | none => d).setBit 0x20010 6 true).setBit 0x20010 5
    (decide (l.slot = 3))).wr 0x20024 (wd (slotGen (d.loadImage l)))

/-- A fallback load leaves SAFE_STATE (R591). -/
def loadFellBack (d : Device) (l : Load) : Device := if l.fallback then (d.busWrite 3 0x1001C 15 1).setBit 0x20010 7 true else d

theorem loadEnd_eq (d : Device) (l : Load) :
    d.loadEnd l = ((loadFellBack (loadClosed d l) l).onBoot (fun b => { b with load := none })).bootDone := rfl

/-- The registers that the end of a load leaves but for its flags. -/
def EndRegs (a : Nat) : Prop := (a < 0x54 ∨ 0x800 ≤ a) ∧ a ≠ 0x20010 ∧ a ≠ 0x20024

/-- The operation record of a load that has ended OK. -/
def loadCounted (d : Device) (l : Load) : Device := match l.op with | some k => (d.opSteps k (l.idx + 1)).opClose k .ok | none => d

theorem loadCounted_only (d : Device) (l : Load) : OnlyRegs d (loadCounted d l) := by
  unfold loadCounted
  split
  · exact (opSteps_only _ _ _).trans (opClose_only _ _ _)
  · exact .refl d

theorem loadCounted_keeps {d : Device} {l : Load} (hk : ∀ k, l.op = some k → k < 16) :
    KeptOn (fun a => a < 0x54 ∨ 0x800 ≤ a) d (loadCounted d l) := by
  intro a ha
  unfold loadCounted
  split
  · rename_i k h
    have hlt := hk k h
    have := oprecBase_ge k
    have := oprecBase_le hlt
    rw [rd_opClose_outside _ _ hlt ha, rd_opSteps_ne _ (by omega)]
  · rfl

theorem loadClosed_eq (d : Device) (l : Load) :
    loadClosed d l = (((loadCounted d l).setBit 0x20010 6 true).setBit 0x20010 5 (decide (l.slot = 3))).wr 0x20024
      (wd (slotGen (d.loadImage l))) := rfl

theorem loadClosed_only (d : Device) (l : Load) : OnlyRegs d (loadClosed d l) := by
  rw [loadClosed_eq]
  exact (((loadCounted_only d l).setBit _ _ _).setBit _ _ _).wr _ _

theorem loadClosed_keeps {d : Device} {l : Load} (hk : ∀ k, l.op = some k → k < 16) : KeptOn EndRegs d (loadClosed d l) := by
  rw [loadClosed_eq]
  have hcount : KeptOn EndRegs d (loadCounted d l) := fun a ha => loadCounted_keeps hk a ha.1
  exact ((hcount.setBit _ _ (fun h => h.2.1 rfl)).setBit _ _ (fun h => h.2.1 rfl)).wr _ (fun h => h.2.2 rfl)

/-- The flags of the ended load: CFG_LOADED, CFG_SLOT and CFG_GEN, and FALLBACK_USED as it was. -/
theorem loadClosed_flags {d : Device} {l : Load} (hk : ∀ k, l.op = some k → k < 16) :
    (loadClosed d l).bit 0x20010 6 = true ∧ (loadClosed d l).bit 0x20010 5 = (l.slot == 3) ∧
      (loadClosed d l).bit 0x20010 7 = d.bit 0x20010 7 ∧ (loadClosed d l).rd 0x20024 = wd (slotGen (d.loadImage l)) := by
  have hst : ∀ i, (loadClosed d l).bit 0x20010 i =
      (((loadCounted d l).setBit 0x20010 6 true).setBit 0x20010 5 (decide (l.slot = 3))).bit 0x20010 i := fun i =>
    bit_of_rd (by rw [loadClosed_eq, rd_wr_ne _ _ (by decide)]) i
  refine ⟨?_, ?_, ?_, by rw [loadClosed_eq, rd_wr_same]⟩
  · rw [hst, bit_setBit_ne _ _ (by decide) (by decide), bit_setBit_same _ _ _ (by decide)]
  · rw [hst, bit_setBit_same _ _ _ (by decide)]; rfl
  · rw [hst, bit_setBit_ne _ _ (by decide) (by decide), bit_setBit_ne _ _ (by decide) (by decide),
      bit_of_rd (loadCounted_keeps hk _ (.inr (by decide)))]

theorem loadClosed_record {d : Device} {l : Load} {k : Nat} (hk : l.op = some k) (hlt : k < 16) :
    (loadClosed d l).get (oprecBase k + 4) 12 2 = 2 ∧ (loadClosed d l).get (oprecBase k + 4) 8 4 = 0 := by
  have := oprecBase_le hlt
  obtain ⟨hstate, hres⟩ := opClose_result (d.opSteps k (l.idx + 1)) k .ok
  have hrd : (loadClosed d l).rd (oprecBase k + 4) = ((d.opSteps k (l.idx + 1)).opClose k .ok).rd (oprecBase k + 4) := by
    rw [loadClosed_eq, rd_wr_ne _ _ (by omega), rd_setBit, if_neg (by omega), rd_setBit, if_neg (by omega), loadCounted, hk]
  exact ⟨by rw [get_of_rd hrd, hstate], by rw [get_of_rd hrd, hres]; rfl⟩

/-- What a fallback load's SAFE_EXIT leaves of an ended load, and what it brings. -/
theorem loadFellBack_keeps {d : Device} (l : Load) (hop : ∀ k, d.pw.op = some k → k < 16) :
    KeptOn (fun a => LockRegs a ∧ a ≠ 0x20010) d (loadFellBack d l) ∧
      (∀ i, i ≠ 7 → (loadFellBack d l).bit 0x20010 i = d.bit 0x20010 i) ∧
      (l.fallback = true → (loadFellBack d l).bit 0x20010 7 = true ∧
        (d.fcLive 40 = false → d.fcLive 42 = false → (loadFellBack d l).fc.safe = false)) := by
  unfold loadFellBack
  cases l.fallback with
  | false => exact ⟨.refl _ d, fun _ _ => rfl, fun h => by cases h⟩
  | true =>
    obtain ⟨hregs, hsafe⟩ := busWrite_exit hop
    refine ⟨fun a ha => ?_, fun i hi => ?_, fun _ => ⟨bit_setBit_same _ _ _ (by decide), hsafe⟩⟩
    · rw [if_pos rfl, rd_setBit, if_neg ha.2, hregs a ha.1]
    · rw [if_pos rfl, bit_setBit_ne _ _ (by decide) hi, bit_of_rd (hregs _ (.inr (by decide)))]

end Sys2Proof.Machine
end

section
/-! PROOFS. The records of a configuration load (R590, R591, R600 to R603). -/

namespace Sys2Proof.Machine
open Sys2Proof Sys2Proof.Safety

/-! The commands of the loader, as the runs of a live device. -/

theorem exec_cfgWr32 (s : State) : exec .cfgWr32 s = s.live (fun d => d.recWr32) := rfl
theorem exec_cfgWrm32 (ecc : Bool) (s : State) : exec (.cfgWrm32 ecc) s = s.live (fun d => d.recWrm32 ecc) := rfl
theorem exec_cfgWr128 (s : State) : exec .cfgWr128 s = s.live (fun d => d.recWr128) := rfl
theorem exec_cfgFill (s : State) : exec .cfgFill s = s.live (fun d => d.recFill) := rfl
theorem exec_cfgBlock (s : State) : exec .cfgBlock s = s.live (fun d => d.recBlock) := rfl
theorem exec_cfgPoll (ecc : Bool) (s : State) : exec (.cfgPoll ecc) s = s.live (fun d => d.recPoll ecc) := rfl
theorem exec_pollTimeout (s : State) : exec .pollTimeout s = s.live (fun d => d.pollTimeout) := rfl
theorem exec_cfgDelay (s : State) : exec .cfgDelay s = s.live (fun d => d.recDelay) := rfl
theorem exec_delayElapsed (s : State) : exec .delayElapsed s = s.live (fun d => d.delayElapsed) := rfl
theorem exec_commitCfg (s : State) : exec .commitCfg s = s.live (fun d => d.recCommit) := rfl
theorem exec_commitCfgTimeout (s : State) : exec .commitCfgTimeout s = s.live (fun d => d.commitTimeout) := rfl
theorem exec_cfgLock (s : State) : exec .cfgLock s = s.live (fun d => d.recLock) := rfl
theorem exec_cfgEnd (o : SlotObs) (s : State) : exec (.cfgEnd o) s = s.live (fun d => d.recEnd o) := rfl

/-! What each record does with the load. -/

section
variable {d : Device} {l : Load} {pl ws : List Word} {a v : Word}

theorem recWr32_none (h : d.nextRec 1 = none) : d.recWr32 = d := by rw [Device.recWr32, h]
theorem recWrm32_none (ecc : Bool) (h : d.nextRec 2 = none) : d.recWrm32 ecc = d := by rw [Device.recWrm32, h]
theorem recWr128_none (h : d.nextRec 3 = none) : d.recWr128 = d := by rw [Device.recWr128, h]
theorem recFill_none (h : d.nextRec 4 = none) : d.recFill = d := by rw [Device.recFill, h]
theorem recBlock_none (h : d.nextRec 5 = none) : d.recBlock = d := by rw [Device.recBlock, h]
theorem recDelay_none (h : d.nextRec 7 = none) : d.recDelay = d := by rw [Device.recDelay, h]
theorem recCommit_none (h : d.nextRec 8 = none) : d.recCommit = d := by rw [Device.recCommit, h]
theorem recLock_none (h : d.nextRec 9 = none) : d.recLock = d := by rw [Device.recLock, h]
theorem recEnd_none (o : SlotObs) (h : d.nextRec 15 = none) : d.recEnd o = d := by rw [Device.recEnd, h]

theorem recWr32_next (h : d.nextRec 1 = some (l, [a, v])) :
    d.recWr32 = (d.loadWord a.toNat v).2.loadDone (d.loadWord a.toNat v).1 1 := by
  rw [Device.recWr32, h]; rfl

theorem recWrm32_next {mask : Word} (ecc : Bool) (h : d.nextRec 2 = some (l, [a, mask, v])) :
    d.recWrm32 ecc =
      (((d.drainFor a.toNat).rmwNow 3 a.toNat mask v ecc).2.2.refused { master := 3, rmw := true, wide := wideReg a.toNat }
        ((d.drainFor a.toNat).rmwNow 3 a.toNat mask v ecc).1 a.toNat).loadDone
          ((d.drainFor a.toNat).rmwNow 3 a.toNat mask v ecc).1 2 := by
  rw [Device.recWrm32, h]; rfl

theorem recWr128_mgmt (h : d.nextRec 3 = some (l, a :: ws)) (hd : domainAt a.toNat = none) :
    d.recWr128 =
      ((d.writeWords 3 a.toNat 0 ws).2.2.2.refused { master := 3, wide := (d.writeWords 3 a.toNat 0 ws).2.2.1 }
        (d.writeWords 3 a.toNat 0 ws).1 (a.toNat + 4 * (d.writeWords 3 a.toNat 0 ws).2.1)).loadDone
          (d.writeWords 3 a.toNat 0 ws).1 (1 + (d.writeWords 3 a.toNat 0 ws).2.1) := by
  have ha : (nthWord (a :: ws) 0).toNat = a.toNat := rfl
  rw [Device.recWr128, h]
  simp only [ha, hd]
  rfl

theorem recWr128_cross (h : d.nextRec 3 = some (l, a :: ws)) (hd : domainAt a.toNat ≠ none) :
    d.recWr128 = (d.loadWords a.toNat 0 ws).2.2.loadDone (d.loadWords a.toNat 0 ws).1 (1 + (d.loadWords a.toNat 0 ws).2.1) := by
  obtain ⟨dom, hdom⟩ := Option.ne_none_iff_exists'.1 hd
  have ha : (nthWord (a :: ws) 0).toNat = a.toNat := rfl
  rw [Device.recWr128, h]
  simp only [ha, hdom]
  rfl

theorem recFill_next {n : Word} (h : d.nextRec 4 = some (l, [a, n, v])) :
    d.recFill =
      (d.loadWords a.toNat 0 (List.replicate n.toNat v)).2.2.loadDone (d.loadWords a.toNat 0 (List.replicate n.toNat v)).1 2 := by
  rw [Device.recFill, h]; rfl

theorem recBlock_next (h : d.nextRec 5 = some (l, a :: ws)) :
    d.recBlock = (d.loadWords a.toNat 0 ws).2.2.loadDone (d.loadWords a.toNat 0 ws).1 (1 + (d.loadWords a.toNat 0 ws).2.1) := by
  rw [Device.recBlock, h]; rfl

theorem recPoll_next {mask val t : Word} (ecc : Bool) (h : d.nextRec 6 = some (l, [a, mask, val, t])) :
    d.recPoll ecc = d.pollRead a.toNat mask val (d.uptime + 200 * t.toNat) ecc := by
  obtain ⟨hl, hw⟩ := nextRec_loading h
  rw [Device.recPoll, hl]
  simp only [hw, h]
  rfl

theorem recPoll_again {a : Nat} {mask val : Word} {till : Nat} (ecc : Bool) (hl : d.loading = some l)
    (hw : l.wait = some (.poll a mask val till)) : d.recPoll ecc = d.pollRead a mask val till ecc := by
  rw [Device.recPoll, hl]
  simp only [hw]

theorem pollRead_waits {a : Nat} {mask val : Word} (till : Nat) {ecc : Bool} (hl : (d.readEcc 3 a ecc).2.2.loading = some l)
    (h : (d.readEcc 3 a ecc).1 = .ok) (hv : (d.readEcc 3 a ecc).2.1 &&& mask ≠ val) :
    d.pollRead a mask val till ecc =
      (d.readEcc 3 a ecc).2.2.onBoot (fun b => { b with load := some { l with wait := some (.poll a mask val till) } }) := by
  have hload := onLoad_some (fun l : Load => { l with wait := some (.poll a mask val till) }) (loading_iff.1 hl).2
  simp only [Device.pollRead, h, if_true, if_neg hv, refused_ok]
  exact hload

theorem pollRead_matches {a : Nat} {mask val : Word} (till : Nat) {ecc : Bool} (h : (d.readEcc 3 a ecc).1 = .ok)
    (hv : (d.readEcc 3 a ecc).2.1 &&& mask = val) : d.pollRead a mask val till ecc = (d.readEcc 3 a ecc).2.2.loadDone .ok 0 := by
  simp only [Device.pollRead, h, if_true, if_pos hv, refused_ok, loadDone_ok]

theorem pollRead_fails {a : Nat} {mask val : Word} (till : Nat) {ecc : Bool} (h : (d.readEcc 3 a ecc).1 ≠ .ok) :
    d.pollRead a mask val till ecc =
      ((d.readEcc 3 a ecc).2.2.refused { master := 3, write := false } (d.readEcc 3 a ecc).1 a).loadDone (d.readEcc 3 a ecc).1 0 := by
  simp only [Device.pollRead, if_neg h]

theorem pollTimeout_waits {a : Nat} {mask val : Word} {till : Nat} (hl : d.loading = some l)
    (hw : l.wait = some (.poll a mask val till)) : d.pollTimeout = (d.reach till).loadFail l 2 .timeout 0 := by
  rw [Device.pollTimeout, hl]
  simp only [hw]

theorem recDelay_next {t : Word} (h : d.nextRec 7 = some (l, [t])) :
    d.recDelay = d.onBoot (fun b => { b with load := some { l with wait := some (.delay (d.uptime + 200 * t.toNat)) } }) := by
  rw [Device.recDelay, h]
  exact onLoad_some _ (loading_iff.1 (nextRec_loading h).1).2

theorem delayElapsed_waits {till : Nat} (hl : d.loading = some l) (hw : l.wait = some (.delay till)) :
    d.delayElapsed = (d.reach till).loadDone .ok 0 := by
  rw [Device.delayElapsed, hl, loadDone_ok]
  simp only [hw]

theorem recCommit_waits (h : d.nextRec 8 = some (l, pl)) (hok : (d.loadWord 0x30 1).1 = .ok)
    (hl : (d.loadWord 0x30 1).2.boot.load = some l) :
    d.recCommit = (d.loadWord 0x30 1).2.onBoot (fun b => { b with load := some { l with wait := some (.commit (d.uptime + ms 100)) } }) := by
  rw [Device.recCommit, h]
  exact (if_pos hok).trans (onLoad_some _ hl)

theorem recCommit_fails (h : d.nextRec 8 = some (l, pl)) (hno : (d.loadWord 0x30 1).1 ≠ .ok) :
    d.recCommit = (d.loadWord 0x30 1).2.loadDone (d.loadWord 0x30 1).1 0 := by
  rw [Device.recCommit, h]
  exact if_neg hno

theorem commitTimeout_waits {till : Nat} (hl : d.loading = some l) (hw : l.wait = some (.commit till)) :
    d.commitTimeout = (d.reach till).loadFail l 3 .timeout 0 := by
  rw [Device.commitTimeout, hl]
  simp only [hw]

/-- A LOCK record joins the locks of its load. -/
theorem recLock_next {b : Word} (h : d.nextRec 9 = some (l, [b])) :
    d.recLock = (d.onBoot (fun x => { x with load := some { l with locks := l.locks ++ [b.toNat] } })).loadDone .ok 0 := by
  have hload := onLoad_some (fun l : Load => { l with locks := l.locks ++ [b.toNat] }) (loading_iff.1 (nextRec_loading h).1).2
  rw [Device.recLock, h, loadDone_ok, ← hload]
  rfl

theorem recEnd_differs {o : SlotObs} (h : d.nextRec 15 = some (l, pl)) (hs : slotSum o ≠ slotDigest (d.loadImage l)) :
    d.recEnd o = d.loadFail l 4 .ecc 0 := by
  rw [Device.recEnd, h]
  exact if_neg hs

theorem recEnd_refused {o : SlotObs} (h : d.nextRec 15 = some (l, pl)) (hs : slotSum o = slotDigest (d.loadImage l))
    (hno : (d.applyLocks l.locks.eraseDups).1 ≠ .ok) :
    d.recEnd o = (d.applyLocks l.locks.eraseDups).2.loadFail l 0 (d.applyLocks l.locks.eraseDups).1 0 := by
  rw [Device.recEnd, h]
  exact (if_pos hs).trans (if_neg hno)

theorem recEnd_ends {o : SlotObs} (h : d.nextRec 15 = some (l, pl)) (hs : slotSum o = slotDigest (d.loadImage l))
    (hok : (d.applyLocks l.locks.eraseDups).1 = .ok) : d.recEnd o = (d.applyLocks l.locks.eraseDups).2.loadEnd l := by
  rw [Device.recEnd, h]
  exact (if_pos hs).trans (if_pos hok)

/-- Without a load there is nothing to time out or to elapse. -/
theorem loading_none (h : d.boot.load = none) : d.loading = none := by
  rw [Device.loading]
  split
  · exact h
  · rfl

end

/-! The three ends of a record. -/

/-- A command of the loader ends with a failed record. -/
def RecordFails (s : State) (c : Instr) (l : Load) (kind : Nat) (st : Status) (pw : Nat) : Prop :=
  ∃ d, exec c s = .next (after s d) ∧ RecordFailed l kind st pw d

/-- A command of the loader has made its accesses, which left the device `d0` and ended with a status. -/
def RecordEnds (s : State) (c : Instr) (l : Load) (st : Status) (pw : Nat) (d0 : Device) : Prop :=
  (st = .ok → (afterRecord l).malformed = false → ∃ d, exec c s = .next (after s d) ∧ RecordApplied l d0 d) ∧
    (st = .ok → (afterRecord l).malformed = true → RecordFails s c (afterRecord l) 1 .range 0) ∧ (st ≠ .ok → RecordFails s c l 0 st pw)

/-- A command of the loader applies its record, with a property of the device it leaves. -/
def RecordRuns (s : State) (c : Instr) (l : Load) (p : Device → Prop) : Prop :=
  (afterRecord l).malformed = false → (∀ k, l.op = some k → k < 16) →
    ∃ d, exec c s = .next (after s d) ∧ d.boot.load = some (afterRecord l) ∧ p d

theorem recordApplied_of_regs {l : Load} {d0 d1 d : Device} (h : RecordApplied l d1 d) (hr : d1.regs = d0.regs) : RecordApplied l d0 d where
  load := h.load
  phase := h.phase
  steps k hk := by rw [h.steps k hk, rd_of_regs hr]
  keeps a ha := by rw [h.keeps a ha, rd_of_regs hr]

section
variable {s : State} (hlive : Live s) {c : Instr} {l : Load} {st : Status} {pw : Nat} {d0 d1 : Device}

theorem recordEnds_of_done (he : exec c s = .next (after s (d1.loadDone st pw))) (hl : d1.loading = some l)
    (hr : st = .ok → d1.regs = d0.regs) : RecordEnds s c l st pw d0 := by
  refine ⟨fun hok hm => ?_, fun hok hm => ?_, fun hno => ?_⟩
  · rw [hok, loadDone_ok] at he
    exact ⟨_, he, recordApplied_of_regs (loadOk_applied hl hm) (hr hok)⟩
  · rw [hok, loadDone_ok] at he
    exact ⟨_, he, loadOk_malformed hl hm⟩
  · rw [loadDone_fails pw hl hno] at he
    exact ⟨_, he, loadFail_failed _ _ _ _ _⟩

/-- An access recorded as refused leaves the load it was made for. -/
theorem recordEnds_of_refused {x : Access} {a : Nat} (he : exec c s = .next (after s ((d0.refused x st a).loadDone st pw)))
    (hl : d0.loading = some l) : RecordEnds s c l st pw d0 :=
  recordEnds_of_done he (by rw [refused_loading, hl]) (fun h => by rw [h, refused_ok])

/-- A record applied leaves every register from 0x800 up as its accesses left it. -/
theorem recordRuns_of_done {p : Device → Prop} (he : exec c s = .next (after s (d1.loadDone .ok pw))) (hl : d1.loading = some l)
    (hp : ∀ d, (∀ a, 0x800 ≤ a → d.rd a = d1.rd a) → p d) : RecordRuns s c l p := by
  intro hm hk
  rw [loadDone_ok] at he
  have happ := loadOk_applied hl hm
  refine ⟨_, he, happ.load, hp _ fun a ha => happ.keeps a ?_⟩
  cases hop : l.op with
  | none => simp
  | some k =>
    have := oprecBase_le (hk k hop)
    simp only [List.mem_singleton]
    omega

/-! The statement's clauses. -/

include hlive

/-- A record command without its record next does nothing. -/
theorem cfg_still {typ : Nat} (hc : (c, typ) ∈ [(Instr.cfgWr32, 1), (.cfgWrm32 false, 2), (.cfgWrm32 true, 2), (.cfgWr128, 3), (.cfgFill, 4),
      (.cfgBlock, 5), (.cfgDelay, 7), (.commitCfg, 8), (.cfgLock, 9)]) (h : s.dev.nextRec typ = none) :
    exec c s = .next (after s s.dev) := by
  simp only [List.mem_cons, Prod.mk.injEq, List.not_mem_nil, or_false] at hc
  rcases hc with ⟨rfl, rfl⟩ | ⟨rfl, rfl⟩ | ⟨rfl, rfl⟩ | ⟨rfl, rfl⟩ | ⟨rfl, rfl⟩ | ⟨rfl, rfl⟩ | ⟨rfl, rfl⟩ | ⟨rfl, rfl⟩ | ⟨rfl, rfl⟩
  · rw [exec_cfgWr32, live_after hlive, recWr32_none h]
  · rw [exec_cfgWrm32, live_after hlive, recWrm32_none _ h]
  · rw [exec_cfgWrm32, live_after hlive, recWrm32_none _ h]
  · rw [exec_cfgWr128, live_after hlive, recWr128_none h]
  · rw [exec_cfgFill, live_after hlive, recFill_none h]
  · rw [exec_cfgBlock, live_after hlive, recBlock_none h]
  · rw [exec_cfgDelay, live_after hlive, recDelay_none h]
  · rw [exec_commitCfg, live_after hlive, recCommit_none h]
  · rw [exec_cfgLock, live_after hlive, recLock_none h]

theorem cfgWr32_ends {a v : Word} (h : s.dev.nextRec 1 = some (l, [a, v])) (hl : (s.dev.loadWord a.toNat v).2.loading = some l) :
    RecordEnds s .cfgWr32 l (s.dev.loadWord a.toNat v).1 1 (s.dev.loadWord a.toNat v).2 :=
  recordEnds_of_done (by rw [exec_cfgWr32, live_after hlive, recWr32_next h]) hl (fun _ => rfl)

theorem cfgWrm32_ends {a mask v : Word} {ecc : Bool} (h : s.dev.nextRec 2 = some (l, [a, mask, v]))
    (hl : ((s.dev.drainFor a.toNat).rmwNow 3 a.toNat mask v ecc).2.2.loading = some l) :
    RecordEnds s (.cfgWrm32 ecc) l ((s.dev.drainFor a.toNat).rmwNow 3 a.toNat mask v ecc).1 2
      ((s.dev.drainFor a.toNat).rmwNow 3 a.toNat mask v ecc).2.2 :=
  recordEnds_of_refused (by rw [exec_cfgWrm32, live_after hlive, recWrm32_next ecc h]) hl

theorem cfgWr128_mgmt_ends {a : Word} {ws : List Word} (h : s.dev.nextRec 3 = some (l, a :: ws)) (hd : domainAt a.toNat = none)
    (hl : (s.dev.writeWords 3 a.toNat 0 ws).2.2.2.loading = some l) :
    RecordEnds s .cfgWr128 l (s.dev.writeWords 3 a.toNat 0 ws).1 (1 + (s.dev.writeWords 3 a.toNat 0 ws).2.1)
      (s.dev.writeWords 3 a.toNat 0 ws).2.2.2 :=
  recordEnds_of_refused (by rw [exec_cfgWr128, live_after hlive, recWr128_mgmt h hd]) hl

theorem cfgWr128_cross_ends {a : Word} {ws : List Word} (h : s.dev.nextRec 3 = some (l, a :: ws)) (hd : domainAt a.toNat ≠ none)
    (hl : (s.dev.loadWords a.toNat 0 ws).2.2.loading = some l) :
    RecordEnds s .cfgWr128 l (s.dev.loadWords a.toNat 0 ws).1 (1 + (s.dev.loadWords a.toNat 0 ws).2.1) (s.dev.loadWords a.toNat 0 ws).2.2 :=
  recordEnds_of_done (by rw [exec_cfgWr128, live_after hlive, recWr128_cross h hd]) hl (fun _ => rfl)

theorem cfgFill_ends {a n v : Word} (h : s.dev.nextRec 4 = some (l, [a, n, v]))
    (hl : (s.dev.loadWords a.toNat 0 (List.replicate n.toNat v)).2.2.loading = some l) :
    RecordEnds s .cfgFill l (s.dev.loadWords a.toNat 0 (List.replicate n.toNat v)).1 2
      (s.dev.loadWords a.toNat 0 (List.replicate n.toNat v)).2.2 :=
  recordEnds_of_done (by rw [exec_cfgFill, live_after hlive, recFill_next h]) hl (fun _ => rfl)

theorem cfgBlock_ends {a : Word} {ws : List Word} (h : s.dev.nextRec 5 = some (l, a :: ws))
    (hl : (s.dev.loadWords a.toNat 0 ws).2.2.loading = some l) :
    RecordEnds s .cfgBlock l (s.dev.loadWords a.toNat 0 ws).1 (1 + (s.dev.loadWords a.toNat 0 ws).2.1) (s.dev.loadWords a.toNat 0 ws).2.2 :=
  recordEnds_of_done (by rw [exec_cfgBlock, live_after hlive, recBlock_next h]) hl (fun _ => rfl)

/-- POLL (R600): it waits while its word does not match. -/
theorem cfgPoll_ends {a : Nat} {mask val : Word} {till : Nat} {ecc : Bool}
    (h : s.dev.recPoll ecc = s.dev.pollRead a mask val till ecc) (hl : (s.dev.readEcc 3 a ecc).2.2.loading = some l) :
    ((s.dev.readEcc 3 a ecc).1 = .ok → (s.dev.readEcc 3 a ecc).2.1 &&& mask ≠ val →
      exec (.cfgPoll ecc) s = .next (after s ((s.dev.readEcc 3 a ecc).2.2.onBoot (fun b =>
        { b with load := some { l with wait := some (.poll a mask val till) } })))) ∧
    ((s.dev.readEcc 3 a ecc).1 = .ok → (s.dev.readEcc 3 a ecc).2.1 &&& mask = val →
      RecordEnds s (.cfgPoll ecc) l .ok 0 (s.dev.readEcc 3 a ecc).2.2) ∧
    ((s.dev.readEcc 3 a ecc).1 ≠ .ok → RecordFails s (.cfgPoll ecc) l 0 (s.dev.readEcc 3 a ecc).1 0) := by
  have he : exec (.cfgPoll ecc) s = .next (after s (s.dev.pollRead a mask val till ecc)) := by
    rw [exec_cfgPoll, live_after hlive, h]
  refine ⟨fun hok hv => ?_, fun hok hv => ?_, fun hno => ?_⟩
  · rw [he, pollRead_waits till hl hok hv]
  · exact recordEnds_of_done (by rw [he, pollRead_matches till hok hv]) hl (fun _ => rfl)
  · exact (recordEnds_of_refused (by rw [he, pollRead_fails till hno]) hl).2.2 hno

omit hlive

/-- The load stands over writes of HOST_MEASUREMENT. -/
theorem loading_wrs {d : Device} {i : Nat} (ws : List Word) : (d.wrs (0x40040 + 4 * i) ws).loading = d.loading :=
  loading_of (rd_wrs_out _ _ _ _ (.inl (by omega))) (wrs_boot _ _ _)

/-- Words written there read back when the record has been applied. -/
theorem rds_of_kept {d1 d : Device} {i : Nat} {ws : List Word} (h : ∀ a, 0x800 ≤ a → d.rd a = (d1.wrs (0x40040 + 4 * i) ws).rd a) :
    d.rds (0x40040 + 4 * i) ws.length = ws := by
  rw [rds_congr fun j _ => h _ (by omega), rds_wrs]

include hlive

/-- The records of plain registers run: HOST_MEASUREMENT of MEASURE. -/
theorem cfg_hostMeas {i : Nat} (hi : i < 12) (hs : s.dev.staged 3 = none) :
    (∀ l v, s.dev.nextRec 1 = some (l, [wd (0x40040 + 4 * i), v]) → RecordRuns s .cfgWr32 l (fun d => d.rd (0x40040 + 4 * i) = v)) ∧
    (∀ l mask v, s.dev.nextRec 2 = some (l, [wd (0x40040 + 4 * i), mask, v]) →
      RecordRuns s (.cfgWrm32 false) l (fun d => d.rd (0x40040 + 4 * i) = (s.dev.rd (0x40040 + 4 * i) &&& ~~~mask) ||| (v &&& mask))) ∧
    (∀ l ws, i + ws.length ≤ 12 →
      (s.dev.nextRec 3 = some (l, wd (0x40040 + 4 * i) :: ws) →
        RecordRuns s .cfgWr128 l (fun d => d.rds (0x40040 + 4 * i) ws.length = ws)) ∧
      (s.dev.nextRec 5 = some (l, wd (0x40040 + 4 * i) :: ws) →
        RecordRuns s .cfgBlock l (fun d => d.rds (0x40040 + 4 * i) ws.length = ws))) ∧
    (∀ l n v, i + n ≤ 12 → s.dev.nextRec 4 = some (l, [wd (0x40040 + 4 * i), wd n, v]) →
      RecordRuns s .cfgFill l (fun d => d.rds (0x40040 + 4 * i) n = List.replicate n v)) ∧
    (∀ l mask val t, s.dev.nextRec 6 = some (l, [wd (0x40040 + 4 * i), mask, val, t]) →
      (s.dev.rd (0x40040 + 4 * i) &&& mask = val →
        RecordRuns s (.cfgPoll false) l (fun d => d.rd (0x40040 + 4 * i) = s.dev.rd (0x40040 + 4 * i))) ∧
      (s.dev.rd (0x40040 + 4 * i) &&& mask ≠ val →
        ∃ d, exec (.cfgPoll false) s = .next (after s d) ∧
          d.boot.load = some { l with wait := some (.poll (0x40040 + 4 * i) mask val (s.dev.uptime + 200 * t.toNat)) })) := by
  have ha : (wd (0x40040 + 4 * i)).toNat = 0x40040 + 4 * i := wd_toNat (by omega)
  have hword : ∀ v, (s.dev.wr (0x40040 + 4 * i) v).loading = s.dev.loading := fun v => loading_wrs [v]
  refine ⟨fun l v h => ?_, fun l mask v h => ?_, fun l ws hw => ⟨fun h => ?_, fun h => ?_⟩, fun l n v hn h => ?_,
    fun l mask val t h => ?_⟩
  · have hrec := recWr32_next h
    rw [ha, loadWord_hostMeas v hs hi] at hrec
    refine recordRuns_of_done (by rw [exec_cfgWr32, live_after hlive, hrec]) ((hword v).trans (nextRec_loading h).1) fun d hd => ?_
    rw [hd _ (by omega), rd_wr_same]
  · have hrec := recWrm32_next false h
    rw [ha, rmwNow_hostMeas mask v hs hi] at hrec
    refine recordRuns_of_done (by rw [exec_cfgWrm32, live_after hlive, hrec, refused_ok]) ((hword _).trans (nextRec_loading h).1)
      fun d hd => ?_
    rw [hd _ (by omega), rd_wr_same]
  · have hrec := recWr128_mgmt h (by rw [ha]; exact domainAt_hostMeas hi)
    rw [ha, writeWords_hostMeas ws s.dev 0 hs (by omega)] at hrec
    simp only [refused_ok, Nat.add_zero] at hrec
    exact recordRuns_of_done (pw := 1 + (0 + ws.length)) (by rw [exec_cfgWr128, live_after hlive, hrec])
      ((loading_wrs ws).trans (nextRec_loading h).1) fun d hd => rds_of_kept hd
  · have hrec := recBlock_next h
    rw [ha, loadWords_hostMeas ws s.dev 0 hs (by omega)] at hrec
    simp only [Nat.add_zero] at hrec
    exact recordRuns_of_done (pw := 1 + (0 + ws.length)) (by rw [exec_cfgBlock, live_after hlive, hrec]) ((loading_wrs ws).trans (nextRec_loading h).1)
      fun d hd => rds_of_kept hd
  · have hrec := recFill_next h
    rw [ha, wd_toNat (by omega), loadWords_hostMeas _ s.dev 0 hs (by rw [List.length_replicate]; omega)] at hrec
    refine recordRuns_of_done (by rw [exec_cfgFill, live_after hlive, hrec]) ((loading_wrs _).trans (nextRec_loading h).1) fun d hd => ?_
    have hrds := rds_of_kept hd
    rwa [List.length_replicate] at hrds
  · have hread : s.dev.readEcc 3 (0x40040 + 4 * i) false = (.ok, s.dev.rd (0x40040 + 4 * i), s.dev) := by
      rw [Device.readEcc, readWord_hostMeas hs hi]; rfl
    have hpoll := recPoll_next false h
    rw [ha] at hpoll
    have hl : (s.dev.readEcc 3 (0x40040 + 4 * i) false).2.2.loading = some l := by rw [hread]; exact (nextRec_loading h).1
    refine ⟨fun hv => ?_, fun hv => ?_⟩
    · refine recordRuns_of_done ?_ (nextRec_loading h).1 (pw := 0) fun d hd => hd _ (by omega)
      rw [exec_cfgPoll, live_after hlive, hpoll, pollRead_matches _ (by rw [hread]) (by rw [hread]; exact hv), hread]
    · exact ⟨_, (cfgPoll_ends hlive hpoll hl).1 (by rw [hread]) (by rw [hread]; exact hv), rfl⟩

theorem cfgLock_ends {b : Word} (h : s.dev.nextRec 9 = some (l, [b])) :
    RecordEnds s .cfgLock { l with locks := l.locks ++ [b.toNat] } .ok 0 s.dev := by
  refine recordEnds_of_done (by rw [exec_cfgLock, live_after hlive, recLock_next h]) (loading_iff.2 ⟨?_, rfl⟩) (fun _ => onBoot_regs _ _)
  rw [get_of_rd (rd_onBoot _ _ _)]
  exact (loading_iff.1 (nextRec_loading h).1).1

theorem delayElapsed_ends {till : Nat} (hl : s.dev.loading = some l) (hw : l.wait = some (.delay till)) :
    RecordEnds s .delayElapsed l .ok 0 (s.dev.reach till) :=
  recordEnds_of_done (by rw [exec_delayElapsed, live_after hlive, delayElapsed_waits hl hw])
    ((loading_of (rd_reach _ _ _) rfl).trans hl) (fun _ => rfl)

theorem pollTimeout_fails {a : Nat} {mask val : Word} {till : Nat} (hl : s.dev.loading = some l)
    (hw : l.wait = some (.poll a mask val till)) : RecordFails s .pollTimeout l 2 .timeout 0 :=
  ⟨_, by rw [exec_pollTimeout, live_after hlive, pollTimeout_waits hl hw], loadFail_failed _ _ _ _ _⟩

theorem commitTimeout_fails {till : Nat} (hl : s.dev.loading = some l) (hw : l.wait = some (.commit till)) :
    RecordFails s .commitCfgTimeout l 3 .timeout 0 :=
  ⟨_, by rw [exec_commitCfgTimeout, live_after hlive, commitTimeout_waits hl hw], loadFail_failed _ _ _ _ _⟩

/-- COMMIT_CFG (R78, R600): it waits once its write of CFG_COMMIT is taken. -/
theorem commitCfg_ends {pl : List Word} (h : s.dev.nextRec 8 = some (l, pl)) (hl : (s.dev.loadWord 0x30 1).2.loading = some l) :
    ((s.dev.loadWord 0x30 1).1 = .ok → exec .commitCfg s = .next (after s ((s.dev.loadWord 0x30 1).2.onBoot (fun b =>
      { b with load := some { l with wait := some (.commit ((s.dev.loadWord 0x30 1).2.uptime + ms 100)) } })))) ∧
    ((s.dev.loadWord 0x30 1).1 ≠ .ok → RecordFails s .commitCfg l 0 (s.dev.loadWord 0x30 1).1 0) := by
  refine ⟨fun hok => ?_, fun hno => ⟨_, by rw [exec_commitCfg, live_after hlive, recCommit_fails h hno, loadDone_fails 0 hl hno],
    loadFail_failed _ _ _ _ _⟩⟩
  rw [exec_commitCfg, live_after hlive, recCommit_waits h hok (loading_iff.1 hl).2, loadWord_cfgCommit_uptime]

theorem commitCfg_opens {pl : List Word} {k : Nat} (h : s.dev.nextRec 8 = some (l, pl)) (hs : s.dev.staged 3 = none)
    (hp : s.dev.bit 0x50 2 = false) (hk : s.dev.opPick = some k) :
    ∃ d, exec .commitCfg s = .next (after s d) ∧ d.boot.load = some { l with wait := some (.commit (s.dev.uptime + ms 100)) } ∧
      d.bit 0x50 2 = true ∧ d.crc.commitRec = some k := by
  have hword := loadWord_cfgCommit_opens hs hp hk
  have hload : (s.dev.loadWord 0x30 1).2.boot.load = some l := by
    rw [hword]
    exact (congrArg BootSt.load (opOpenAt_only s.dev k 0x0A 3 1).boot).trans (loading_iff.1 (nextRec_loading h).1).2
  have hrec := recCommit_waits h (by rw [hword]) hload
  have he : exec .commitCfg s = .next (after s s.dev.recCommit) := by rw [exec_commitCfg, live_after hlive]
  rw [hrec, hword] at he
  exact ⟨_, he, rfl, (bit_of_rd (rd_onBoot _ _ _) 2).trans (bit_setBit_same _ _ _ (by decide)), rfl⟩

theorem cfgEnd_fails {pl : List Word} {o : SlotObs} (h : s.dev.nextRec 15 = some (l, pl)) (hs : slotSum o ≠ slotDigest (s.dev.loadImage l)) :
    RecordFails s (.cfgEnd o) l 4 .ecc 0 :=
  ⟨_, by rw [exec_cfgEnd, live_after hlive, recEnd_differs h hs], loadFail_failed _ _ _ _ _⟩

theorem cfgEnd_refused {pl : List Word} {o : SlotObs} (h : s.dev.nextRec 15 = some (l, pl)) (hs : slotSum o = slotDigest (s.dev.loadImage l))
    (hno : (s.dev.applyLocks l.locks.eraseDups).1 ≠ .ok) : RecordFails s (.cfgEnd o) l 0 (s.dev.applyLocks l.locks.eraseDups).1 0 :=
  ⟨_, by rw [exec_cfgEnd, live_after hlive, recEnd_refused h hs hno], loadFail_failed _ _ _ _ _⟩

theorem exec_cfgEnd_ends {pl : List Word} {o : SlotObs} (h : s.dev.nextRec 15 = some (l, pl))
    (hs : slotSum o = slotDigest (s.dev.loadImage l)) (hok : (s.dev.applyLocks l.locks.eraseDups).1 = .ok) :
    exec (.cfgEnd o) s = .next (after s ((s.dev.applyLocks l.locks.eraseDups).2.loadEnd l)) := by
  rw [exec_cfgEnd, live_after hlive, recEnd_ends h hs hok]

/-- Without a load the loader's timers do nothing, nor does a POLL. -/
theorem cfg_idle (h : s.dev.boot.load = none) :
    exec .pollTimeout s = .next (after s s.dev) ∧ exec .delayElapsed s = .next (after s s.dev) ∧
      exec .commitCfgTimeout s = .next (after s s.dev) ∧ ∀ ecc, exec (.cfgPoll ecc) s = .next (after s s.dev) := by
  have hl := loading_none h
  refine ⟨?_, ?_, ?_, fun ecc => ?_⟩
  · rw [exec_pollTimeout, live_after hlive, Device.pollTimeout, hl]
  · rw [exec_delayElapsed, live_after hlive, Device.delayElapsed, hl]
  · rw [exec_commitCfgTimeout, live_after hlive, Device.commitTimeout, hl]
  · rw [exec_cfgPoll, live_after hlive, Device.recPoll, hl]

end

/-- The lock of the one block recorded is set, by this load or before it (R603). -/
theorem applyLocks_one {i : Nat} (d : Device) (hi : i < 14) :
    (d.applyLocks [0x10000 * i]).2.bit (0x10000 * i + 0xC) 0 = true := by
  have hset := loadWord_blockLock d hi
  rw [Device.applyLocks]
  generalize d.loadWord (0x10000 * i + 0xC) 1 = x at hset ⊢
  split <;> exact hset

/-- What END leaves of a load whose locks are applied (R590, R591, R603). -/
theorem loadEnd_record {d : Device} {l : Load} (hk : ∀ k, l.op = some k → k < 16) (hop : ∀ k, d.pw.op = some k → k < 16) :
    (d.loadEnd l).get 0x20010 0 4 = 7 ∧ (d.loadEnd l).boot.load = none ∧ (d.loadEnd l).bit 0x20014 0 = true ∧
      (d.loadEnd l).bit 0x20010 6 = true ∧ (d.loadEnd l).bit 0x20010 5 = (l.slot == 3) ∧
      (d.loadEnd l).rd 0x20024 = wd (slotGen (d.loadImage l)) ∧
      (∀ k, l.op = some k → l.fallback = false →
        (d.loadEnd l).get (oprecBase k + 4) 12 2 = 2 ∧ (d.loadEnd l).get (oprecBase k + 4) 8 4 = 0) ∧
      (∀ i, (d.loadEnd l).rd (0x10000 * i + 0xC) = d.rd (0x10000 * i + 0xC)) ∧
      (l.fallback = false → (d.loadEnd l).fc = d.fc ∧ (d.loadEnd l).bit 0x20010 7 = d.bit 0x20010 7) ∧
      (l.fallback = true → (d.loadEnd l).bit 0x20010 7 = true ∧
        (d.fcLive 40 = false → d.fcLive 42 = false → (d.loadEnd l).fc.safe = false)) := by
  have hclosed := loadClosed_keeps (d := d) hk
  obtain ⟨hloaded, hslot, hused, hgen⟩ := loadClosed_flags (d := d) hk
  have hrecord := fun k (h : l.op = some k) => loadClosed_record (d := d) h (hk k h)
  have honly := loadClosed_only d l
  have hlive : ∀ i, (loadClosed d l).fcLive i = d.fcLive i := fun i =>
    fcLive_of_rd (hclosed _ (by unfold EndRegs srcBase; omega))
  obtain ⟨hkeep, hflags, hback⟩ := loadFellBack_keeps (d := loadClosed d l) l (by rw [honly.pw]; exact hop)
  have hsame : l.fallback = false → loadFellBack (loadClosed d l) l = loadClosed d l := fun h => by rw [loadFellBack, h]; rfl
  rw [loadEnd_eq]
  generalize loadFellBack (loadClosed d l) l = e at *
  have hrd : ∀ a, DoneRegs a → ((e.onBoot (fun b => { b with load := none })).bootDone).rd a = e.rd a := fun a ha =>
    bootDone_keeps _ a ha
  have hflag : ∀ i, 4 ≤ i → ((e.onBoot (fun b => { b with load := none })).bootDone).bit 0x20010 i = e.bit 0x20010 i := fun i hi =>
    (bootDone_flag _ hi).trans rfl
  refine ⟨bootDone_phase _, by rw [bootDone_boot]; rfl, bootDone_event _, ?_, ?_, ?_, fun k h hf => ?_, fun i => ?_, fun hf => ⟨?_, ?_⟩,
    fun hf => ⟨?_, fun h40 h42 => ?_⟩⟩
  · rw [hflag 6 (by decide), hflags 6 (by decide), hloaded]
  · rw [hflag 5 (by decide), hflags 5 (by decide), hslot]
  · rw [hrd _ (by unfold DoneRegs; decide), hkeep _ (by unfold LockRegs; decide), hgen]
  · have hb := oprecBase_le (hk k h)
    rw [get_of_rd (hrd _ (by unfold DoneRegs; omega)), get_of_rd (hrd _ (by unfold DoneRegs; omega)), hsame hf]
    exact hrecord k h
  · rw [hrd _ (by unfold DoneRegs; omega), hkeep _ (by unfold LockRegs; omega), hclosed _ (by unfold EndRegs; omega)]
  · rw [bootDone_fc, onBoot_fc, hsame hf, honly.fc]
  · rw [hflag 7 (by decide), hsame hf, hused]
  · rw [hflag 7 (by decide), (hback hf).1]
  · rw [bootDone_fc, onBoot_fc]
    exact (hback hf).2 ((hlive 40).trans h40) ((hlive 42).trans h42)

/-- Settles O55, clause by clause from the rules above. -/
theorem configurationRecordsAreAppliedOrFailTheLoad : Obligations.ConfigurationRecordsAreAppliedOrFailTheLoad := by
  intro s hlive
  refine ⟨fun c typ hc h => cfg_still hlive hc h, fun o h => by rw [exec_cfgEnd, live_after hlive, recEnd_none o h],
    fun l a v h hl => cfgWr32_ends hlive h hl, fun l a mask v ecc h hl => cfgWrm32_ends hlive h hl,
    fun l a ws h => ⟨fun hd hl => cfgWr128_mgmt_ends hlive h hd hl, fun hd hl => cfgWr128_cross_ends hlive h hd hl⟩,
    fun l a n v h hl => cfgFill_ends hlive h hl, fun l a ws h hl => cfgBlock_ends hlive h hl, fun i hi hs => cfg_hostMeas hlive hi hs,
    fun l pl k h hs hp hk => commitCfg_opens hlive h hs hp hk, fun l pl o h hs hlocks hf hk hop => ?_,
    fun l a mask val till ecc hpoll hl => cfgPoll_ends hlive ?_ hl, fun l a mask val till hl hw => pollTimeout_fails hlive hl hw,
    fun l t h => by rw [exec_cfgDelay, live_after hlive, recDelay_next h]; rfl, fun l till hl hw => delayElapsed_ends hlive hl hw,
    fun l pl h hl => commitCfg_ends hlive h hl, fun l till hl hw => commitTimeout_fails hlive hl hw, fun h => cfg_idle hlive h,
    fun l b h => cfgLock_ends hlive h, fun l pl o h hs => cfgEnd_fails hlive h hs, fun l pl o h hs hl =>
      ⟨fun hno => cfgEnd_refused hlive h hs hno, fun hok hk hop => ?_⟩⟩
  · have hnone : l.locks.eraseDups = [] := by rw [hlocks]; rfl
    have he := exec_cfgEnd_ends hlive h hs (by rw [hnone]; rfl)
    rw [hnone] at he
    obtain ⟨hphase, hload, -, hloaded, -⟩ := loadEnd_record (d := s.dev) hk hop
    exact ⟨_, he, hphase, hload, hloaded⟩
  · rcases hpoll with ⟨t, h, ha, rfl⟩ | ⟨hload, hw⟩
    · rw [recPoll_next ecc h, wd_toNat ha]
    · exact recPoll_again ecc hload hw
  · obtain ⟨hphase, hload, hev, hloaded, hslot, hgen, hrec, hlock, hkept, hback⟩ := loadEnd_record hk hop
    refine ⟨_, exec_cfgEnd_ends hlive h hs hok, hphase, hload, hev, hloaded, hslot, hgen, hrec, fun i hi hone => ?_, hkept, hback⟩
    have hset := applyLocks_one s.dev hi
    have hdups : l.locks.eraseDups = [0x10000 * i] := by rw [hone]; rfl
    rw [bit_of_rd (hlock i), hdups]
    exact hset

end Sys2Proof.Machine
end

section
/-! SUPPORT. Writes at the bridge (R41, R46, R51, R53): what an access answers, register class by register class. -/

namespace Sys2Proof.Machine
open Sys2Proof Sys2Proof.Safety

theorem exec_registerWrite (m a be : Nat) (v : Word) (s : State) :
    exec (.registerWrite m a be v) s = s.live (fun d => d.busWrite m a be v) := rfl

theorem rowOf_of {a : Nat} {l : Loc} (hl : locOf a = some l) : rowOf a = rowAt l := by simp [rowOf, hl, rowAt]

/-- A whole-word write by a master with nothing staged. -/
theorem busWrite_word {d : Device} {m a : Nat} (hs : d.staged m = none) (ha : a % 4 = 0) (v : Word) :
    d.busWrite m a 15 v = Device.ended { master := m, wide := wideReg a } a (d.writeAt false m a v) := by
  simp [Device.busWrite, ha, Device.writeBytes, Device.writeWord, touch_unstaged hs, touched_unstaged hs]

/-- A register command of the management domain waits for no queue. -/
theorem cmdWrite_mgmtAt {a : Nat} (h : domainAt a = none) (d : Device) (m : Nat) (v : Word) : d.cmdWrite m a v = d.busWrite m a 15 v := by
  simp [Device.cmdWrite, Device.drainFor, h]

/-- A reserved address, a reserved offset and a register that is read only take a write and ignore it (R41, R46). -/
theorem writeAt_ignored (d : Device) (direct : Bool) (m : Nat) {a : Nat} (v : Word)
    (h : rowOf a = none ∨ ∃ r, rowOf a = some r ∧ (r.acc = .ro ∨ r.acc = .rs)) : d.writeAt direct m a v = (.ok, d) := by
  cases hl : locOf a with
  | none => simp [Device.writeAt, hl]
  | some l =>
    rw [rowOf_of hl] at h
    rcases h with hn | ⟨r, hr, hacc⟩
    · simp [Device.writeAt, hl, hn]
    · simp [Device.writeAt, hl, hr, hacc]

/-- A sticky register loses the bits written as 1 (R46). -/
theorem applyLoc_w1c (d : Device) (m a : Nat) {l : Loc} {r : RegRow} (v : Word) (hb : l.blk ≠ .ho) (hw : r.acc = .w1c) :
    d.applyLoc m a l r v = (.ok, d.wr a (d.rd a &&& ~~~v)) := by
  simp [Device.applyLoc, Device.memberWord, hb, hw]

/-- The blocks a write of which brings nothing with it: no reported defect, no SF or SD window and no selector depends on them. -/
def plainBlocks : List Blk :=
  [.global, .fault, .pantry, .porch, .measure, .hearth, .tod, .partywall, .attic, .cellar, .tracer, .hall]

theorem settleAt_plain {a : Nat} {l : Loc} (hl : locOf a = some l) (hb : l.blk ∈ plainBlocks) (d0 d : Device) : settleAt a d0 d = d := by
  simp only [plainBlocks, List.mem_cons, List.not_mem_nil, or_false] at hb
  rw [settleAt, hl]
  rcases hb with hb | hb | hb | hb | hb | hb | hb | hb | hb | hb | hb | hb <;> simp [hb]

/-- A write in LANDING, a selector or PM brings what follows the defects. -/
theorem settleAt_settled {a : Nat} {l : Loc} (hl : locOf a = some l) (hb : l.blk ∈ [.sel, .landing, .pm]) (d0 d : Device) :
    settleAt a d0 d = Device.settle d0 d := by
  simp only [List.mem_cons, List.not_mem_nil, or_false] at hb
  rw [settleAt, hl]
  rcases hb with hb | hb | hb <;> simp [hb]

/-- A write in a lane, a slice or a path brings the windows that begin again and what follows the defects. -/
theorem settleAt_followed {a : Nat} {l : Loc} (hl : locOf a = some l) (hb : l.blk ∈ [.lane, .slice, .ho, .tc]) (d0 d : Device) :
    settleAt a d0 d = Device.settle d0 (sfChange d0 d) := by
  simp only [List.mem_cons, List.not_mem_nil, or_false] at hb
  rw [settleAt, hl]
  rcases hb with hb | hb | hb | hb <;> simp [hb]

/-- A command register of a block that nothing else follows: what the block answers, with the record of its refusal if it refuses. -/
theorem cmdWrite_answer {d d1 : Device} {m a : Nat} {v : Word} {l : Loc} {r : RegRow} {st : Status} (hs : d.staged m = none)
    (hl : locOf a = some l) (hr : rowAt l = some r) (hd : domainOf l = none) (ha : a % 4 = 0) (hw : r.wide = false) (hacc : r.acc = .wo)
    (hcov : r.cov = false) (hp : l.blk ∈ plainBlocks) (hn : d.refusal a l r v = none) (he : d.applyLoc m a l r v = (st, d1)) :
    d.cmdWrite m a v = (d1.refused { master := m, wide := false } st a).complete m { status := st } := by
  have htake : d.takeWrite m a l r v = (st, d1) := by
    simp [Device.takeWrite, he, noteCovered, hcov, settleAt_plain hl hp]
  have hat : d.writeAt false m a v = (st, d1) := by
    simp [Device.writeAt, hl, hr, hacc, hw, hn, hd, htake]
  rw [cmdWrite_mgmtAt (by rw [domainAt_of hl, hd]), busWrite_word hs ha, hat, wideReg_of hl hr, hw, Device.ended]

/-! PROOFS. Writes of reserved addresses, of read-only and of sticky registers (R41, R46, R48, R61). -/

/-- Settles O7: a write that is ignored answers OK alone, a write of a sticky register clears what it writes as 1. -/
theorem reservedReadOnlyAndStickyWritesDoWhatTheirAccessSays : Obligations.ReservedReadOnlyAndStickyWritesDoWhatTheirAccessSays := by
  intro s m a v ⟨hlive, _, hs⟩ ha
  refine ⟨fun h => ?_, fun l r hl hr hw hwide hcov hdom hblk hn => ⟨?_, rd_wr_same _ _ _, fun b hb => rd_wr_ne _ _ (by simpa using hb)⟩⟩
  · rw [exec_registerWrite, live_after hlive, busWrite_word hs ha, writeAt_ignored _ _ _ _ h, ended_ok, accepted]
  · have hplain : l.blk ∈ plainBlocks := List.Sublist.subset (by decide) hblk
    have hho : l.blk ≠ .ho := fun h => absurd (h ▸ hplain) (by decide)
    have hap := applyLoc_w1c s.dev m a v hho hw
    rw [exec_registerWrite, live_after hlive,
      busWrite_mgmt hs hl hr hdom ha hwide (by simp [hw]) (by simp [hw]) (by simp [hw]) hn (by rw [hap]), hap, settleAt_plain hl hplain, hcov,
      if_neg (by decide), accepted]

end Sys2Proof.Machine
end

section
/-! SUPPORT. The record of a refused access, word by word (R51, R91, R552). -/

namespace Sys2Proof.Machine
open Sys2Proof Sys2Proof.Safety

theorem refuseCounter_range {st : Status} {c : Nat} (h : refuseCounter st = some c) : 0x80 ≤ c ∧ c ≤ 0xA8 := by
  cases st <;> simp_all [refuseCounter] <;> omega

section
variable (d : Device) (x : Access) {st : Status} (a : Nat) {c : Nat} (hc : refuseCounter st = some c)
include hc

/-- The counter of the status moves up by one. -/
theorem refused_counter : (d.refused x st a).rd c = wd (satAdd 32 (d.rd c).toNat 1) := by
  have hr := refuseCounter_range hc
  simp only [Device.refused, hc, rd_raise]
  rw [rd_wr_ne _ _ (by omega), rd_wr_ne _ _ (by omega), rd_ev_ne _ _ (by omega), rd_inc, if_pos rfl]

theorem refused_event : (d.refused x st a).bit 0x54 4 = true := by
  simp only [Device.refused, hc, Device.bit, rd_raise]
  rw [rd_wr_ne _ _ (by decide), rd_wr_ne _ _ (by decide)]
  exact bit_ev_same _ _ (by decide)

/-- The record leaves the events of GLOBAL that stood. -/
theorem refused_event_mono {i : Nat} (hi : i < 32) (h : d.bit 0x54 i = true) : (d.refused x st a).bit 0x54 i = true := by
  have hr := refuseCounter_range hc
  have h1 : (d.inc c).bit 0x54 i = true := by rw [bit_of_rd (rd_inc_ne _ (by omega))]; exact h
  have h2 := bit_ev_mono (b := 0x54) (j := 4) hi (by decide) h1
  simp only [Device.refused, hc, Device.bit, rd_raise]
  rw [rd_wr_ne _ _ (by decide), rd_wr_ne _ _ (by decide)]
  exact h2

theorem refused_addr : (d.refused x st a).rd 0xB0 = wd a := by
  simp [Device.refused, hc, rd_wr]

theorem refused_info : (d.refused x st a).rd 0xB4 =
    wd (st.code + 16 * x.master + 256 * b2n x.write + 512 * b2n x.rmw + 1024 * b2n x.wide) := by
  simp [Device.refused, hc]

/-- The Fault Collector hears of the refusal: REG_LOCK_WRITE of a lock, REG_REFUSED of anything else. -/
theorem refused_raised : Raised (d.refused x st a) (if st = .locked then 23 else 24) := by
  simp only [Device.refused, hc]
  exact raised_raise _ rfl

end

/-- STATUS of REFUSE_INFO. -/
theorem refused_status (d : Device) (x : Access) {st : Status} (a : Nat) {c : Nat} (hc : refuseCounter st = some c) :
    (d.refused x st a).get 0xB4 0 4 = st.code := by
  have hlt := Status.code_lt st
  rw [Device.get, refused_info d x a hc, fld, wd, BitVec.toNat_ofNat, Nat.shiftRight_zero]
  omega

end Sys2Proof.Machine
end

section
/-! PROOFS. Unaligned writes (R51, R54, R62). -/

namespace Sys2Proof.Machine
open Sys2Proof Sys2Proof.Safety

/-- An unaligned write discards what the master has staged elsewhere and is refused. -/
theorem busWrite_unaligned (d : Device) (m : Nat) {a : Nat} (ha : a % 4 ≠ 0) (be : Nat) (v : Word) :
    d.busWrite m a be v = ((d.touch m a).refused { master := m, wide := wideReg a } .unaligned a).complete m { status := .unaligned } := by
  simp [Device.busWrite, ha, Device.ended]

theorem discards_staged {d : Device} {m a : Nat} {g : Staging} (h : d.staged m = some g) (ha : a < g.base ∨ g.base + 16 ≤ a) :
    d.discards m a = true := by
  simp only [Device.discards, h, Bool.not_eq_true', Bool.and_eq_false_iff, decide_eq_false_iff_not]
  omega

theorem staged_setStaged (d : Device) (m : Nat) (x : Option Staging) : (d.setStaged m x).staged m = x := tabGet_tabPut_same _ _ _ _

/-- A staging that is discarded is gone and leaves WIDE_DISCARD (R62). -/
theorem discard_record (d : Device) (m : Nat) : (d.discard m).staged m = none ∧ (d.discard m).bit 0x54 3 = true :=
  ⟨staged_setStaged d m none, bit_ev_same _ _ (by decide)⟩

/-- Settles O8: an unaligned write leaves the record of its refusal and, of another staging, its discard. -/
theorem refusedWriteOnlyLeavesItsRecord : Obligations.RefusedWriteOnlyLeavesItsRecord := by
  intro s m a be v hlive ha
  have hc : refuseCounter .unaligned = some 0x84 := rfl
  refine ⟨fun hs => ?_, fun g hg hout => ?_⟩
  · refine ⟨s.dev.refused { master := m, wide := wideReg a } .unaligned a, ?_, refused_counter _ _ _ hc, refused_event _ _ _ hc,
      refused_addr _ _ _ hc, refused_status _ _ _ hc, refused_keeps _ _ _ hc, refused_raised _ _ _ hc, refused_only _ _ _ _⟩
    rw [exec_registerWrite, live_after hlive, busWrite_unaligned _ _ ha, touch_unstaged hs]
  · have ht : s.dev.touch m a = s.dev.discard m := if_pos (discards_staged hg hout)
    obtain ⟨hst, hev⟩ := discard_record s.dev m
    refine ⟨(s.dev.discard m).refused { master := m, wide := wideReg a } .unaligned a, ?_, ?_, refused_event_mono _ _ _ hc (by decide) hev⟩
    · rw [exec_registerWrite, live_after hlive, busWrite_unaligned _ _ ha, ht]
    · exact (staged_of_stages (by rw [refused_bus]) m).trans hst

end Sys2Proof.Machine
end

section
/-! SUPPORT. The identifiers of operation records (R83, R85). -/

namespace Sys2Proof.Machine
open Sys2Proof Sys2Proof.Safety

/-- A record just opened carries OPREC_NEXT_ID as its OP_ID. -/
theorem opOpenAt_id (d : Device) (k kind origin total : Nat) : (d.opOpenAt k kind origin total).rd (oprecBase k) = d.rd 0x104 := by
  have hb := oprecBase_ge k
  unfold Device.opOpenAt
  rw [rd_wr_ne _ _ (by omega), rd_wrStamp_out _ (by omega)]
  iterate 6 rw [rd_wr_ne _ _ (by omega)]
  rw [rd_wr_same]

/-- OPREC_NEXT_ID moves on. -/
theorem opOpenAt_next (d : Device) (k kind origin total : Nat) :
    (d.opOpenAt k kind origin total).rd 0x104 = nextOpId (d.rd 0x104) := by
  have hb := oprecBase_ge k
  unfold Device.opOpenAt
  rw [rd_wr_ne _ _ (by omega), rd_wrStamp_out _ (by omega)]
  iterate 5 rw [rd_wr_ne _ _ (by omega)]
  rw [rd_wr_same]

theorem nextOpId_ne_zero (i : Word) : nextOpId i ≠ 0 := by
  unfold nextOpId
  split
  · decide
  · rename_i h
    bv_omega

/-! PROOFS. The opening of a record (R85). -/

/-- Settles O14: an opening stores OPREC_NEXT_ID as OP_ID and moves it on, past 0. -/
theorem operationRecordTakesNextId : Obligations.OperationRecordTakesNextId := by
  refine ⟨fun d k kind origin total _ => ⟨opOpenAt_id d k _ _ _, opOpenAt_next d k _ _ _, fun _ => ?_⟩, by decide, by decide⟩
  rw [opOpenAt_next]
  exact nextOpId_ne_zero _

end Sys2Proof.Machine
end

section
/-! PROOFS. The staging of a wide register, HALL.SWITCH_TIME, and its application by word 3 (R61, R63). -/

namespace Sys2Proof.Machine
open Sys2Proof Sys2Proof.Safety

theorem exec_wideStageWrite (m a i : Nat) (v : Word) (s : State) :
    exec (.wideStageWrite m a i v) s = s.live (fun d => d.busWrite m (a / 16 * 16 + 4 * (i % 3)) 15 v) := rfl
theorem exec_wideApplyWrite (m a : Nat) (v : Word) (s : State) :
    exec (.wideApplyWrite m a v) s = s.live (fun d => d.cmdWrite m (a / 16 * 16 + 12) v) := rfl

/-- The row of SWITCH_TIME (R301). -/
def switchTimeRow : RegRow := { base := 0x30, acc := .rw, size := 16, wide := true }

theorem locOf_switchTime : ∀ i < 4, locOf (0xC0030 + 4 * i) = some ⟨.hall, 0, 0x30 + 4 * i⟩ := by decide
theorem rowAt_switchTime : ∀ i < 4, rowAt ⟨.hall, 0, 0x30 + 4 * i⟩ = some switchTimeRow := by decide

/-- A write inside the register a master has staged discards nothing. -/
theorem discards_inside {d : Device} {m a : Nat} {g : Staging} (h : d.staged m = some g) (ha : g.base ≤ a ∧ a < g.base + 16) :
    d.discards m a = false := by
  simp [Device.discards, h, ha]

/-- A write of a word of SWITCH_TIME that discards nothing reaches the staging of its master. -/
theorem busWrite_switchTime {d : Device} {m i : Nat} (hi : i < 4) (hd : d.discards m (0xC0030 + 4 * i) = false) (v : Word) :
    d.busWrite m (0xC0030 + 4 * i) 15 v =
      Device.ended { master := m, wide := true } (0xC0030 + 4 * i)
        (d.wideWord false m (0xC0030 + 4 * i) ⟨.hall, 0, 0x30 + 4 * i⟩ switchTimeRow v) := by
  have hl := locOf_switchTime i hi
  have hr := rowAt_switchTime i hi
  have hacc : switchTimeRow.acc = .rw := rfl
  have hw : switchTimeRow.wide = true := rfl
  have ha : (0xC0030 + 4 * i) % 4 = 0 := by omega
  simp [Device.busWrite, ha, wideReg_of hl hr, hw, Device.writeBytes, Device.writeWord, Device.touch, Device.touched, hd, Device.writeAt, hl,
    hr, hacc]

/-- What a master without staging discards: nothing. -/
theorem discards_unstaged {d : Device} {m : Nat} (h : d.staged m = none) (a : Nat) : d.discards m a = false := by
  simp [Device.discards, h]

/-- Words 1 and 2 follow the words staged (R61). -/
theorem wideWord_next {d : Device} {m i : Nat} {ws : List Word} (hi : i < 3) (h0 : 0 < i) (hs : d.staged m = some ⟨0xC0030, ws⟩)
    (hlen : ws.length = i) (v : Word) :
    d.wideWord false m (0xC0030 + 4 * i) ⟨.hall, 0, 0x30 + 4 * i⟩ switchTimeRow v =
      (.ok, d.setStaged m (some ⟨0xC0030, ws ++ [v]⟩)) := by
  have h1 : ¬(0xC0030 + 4 * i) % 16 < 4 := by omega
  have h2 : (0xC0030 + 4 * i) / 16 * 16 = 0xC0030 := by omega
  have h3 : (0xC0030 + 4 * i) % 16 / 4 = i := by omega
  simp only [Device.wideWord, h1, if_false, hs, h2, h3, hlen, and_self, if_true, hi]

/-- The four words of SWITCH_TIME once word 3 is written: stored at once, the staging empty, CFG_DIRTY set (R61, R77). -/
def switchTimeSet (d : Device) (m : Nat) (ws : List Word) : Device := ((d.setStaged m none).wrs 0xC0030 ws).covered

/-- Word 3 applies the words staged (R61). -/
theorem wideWord_last {d : Device} {m : Nat} {ws : List Word} (hs : d.staged m = some ⟨0xC0030, ws⟩) (hlen : ws.length = 3) (v : Word)
    (hn : d.wideRefusal ⟨.hall, 0, 0x30⟩ (ws ++ [v]) = none) :
    d.wideWord false m 0xC003C ⟨.hall, 0, 0x3C⟩ switchTimeRow v = (.ok, switchTimeSet d m (ws ++ [v])) := by
  have hok : timeWordsBad (ws ++ [v]) = false := by
    simpa [Device.wideRefusal] using hn
  simp [Device.wideWord, hs, hlen, Device.wideWhole, Device.wideRefusal, hok, domainOf, Device.applyWide, noteCovered, switchTimeRow,
    switchTimeSet]

theorem staged_covered (d : Device) (m : Nat) : d.covered.staged m = d.staged m := staged_of_stages (by rw [covered_bus]) m

@[simp] theorem rd_setStaged (d : Device) (m : Nat) (x : Option Staging) (a : Nat) : (d.setStaged m x).rd a = d.rd a := rfl

/-- What the application of SWITCH_TIME leaves. -/
theorem switchTimeSet_record (d : Device) (m : Nat) {ws : List Word} (hlen : ws.length = 4) :
    (switchTimeSet d m ws).staged m = none ∧ (switchTimeSet d m ws).rds 0xC0030 4 = ws ∧
      KeepsBut [0xC0030, 0xC0034, 0xC0038, 0xC003C, 0x50] d (switchTimeSet d m ws) := by
  refine ⟨?_, ?_, fun a ha => ?_⟩
  · rw [switchTimeSet, staged_covered, staged_of_stages (d := d.setStaged m none) (by rw [wrs_bus]), staged_setStaged]
  · have h := rds_wrs ws (d.setStaged m none) 0xC0030
    rw [hlen] at h
    exact (rds_congr fun i _ => rd_covered _ (by omega)).trans h
  · simp only [List.mem_cons, List.not_mem_nil, or_false, not_or] at ha
    obtain ⟨h0, h1, h2, h3, h50⟩ := ha
    match ws, hlen with
    | [w0, w1, w2, w3], _ => simp [switchTimeSet, rd_covered _ h50, Device.wrs, rd_wr, h0, h1, h2, h3]

theorem domainAt_switchTime : domainAt 0xC003C = none := by decide

/-- A write of word 3 as a command. -/
theorem exec_wideApplyWrite_switchTime {s : State} {m : Nat} (hlive : Live s) (hd : s.dev.discards m 0xC003C = false) (v : Word) :
    exec (.wideApplyWrite m 0xC0030 v) s =
      .next (after s (Device.ended { master := m, wide := true } 0xC003C
        (s.dev.wideWord false m 0xC003C ⟨.hall, 0, 0x3C⟩ switchTimeRow v))) := by
  rw [exec_wideApplyWrite, live_after hlive]
  exact congrArg (fun x => Host.Outcome.next (after s x)) ((cmdWrite_mgmtAt domainAt_switchTime _ m v).trans
    (busWrite_switchTime (i := 3) (by decide) hd v))

/-- Settles O9, word by word: 0 to 2 are staged, 3 applies them or, with nothing staged, is refused. -/
theorem wideWriteIsStagedThenAppliedAtOnce : Obligations.WideWriteIsStagedThenAppliedAtOnce := by
  intro s m w0 w1 w2 w3 hlive _
  have stage : ∀ (i : Nat) (v : Word) (d : Device), i < 3 → s.dev.discards m (0xC0030 + 4 * i) = false →
      s.dev.wideWord false m (0xC0030 + 4 * i) ⟨.hall, 0, 0x30 + 4 * i⟩ switchTimeRow v = (.ok, d) →
      exec (.wideStageWrite m 0xC0030 i v) s = .next (accepted s m d) := by
    intro i v d hi hd h
    have ha : 0xC0030 / 16 * 16 + 4 * (i % 3) = 0xC0030 + 4 * i := by omega
    rw [exec_wideStageWrite, live_after hlive, ha, busWrite_switchTime (by omega) hd, h, ended_ok, accepted]
  have inside : ∀ {ws : List Word} (i : Nat), s.dev.staged m = some ⟨0xC0030, ws⟩ → i < 4 →
      s.dev.discards m (0xC0030 + 4 * i) = false := fun i h hi => discards_inside h ⟨by simp, by simp; omega⟩
  refine ⟨fun h => ?_, fun h => ?_, fun h => ?_, fun h hn => ?_, fun h => ?_⟩
  · exact stage 0 w0 _ (by decide) (discards_unstaged h _) (by simp [Device.wideWord, h])
  · exact stage 1 w1 _ (by decide) (inside 1 h (by decide)) (wideWord_next (i := 1) (by decide) (by decide) h rfl w1)
  · exact stage 2 w2 _ (by decide) (inside 2 h (by decide)) (wideWord_next (i := 2) (by decide) (by decide) h rfl w2)
  · refine ⟨switchTimeSet s.dev m [w0, w1, w2, w3], ?_, switchTimeSet_record _ _ rfl⟩
    rw [exec_wideApplyWrite_switchTime hlive (inside 3 h (by decide)), wideWord_last h rfl w3 hn, ended_ok, accepted]
    rfl
  · have hc : refuseCounter .narrow = some 0x80 := rfl
    refine ⟨s.dev.refused { master := m, wide := true } .narrow 0xC003C, ?_, refused_counter _ _ _ hc, refused_keeps _ _ _ hc⟩
    rw [exec_wideApplyWrite_switchTime hlive (discards_unstaged h _)]
    simp [Device.wideWord, h, Device.ended]

end Sys2Proof.Machine
end

section
/-! PROOFS. The write-once lock of a block, and what it protects (R43, R51, R74, R75). -/

namespace Sys2Proof.Machine
open Sys2Proof Sys2Proof.Safety

theorem exec_blockLockWrite (m base : Nat) (v : Word) (s : State) :
    exec (.blockLockWrite m base v) s = s.live (fun d => d.cmdWrite m (base + 0xC) v) := rfl

/-- A write of BLOCK_LOCK by a master with nothing staged. -/
theorem cmdWrite_blockLock {b : Nat} (hb : b < 14) {d : Device} {m : Nat} (hs : d.staged m = none) (v : Word) :
    d.cmdWrite m (0x10000 * b + 0xC) v =
      Device.ended { master := m } (0x10000 * b + 0xC) (d.lockWrite (0x10000 * b + 0xC) blockLockRow v) := by
  have hacc : blockLockRow.acc = .lock := rfl
  obtain ⟨l, hl, hr⟩ := Option.bind_eq_some_iff.1 (locOf_blockLock b hb)
  have hwide : wideReg (0x10000 * b + 0xC) = false := wideReg_of hl hr
  have hwrite : d.writeAt false m (0x10000 * b + 0xC) v = d.lockWrite (0x10000 * b + 0xC) blockLockRow v := by
    simp [Device.writeAt, hl, hr, hacc]
  rw [cmdWrite_mgmtAt (domainAt_blockLock b hb), busWrite_word hs (by omega), hwide, hwrite]

/-- A write of 1 to a lock that is not set sets LOCK alone. -/
theorem lockWrite_open {d : Device} {a : Nat} (h : d.bit a 0 = false) : d.lockWrite a blockLockRow 1 = (.ok, d.setBit a 0 true) := by
  have h1 : blockLockRow.legal (1 : Word).toNat = true := by decide
  have h0 : bitAt 1 0 = true := by decide
  have h9 : bitAt 1 9 = false := by decide
  simp only [Device.lockWrite, h, h1, h0, h9]
  rfl

/-- A write of 0 to a lock that is set is refused. -/
theorem lockWrite_spent {d : Device} {a : Nat} (h : d.bit a 0 = true) : d.lockWrite a blockLockRow 0 = (.locked, d) := by
  have h0 : bitAt 0#32 0 = false := by decide
  simp [Device.lockWrite, h, h0]

/-- A lockable register of a locked block refuses a write (R74). -/
theorem writeAt_locked {d : Device} {m a : Nat} {v : Word} {l : Loc} {r : RegRow} (hl : locOf a = some l) (hr : rowAt l = some r)
    (hacc : r.acc = .rwl) (hw : r.wide = false) (hlock : d.blockLocked a l = true) (hst : d.standby = false) :
    d.writeAt false m a v = (.locked, d) := by
  have hn : d.refusal a l r v = some (.locked, d) := by
    simp [Device.refusal, Device.standbyBars, hst, hacc, hlock]
  simp [Device.writeAt, hl, hr, hacc, hw, hn]

/-- Settles O11: a lock is set once, then refuses a write of itself and of what it protects. -/
theorem lockedRegistersRefuseWrites : Obligations.LockedRegistersRefuseWrites := by
  intro s m ⟨hlive, _, hs⟩
  have hc : refuseCounter .locked = some 0x88 := rfl
  refine ⟨fun b hb h => ?_, fun b hb h => ?_, fun a v l r ha hl hr hacc hw hlock hst => ⟨?_, refused_counter _ _ _ hc, refused_keeps _ _ _ hc⟩⟩
  · rw [exec_blockLockWrite, live_after hlive, cmdWrite_blockLock hb hs, lockWrite_open h, ended_ok, accepted]
  · rw [exec_blockLockWrite, live_after hlive, cmdWrite_blockLock hb hs, lockWrite_spent h, Device.ended]
  · rw [exec_registerWrite, live_after hlive, busWrite_word hs ha, wideReg_of hl hr, hw, writeAt_locked hl hr hacc hw hlock hst, Device.ended]

end Sys2Proof.Machine
end

section
/-! PROOFS. The counter clears (R91, R158, R301, R369, R399, R455, R479, R521, R550, R635, R666). -/

namespace Sys2Proof.Safety
open Sys2Proof.Machine

theorem OnlyRegs.zero {d d' : Device} (h : OnlyRegs d d') (l : List Nat) : OnlyRegs d (d'.zero l) := by
  induction l generalizing d' with
  | nil => exact h
  | cons a l ih => exact ih (h.wr a 0)

end Sys2Proof.Safety

namespace Sys2Proof.Machine
open Sys2Proof Sys2Proof.Safety

theorem exec_accCntClr (m : Nat) (s : State) : exec (.accCntClr m) s = s.live (fun d => d.cmdWrite m 0xA0 1) := rfl
theorem exec_porchCntClr (m : Nat) (s : State) : exec (.porchCntClr m) s = s.live (fun d => d.cmdWrite m 0x30044 1) := rfl
theorem exec_pwCntClr (m : Nat) (s : State) : exec (.pwCntClr m) s = s.live (fun d => d.cmdWrite m 0x7006C 1) := rfl
theorem exec_cellarCntClr (m : Nat) (s : State) : exec (.cellarCntClr m) s = s.live (fun d => d.cmdWrite m 0x90084 1) := rfl
theorem exec_tracerCntClr (m : Nat) (s : State) : exec (.tracerCntClr m) s = s.live (fun d => d.cmdWrite m 0xA0044 1) := rfl
theorem exec_hallCntClr (m : Nat) (s : State) : exec (.hallCntClr m) s = s.live (fun d => d.cmdWrite m 0xC0084 1) := rfl
theorem exec_landingCntClr (m : Nat) (s : State) : exec (.landingCntClr m) s = s.live (fun d => d.cmdWrite m 0xB0054 1) := rfl
theorem exec_ohCntClr (m n : Nat) (s : State) : exec (.ohCntClr m n) s = s.live (fun d => d.cmdWrite m (laneBase n + 0xAC) 1) := rfl
theorem exec_atticCntClr (m : Nat) (s : State) : exec (.atticCntClr m) s = s.live (fun d => d.cmdWrite m 0x80080 1) := rfl
theorem exec_hearthCntClr (m : Nat) (s : State) : exec (.hearthCntClr m) s = s.live (fun d => d.cmdWrite m 0x50068 1) := rfl
theorem exec_todCntClr (m : Nat) (s : State) : exec (.todCntClr m) s = s.live (fun d => d.cmdWrite m 0x6006C 1) := rfl

/-- What a clear leaves: the registers it names read 0, and nothing else has changed. -/
theorem zero_clears (d : Device) (l : List Nat) : (∀ a ∈ l, (d.zero l).rd a = 0) ∧ Only l d (d.zero l) :=
  ⟨fun a ha => by rw [rd_zero, if_pos ha], (OnlyRegs.refl d).zero l, fun a ha => by rw [rd_zero, if_neg ha]⟩

theorem complete_zero (d : Device) (m : Nat) (c : Completion) (l : List Nat) : (d.complete m c).zero l = (d.zero l).complete m c := by
  induction l generalizing d with
  | nil => rfl
  | cons a l ih => exact ih (d.wr a 0)

/-- A command register of a block without a list of its own takes what its row allows (R57). -/
theorem refusal_command {d : Device} {a : Nat} {l : Loc} {r : RegRow} {v : Word} (hacc : r.acc = .wo) (hf : l.blk ≠ .fault)
    (hs : d.standbyBars l v = false) (hb : d.bridgeBad l r v = false) : d.refusal a l r v = none := by
  rw [Device.refusal, hs, hb]
  simp only [Bool.false_eq_true, hacc, reduceCtorEq, false_and, if_false, Bool.false_and]

/-- The row of a command of one bit. -/
def bitRow (o : Nat) : RegRow := wo o 0x1

theorem bitRow_legal (o : Nat) : (bitRow o).legal 1 = true := by simp [bitRow, wo, RegRow.legal, RegRow.reserved]

/-- The registers that clear counters: their blocks and offsets. -/
def clearRegs : List (Blk × Nat) :=
  [(.global, 0xA0), (.porch, 0x44), (.partywall, 0x6C), (.cellar, 0x84), (.tracer, 0x44), (.hall, 0x84), (.landing, 0x54), (.lane, 0xAC),
    (.attic, 0x80), (.hearth, 0x68), (.tod, 0x6C)]

/-- Nothing refuses a clear: no STANDBY list names one, and its row allows the bit. -/
theorem refusal_clear (d : Device) (a : Nat) {l : Loc} (h : (l.blk, l.off) ∈ clearRegs) : d.refusal a l (bitRow l.off) 1 = none := by
  obtain ⟨b, i, o⟩ := l
  simp only [clearRegs, List.mem_cons, Prod.mk.injEq, List.not_mem_nil, or_false] at h
  refine refusal_command rfl ?_ ?_ ?_ <;>
    rcases h with ⟨rfl, rfl⟩ | ⟨rfl, rfl⟩ | ⟨rfl, rfl⟩ | ⟨rfl, rfl⟩ | ⟨rfl, rfl⟩ | ⟨rfl, rfl⟩ | ⟨rfl, rfl⟩ | ⟨rfl, rfl⟩ | ⟨rfl, rfl⟩ |
      ⟨rfl, rfl⟩ | ⟨rfl, rfl⟩ <;>
    simp [Device.standbyBars, Device.bridgeBad, bitRow_legal]

section
variable {s : State} {m a : Nat} {l : Loc} {z : List Nat} {c : Instr} (h : Ready s m)
  (hc : exec c s = s.live (fun d => d.cmdWrite m a 1)) (hl : locOf a = some l) (hr : rowAt l = some (bitRow l.off)) (ha : a % 4 = 0)
  (hm : (l.blk, l.off) ∈ clearRegs)
include h hc hl hr ha hm

/-- A clear in the management domain, and what it brings with it. -/
theorem exec_clear (hd : domainOf l = none) (he : s.dev.applyLoc m a l (bitRow l.off) 1 = (.ok, s.dev.zero z)) :
    exec c s = .next (accepted s m (settleAt a s.dev (s.dev.zero z))) := by
  rw [hc, live_after h.live, cmdWrite_mgmt h.unstaged hl hr hd ha rfl nofun nofun nofun (refusal_clear _ _ hm) (by rw [he]), he]
  rfl

/-- A clear of a block that nothing else follows. -/
theorem exec_clear_plain (hd : domainOf l = none) (hp : l.blk ∈ plainBlocks)
    (he : s.dev.applyLoc m a l (bitRow l.off) 1 = (.ok, s.dev.zero z)) :
    ∃ d, exec c s = .next (accepted s m d) ∧ (∀ a ∈ z, d.rd a = 0) ∧ Only z s.dev d :=
  ⟨s.dev.zero z, by rw [exec_clear h hc hl hr ha hm hd he, settleAt_plain hl hp], zero_clears _ _⟩

/-- A clear behind a dual-clock queue that is idle: it is posted and takes effect. -/
theorem exec_clear_posted {dom : Domain} (hd : domainOf l = some dom) (hq : DomainReady s dom) (hp : l.blk ∈ plainBlocks)
    (he : (s.dev.complete m {}).applyLoc m a l (bitRow l.off) 1 = (.ok, (s.dev.complete m {}).zero z)) :
    exec c s = .next (accepted s m (s.dev.zero z)) := by
  have hcov : (bitRow l.off).cov = false := rfl
  rw [hc, live_after h.live,
    cmdWrite_posted h.unstaged hl hr hd ⟨hq.empty, hq.runs⟩ ha rfl nofun nofun nofun (refusal_clear _ _ hm)]
  simp only [hcov, Bool.false_eq_true, if_false, Device.takeEffect, hl, hr, he, if_true, settleAt_plain hl hp, complete_zero, accepted]

end

/-- The clears of the management domain that nothing else follows. -/
theorem exec_clears {s : State} {m : Nat} (h : Ready s m) :
    ∀ c ∈ [(Instr.accCntClr m, [0x80, 0x84, 0x88, 0x8C, 0x90, 0x94, 0x98, 0x9C, 0xA4, 0xA8]),
        (.porchCntClr m, [0x30020, 0x30024, 0x30028, 0x3002C, 0x30030, 0x30034, 0x30038, 0x3003C, 0x30040, 0x30074]),
        (.pwCntClr m, [0x70038, 0x7003C, 0x70040, 0x70044, 0x70048, 0x7004C, 0x70050, 0x70054, 0x70058, 0x7005C]),
        (.cellarCntClr m, [0x90060, 0x90064, 0x90068, 0x9006C, 0x90070, 0x90074, 0x90078, 0x9007C, 0x90080]),
        (.tracerCntClr m, [0xA0030, 0xA0034, 0xA0038, 0xA003C, 0xA0040]), (.hallCntClr m, [0xC0070, 0xC0074, 0xC0078, 0xC007C])],
      ∃ d, exec c.1 s = .next (accepted s m d) ∧ (∀ a ∈ c.2, d.rd a = 0) ∧ Only c.2 s.dev d := by
  intro c hc
  simp only [List.mem_cons, List.not_mem_nil, or_false] at hc
  rcases hc with rfl | rfl | rfl | rfl | rfl | rfl
  · exact exec_clear_plain h (exec_accCntClr m s) (l := ⟨.global, 0, 0xA0⟩) (by decide) (by decide) (by decide) (by decide) rfl (by decide) rfl
  · exact exec_clear_plain h (exec_porchCntClr m s) (l := ⟨.porch, 0, 0x44⟩) (by decide) (by decide) (by decide) (by decide) rfl (by decide) rfl
  · exact exec_clear_plain h (exec_pwCntClr m s) (l := ⟨.partywall, 0, 0x6C⟩) (by decide) (by decide) (by decide) (by decide) rfl (by decide) rfl
  · exact exec_clear_plain h (exec_cellarCntClr m s) (l := ⟨.cellar, 0, 0x84⟩) (by decide) (by decide) (by decide) (by decide) rfl (by decide) rfl
  · exact exec_clear_plain h (exec_tracerCntClr m s) (l := ⟨.tracer, 0, 0x44⟩) (by decide) (by decide) (by decide) (by decide) rfl (by decide) rfl
  · exact exec_clear_plain h (exec_hallCntClr m s) (l := ⟨.hall, 0, 0x84⟩) (by decide) (by decide) (by decide) (by decide) rfl (by decide) rfl

theorem rowAt_ohCntClr (n : Nat) : rowAt ⟨.lane, n, 0xAC⟩ = some (bitRow 0xAC) := by
  simp [rowAt, rowsAt, laneRows, header, ro, rw, w1c, wo, RegRow.has, bitRow]

/-- The clear of a lane's relay counters. -/
theorem exec_ohCntClr_clears {s : State} {m n : Nat} (h : Ready s m) (hn : n < 64) :
    exec (.ohCntClr m n) s = .next (acceptedFollowed s m (s.dev.ohCntClr n)) := by
  have hlane : locOf (laneBase n + 0xAC) = some ⟨.lane, n, 0xAC⟩ := locOf_lane hn (by decide)
  rw [exec_clear h (exec_ohCntClr m n s) hlane (rowAt_ohCntClr n) (by unfold laneBase; omega) (by simp [clearRegs]) (by simp [domainOf]) rfl,
    settleAt_followed hlane (by simp)]
  rfl

/-- The registers of a list that is mapped from a range. -/
theorem mem_map_range {f : Nat → Nat} {n i b : Nat} (hi : i < n) (h : f i = b) : b ∈ (List.range n).map f :=
  List.mem_map.2 ⟨i, List.mem_range.2 hi, h⟩

/-- Settles O16: a clear writes its command register, which zeroes the list of its block. -/
theorem counterClearsZeroTheirBlock : Obligations.CounterClearsZeroTheirBlock := by
  intro s m h
  refine ⟨exec_clears h, ⟨s.dev.landCntClr, ?_, zero_clears _ _⟩, fun n hn => ⟨s.dev.ohCntClr n, exec_ohCntClr_clears h hn, ?_⟩,
    fun hq => ⟨s.dev.atticCntClr, ?_, zero_clears _ _⟩, fun hq => ⟨⟨s.dev.hearthCntClr, ?_, ?_⟩, s.dev.todCntClr, ?_, ?_⟩⟩
  · have hland : locOf 0xB0054 = some ⟨.landing, 0, 0x54⟩ := by decide
    rw [exec_clear h (exec_landingCntClr m s) hland (by decide) (by decide) (by decide) rfl rfl, settleAt_settled hland (by decide)]
    rfl
  · obtain ⟨hz, honly⟩ := zero_clears s.dev [laneBase n + 0xA0, laneBase n + 0xA4, laneBase n + 0xA8]
    exact ⟨fun a ha => hz _ (by simpa using ha), honly⟩
  · exact exec_clear_posted h (exec_atticCntClr m s) (l := ⟨.attic, 0, 0x80⟩) (by decide) (by decide) (by decide) (by decide) rfl hq
      (by decide) rfl
  · exact exec_clear_posted h (exec_hearthCntClr m s) (l := ⟨.hearth, 0, 0x68⟩) (by decide) (by decide) (by decide) (by decide) rfl hq
      (by decide) rfl
  · obtain ⟨hz, honly⟩ := zero_clears s.dev ([0x50058, 0x5005C, 0x50060] ++ (List.range 8).map (fun r => refBase r + 0x1C))
    exact ⟨hz _ (by simp), hz _ (by simp), hz _ (by simp), fun r hr => hz _ (List.mem_append_right _ (mem_map_range hr rfl)), honly⟩
  · exact exec_clear_posted h (exec_todCntClr m s) (l := ⟨.tod, 0, 0x6C⟩) (by decide) (by decide) (by decide) (by decide) rfl hq
      (by decide) rfl
  · obtain ⟨hz, honly⟩ := zero_clears s.dev ([0x60060, 0x60064] ++ (List.range 8).map (fun j => domBase (j / 4) + 0x30 + 4 * (j % 4)))
    refine ⟨hz _ (by simp), hz _ (by simp), fun x i hx hi => hz _ (List.mem_append_right _ (mem_map_range (i := 4 * x + i) (by omega) ?_)),
      honly⟩
    have h1 : (4 * x + i) / 4 = x := by omega
    have h2 : (4 * x + i) % 4 = i := by omega
    rw [h1, h2]

end Sys2Proof.Machine
end

section
/-! SUPPORT. Extends of the measurement registers (R636 to R640): what one leaves outside MEASURE, and LOG_TOTAL. -/

namespace Sys2Proof.Machine
open Sys2Proof Sys2Proof.Safety

@[simp] theorem sha12_length (l : List Byte) : (sha12 l).length = 12 := by simp [sha12]
@[simp] theorem logEntry_length (d : Device) (ty r : Nat) (dig : List Word) : (d.logEntry ty r dig).length = 8 + dig.length := by
  simp only [Device.logEntry, List.length_append, List.length_cons, List.length_nil, stamp_length]

/-- An update of a fold of updates, each of which keeps a set of registers, keeps it. -/
theorem KeptOn.foldl {α : Type} {S : Nat → Prop} {f : Device → α → Device} (l : List α) (h : ∀ d, ∀ x ∈ l, KeptOn S d (f d x)) (d : Device) :
    KeptOn S d (l.foldl f d) := by
  induction l generalizing d with
  | nil => exact .refl _ _
  | cons x t ih => exact (h d x (by simp)).trans (ih (fun e y hy => h e y (by simp [hy])) _)

/-- An extend touches the register file and the engine of MEASURE. -/
theorem extend_only (d : Device) (ty r : Nat) (dig : List Word) :
    d.extend ty r dig = { d with regs := (d.extend ty r dig).regs, meas := (d.extend ty r dig).meas } := by
  have key : ∀ x : Device, OnlyRegs d x → ((x.ev 0x40014 0).onMeas (fun m => { m with busy := true })) =
      { d with regs := ((x.ev 0x40014 0).onMeas (fun m => { m with busy := true })).regs,
               meas := ((x.ev 0x40014 0).onMeas (fun m => { m with busy := true })).meas } := by
    intro x hx
    rw [hx]
    rfl
  unfold Device.extend
  refine key _ ?_
  have h := (((OnlyRegs.refl d).wrs (0x40200 + 0x30 * r) (sha12 (bytesOf (d.rds (0x40200 + 0x30 * r) 12 ++ dig)))).wrs 0x402C0
    (sha12 (bytesOf (d.rds 0x402C0 12 ++ d.logEntry ty r dig)))).wr 0x40020 (d.rd 0x40020 + 1)
  split
  · exact (h.wrs _ _).put _ _ _ _
  · exact ((h.inc _).setBit _ _ _).ev _ _

@[simp] theorem extend_boot (d : Device) (ty r : Nat) (dig : List Word) : (d.extend ty r dig).boot = d.boot := by rw [extend_only]
@[simp] theorem extend_porch (d : Device) (ty r : Nat) (dig : List Word) : (d.extend ty r dig).porch = d.porch := by rw [extend_only]
@[simp] theorem extend_cores (d : Device) (ty r : Nat) (dig : List Word) : (d.extend ty r dig).cores = d.cores := by rw [extend_only]
@[simp] theorem extend_crc (d : Device) (ty r : Nat) (dig : List Word) : (d.extend ty r dig).crc = d.crc := by rw [extend_only]
@[simp] theorem extend_pantry (d : Device) (ty r : Nat) (dig : List Word) : (d.extend ty r dig).pantry = d.pantry := by rw [extend_only]
@[simp] theorem extend_fc (d : Device) (ty r : Nat) (dig : List Word) : (d.extend ty r dig).fc = d.fc := by rw [extend_only]
@[simp] theorem extend_lanes (d : Device) (ty r : Nat) (dig : List Word) : (d.extend ty r dig).lanes = d.lanes := by rw [extend_only]

/-- The registers an extend leaves: all outside the block MEASURE, its RESULT registers apart. -/
def MeasFree (a : Nat) : Prop := a < 0x40000 ∨ 0x50000 ≤ a

/-- An extend of one of the four registers stays in MEASURE. -/
theorem extend_keeps (d : Device) (ty : Nat) {r : Nat} (hr : r < 4) {dig : List Word} (hdig : dig.length ≤ 24) :
    KeptOn MeasFree d (d.extend ty r dig) := by
  have hmeas : ∀ {b : Nat}, 0x40000 ≤ b → b < 0x50000 → ¬MeasFree b := by unfold MeasFree; omega
  have hblock : ∀ {b : Nat} (l : List Word), 0x40000 ≤ b → b + 4 * l.length ≤ 0x50000 →
      ∀ a, MeasFree a → a < b ∨ b + 4 * l.length ≤ a := by unfold MeasFree; omega
  have h := (((KeptOn.refl MeasFree d).wrs (sha12 (bytesOf (d.rds (0x40200 + 0x30 * r) 12 ++ dig)))
    (hblock (b := 0x40200 + 0x30 * r) _ (by omega) (by rw [sha12_length]; omega))).wrs
    (sha12 (bytesOf (d.rds 0x402C0 12 ++ d.logEntry ty r dig))) (hblock (b := 0x402C0) _ (by omega) (by rw [sha12_length]; omega))).wr
    (d.rd 0x40020 + 1) (hmeas (b := 0x40020) (by omega) (by omega))
  unfold Device.extend
  refine KeptOn.trans ?_ (.of_regs (onMeas_regs _ _))
  refine KeptOn.ev ?_ _ (hmeas (by omega) (by omega))
  split
  · rename_i hlog
    exact (h.wrs _ (hblock _ (by omega) (by rw [logEntry_length]; omega))).put _ _ _ (hmeas (by omega) (by omega))
  · exact ((h.inc (hmeas (by omega) (by omega))).setBit _ _ (hmeas (by omega) (by omega))).ev _ (hmeas (by omega) (by omega))

/-- An extend moves LOG_TOTAL up by one. -/
theorem extend_count (d : Device) (ty r : Nat) (dig : List Word) : (d.extend ty r dig).rd 0x40020 = d.rd 0x40020 + 1 := by
  unfold Device.extend
  rw [rd_onMeas, rd_ev_ne _ _ (by omega)]
  split
  · rw [rd_put_ne _ _ _ _ (by omega), rd_wrs_out _ _ _ _ (.inl (by omega)), rd_wr_same]
  · rw [rd_ev_ne _ _ (by omega), rd_setBit_ne _ _ _ (by omega), rd_inc_ne _ (by omega), rd_wr_same]

end Sys2Proof.Machine
end

section
/-! PROOFS. The warm reset (R93, R583, R584): what RESET_CTL leaves, and the end of the hold. -/

namespace Sys2Proof

/-- A table from which entries are dropped by their keys. -/
theorem tabGet_filter (d : α) (p : Nat → Bool) (t : Tab α) (n : Nat) :
    tabGet d (t.filter (fun e => p e.1)) n = if p n = true then tabGet d t n else d := by
  induction t with
  | nil => simp [tabGet]
  | cons e t ih =>
    obtain ⟨k, w⟩ := e
    by_cases hk : p k = true
    · rw [List.filter_cons_of_pos (by exact hk)]
      by_cases hn : k = n
      · subst hn
        simp [tabGet, hk]
      · simp [tabGet, hn, ih]
    · rw [List.filter_cons_of_neg (by exact hk), ih]
      by_cases hn : k = n
      · subst hn
        simp [hk]
      · simp [tabGet, hn]

namespace Machine
open Safety

theorem exec_warmResetCmd (m : Nat) (s : State) : exec (.warmResetCmd m) s = s.live (fun d => d.cmdWrite m 0x20 0xA501) := rfl
theorem exec_warmResetHoldEnd (s : State) : exec .warmResetHoldEnd s = s.pins (fun d => d.warmEnd) := rfl

/-- The row of RESET_CTL. -/
def resetCtlRow : RegRow := wo 0x20 0xFFFFFFFF

theorem locOf_resetCtl : locOf 0x20 = some ⟨.global, 0, 0x20⟩ := by decide
theorem rowAt_resetCtl : rowAt ⟨.global, 0, 0x20⟩ = some resetCtlRow := by decide

theorem resetCtl_legal : resetCtlRow.legal (0xA501 : Word).toNat = true := by decide

theorem refusal_resetCtl (d : Device) : d.refusal 0x20 ⟨.global, 0, 0x20⟩ resetCtlRow 0xA501 = none :=
  refusal_command rfl nofun (by simp [Device.standbyBars]) (by simp only [Device.bridgeBad, resetCtl_legal]; rfl)

/-- RESET_CTL written with its code begins a warm reset. -/
theorem exec_warmResetCmd_resets {s : State} {m : Nat} (h : Ready s m) :
    exec (.warmResetCmd m) s = .next (accepted s m (s.dev.warmReset 2 none)) := by
  have hap : s.dev.applyLoc m 0x20 ⟨.global, 0, 0x20⟩ resetCtlRow 0xA501 = (.ok, s.dev.warmReset 2 none) := rfl
  rw [exec_warmResetCmd, live_after h.live, cmdWrite_mgmt h.unstaged locOf_resetCtl rowAt_resetCtl rfl rfl rfl nofun nofun nofun
    (refusal_resetCtl _) (by rw [hap]), hap, settleAt_plain locOf_resetCtl (by decide)]
  rfl

/-- A warm reset returns every register that is not kept to its value after reset; RESET_CAUSE holds the cause. -/
theorem rd_warmReset (d : Device) (cause : Nat) (mask : Option (Nat × Nat)) (a : Nat) :
    (d.warmReset cause mask).rd a = if a = 0x24 then wd cause else if keptReg a = true then d.rd a else resetWord a := by
  unfold Device.warmReset
  rw [rd_wr]
  split
  · rfl
  · exact tabGet_filter _ keptReg _ _

/-- Training starts with BUSY alone (R374), and touches the registers of the Cellar's channels. -/
theorem celTrain_keeps {S : Nat → Prop} (hs : ¬S 0x90010) (hc : ∀ c, c < 12 → ¬S (celChan c)) (d : Device) : KeptOn S d d.celTrain :=
  ((KeptOn.refl S d).wr _ hs).trans (.foldl _ (fun e c h => (KeptOn.refl S e).wr _ (hc c (List.mem_range.1 h))) _)

theorem celTrain_only (d : Device) : OnlyRegs d d.celTrain :=
  List.foldlRecOn _ _ ((OnlyRegs.refl d).wr _ _) (fun _ h _ _ => h.wr _ _)

theorem celTrain_training (d : Device) : d.celTrain.rd 0x90010 = 2 := by
  have hchan : ∀ c, celChan c ≠ 0x90010 := fun c => by unfold celChan; omega
  have h : KeptOn (· = 0x90010) (d.wr 0x90010 2) d.celTrain := .foldl _ (fun e c _ => (KeptOn.refl _ e).wr _ (hchan c)) _
  rw [h _ rfl, rd_wr_same]

/-- Boot begins (R586): reset is released, the phase is ROM, no core runs, the Cellar trains. -/
theorem bootStart_record (d : Device) :
    d.bootStart.boot = { d.boot with held := false, warm := false, since := d.uptime } ∧ d.bootStart.get 0x20010 0 4 = 1 ∧
      d.bootStart.bit 0x90010 1 = true ∧ d.bootStart.cores = ⟨true, true⟩ ∧ d.bootStart.porch = d.porch := by
  have hlen : ((List.range 12).map (fun i => Config.romDigest.getD i 0)).length ≤ 24 := by simp
  have hchan : ∀ c, c < 12 → ¬celChan c = 0x20010 := fun c _ => by unfold celChan; omega
  have hrd : d.bootStart.rd 0x20010 =
      ((((d.onBoot (fun b => { b with held := false, warm := false, since := d.uptime })).phaseTo 1).coresRun false)).rd 0x20010 := by
    rw [Device.bootStart, celTrain_keeps (S := (· = 0x20010)) (by decide) hchan _ _ rfl, extend_keeps _ _ (by decide) hlen _ (.inl (by decide))]
  refine ⟨?_, ?_, ?_, ?_, ?_⟩
  · rw [Device.bootStart, (celTrain_only _).boot, extend_boot]; rfl
  · rw [get_of_rd hrd]; exact get_put_same _ _ _ (by decide)
  · rw [Device.bit, Device.bootStart, celTrain_training]; rfl
  · rw [Device.bootStart, (celTrain_only _).cores, extend_cores]; rfl
  · rw [Device.bootStart, (celTrain_only _).porch, extend_porch]; rfl

/-- The device as its hold ends: the mask of a reaction is open (R564). -/
def holdEnded (d : Device) : Device :=
  (d.reach (d.boot.since + 20000)).onFc (fun c =>
    { c with
        warmMask := none
        masks := match c.warmMask with
          | some m => c.masks ++ [⟨.device, m.1, max d.uptime (d.boot.since + 20000) + ms m.2⟩]
          | none => c.masks })

@[simp] theorem onPorch_boot (d : Device) (f : PorchSt → PorchSt) : (d.onPorch f).boot = d.boot := rfl
@[simp] theorem onPorch_cores (d : Device) (f : PorchSt → PorchSt) : (d.onPorch f).cores = d.cores := rfl

/-- The end of a hold in which the Porch received nothing (R583). -/
theorem warmEnd_quiet {d : Device} (hheld : d.boot.held = true) (hwarm : d.boot.warm = true) (hbusy : d.porch.busy = []) :
    d.warmEnd = (holdEnded d).bootStart.onPorch (fun p => { p with busy := [] }) := by
  have hb : (holdEnded d).bootStart.porch.busy = [] := by
    obtain ⟨-, -, -, -, hporch⟩ := bootStart_record (holdEnded d)
    rw [hporch]
    exact hbusy
  have he : d.warmEnd = (holdEnded d).bootStart.porch.busy.foldl (fun d x => (d.inc 0x30020).porchReply x.1 x.2 .busy 0 0 [])
      ((holdEnded d).bootStart.onPorch (fun p => { p with busy := [] })) := by
    rw [Device.warmEnd, hheld, hwarm]
    rfl
  rw [he, hb, List.foldl_nil]

/-- Settles O15: the warm reset keeps its list; the end of its hold starts the boot. -/
theorem warmResetKeepsOnlyItsList : Obligations.WarmResetKeepsOnlyItsList := by
  intro s
  refine ⟨fun m h => ⟨s.dev.warmReset 2 none, exec_warmResetCmd_resets h, rfl, rfl, ?_, rfl, rfl, rfl, rfl, fun a ha hk => ?_, fun a hk => ?_⟩,
    fun hheld hwarm hbusy => ⟨s.dev.warmEnd, by rw [exec_warmResetHoldEnd, State.pins, after], ?_⟩⟩
  · rw [rd_warmReset, if_pos rfl]; rfl
  · rw [rd_warmReset, if_neg ha, hk]; rfl
  · have ha : a ≠ 0x24 := by rintro rfl; exact absurd hk (by decide)
    rw [rd_warmReset, if_neg ha, if_pos hk]
  · obtain ⟨hboot, hphase, htrain, hcores, -⟩ := bootStart_record (holdEnded s.dev)
    rw [warmEnd_quiet hheld hwarm hbusy]
    rw [onPorch_boot, onPorch_cores, hboot, hcores, get_of_rd (rd_onPorch _ _ _), bit_of_rd (rd_onPorch _ _ _)]
    exact ⟨rfl, rfl, hphase, htrain, rfl⟩

end Machine
end Sys2Proof
end

section
/-! PROOFS. The configuration CRC (R76 to R82): CFG_COMMIT, and the pass that is latched, compared or only shown. -/

namespace Sys2Proof.Machine
open Sys2Proof Sys2Proof.Safety

theorem exec_cfgCommit (m : Nat) (s : State) : exec (.cfgCommit m) s = s.live (fun d => d.cmdWrite m 0x30 1) := rfl
theorem exec_cfgCrcPassEnd (u : List (Nat × Word)) (s : State) :
    exec (.cfgCrcPassEnd u) s = s.live (fun d => (d.passEnds u).commitCheck) := rfl
theorem exec_cfgDirtyLong (s : State) : exec .cfgDirtyLong s = s.live (fun d => d.dirtyLong) := rfl

/-! CFG_COMMIT. -/

/-- A commit that has opened its record waits for its pass (R78). -/
def commitWaits (d : Device) (k : Nat) : Device :=
  ({ d with crc := { d.crc with latchThis := false, commitRec := some k } } : Device).setBit 0x50 2 true

theorem commit_opens {d : Device} {k : Nat} (m : Nat) (hp : d.bit 0x50 2 = false) (hk : d.opPick = some k) :
    d.commit m 1 = (.ok, commitWaits (d.opOpenAt k 0x0A m 1) k) := by
  have hbit : bitAt 1#32 0 = true := by decide
  rw [Device.commit, if_neg (by simp [hbit, hp]), opOpen_some hk]
  rfl

theorem commit_pending {d : Device} (m : Nat) (hp : d.bit 0x50 2 = true) : d.commit m 1 = (.ok, d) := by
  simp [Device.commit, hp]

/-- CFG_COMMIT as a command, where the commit ends OK. -/
theorem exec_cfgCommit_ok {s : State} {m : Nat} (h : Ready s m) {d : Device} (he : s.dev.commit m 1 = (.ok, d)) :
    exec (.cfgCommit m) s = .next (accepted s m d) := by
  have hw : s.dev.busWrite m 0x30 15 1 = d.complete m {} := by
    have hwrite : s.dev.writeWord false m 0x30 1 = (.ok, d) := (writeWord_taken (direct := false) h.unstaged locOf_cfgCommit rowAt_cfgCommit (.inr rfl) rfl nofun nofun nofun
      (refusal_cfgCommit s.dev)).trans ((takeWrite_cfgCommit _ _).trans he)
    have ha : ¬(0x30 % 4 ≠ 0) := by decide
    have hbe : 15 % 16 = 15 := by decide
    rw [Device.busWrite, if_neg ha, Device.writeBytes, if_pos hbe, hwrite, ended_ok]
  rw [exec_cfgCommit, live_after h.live, cmdWrite_mgmtAt domainAt_cfgCommit, hw, accepted]

theorem commitWaits_pending (d : Device) (k : Nat) : (commitWaits d k).bit 0x50 2 = true ∧ (commitWaits d k).crc.commitRec = some k :=
  ⟨bit_setBit_same _ _ _ (by decide), rfl⟩

theorem rd_commitWaits (d : Device) (k : Nat) {a : Nat} (h : a ≠ 0x50) : (commitWaits d k).rd a = d.rd a := rd_setBit_ne _ _ _ h

/-! The end of a pass. -/

theorem foldl_same {α β : Type} {f : β → α → β} {b : β} (l : List α) (h : ∀ x ∈ l, f b x = b) : l.foldl f b = b := by
  induction l with
  | nil => rfl
  | cons x t ih => rw [List.foldl_cons, h x (by simp), ih fun y hy => h y (by simp [hy])]

/-- Nothing enters a queue when nothing has changed. -/
theorem selRequeue_self (d : Device) : selRequeue d d = d :=
  foldl_same _ fun i _ => if_neg (by simp)

theorem tcRequeue_self (d : Device) : tcRequeue d d = d :=
  foldl_same _ fun k _ => if_neg (by simp)

/-- The pass in the registers that show it: CFG_CRC_NOW and the count of passes. -/
def passShown (d : Device) (crc : Word) : Device := (d.wr 0x3C crc).incWrap 0x40

/-- The engine begins its next pass; the one that follows a pending commit is the one to latch (R78). -/
def passNext (d : Device) : Device := { d with crc := { d.crc with dirtyPass := false, latchThis := d.bit 0x50 2 } }

/-- A pass without bit errors. -/
theorem passEnds_nil {d : Device} {crc : Word} (hcrc : d.cfgCrc = crc) :
    d.passEnds [] = passNext (if d.bit 0x50 2 && d.crc.latchThis && !d.crc.dirtyPass then (passShown d crc).crcLatch crc
      else (passShown d crc).crcCompare crc) := by
  unfold Device.passEnds
  beta_reduce
  rw [List.foldl_nil, selRequeue_self, tcRequeue_self, hcrc]
  rfl

theorem passShown_keeps (d : Device) (crc : Word) : KeepsBut [0x3C, 0x40] d (passShown d crc) := by
  intro a ha
  simp only [List.mem_cons, List.not_mem_nil, or_false, not_or] at ha
  rw [passShown, Device.incWrap, rd_wr_ne _ _ ha.2, rd_wr_ne _ _ ha.1]

theorem passShown_now (d : Device) (crc : Word) : (passShown d crc).rd 0x3C = crc := by
  rw [passShown, Device.incWrap, rd_wr_ne _ _ (by decide), rd_wr_same]

theorem passShown_crc (d : Device) (crc : Word) : (passShown d crc).crc = d.crc := rfl
theorem passShown_boot (d : Device) (crc : Word) : (passShown d crc).boot = d.boot := rfl
theorem passShown_fc (d : Device) (crc : Word) : (passShown d crc).fc = d.fc := rfl

theorem bit_passShown (d : Device) (crc : Word) {a : Nat} (ha : a ∉ [0x3C, 0x40]) (i : Nat) : (passShown d crc).bit a i = d.bit a i :=
  bit_of_rd (passShown_keeps d crc a ha) i

@[simp] theorem rd_passNext (d : Device) (a : Nat) : (passNext d).rd a = d.rd a := rfl
@[simp] theorem bit_passNext (d : Device) (a i : Nat) : (passNext d).bit a i = d.bit a i := rfl
theorem passNext_rec (d : Device) : (passNext d).crc.commitRec = d.crc.commitRec := rfl
@[simp] theorem passNext_fc (d : Device) : (passNext d).fc = d.fc := rfl
@[simp] theorem passNext_boot (d : Device) : (passNext d).boot = d.boot := rfl

/-- No load waits for a commit when none runs. -/
theorem commitCheck_idle {d : Device} (h : d.boot.load = none) : d.commitCheck = d := by rw [Device.commitCheck, loading_none h]

/-! The pass that is latched. -/

/-- The registers of a latched CRC (R78): CFG_CRC_REF, the flags of CFG_STATUS and COMMIT_DONE. -/
def crcStored (d : Device) (crc : Word) : Device :=
  ((((((({ d with crc := { d.crc with latchThis := false, commitRec := none } } : Device).wr 0x38 crc).setBit 0x50 0 true).setBit
    0x50 1 false).setBit 0x50 2 false).setBit 0x50 3 false).ev 0x54 0)

/-- The record of the commit is closed. -/
def commitClosed (rec : Option Nat) (d : Device) : Device := match rec with | some k => (d.opSteps k 1).opClose k .ok | none => d

theorem crcLatch_eq (d : Device) (crc : Word) :
    d.crcLatch crc = (commitClosed d.crc.commitRec (crcStored d crc)).when (decide (d.bootPhase = 7))
      (·.extend 0x10 3 (sha12 (wordBytes crc))) := rfl

/-- The closing of the record touches no register below 0x54. -/
theorem commitClosed_keeps (rec : Option Nat) (d : Device) : KeptOn (· < 0x54) d (commitClosed rec d) := by
  intro a ha
  cases rec with
  | none => rfl
  | some k =>
    have hb := oprecBase_ge k
    rw [commitClosed, rd_opClose_out _ _ (by omega) (by omega) (by omega), rd_opSteps_ne _ (by omega)]

theorem commitClosed_only (rec : Option Nat) (d : Device) : OnlyRegs d (commitClosed rec d) := by
  cases rec with
  | none => exact .refl d
  | some k => exact (opSteps_only d k 1).trans (opClose_only _ _ _)

theorem commitClosed_event (rec : Option Nat) {d : Device} (h : d.bit 0x54 0 = true) : (commitClosed rec d).bit 0x54 0 = true := by
  cases rec with
  | none => exact h
  | some k =>
    have hb := oprecBase_ge k
    refine bit_ev_mono _ (by decide) (by decide) ?_
    rw [Device.bit, rd_wrStamp_out _ (.inl (by omega)), rd_put_ne _ _ _ _ (by omega), rd_put_ne _ _ _ _ (by omega), rd_opSteps_ne _ (by omega)]
    exact h

/-- A latched pass leaves what its registers hold, whatever the record and the extend that go with it write. -/
theorem crcLatch_keeps (d : Device) (crc : Word) : KeptOn (· < 0x54) (crcStored d crc) (d.crcLatch crc) := by
  rw [crcLatch_eq]
  have hclosed := commitClosed_keeps d.crc.commitRec (crcStored d crc)
  refine when_ind (P := KeptOn (· < 0x54) (crcStored d crc)) hclosed fun _ a ha => ?_
  rw [extend_keeps _ _ (by decide) (by simp) a (.inl (Nat.lt_trans ha (by decide))), hclosed a ha]

theorem crcLatch_event (d : Device) (crc : Word) : (d.crcLatch crc).bit 0x54 0 = true := by
  have h := commitClosed_event d.crc.commitRec (d := crcStored d crc) (bit_ev_same _ _ (by decide))
  rw [crcLatch_eq]
  refine when_ind (P := fun e => e.bit 0x54 0 = true) h fun _ => ?_
  rw [bit_of_rd (extend_keeps _ _ (by decide) (by simp) _ (.inl (by decide)))]
  exact h

theorem crcLatch_hidden (d : Device) (crc : Word) : (d.crcLatch crc).crc.commitRec = none ∧ (d.crcLatch crc).boot = d.boot := by
  have h1 : (commitClosed d.crc.commitRec (crcStored d crc)).crc = (crcStored d crc).crc := by rw [commitClosed_only]
  have h2 : (commitClosed d.crc.commitRec (crcStored d crc)).boot = (crcStored d crc).boot := (commitClosed_only _ _).boot
  rw [crcLatch_eq]
  refine when_ind (P := fun e => e.crc.commitRec = none ∧ e.boot = d.boot) ⟨by rw [h1]; rfl, by rw [h2]; rfl⟩ fun _ => ?_
  rw [extend_crc, extend_boot, h1, h2]
  exact ⟨rfl, rfl⟩

/-- The words of a latched pass (R78, R79). -/
theorem crcLatch_words (d : Device) (crc : Word) :
    (d.crcLatch crc).rd 0x38 = crc ∧ (d.crcLatch crc).rd 0x3C = d.rd 0x3C ∧ (d.crcLatch crc).bit 0x50 0 = true ∧
      (d.crcLatch crc).bit 0x50 1 = false ∧ (d.crcLatch crc).bit 0x50 2 = false := by
  have hk := crcLatch_keeps d crc
  have h50 : ∀ i, (d.crcLatch crc).bit 0x50 i = (crcStored d crc).bit 0x50 i := fun i => bit_of_rd (hk _ (by decide)) i
  rw [hk 0x38 (by decide), hk 0x3C (by decide), h50, h50, h50]
  unfold crcStored
  refine ⟨?_, ?_, ?_, ?_, ?_⟩
  · simp only [rd_ev, rd_setBit, rd_wr]; rfl
  · simp only [rd_ev, rd_setBit, rd_wr]; rfl
  · rw [bit_of_rd (rd_ev_ne _ _ (by decide)), bit_setBit_ne _ _ (by decide) (by decide), bit_setBit_ne _ _ (by decide) (by decide),
      bit_setBit_ne _ _ (by decide) (by decide), bit_setBit_same _ _ _ (by decide)]
  · rw [bit_of_rd (rd_ev_ne _ _ (by decide)), bit_setBit_ne _ _ (by decide) (by decide), bit_setBit_ne _ _ (by decide) (by decide),
      bit_setBit_same _ _ _ (by decide)]
  · rw [bit_of_rd (rd_ev_ne _ _ (by decide)), bit_setBit_ne _ _ (by decide) (by decide), bit_setBit_same _ _ _ (by decide)]

/-! The pass that is compared. -/

/-- The reports of a mismatch (R80). -/
def crcMismatched (d : Device) : Device := (((d.setBit 0x50 3 true).ev 0x54 1).inc 0x44).raiseSrc 25

theorem crcCompare_idle {d : Device} {crc : Word} (h : (d.bit 0x50 0 && !d.bit 0x50 1 && !d.crc.dirtyPass) = false) :
    d.crcCompare crc = d := by
  rw [Device.crcCompare, h]
  rfl

theorem crcCompare_differs {d : Device} {crc : Word} (h0 : d.bit 0x50 0 = true) (h1 : d.bit 0x50 1 = false) (hp : d.crc.dirtyPass = false)
    (hne : crc ≠ d.rd 0x38) : d.crcCompare crc = crcMismatched d := by
  simp [Device.crcCompare, h0, h1, hp, hne, crcMismatched]

theorem crcMismatched_record (d : Device) :
    (crcMismatched d).bit 0x50 3 = true ∧ (crcMismatched d).bit 0x54 1 = true ∧
      (crcMismatched d).rd 0x44 = wd (satAdd 32 (d.rd 0x44).toNat 1) ∧ Raised (crcMismatched d) 25 ∧
      KeepsBut [0x44, 0x50, 0x54] d (crcMismatched d) ∧ (crcMismatched d).boot = d.boot := by
  refine ⟨?_, ?_, ?_, raised_raiseSrc _ _, fun a ha => ?_, raiseSrc_boot _ _⟩
  · have h : (crcMismatched d).rd 0x50 = (d.setBit 0x50 3 true).rd 0x50 :=
      (rd_raiseSrc _ _ _).trans ((rd_inc_ne _ (by decide)).trans (rd_ev_ne _ _ (by decide)))
    exact (bit_of_rd h 3).trans (bit_setBit_same _ _ _ (by decide))
  · have h : (crcMismatched d).rd 0x54 = ((d.setBit 0x50 3 true).ev 0x54 1).rd 0x54 := (rd_raiseSrc _ _ _).trans (rd_inc_ne _ (by decide))
    exact (bit_of_rd h 1).trans (bit_ev_same _ _ (by decide))
  · rw [crcMismatched, rd_raiseSrc, rd_inc, if_pos rfl, rd_ev_ne _ _ (by decide), rd_setBit_ne _ _ _ (by decide)]
  · simp only [List.mem_cons, List.not_mem_nil, or_false, not_or] at ha
    obtain ⟨h44, h50, h54⟩ := ha
    rw [crcMismatched, rd_raiseSrc, rd_inc_ne _ h44, rd_ev_ne _ _ h54, rd_setBit_ne _ _ _ h50]

/-! The statement, clause by clause. -/

section
variable {d : Device} {crc : Word} (hcrc : d.cfgCrc = crc)
include hcrc

/-- The pass to latch, into which no covered write fell. -/
theorem passEnds_latches (hp : d.bit 0x50 2 = true) (hl : d.crc.latchThis = true) (hd : d.crc.dirtyPass = false) :
    d.passEnds [] = passNext ((passShown d crc).crcLatch crc) := by
  rw [passEnds_nil hcrc, if_pos (by rw [hp, hl, hd]; rfl)]

/-- Any other pass is compared, if it is compared at all. -/
theorem passEnds_compares (h : (d.bit 0x50 2 && d.crc.latchThis && !d.crc.dirtyPass) = false) :
    d.passEnds [] = passNext ((passShown d crc).crcCompare crc) := by
  rw [passEnds_nil hcrc, if_neg (by rw [h]; decide)]

/-- A pass that is neither latched nor compared is only shown. -/
theorem passEnds_shows (h : (d.bit 0x50 2 && d.crc.latchThis && !d.crc.dirtyPass) = false)
    (hc : (d.bit 0x50 0 && !d.bit 0x50 1 && !d.crc.dirtyPass) = false) : d.passEnds [] = passNext (passShown d crc) := by
  rw [passEnds_compares hcrc h, crcCompare_idle]
  rw [bit_passShown _ _ (by decide), bit_passShown _ _ (by decide), passShown_crc, hc]

end

section
variable {s : State} {crc : Word} (hlive : Live s) (hload : s.dev.boot.load = none) (hcrc : s.dev.cfgCrc = crc)
include hlive hload

theorem exec_pass {d : Device} (he : s.dev.passEnds [] = passNext d) (hb : d.boot = s.dev.boot) :
    exec (.cfgCrcPassEnd []) s = .next (after s (passNext d)) := by
  rw [exec_cfgCrcPassEnd, live_after hlive, he, commitCheck_idle (by rw [passNext_boot, hb]; exact hload)]

include hcrc

/-- The pass to latch, into which no covered write fell (R78). -/
theorem exec_pass_latches (hp : s.dev.bit 0x50 2 = true) (hl : s.dev.crc.latchThis = true) (hd : s.dev.crc.dirtyPass = false) :
    ∃ d, exec (.cfgCrcPassEnd []) s = .next (after s d) ∧ d.rd 0x38 = crc ∧ d.rd 0x3C = crc ∧
      d.bit 0x50 0 = true ∧ d.bit 0x50 1 = false ∧ d.bit 0x50 2 = false ∧ d.bit 0x54 0 = true ∧ d.crc.commitRec = none := by
  obtain ⟨hrec, hboot⟩ := crcLatch_hidden (passShown s.dev crc) crc
  obtain ⟨href, hnow, hset, hdirty, hpend⟩ := crcLatch_words (passShown s.dev crc) crc
  have hev := crcLatch_event (passShown s.dev crc) crc
  rw [passShown_now] at hnow
  refine ⟨_, exec_pass hlive hload (passEnds_latches hcrc hp hl hd) (hboot.trans (passShown_boot _ _)), ?_⟩
  simp only [rd_passNext, bit_passNext, passNext_rec]
  exact ⟨href, hnow, hset, hdirty, hpend, hev, hrec⟩

/-- A pass into which a covered write fell, with a commit pending: the next one is the one to latch (R78). -/
theorem exec_pass_waits (hp : s.dev.bit 0x50 2 = true) (hd : s.dev.crc.dirtyPass = true) :
    ∃ d, exec (.cfgCrcPassEnd []) s = .next (after s d) ∧ d.rd 0x38 = s.dev.rd 0x38 ∧ d.bit 0x50 2 = true ∧
      d.crc.latchThis = true ∧ d.crc.dirtyPass = false ∧ d.crc.commitRec = s.dev.crc.commitRec := by
  have hpend := (bit_passShown s.dev crc (a := 0x50) (by decide) 2).trans hp
  have href := passShown_keeps s.dev crc 0x38 (by decide)
  refine ⟨_, exec_pass hlive hload (passEnds_shows hcrc (by simp [hd]) (by simp [hd])) (passShown_boot _ _), ?_⟩
  simp only [rd_passNext, bit_passNext]
  exact ⟨href, hpend, hpend, rfl, rfl⟩

/-- A committed, clean pass with another value (R80). -/
theorem exec_pass_differs (h0 : s.dev.bit 0x50 0 = true) (h1 : s.dev.bit 0x50 1 = false) (h2 : s.dev.bit 0x50 2 = false)
    (hd : s.dev.crc.dirtyPass = false) (hne : crc ≠ s.dev.rd 0x38) :
    ∃ d, exec (.cfgCrcPassEnd []) s = .next (after s d) ∧ d.bit 0x50 3 = true ∧ d.bit 0x54 1 = true ∧
      d.rd 0x44 = wd (satAdd 32 (s.dev.rd 0x44).toNat 1) ∧ Raised d 25 ∧ KeepsBut [0x3C, 0x40, 0x44, 0x50, 0x54] s.dev d := by
  have hshown := passShown_keeps s.dev crc
  have hcmp : (passShown s.dev crc).crcCompare crc = crcMismatched (passShown s.dev crc) :=
    crcCompare_differs ((bit_passShown _ _ (by decide) _).trans h0) ((bit_passShown _ _ (by decide) _).trans h1) hd
      (by rw [hshown _ (by decide)]; exact hne)
  obtain ⟨hflag, hevent, hcount, hraised, hkeeps, hboot⟩ := crcMismatched_record (passShown s.dev crc)
  rw [hshown 0x44 (by decide)] at hcount
  refine ⟨_, exec_pass hlive hload ((passEnds_compares hcrc (by simp [h2])).trans (congrArg passNext hcmp))
    (hboot.trans (passShown_boot _ _)), ?_⟩
  simp only [rd_passNext, bit_passNext]
  refine ⟨hflag, hevent, hcount, hraised.of_fc (passNext_fc _), fun a ha => ?_⟩
  simp only [List.mem_cons, List.not_mem_nil, or_false, not_or] at ha
  rw [rd_passNext, hkeeps a (by simp [ha]), hshown a (by simp [ha])]

/-- A pass before the first commit (R82). -/
theorem exec_pass_shows (h0 : s.dev.bit 0x50 0 = false) (h2 : s.dev.bit 0x50 2 = false) :
    ∃ d, exec (.cfgCrcPassEnd []) s = .next (after s d) ∧ KeepsBut [0x3C, 0x40] s.dev d ∧ d.fc = s.dev.fc := by
  have hshown := passShown_keeps s.dev crc
  refine ⟨_, exec_pass hlive hload (passEnds_shows hcrc (by simp [h2]) (by simp [h0])) (passShown_boot _ _), fun a ha => ?_, ?_⟩
  · rw [rd_passNext, hshown a ha]
  · rw [passNext_fc, passShown_fc]

end

/-- A commit that finds a record waits for its pass (R78). -/
theorem exec_cfgCommit_opens {s : State} {m k : Nat} (h : Ready s m) (hp : s.dev.bit 0x50 2 = false) (hk : s.dev.opPick = some k) :
    ∃ d, exec (.cfgCommit m) s = .next (accepted s m d) ∧ d.bit 0x50 2 = true ∧ d.crc.commitRec = some k ∧
      d.get (oprecBase k + 4) 0 8 = 0x0A ∧ d.get (oprecBase k + 4) 12 2 = 1 := by
  have hb := oprecBase_ge k
  have hm := h.master
  obtain ⟨hpend, hrec⟩ := commitWaits_pending (s.dev.opOpenAt k 0x0A m 1) k
  obtain ⟨hkind, hstate, -⟩ := opOpenAt_words s.dev k (kind := 0x0A) (origin := m) 1 (by decide) (by omega)
  have hrd := rd_commitWaits (s.dev.opOpenAt k 0x0A m 1) k (a := oprecBase k + 4) (by omega)
  exact ⟨_, exec_cfgCommit_ok h (commit_opens m hp hk), hpend, hrec, (get_of_rd hrd _ _).trans hkind, (get_of_rd hrd _ _).trans hstate⟩

/-- CFG_DIRTY held over its limit (R81). -/
theorem dirtyLong_record {d : Device} (h : d.bit 0x50 1 = true) :
    d.dirtyLong.bit 0x54 2 = true ∧ KeepsBut [0x54] d d.dirtyLong ∧ Raised d.dirtyLong 26 := by
  have he : d.dirtyLong = (d.ev 0x54 2).raiseSrc 26 := if_pos h
  rw [he]
  refine ⟨?_, fun a ha => ?_, raised_raiseSrc _ _⟩
  · rw [bit_of_rd (rd_raiseSrc _ _ _)]
    exact bit_ev_same _ _ (by decide)
  · rw [rd_raiseSrc, rd_ev_ne _ _ (by simpa using ha)]

/-- Settles O13: CFG_COMMIT opens or waits; a pass is latched, compared or only shown; a long CFG_DIRTY is reported. -/
theorem crcPassLatchesComparesOrWaits : Obligations.CrcPassLatchesComparesOrWaits := by
  intro s hlive hload
  generalize hcrc : s.dev.cfgCrc = crc
  exact ⟨fun m k h hp hk => exec_cfgCommit_opens h hp hk, fun m h hp => exec_cfgCommit_ok h (commit_pending m hp),
    exec_pass_latches hlive hload hcrc, exec_pass_waits hlive hload hcrc, exec_pass_differs hlive hload hcrc,
    exec_pass_shows hlive hload hcrc,
    fun h1 => ⟨s.dev.dirtyLong, by rw [exec_cfgDirtyLong, live_after hlive], dirtyLong_record h1⟩⟩

end Sys2Proof.Machine
end

section
/-! PROOFS. GO and CANCEL of the Hall (R289, R290, R297, R298, R303). -/

namespace Sys2Proof.Machine
open Sys2Proof Sys2Proof.Safety

theorem exec_hallSwitchGo (m : Nat) (s : State) : exec (.hallSwitchGo m) s = s.live (fun d => d.cmdWrite m 0xC0024 1) := rfl
theorem exec_hallSwitchCancel (m : Nat) (s : State) : exec (.hallSwitchCancel m) s = s.live (fun d => d.cmdWrite m 0xC0024 2) := rfl

/-! SWITCH_CMD. -/

/-- The row of SWITCH_CMD (R301). -/
def switchCmdRow : RegRow := wo 0x24 0x3

theorem locOf_switchCmd : locOf 0xC0024 = some ⟨.hall, 0, 0x24⟩ := by decide
theorem rowAt_switchCmd : rowAt ⟨.hall, 0, 0x24⟩ = some switchCmdRow := by decide

theorem switchCmd_legal : ∀ v ∈ [1#32, 2#32], switchCmdRow.legal v.toNat = true := by
  simp [switchCmdRow, wo, RegRow.legal, RegRow.reserved]

section
variable {s : State} {m : Nat} {v : Word} (h : Ready s m) (hst : s.dev.standby = false) (hv : v ∈ [1#32, 2#32])
include h hst hv

/-- A write of GO or CANCEL reaches the Hall (R539: the device is not STANDBY). -/
theorem cmdWrite_switchCmd {st : Status} {d : Device} (he : s.dev.switchCmd m v = (st, d)) :
    s.dev.cmdWrite m 0xC0024 v = (d.refused { master := m, wide := false } st 0xC0024).complete m { status := st } := by
  have hlegal := switchCmd_legal v hv
  have hn : s.dev.refusal 0xC0024 ⟨.hall, 0, 0x24⟩ switchCmdRow v = none :=
    refusal_command rfl nofun (by simp [Device.standbyBars, hst]) (by simp [Device.bridgeBad, hlegal])
  exact cmdWrite_answer h.unstaged locOf_switchCmd rowAt_switchCmd rfl rfl rfl rfl rfl (by decide) hn he

end

/-! GO. -/

/-- The settings GO latches for the inactive page (R290). -/
def switchLatched (d : Device) (k : Nat) : HallSw :=
  { cfg := d.rd 0xC0020, sec := (d.rd 0xC0034).toNat + 2 ^ 32 * d.get 0xC0038 0 16, ns := d.get 0xC0030 0 30, crc := d.rd 0xC0028, op := k,
    page := 1 - d.activePage, missed := (List.range 16).filter d.sliceHeld }

/-- The registers an accepted GO writes: the result of the page check and the CRC words of the slices. -/
def GoFree (a : Nat) : Prop := a < 0xC0010

theorem goTake_keeps (d : Device) (k : Nat) : KeptOn GoFree d (d.goTake k) := by
  refine KeptOn.trans ?_ (KeptOn.foldl _ (fun e n _ => (KeptOn.refl _ e).wr _ ?_) _)
  · exact ((KeptOn.refl _ d).put _ _ _ (by unfold GoFree; omega)).trans (.of_regs rfl)
  · unfold GoFree sliceBase; omega

/-- A fold of writes touches the register file alone. -/
theorem foldl_wr_only {α : Type} (l : List α) (f : α → Nat) (v : Word) (d : Device) : OnlyRegs d (l.foldl (fun e x => e.wr (f x) v) d) :=
  List.foldlRecOn _ _ (OnlyRegs.refl d) (fun _ h _ _ => h.wr _ _)

/-- A fold of writes of one value leaves it in every register written. -/
theorem rd_foldl_wr {α : Type} (l : List α) (f : α → Nat) (v : Word) (d : Device) (b : Nat) :
    (l.foldl (fun e x => e.wr (f x) v) d).rd b = if b ∈ l.map f then v else d.rd b := by
  induction l generalizing d with
  | nil => simp
  | cons x t ih =>
    rw [List.foldl_cons, ih, rd_wr]
    by_cases ht : b ∈ t.map f
    · simp [ht]
    · by_cases hx : b = f x <;> simp [ht, hx]

theorem goTake_hall (d : Device) (k : Nat) : (d.goTake k).hall = { d.hall with sw := some (switchLatched d k), passed := [] } := by
  rw [Device.goTake, foldl_wr_only _ (fun n => sliceBase n + 0x700)]
  rfl

theorem goTake_slices (d : Device) (k : Nat) {n : Nat} (hn : n < 16) : (d.goTake k).rd (sliceBase n + 0x700) = 0 := by
  rw [Device.goTake, rd_foldl_wr _ (fun n => sliceBase n + 0x700), if_pos (List.mem_map.2 ⟨n, List.mem_range.2 hn, rfl⟩)]

/-- The settings do not depend on the record opened for them. -/
theorem switchLatched_opOpenAt (d : Device) {k : Nat} (hk : k < 16) (kind origin total j : Nat) :
    switchLatched (d.opOpenAt k kind origin total) j = switchLatched d j := by
  have hle := oprecBase_le hk
  have hrd : ∀ a, 0x800 ≤ a → (d.opOpenAt k kind origin total).rd a = d.rd a :=
    fun a ha => rd_opOpenAt_out _ _ _ _ (by omega) (by omega) (.inr (by omega))
  have hheld : (d.opOpenAt k kind origin total).sliceHeld = d.sliceHeld := by
    funext n
    rw [Device.sliceHeld, Device.sliceHeld, Device.fcHeld, Device.fcHeld, (opOpenAt_only d k kind origin total).fc]
  rw [switchLatched, switchLatched, hheld, Device.activePage, Device.activePage, hrd _ (by decide), hrd _ (by decide), hrd _ (by decide),
    get_of_rd (hrd 0xC0038 (by decide)), get_of_rd (hrd 0xC0030 (by decide)), get_of_rd (hrd 0xC0010 (by decide))]

/-- A GO that is accepted: its record is open, the settings are latched (R290). -/
def switchOpened (d : Device) (m k : Nat) : Device := (d.opOpenAt k 1 m 2).goTake k

theorem hallGo_opens {d : Device} (m : Nat) {k : Nat} (hsw : d.hall.sw = none) (ht : d.todRange = false) (ha : d.cores.mc0Away = false)
    (hk : d.opPick = some k) : d.hallGo m = (.ok, switchOpened d m k) := by
  simp [Device.hallGo, hsw, ht, ha, opOpen_some hk, switchOpened]

theorem switchOpened_record (d : Device) {m k : Nat} (hm : m < 7) (hk : k < 16) :
    (switchOpened d m k).hall.sw = some (switchLatched d k) ∧ (switchOpened d m k).hall.passed = [] ∧
      (switchOpened d m k).rd (oprecBase k) = d.rd 0x104 ∧ (switchOpened d m k).get (oprecBase k + 4) 0 8 = 1 ∧
      (switchOpened d m k).get (oprecBase k + 4) 12 2 = 1 ∧ (∀ n, n < 16 → (switchOpened d m k).rd (sliceBase n + 0x700) = 0) := by
  have hle := oprecBase_le hk
  have hkeep : ∀ a, a < 0x800 → (switchOpened d m k).rd a = (d.opOpenAt k 1 m 2).rd a :=
    fun a ha => goTake_keeps _ _ a (by unfold GoFree; omega)
  obtain ⟨hkind, hstate, -⟩ := opOpenAt_words d k (kind := 1) (origin := m) 2 (by decide) (by omega)
  have hhall := goTake_hall (d.opOpenAt k 1 m 2) k
  rw [switchLatched_opOpenAt d hk] at hhall
  refine ⟨by rw [switchOpened, hhall], by rw [switchOpened, hhall], ?_, ?_, ?_, fun n hn => goTake_slices _ _ hn⟩
  · rw [hkeep _ (by omega), opOpenAt_id]
  · rw [get_of_rd (hkeep _ (by omega)), hkind]
  · rw [get_of_rd (hkeep _ (by omega)), hstate]

/-- A GO while a switch is pending is refused with cause 5 (R289). -/
theorem hallGo_pending {d : Device} (m : Nat) (h : d.hall.sw.isSome = true) : d.hallGo m = (.range, d.goRefuse 5) := by
  simp [Device.hallGo, h]

theorem goRefuse_record (d : Device) (cause : Nat) :
    (d.goRefuse cause).rd 0xC0080 = wd cause ∧ (d.goRefuse cause).rd 0xC0078 = wd (satAdd 32 (d.rd 0xC0078).toNat 1) ∧
      (d.goRefuse cause).bit 0xC0014 3 = true ∧ KeepsBut [0xC0078, 0xC0080, 0xC0014] d (d.goRefuse cause) ∧ (d.goRefuse cause).hall = d.hall := by
  refine ⟨?_, ?_, bit_ev_same _ _ (by decide), fun a ha => ?_, rfl⟩
  · rw [Device.goRefuse, rd_ev_ne _ _ (by decide), rd_wr_same]
  · rw [Device.goRefuse, rd_ev_ne _ _ (by decide), rd_wr_ne _ _ (by decide), rd_inc, if_pos rfl]
  · simp only [List.mem_cons, List.not_mem_nil, or_false, not_or] at ha
    rw [Device.goRefuse, rd_ev_ne _ _ ha.2.2, rd_wr_ne _ _ ha.2.1, rd_inc_ne _ ha.1]

theorem exec_go_pending {s : State} {m : Nat} (h : Ready s m) (hst : s.dev.standby = false) (hsw : s.dev.hall.sw.isSome = true) :
    ∃ d, exec (.hallSwitchGo m) s = .next (after s (d.complete m { status := .range })) ∧ d.hall = s.dev.hall ∧ d.rd 0xC0080 = 5 ∧
      d.rd 0xC0078 = wd (satAdd 32 (s.dev.rd 0xC0078).toNat 1) ∧ d.bit 0xC0014 3 = true ∧
      KeepsBut [0xC0078, 0xC0080, 0xC0014, 0x8C, 0x54, 0xB0, 0xB4] s.dev d := by
  have he : s.dev.switchCmd m 1 = (.range, s.dev.goRefuse 5) := by
    simp [Device.switchCmd, hst, hallGo_pending m hsw]
  obtain ⟨hcause, hcount, hevent, hkeeps, hhall⟩ := goRefuse_record s.dev 5
  have hout : ∀ {b : Nat}, 0xB4 < b → ((s.dev.goRefuse 5).refused { master := m, wide := false } .range 0xC0024).rd b =
      (s.dev.goRefuse 5).rd b := fun hb => rd_refused _ _ _ _ (.inr hb)
  refine ⟨(s.dev.goRefuse 5).refused { master := m, wide := false } .range 0xC0024, ?_, ?_, ?_, ?_, ?_, fun a ha => ?_⟩
  · rw [exec_hallSwitchGo, live_after h.live, cmdWrite_switchCmd h hst (by decide) he]
  · rw [refused_only]; exact hhall
  · rw [hout (by decide), hcause]; rfl
  · rw [hout (by decide), hcount]
  · rw [bit_of_rd (hout (by decide)), hevent]
  · simp only [List.mem_cons, List.not_mem_nil, or_false, not_or] at ha
    obtain ⟨h1, h2, h3, h4⟩ := ha
    rw [refused_keeps _ _ _ (st := .range) rfl a (by simpa using h4), hkeeps a (by simp [h1, h2, h3])]

/-! CANCEL. -/

/-- A CANCEL before the committing sample abandons the switch (R298). -/
theorem hallCancel_abandons {d : Device} {w : HallSw} (hsw : d.hall.sw = some w) (hc : w.committing = false) (hdef : w.deferred = false) :
    d.hallCancel =
      d.hallAbandon w (2 ^ 19) (min 1 (d.rd (oprecBase w.op + 0xC)).toNat) w.ready w.waited (d.rd 0xC001C) := by
  simp [Device.hallCancel, hsw, hc, hdef]

/-- SWITCH_LAST, the detail, the record's identifier and the system frame, with the time of the outcome (R303). -/
theorem switchLast_words (d : Device) (op : Nat) (st : Status) (ready waited : Nat) (detail frame : Word) :
    (d.switchLast op st ready waited detail frame).rd 0xC0040 = wd (st.code + 16 + 2 ^ 8 * min 255 waited + 2 ^ 16 * ready) ∧
      (d.switchLast op st ready waited detail frame).rd 0xC0048 = d.opId op ∧
      ∀ a, a < 0xC0040 ∨ 0xC0060 ≤ a → (d.switchLast op st ready waited detail frame).rd a = d.rd a := by
  refine ⟨?_, ?_, fun a ha => ?_⟩
  · rw [Device.switchLast, rd_wrStamp_out _ (.inl (by decide))]
    simp [Device.wrs, rd_wr]
  · rw [Device.switchLast, rd_wrStamp_out _ (.inl (by decide))]
    simp [Device.wrs, rd_wr]
  · rw [Device.switchLast, rd_wrStamp_out _ (by omega), rd_wrs_out _ _ _ _ (by simp; omega)]

@[simp] theorem rd_hallOutcome (d : Device) (o : HallOut) (a : Nat) : (d.hallOutcome o).rd a = d.rd a := rfl

/-- An abandoned switch: counted, its event set, SWITCH_LAST with ABANDONED, an outcome left for MC0 (R297). -/
theorem hallAbandon_record (d : Device) (w : HallSw) (flags fail ready waited : Nat) (frame : Word) :
    (d.hallAbandon w flags fail ready waited frame).hall.sw = none ∧
      (d.hallAbandon w flags fail ready waited frame).hall.outcomes =
        d.hall.outcomes ++ [⟨w.op, true, some fail, hallDetail ready flags d.activePage waited⟩] ∧
      (d.hallAbandon w flags fail ready waited frame).rd 0xC0074 = wd (satAdd 32 (d.rd 0xC0074).toNat 1) ∧
      (d.hallAbandon w flags fail ready waited frame).bit 0xC0014 1 = true ∧
      (d.hallAbandon w flags fail ready waited frame).get 0xC0040 0 4 = 9 ∧
      (d.hallAbandon w flags fail ready waited frame).rd 0xC0048 = d.rd (oprecBase w.op) ∧
      (d.hallAbandon w flags fail ready waited frame).activePage = d.activePage := by
  have hbase : oprecBase w.op % 0x40 = 0 := by unfold oprecBase; omega
  obtain ⟨hlast, hid, hkeep⟩ := switchLast_words (((d.setSw none).inc 0xC0074).ev 0xC0014 1) w.op .abandoned ready waited
    (hallDetail ready flags d.activePage waited) frame
  have hrd : ∀ a, (d.hallAbandon w flags fail ready waited frame).rd a =
      ((((d.setSw none).inc 0xC0074).ev 0xC0014 1).switchLast w.op .abandoned ready waited
        (hallDetail ready flags d.activePage waited) frame).rd a := by
    intro a
    rw [Device.hallAbandon, rd_hallOutcome]
  have hpage : (d.hallAbandon w flags fail ready waited frame).rd 0xC0010 = d.rd 0xC0010 := by
    rw [hrd, hkeep _ (by decide), rd_ev_ne _ _ (by decide), rd_inc_ne _ (by decide), rd_setSw]
  refine ⟨?_, ?_, ?_, ?_, ?_, ?_, ?_⟩
  · rfl
  · rfl
  · rw [hrd, hkeep _ (by decide), rd_ev_ne _ _ (by decide), rd_inc, if_pos rfl, rd_setSw]
  · rw [bit_of_rd ((hrd _).trans (hkeep _ (by decide)))]
    exact bit_ev_same _ _ (by decide)
  · have hcode : Status.code .abandoned = 9 := rfl
    rw [Device.get, hrd, hlast, fld, wd, BitVec.toNat_ofNat, Nat.shiftRight_zero, hcode]
    omega
  · rw [hrd, hid, Device.opId, rd_ev_ne _ _ (by omega), rd_inc_ne _ (by omega), rd_setSw]
  · exact get_of_rd hpage _ _

theorem exec_cancel {s : State} {m : Nat} (h : Ready s m) (hst : s.dev.standby = false) :
    exec (.hallSwitchCancel m) s = .next (accepted s m s.dev.hallCancel) := by
  have he : s.dev.switchCmd m 2 = (.ok, s.dev.hallCancel) := by
    simp [Device.switchCmd, hst]
  rw [exec_hallSwitchCancel, live_after h.live, cmdWrite_switchCmd h hst (by decide) he, refused_ok, accepted]

/-- Settles O29: GO opens or is refused, CANCEL abandons or does nothing. -/
theorem hallGoOpensAndCancelAbandons : Obligations.HallGoOpensAndCancelAbandons := by
  intro s m h hst
  refine ⟨fun k hsw ht ha hk hk16 => ⟨switchOpened s.dev m k, ?_, switchOpened_record _ h.master hk16⟩, exec_go_pending h hst,
    fun w hsw hc hdef => ?_, fun hsw => ?_⟩
  · have he : s.dev.switchCmd m 1 = (.ok, switchOpened s.dev m k) := by
      simp [Device.switchCmd, hst, hallGo_opens m hsw ht ha hk]
    rw [exec_hallSwitchGo, live_after h.live, cmdWrite_switchCmd h hst (by decide) he, refused_ok, accepted]
  · obtain ⟨hnone, hout, hcount, hevent, hlast, hid, hpage⟩ := hallAbandon_record s.dev w (2 ^ 19)
      (min 1 (s.dev.rd (oprecBase w.op + 0xC)).toNat) w.ready w.waited (s.dev.rd 0xC001C)
    exact ⟨_, _, (exec_cancel h hst).trans (by rw [hallCancel_abandons hsw hc hdef]), hnone, hout, rfl, rfl, hcount, hevent, hlast, hid, hpage⟩
  · rw [exec_cancel h hst, Device.hallCancel, hsw]

end Sys2Proof.Machine
end


section
/-! PROOFS. Flash commands (R607): the RESULT a failed command leaves in FLASH_STATUS. -/

namespace Sys2Proof.Machine
open Sys2Proof Sys2Proof.Safety

theorem exec_flashStepDone (o : StepObs) (s : State) : exec (.flashStepDone o) s = s.live (fun d => d.flashStep o) := rfl

/-- FLASH_STATUS keeps the RESULT of a command at its end: BUSY alone changes after it. -/
theorem flashEnd_result (d : Device) (c : FlashCmd) (st : Status) : (d.flashEnd c st).get 0x2008C 4 4 = st.code := by
  have hrd : (d.flashEnd c st).rd 0x2008C = setFld (setFld ((d.opClose c.op st).rd 0x2008C) 4 4 st.code) 0 1 0 := by
    rw [Device.flashEnd, rd_onPantry, rd_ev_ne _ _ (by decide), rd_setBit, if_pos rfl, rd_put, if_pos rfl]
    rfl
  rw [Device.get, hrd, fld_setFld_ne _ _ (by decide) (.inr (by decide)), fld_setFld_same _ _ (by decide)]
  exact Nat.mod_eq_of_lt (Status.code_lt st)

/-- A step that fails leaves PARTIAL or ABANDONED as RESULT; its own status stands in DETAIL alone (R607). -/
theorem flashFail_result (d : Device) (c : FlashCmd) (st : Status) :
    (d.flashFail c st).get 0x2008C 4 4 = (if 0 < c.done then Status.partly else .abandoned).code :=
  flashEnd_result _ _ _

/-- An ERASE of slot 3 that has done no step yet. -/
def eraseBegun : FlashCmd := { fop := 1, target := 3, op := 15, total := 2, done := 0 }
/-- The device after reset with that command running. -/
def eraseRuns : State :=
  { State.reset with dev := { State.reset.dev with pantry := { State.reset.dev.pantry with cmd := some eraseBegun } } }

theorem flashStep_differs {d : Device} {c : FlashCmd} {o : StepObs} (hc : d.pantry.cmd = some c) (ho : o.same = false) :
    d.flashStep o = d.flashFail c .ecc := by
  simp [Device.flashStep, hc, ho]

/-- Refutes O53: an ERASE whose first step reads back a difference leaves ABANDONED as the RESULT in FLASH_STATUS, as R607 and the
register's description have it; the statement has ECC there. -/
theorem not_flashCommandsRunStepByStepAndOwnersEnrol : ¬ Obligations.FlashCommandsRunStepByStepAndOwnersEnrol := by
  intro h
  have hlive : Live eraseRuns := rfl
  have hcmd : eraseRuns.dev.pantry.cmd = some eraseBegun := rfl
  obtain ⟨-, hsteps, -⟩ := h eraseRuns hlive
  obtain ⟨hdiffers, -⟩ := hsteps eraseBegun { same := false } hcmd (by decide) (.inl (by decide))
  obtain ⟨d, hrun, -, -, hstatus, -⟩ := hdiffers rfl
  rw [exec_flashStepDone, live_after hlive, flashStep_differs hcmd rfl] at hrun
  injection hrun with hstate
  have hrd : d.rd 0x2008C = (eraseRuns.dev.flashFail eraseBegun .ecc).rd 0x2008C := by
    rw [← rd_irqSettle eraseRuns.dev d, ← rd_irqSettle eraseRuns.dev (eraseRuns.dev.flashFail eraseBegun .ecc)]
    exact congrArg (fun t => t.dev.rd 0x2008C) hstate.symm
  rw [get_of_rd hrd, flashFail_result] at hstatus
  exact absurd hstatus (by decide)

end Sys2Proof.Machine
end


section
/-! PROOFS. The configuration clear (R44, R591) and a register table that lists an address twice. -/

namespace Sys2Proof.Machine
open Sys2Proof Sys2Proof.Safety

theorem exec_cfgClearDone (s : State) : exec .cfgClearDone s = s.live (fun d => d.cfgCleared.loadPeek) := rfl

/-- A failed load of slot 2 waits for its configuration clear, and slot 3 has been tried; GLOBAL.BLOCK_LOCK stands twice in the
register table. No run builds such a table, but the statement is about every state. -/
def lockTwice : State :=
  { State.reset with
      dev :=
        { State.reset.dev with
            regs := [(0xC, 0), (0xC, 1), (0x20010, 6)]
            boot := { State.reset.dev.boot with load := some { op := none, slot := 2, count := 0 }, tried := [3] } } }

/-- Before the clear the first entry of BLOCK_LOCK is read. -/
theorem lockTwice_unlocked : lockTwice.dev.bit (0x10000 * 0 + 0xC) 0 = false := by decide

/-- The clear drops that entry, whose LOCK is 0, and keeps the one behind it. -/
theorem lockTwice_cleared : lockTwice.dev.cfgCleared.loadPeek.bit (0x10000 * 0 + 0xC) 0 = true := by decide

/-- Refutes O54: the clause that a configuration clear keeps every LOCK fails for a register table that lists BLOCK_LOCK twice, first
with LOCK 0 and then with LOCK 1: the clear drops the first entry alone, and the second is read after it. -/
theorem not_bootFindsItsImagesAndStartsTheCores : ¬ Obligations.BootFindsItsImagesAndStartsTheCores := by
  intro h
  have hlive : Live lockTwice := rfl
  obtain ⟨-, -, -, -, -, -, -, -, -, hclear, -⟩ := h lockTwice hlive
  obtain ⟨htried, -⟩ := hclear { op := none, slot := 2, count := 0 } (by decide) rfl (.inl rfl)
  obtain ⟨d, hrun, -, -, -, -, -, -, -, -, hlocks, -⟩ := htried (.inl (by decide))
  rw [exec_cfgClearDone, live_after hlive] at hrun
  injection hrun with hstate
  have hrd : d.rd (0x10000 * 0 + 0xC) = lockTwice.dev.cfgCleared.loadPeek.rd (0x10000 * 0 + 0xC) := by
    rw [← rd_irqSettle lockTwice.dev d, ← rd_irqSettle lockTwice.dev lockTwice.dev.cfgCleared.loadPeek]
    exact congrArg (fun t => t.dev.rd (0x10000 * 0 + 0xC)) hstate.symm
  have hlock := hlocks 0 (by decide)
  rw [bit_of_rd hrd, lockTwice_cleared, lockTwice_unlocked] at hlock
  exact absurd hlock (by decide)

end Sys2Proof.Machine
end


section
/-! SUPPORT. Requests of the host on the Porch (R618, R619, R621): what the link layer does to the frames, when a request is taken,
and the response it gets. -/

namespace Sys2Proof.Machine
open Sys2Proof Sys2Proof.Safety

/-! The commands of the link, as the runs of a device. -/

theorem link_after {s : State} (h : s.dev.boot.held = false ∨ s.dev.boot.warm = true) (f : Device → Device) :
    s.link f = .next (after s (f s.dev)) := by
  have hc : ¬(s.dev.boot.held && !s.dev.boot.warm) = true := by rcases h with h | h <;> simp [h]
  simp only [State.link, State.pins, if_neg hc]
  rfl

theorem exec_porchRead (h : PHead) (a n be : Nat) (ecc : List Nat) (s : State) :
    exec (.porchRead h a n be ecc) s = s.link (fun d => d.porchTxn h (.rd a n be ecc)) := rfl
theorem exec_porchWrite (h : PHead) (a be : Nat) (ws : List Word) (s : State) :
    exec (.porchWrite h a be ws) s = s.link (fun d => d.porchTxn h (.wr a be ws)) := rfl
theorem exec_porchRmw (h : PHead) (a : Nat) (ws : List Word) (ecc : Bool) (s : State) :
    exec (.porchRmw h a ws ecc) s = s.link (fun d => d.porchTxn h (.rmw a ws ecc)) := rfl
theorem exec_writeBulk (h : PHead) (ws : List Word) (s : State) : exec (.writeBulk h ws) s = s.link (fun d => d.porchTxn h (.bulk ws)) := rfl
theorem exec_atticRead (h : PHead) (unit n : Nat) (s : State) : exec (.atticRead h unit n) s = s.link (fun d => d.atticRead h unit n) := rfl
theorem exec_attest (h : PHead) (n : Nat) (bytes : List Byte) (s : State) :
    exec (.attest h n bytes) s = s.link (fun d => d.attest h n bytes) := rfl
theorem exec_porchBadTtype (h : PHead) (ttype : Nat) (s : State) :
    exec (.porchBadTtype h ttype) s = s.link (fun d => d.porchBadType h ttype) := rfl
theorem exec_ohStream (h : PHead) (n : Nat) (rec : List Byte) (s : State) :
    exec (.ohStream h n rec) s = s.link (fun d => d.ohStream h n rec) := rfl
theorem exec_atticReadServed (data : List Byte) (bad : Option Nat) (s : State) :
    exec (.atticReadServed data bad) s = s.link (fun d => d.atticServed data bad) := rfl
theorem exec_attestReportReady (s : State) : exec .attestReportReady s = s.link (fun d => d.attestReady) := rfl

/-! The frames of the link layer. -/

/-- Of the Porch's own state, the frames on their way and the tags they hold alone may have changed. -/
def OnlyFrames (p p' : PorchSt) : Prop :=
  p' = { p with unacked := p'.unacked, queue := p'.queue, txNext := p'.txNext, unsent := p'.unsent, tags := p'.tags }

theorem OnlyFrames.refl (p : PorchSt) : OnlyFrames p p := rfl
theorem OnlyFrames.trans {p p' p'' : PorchSt} (h : OnlyFrames p p') (h' : OnlyFrames p' p'') : OnlyFrames p p'' := by
  rw [OnlyFrames, h', h]

theorem flush_onlyFrames (l : List PFrame) : ∀ p : PorchSt, OnlyFrames p (p.flush l) := by
  induction l with
  | nil => intro p; rfl
  | cons f t ih =>
    intro p
    rw [PorchSt.flush]
    split
    · exact (show OnlyFrames p (p.place f) from rfl).trans (ih _)
    · rfl

/-- Of the device, the Porch's own state alone may have changed. -/
def OnlyPorch (d d' : Device) : Prop := d' = { d with porch := d'.porch }

theorem OnlyPorch.refl (d : Device) : OnlyPorch d d := rfl
theorem OnlyPorch.trans {d d' d'' : Device} (h : OnlyPorch d d') (h' : OnlyPorch d' d'') : OnlyPorch d d'' := by rw [OnlyPorch, h', h]
theorem onPorch_onlyPorch (d : Device) (f : PorchSt → PorchSt) : OnlyPorch d (d.onPorch f) := rfl

section
variable {d d' : Device} (h : OnlyPorch d d')
include h

theorem OnlyPorch.regs : d'.regs = d.regs := by rw [h]
theorem OnlyPorch.rd (a : Nat) : d'.rd a = d.rd a := rd_of_regs h.regs a
theorem OnlyPorch.up : d'.porchUp = d.porchUp := by rw [h]; rfl
theorem OnlyPorch.boot : d'.boot = d.boot := by rw [h]
theorem OnlyPorch.cores : d'.cores = d.cores := by rw [h]
theorem OnlyPorch.lanes : d'.lanes = d.lanes := by rw [h]
theorem OnlyPorch.pw : d'.pw = d.pw := by rw [h]
theorem OnlyPorch.staged (m : Nat) : d'.staged m = d.staged m := by rw [h]; rfl
theorem OnlyPorch.queueOf (dom : Domain) : d'.queueOf dom = d.queueOf dom := by rw [h]; rfl
theorem OnlyPorch.winBusy : d'.winBusy = d.winBusy := by rw [h]; rfl
theorem OnlyPorch.opPick : d'.opPick = d.opPick := opPick_of_regs h.regs
theorem OnlyPorch.readCause (unit n : Nat) : d'.readCause unit n = d.readCause unit n := by rw [h]; rfl

end

/-! Acknowledgements (R619). -/

theorem porchAck_onlyPorch (d : Device) (a : Option Nat) : OnlyPorch d (d.porchAck a) := by
  unfold Device.porchAck
  split
  · split
    · rfl
    · rfl
  · rfl

theorem porchAck_onlyFrames (d : Device) (a : Option Nat) : OnlyFrames d.porch (d.porchAck a).porch := by
  unfold Device.porchAck
  split
  · split
    · exact (show OnlyFrames d.porch (d.porch.acked _) from rfl).trans (flush_onlyFrames _ _)
    · exact .refl _
  · exact .refl _

theorem porchAck_rxNext (d : Device) (a : Option Nat) : (d.porchAck a).porch.rxNext = d.porch.rxNext := by rw [porchAck_onlyFrames d a]

/-! A frame that arrives (R618). -/

section
variable {d : Device} {h : PHead}

theorem porchAccept_down (hu : d.porchUp = false) : d.porchAccept h = (false, d) := by simp [Device.porchAccept, hu]

theorem porchAccept_next (hu : d.porchUp = true) (hs : h.seq = (d.porchAck h.ack).porch.rxNext) :
    d.porchAccept h =
      (true, (d.porchAck h.ack).onPorch (fun p => { p with rxNext := (p.rxNext + 1) % 4096, nak := false, unsent := p.unsent + 1 })) := by
  simp [Device.porchAccept, hu, hs]

theorem porchAccept_again (hu : d.porchUp = true) (hs : h.seq ≠ (d.porchAck h.ack).porch.rxNext)
    (hw : ((d.porchAck h.ack).porch.rxNext + 4096 - h.seq % 4096) % 4096 ≤ 16) :
    d.porchAccept h = (false, (d.porchAck h.ack).onPorch (fun p => { p with unsent := 0 })) := by
  simp [Device.porchAccept, hu, hs, hw]

theorem porchAccept_gap (hu : d.porchUp = true) (hs : h.seq ≠ (d.porchAck h.ack).porch.rxNext)
    (hw : 16 < ((d.porchAck h.ack).porch.rxNext + 4096 - h.seq % 4096) % 4096) :
    d.porchAccept h = (false, (d.porchAck h.ack).porchNakSend) := by
  simp [Device.porchAccept, hu, hs, Nat.not_le.2 hw]

/-! A request (R621). -/

theorem porchRequest_refused (ttype : Nat) {d1 : Device} (ha : d.porchAccept h = (false, d1)) : d.porchRequest h ttype = (false, d1) := by
  rw [Device.porchRequest, ha]

theorem porchRequest_tagHeld (ttype : Nat) (hu : d.porchUp = true) (hs : h.seq = (d.porchAck h.ack).porch.rxNext)
    (ht : h.tag ∈ (d.porchAck h.ack).porch.tags) :
    d.porchRequest h ttype =
      (false, (((d.porchAck h.ack).onPorch (fun p =>
        { p with rxNext := (p.rxNext + 1) % 4096, nak := false, unsent := p.unsent + 1 })).inc 0x30034).ev 0x30018 4) := by
  simp [Device.porchRequest, porchAccept_next hu hs, ht]

theorem porchRequest_fresh (ttype : Nat) (hu : d.porchUp = true) (hs : h.seq = (d.porchAck h.ack).porch.rxNext)
    (ht : h.tag ∉ (d.porchAck h.ack).porch.tags) :
    d.porchRequest h ttype =
      if d.boot.held then (false, (taken d h).onPorch (fun p => { p with busy := p.busy ++ [(ttype, h.tag)] })) else (true, taken d h) := by
  have hb : (d.porchAck h.ack).boot.held = d.boot.held := by rw [(porchAck_onlyPorch d h.ack).boot]
  simp only [Device.porchRequest, porchAccept_next hu hs, onPorch_porch, List.contains_iff_mem, ht, if_false]
  rw [← hb]
  rfl

end

/-! A request that is taken. -/

theorem taken_onlyPorch (d : Device) (h : PHead) : OnlyPorch d (taken d h) :=
  (porchAck_onlyPorch d h.ack).trans rfl

/-- What the Porch keeps beside its frames and SEQ stays when a request is taken. -/
theorem taken_porch (d : Device) (h : PHead) :
    (taken d h).porch.reads = d.porch.reads ∧ (taken d h).porch.atts = d.porch.atts ∧ (taken d h).porch.rmw = d.porch.rmw ∧
      (taken d h).porch.waiting = d.porch.waiting ∧ (taken d h).porch.busy = d.porch.busy := by
  have hf := porchAck_onlyFrames d h.ack
  refine ⟨?_, ?_, ?_, ?_, ?_⟩ <;> simp only [taken] <;> rw [hf]

theorem porchRequest_taken {s : State} {h : PHead} (hf : PorchFresh s h) (ttype : Nat) :
    s.dev.porchRequest h ttype = (true, taken s.dev h) := by
  rw [porchRequest_fresh ttype hf.up (hf.seq.trans (porchAck_rxNext _ _).symm) hf.tag, hf.live]
  rfl

/-- A register transaction that the Porch takes and serves at once. -/
theorem porchTxn_taken {s : State} {h : PHead} (hf : PorchFresh s h) (t : PTxn) : s.dev.porchTxn h t = (taken s.dev h).runTxn h.tag t := by
  obtain ⟨-, -, hrmw, -⟩ := taken_porch s.dev h
  simp [Device.porchTxn, porchRequest_taken hf, hrmw, hf.free]

/-! The response. -/

/-- A response to `tag` has been sent behind what `q` had on its way; with nothing there, the tag is free again. -/
def Answered (q d : Device) (f : PFrame) : Prop := outgoing d = outgoing q ++ [f] ∧ (outgoing q = [] → f.tag ∉ d.porch.tags)

theorem answered_porchReply {q d : Device} (hp : d.porch = q.porch) (hu : d.porchUp = true) {ttype tag : Nat} (st : Status)
    (addr aux : Nat) (payload : List Byte) (ht : tag < 64) :
    Answered q (d.porchReply ttype tag st addr aux payload)
      { ttype := ttype, tag := tag, status := st.code, addr := addr, aux := aux, payload := payload } := by
  have hn : tag ≠ noTag := by rw [noTag]; omega
  have hout : outgoing d = outgoing q := by rw [outgoing, outgoing, hp]
  refine ⟨by rw [outgoing_porchReply _ _ _ _ _ hn hu, hout], fun he => ?_⟩
  rw [← hout, outgoing, List.append_eq_nil_iff, List.map_eq_nil_iff] at he
  obtain ⟨hun, hqu⟩ := he
  rw [Device.porchReply, if_neg hn, Device.porchSend, if_pos hu, onPorch_porch, hqu]
  simp [PorchSt.flush, hun, PorchSt.place]

/-- The response to a request that `s` takes: the command sends it, and nothing else goes to the host. -/
def Answers (s : State) (h : PHead) (c : Instr) (ttype st addr aux : Nat) (bytes : List Byte) : Prop :=
  ∃ d, exec c s = .next (after s d) ∧
    Answered (taken s.dev h) d { ttype := ttype, tag := h.tag, status := st, addr := addr, aux := aux, payload := bytes }

/-! LINK_STATE stands in a register. -/

theorem porchUp_of_rd {d d' : Device} (h : d'.rd 0x30014 = d.rd 0x30014) : d'.porchUp = d.porchUp := by
  rw [Device.porchUp, Device.porchUp, get_of_rd h]

@[simp] theorem porchUp_refused (d : Device) (x : Access) (st : Status) (a : Nat) : (d.refused x st a).porchUp = d.porchUp :=
  porchUp_of_rd (rd_refused _ _ _ _ (.inr (by decide)))

@[simp] theorem porchUp_complete (d : Device) (m : Nat) (c : Completion) : (d.complete m c).porchUp = d.porchUp := rfl
@[simp] theorem complete_porch (d : Device) (m : Nat) (c : Completion) : (d.complete m c).porch = d.porch := rfl

@[simp] theorem touch_porch (d : Device) (m a : Nat) : (d.touch m a).porch = d.porch := by
  unfold Device.touch
  split <;> rfl

@[simp] theorem porchUp_touch (d : Device) (m a : Nat) : (d.touch m a).porchUp = d.porchUp := by
  obtain ⟨hrd, -⟩ := touch_kept d m a (S := (· = 0x30014)) (by decide) (by decide)
  exact porchUp_of_rd (hrd _ rfl)

@[simp] theorem porchReply_regs (d : Device) (ttype tag : Nat) (st : Status) (addr aux : Nat) (payload : List Byte) :
    (d.porchReply ttype tag st addr aux payload).regs = d.regs := by
  unfold Device.porchReply Device.porchSend
  split
  · rfl
  · split <;> rfl

@[simp] theorem rd_porchReply (d : Device) (ttype tag : Nat) (st : Status) (addr aux : Nat) (payload : List Byte) (a : Nat) :
    (d.porchReply ttype tag st addr aux payload).rd a = d.rd a := rd_of_regs (porchReply_regs ..) a

end Sys2Proof.Machine
end


section
/-! PROOFS. The register transactions of the host: READ, WRITE, RMW and WRITE_BULK (R623, R624). -/

namespace Sys2Proof.Machine
open Sys2Proof Sys2Proof.Safety

/-! The form of a transaction decides its answer. -/

section
variable {s : State} {h : PHead} (hf : PorchFresh s h)
include hf

theorem taken_up : (taken s.dev h).porchUp = true := (taken_onlyPorch s.dev h).up.trans hf.up

omit hf in
theorem taken_staged (hs : s.dev.staged 0 = none) : (taken s.dev h).staged 0 = none := ((taken_onlyPorch s.dev h).staged 0).trans hs

/-- The run of a transaction that is taken. -/
theorem link_taken {c : Instr} {t : PTxn} (hc : exec c s = s.link (fun d => d.porchTxn h t)) :
    exec c s = .next (after s ((taken s.dev h).runTxn h.tag t)) := by
  rw [hc, link_after (.inl hf.live), porchTxn_taken hf]

/-- A transaction is answered from a device that leaves the Porch as it was taken. -/
theorem answers_reply {c : Instr} {t : PTxn} (hc : exec c s = s.link (fun d => d.porchTxn h t)) {d : Device} {ttype addr aux : Nat}
    {st : Status} {bytes : List Byte} (hrun : (taken s.dev h).runTxn h.tag t = d.porchReply ttype h.tag st addr aux bytes)
    (hp : d.porch = (taken s.dev h).porch) (hu : d.porchUp = true) : Answers s h c ttype st.code addr aux bytes :=
  ⟨_, link_taken hf hc, by rw [hrun]; exact answered_porchReply hp hu st addr aux bytes hf.wire⟩

/-- A transaction of a bad form is refused where it arrives. -/
theorem answers_refused {c : Instr} {t : PTxn} (hc : exec c s = s.link (fun d => d.porchTxn h t)) {x : Access} {a ttype addr aux : Nat}
    {st : Status} {bytes : List Byte}
    (hrun : (taken s.dev h).runTxn h.tag t = (((taken s.dev h).touch 0 a).refused x st a).porchReply ttype h.tag st addr aux bytes) :
    Answers s h c ttype st.code addr aux bytes :=
  answers_reply hf hc hrun (by simp) (by simp [taken_up hf])

end

/-! READ (R55, R623). -/

theorem txnRead_unaligned (d : Device) (tag : Nat) {a n : Nat} (be : Nat) (ecc : List Nat) (h : a % 4 ≠ 0 ∨ n % 4 ≠ 0) :
    d.txnRead tag a n be ecc = ((d.touch 0 a).refused { master := 0, write := false } .unaligned a).porchReply 1 tag .unaligned a 0xFFFF [] :=
  if_pos h

theorem txnRead_range (d : Device) (tag : Nat) {a n be : Nat} (ecc : List Nat) (ha : a % 4 = 0) (hn : n % 4 = 0)
    (h : n = 0 ∨ 256 < n ∨ (be ≠ 15 ∧ 4 < n)) :
    d.txnRead tag a n be ecc = ((d.touch 0 a).refused { master := 0, write := false } .range a).porchReply 1 tag .range a 0xFFFF [] := by
  rw [Device.txnRead, if_neg (by omega), if_pos h]

/-- The words a READ returns: of a single word the bytes that are enabled (R52). -/
def readPayload (n be : Nat) (ws : List Word) : List Word := if n = 4 then ws.map (fun w => maskBytes w be) else ws

theorem txnRead_words (d : Device) (tag : Nat) {a n be : Nat} (ecc : List Nat) (ha : a % 4 = 0) (hn : n % 4 = 0) (h0 : n ≠ 0)
    (hlen : n ≤ 256) (hbe : be = 15 ∨ n ≤ 4) {x : Status × Nat × List Word × Device} (hx : d.readWords 0 a ecc 0 (n / 4) = x) :
    d.txnRead tag a n be ecc =
      ((x.2.2.2.refused { master := 0, write := false, wide := wideReg (a + 4 * x.2.1) } x.1 (a + 4 * x.2.1)).complete 0
        { status := x.1, words := readPayload n be x.2.2.1, failIdx := x.2.1 }).porchReply 1 tag x.1 a x.2.1
          ((readPayload n be x.2.2.1).flatMap wordBytes) := by
  subst hx
  rw [Device.txnRead, if_neg (by omega), if_neg (by omega)]
  rfl

/-- A READ of one plain word of the management domain: the word, or ECC and zero in its place (R32). -/
theorem readWords_plain {d : Device} {a : Nat} {l : Loc} {r : RegRow} (ecc : List Nat) (hs : d.staged 0 = none) (hl : locOf a = some l)
    (hr : rowAt l = some r) (hw : r.wide = false) (hd : domainOf l = none) :
    d.readWords 0 a ecc 0 1 = if 0 ∈ ecc then (.ecc, 0, [0], d) else (.ok, 0xFFFF, [d.view a], d) := by
  have hword : d.readWord 0 a = (.ok, d.view a, d) := readWord_plain hs hl hr hw (by simp [hd])
  by_cases he : 0 ∈ ecc <;> simp [Device.readWords, hword, he]

theorem maskBytes_zero (be : Nat) : maskBytes 0 be = 0 := by
  have hstep : ∀ (l : List Nat) (w : Word), w = 0 →
      l.foldl (fun w k => if be / 2 ^ k % 2 = 1 then setFld w (8 * k) 8 (fld (0 : Word) (8 * k) 8) else w) w = 0 := by
    intro l
    induction l with
    | nil => exact fun w hw => hw
    | cons k t ih =>
      intro w hw
      subst hw
      refine ih _ ?_
      dsimp only
      split
      · simp [setFld, fld, wd]
      · rfl
  exact hstep _ 0 rfl

/-- Reads of the host. -/
theorem porchRead_answers {s : State} {h : PHead} (hf : PorchFresh s h) (a n be : Nat) (ecc : List Nat) :
    (a % 4 ≠ 0 ∨ n % 4 ≠ 0 → Answers s h (.porchRead h a n be ecc) 1 1 a 0xFFFF []) ∧
    (a % 4 = 0 → n % 4 = 0 → n = 0 ∨ 256 < n ∨ (be ≠ 15 ∧ 4 < n) → Answers s h (.porchRead h a n be ecc) 1 4 a 0xFFFF []) ∧
    (a % 4 = 0 → n % 4 = 0 → 4 < n → n ≤ 256 → be = 15 →
      let x := (taken s.dev h).readWords 0 a ecc 0 (n / 4)
      x.2.2.2.porch = (taken s.dev h).porch → x.2.2.2.porchUp = true →
        Answers s h (.porchRead h a n be ecc) 1 x.1.code a x.2.1 (x.2.2.1.flatMap wordBytes)) ∧
    (a % 4 = 0 → n = 4 →
      (∀ l r, s.dev.staged 0 = none → locOf a = some l → rowAt l = some r → r.wide = false → domainOf l = none → 0 ∉ ecc →
        Answers s h (.porchRead h a n be ecc) 1 0 a 0xFFFF (wordBytes (maskBytes ((taken s.dev h).view a) be))) ∧
      (∀ l r, s.dev.staged 0 = none → locOf a = some l → rowAt l = some r → r.wide = false → domainOf l = none → 0 ∈ ecc →
        Answers s h (.porchRead h a n be ecc) 1 7 a 0 [0, 0, 0, 0])) := by
  have hc := exec_porchRead h a n be ecc s
  refine ⟨fun hbad => answers_refused hf hc (txnRead_unaligned _ _ be ecc hbad),
    fun ha hn hlen => answers_refused hf hc (txnRead_range _ _ ecc ha hn hlen), fun ha hn hlo hhi hbe => ?_, fun ha hn => ?_⟩
  · intro x hp hu
    have hpay : readPayload n be x.2.2.1 = x.2.2.1 := if_neg (by omega)
    have hrun := txnRead_words (taken s.dev h) h.tag ecc ha hn (by omega) hhi (.inl hbe) (x := x) rfl
    rw [hpay] at hrun
    exact answers_reply hf hc hrun (by simpa using hp) (by simpa using hu)
  · subst hn
    have hrun := fun {x} => txnRead_words (taken s.dev h) h.tag (be := be) ecc ha (by decide) (by decide) (by decide)
      (.inr (Nat.le_refl 4)) (x := x)
    have hpay : ∀ w : Word, readPayload 4 be [w] = [maskBytes w be] := fun w => rfl
    refine ⟨fun l r hs hl hr hw hd he => ?_, fun l r hs hl hr hw hd he => ?_⟩
    · have hrun := hrun (readWords_plain ecc (taken_staged hs) hl hr hw hd)
      rw [if_neg he, hpay] at hrun
      rw [← List.flatMap_singleton wordBytes]
      exact answers_reply hf hc hrun (by simp) (by simp [taken_up hf])
    · have hrun := hrun (readWords_plain ecc (taken_staged hs) hl hr hw hd)
      rw [if_pos he, hpay, maskBytes_zero] at hrun
      exact answers_reply hf hc hrun (by simp) (by simp [taken_up hf])

/-! WRITE (R53, R56, R623). -/

theorem txnWrite_unaligned (d : Device) (tag : Nat) {a : Nat} (be : Nat) (ws : List Word) (h : a % 4 ≠ 0) :
    d.txnWrite tag a be ws = ((d.touch 0 a).refused { master := 0 } .unaligned a).porchReply 2 tag .unaligned a 0 [] := if_pos h

theorem txnWrite_range (d : Device) (tag : Nat) {a be : Nat} {ws : List Word} (ha : a % 4 = 0)
    (h : ws.length = 0 ∨ 64 < ws.length ∨ (be ≠ 15 ∧ 1 < ws.length)) :
    d.txnWrite tag a be ws = ((d.touch 0 a).refused { master := 0 } .range a).porchReply 2 tag .range a 0 [] := by
  rw [Device.txnWrite, if_neg (by omega), if_pos h]

theorem txnWrite_words (d : Device) (tag : Nat) {a : Nat} {ws : List Word} (ha : a % 4 = 0) (h1 : 1 ≤ ws.length) (h2 : ws.length ≤ 64)
    {x : Status × Nat × Bool × Device} (hx : d.writeWords 0 a 0 ws = x) :
    d.txnWrite tag a 15 ws =
      ((x.2.2.2.refused { master := 0, wide := x.2.2.1 } x.1 (a + 4 * x.2.1)).complete 0
        { status := x.1, failIdx := x.2.1 }).porchReply 2 tag x.1 a x.2.1 [] := by
  subst hx
  rw [Device.txnWrite, if_neg (by omega), if_neg (by omega)]
  rfl

theorem txnWrite_bytes (d : Device) (tag : Nat) {a be : Nat} {v : Word} (ha : a % 4 = 0) (hbe : be ≠ 15) {y : Status × Device}
    (hy : d.writeBytes false 0 a be v = y) :
    d.txnWrite tag a be [v] =
      ((y.2.refused { master := 0, wide := wideReg a } y.1 (a + 4 * (if y.1 = .ok then 1 else 0))).complete 0
        { status := y.1, failIdx := if y.1 = .ok then 1 else 0 }).porchReply 2 tag y.1 a (if y.1 = .ok then 1 else 0) [] := by
  subst hy
  rw [Device.txnWrite, if_neg (by omega), if_neg (by simp), if_neg hbe]
  rfl

/-- Writes of the host. -/
theorem porchWrite_answers {s : State} {h : PHead} (hf : PorchFresh s h) (a be : Nat) (ws : List Word) :
    (a % 4 ≠ 0 → Answers s h (.porchWrite h a be ws) 2 1 a 0 []) ∧
    (a % 4 = 0 → ws.length = 0 ∨ 64 < ws.length ∨ (be ≠ 15 ∧ 1 < ws.length) → Answers s h (.porchWrite h a be ws) 2 4 a 0 []) ∧
    (a % 4 = 0 → 1 ≤ ws.length → ws.length ≤ 64 → be = 15 →
      let x := (taken s.dev h).writeWords 0 a 0 ws
      x.2.2.2.porch = (taken s.dev h).porch → x.2.2.2.porchUp = true → Answers s h (.porchWrite h a be ws) 2 x.1.code a x.2.1 []) ∧
    (∀ v, a % 4 = 0 → ws = [v] → be ≠ 15 →
      let x := (taken s.dev h).writeBytes false 0 a be v
      x.2.porch = (taken s.dev h).porch → x.2.porchUp = true →
        Answers s h (.porchWrite h a be ws) 2 x.1.code a (if x.1 = .ok then 1 else 0) []) := by
  have hc := exec_porchWrite h a be ws s
  refine ⟨fun ha => answers_refused hf hc (txnWrite_unaligned _ _ be ws ha),
    fun ha hlen => answers_refused hf hc (txnWrite_range _ _ ha hlen), fun ha h1 h2 hbe => ?_, fun v ha hws hbe => ?_⟩
  · intro x hp hu
    subst hbe
    exact answers_reply hf hc (txnWrite_words (taken s.dev h) h.tag ha h1 h2 (x := x) rfl) (by simpa using hp) (by simpa using hu)
  · intro x hp hu
    subst hws
    exact answers_reply hf hc (txnWrite_bytes (taken s.dev h) h.tag ha hbe (y := x) rfl) (by simpa using hp) (by simpa using hu)

/-! RMW (R58, R70, R623). -/

theorem txnRmw_unaligned (d : Device) (tag : Nat) {a : Nat} (ws : List Word) (ecc : Bool) (h : a % 4 ≠ 0) :
    d.txnRmw tag a ws ecc = ((d.touch 0 a).refused { master := 0, rmw := true } .unaligned a).porchReply 3 tag .unaligned a 0 (wordBytes 0) :=
  if_pos h

theorem txnRmw_range (d : Device) (tag : Nat) {a : Nat} {ws : List Word} (ecc : Bool) (ha : a % 4 = 0) (h : ws.length ≠ 2) :
    d.txnRmw tag a ws ecc = ((d.touch 0 a).refused { master := 0, rmw := true } .range a).porchReply 3 tag .range a 0 (wordBytes 0) := by
  rw [Device.txnRmw, if_neg (by omega), if_pos h]

theorem txnRmw_here (d : Device) (tag : Nat) {a : Nat} {mask v : Word} {ecc : Bool} (ha : a % 4 = 0) (hd : domainAt a = none)
    {x : Status × Word × Device} (hx : d.rmwNow 0 a mask v ecc = x) :
    d.txnRmw tag a [mask, v] ecc =
      ((x.2.2.refused { master := 0, rmw := true, wide := wideReg a } x.1 a).complete 0 { status := x.1, words := [x.2.1] }).porchReply 3 tag
        x.1 a 0 (wordBytes x.2.1) := by
  subst hx
  rw [Device.txnRmw, if_neg (by omega), if_neg (by simp), hd]
  rfl

theorem txnRmw_cross (d : Device) (tag : Nat) {a : Nat} {mask v : Word} (ecc : Bool) {dom : Domain} (ha : a % 4 = 0)
    (hd : domainAt a = some dom) (hs : d.staged 0 = none) (hq : d.queueOf dom = []) :
    d.txnRmw tag a [mask, v] ecc = (d.setQueue dom [⟨0, a, dom, .rmw mask v⟩]).onPorch (fun p => { p with rmw := some tag }) := by
  rw [Device.txnRmw, if_neg (by omega), if_neg (by simp), hd]
  simp [touch_unstaged hs, Device.post, hq, nthWord]

/-- Read-modify-writes of the host. -/
theorem porchRmw_answers {s : State} {h : PHead} (hf : PorchFresh s h) (a : Nat) (ws : List Word) (ecc : Bool) :
    (a % 4 ≠ 0 → Answers s h (.porchRmw h a ws ecc) 3 1 a 0 [0, 0, 0, 0]) ∧
    (a % 4 = 0 → ws.length ≠ 2 → Answers s h (.porchRmw h a ws ecc) 3 4 a 0 [0, 0, 0, 0]) ∧
    (∀ mask v, a % 4 = 0 → ws = [mask, v] →
      (domainAt a = none →
        let x := (taken s.dev h).rmwNow 0 a mask v ecc
        x.2.2.porch = (taken s.dev h).porch → x.2.2.porchUp = true → Answers s h (.porchRmw h a ws ecc) 3 x.1.code a 0 (wordBytes x.2.1)) ∧
      (∀ dom, domainAt a = some dom → s.dev.staged 0 = none → s.dev.queueOf dom = [] →
        ∃ d, exec (.porchRmw h a ws ecc) s = .next (after s d) ∧ d.queueOf dom = [⟨0, a, dom, .rmw mask v⟩] ∧ d.porch.rmw = some h.tag ∧
          outgoing d = outgoing (taken s.dev h) ∧ d.regs = s.dev.regs)) := by
  have hc := exec_porchRmw h a ws ecc s
  refine ⟨fun ha => answers_refused hf hc (txnRmw_unaligned _ _ ws ecc ha),
    fun ha hlen => answers_refused hf hc (txnRmw_range _ _ ecc ha hlen), fun mask v ha hws => ⟨fun hd => ?_, fun dom hd hs hq => ?_⟩⟩
  · intro x hp hu
    subst hws
    exact answers_reply hf hc (txnRmw_here (taken s.dev h) h.tag ha hd (x := x) rfl) (by simpa using hp) (by simpa using hu)
  · subst hws
    have ho := taken_onlyPorch s.dev h
    have hrun := txnRmw_cross (taken s.dev h) h.tag (mask := mask) (v := v) ecc ha hd (taken_staged hs) ((ho.queueOf dom).trans hq)
    refine ⟨_, link_taken hf hc, ?_⟩
    rw [Device.runTxn, hrun]
    exact ⟨queueOf_setQueue _ _ _, rfl, outgoing_of_frames rfl rfl, ho.regs⟩

/-! A request behind an RMW that waits (R622). -/

theorem porchAck_noRmw (d : Device) (a : Option Nat) :
    ((d.onPorch (fun p => { p with rmw := none })).porchAck a).porch.tags = (d.porchAck a).porch.tags := by
  have hflush : ∀ (l : List PFrame) (p : PorchSt), (({ p with rmw := none } : PorchSt).flush l).tags = (p.flush l).tags := by
    intro l
    induction l with
    | nil => exact fun p => rfl
    | cons f t ih =>
      intro p
      rw [PorchSt.flush, PorchSt.flush]
      split
      · exact ih (p.place f)
      · rfl
  cases a with
  | none => rfl
  | some v =>
    by_cases hany : (d.porch.unacked.any fun u => u.seq == v) = true
    · simp only [Device.porchAck, onPorch_porch, hany, if_true]
      exact hflush _ (d.porch.acked v)
    · simp only [Device.porchAck, onPorch_porch, hany]
      rfl

theorem porchRead_waits {s : State} {h : PHead} {a n be tag : Nat} {ecc : List Nat}
    (hf : PorchFresh { s with dev := s.dev.onPorch (fun p => { p with rmw := none }) } h) (hr : s.dev.porch.rmw = some tag) :
    ∃ d, exec (.porchRead h a n be ecc) s = .next (after s d) ∧ d.porch.waiting = s.dev.porch.waiting ++ [(h.tag, .rd a n be ecc)] ∧
      d.regs = s.dev.regs := by
  have hlive : s.dev.boot.held = false := hf.live
  have hup : s.dev.porchUp = true := hf.up
  have hseq : h.seq = (s.dev.porchAck h.ack).porch.rxNext := hf.seq.trans (porchAck_rxNext s.dev h.ack).symm
  have htag : h.tag ∉ (s.dev.porchAck h.ack).porch.tags := by rw [← porchAck_noRmw]; exact hf.tag
  obtain ⟨-, -, hrmw, hwait, -⟩ := taken_porch s.dev h
  have hreq : s.dev.porchRequest h 1 = (true, taken s.dev h) := by
    rw [porchRequest_fresh 1 hup hseq htag, hlive]; rfl
  refine ⟨(taken s.dev h).onPorch (fun p => { p with waiting := p.waiting ++ [(h.tag, .rd a n be ecc)] }), ?_, ?_, ?_⟩
  · rw [exec_porchRead, link_after (.inl hlive)]
    simp [Device.porchTxn, ptxnCode, hreq, hrmw, hr]
  · rw [onPorch_porch, hwait]
  · exact (taken_onlyPorch s.dev h).regs

end Sys2Proof.Machine
end


section
/-! PROOFS. WRITE_BULK (R624), and the flash window as the host reaches it (R53, R608, R623). -/

namespace Sys2Proof.Machine
open Sys2Proof Sys2Proof.Safety

/-! The flash window: 8,192 plain words of the Pantry, written while no PROGRAM or READ uses it. -/

/-- The row of the flash window (R609). -/
def flashWinRow : RegRow := { base := 0x8000, acc := .rw, size := 0x8000, cov := false, byteW := true }

section
variable {i : Nat} (hi : i < 8192)
include hi

theorem locOf_flashWin : locOf (0x28000 + 4 * i) = some ⟨.pantry, 0, 0x8000 + 4 * i⟩ := by
  have ha : 0x28000 + 4 * i = 0x10000 * 2 + (0x8000 + 4 * i) := by omega
  rw [ha, locOf_block (by decide) (by omega)]
  rfl

theorem rowAt_flashWin : rowAt ⟨.pantry, 0, 0x8000 + 4 * i⟩ = some flashWinRow := by
  have hlow : ∀ r ∈ pantryRows.dropLast, r.base + r.size ≤ 0x8000 ∧ r.stride = 0 := by decide
  have hsplit : pantryRows = pantryRows.dropLast ++ [flashWinRow] := by decide
  have hnone : pantryRows.dropLast.find? (·.has (0x8000 + 4 * i)) = none := by
    refine List.find?_eq_none.2 fun r hr => ?_
    obtain ⟨hend, hstride⟩ := hlow r hr
    rw [RegRow.has, if_neg (by omega), if_pos hstride, decide_eq_true_eq]
    omega
  have hlast : flashWinRow.has (0x8000 + 4 * i) = true := by
    have hb : flashWinRow.base = 0x8000 := rfl
    have hs : flashWinRow.size = 0x8000 := rfl
    have ht : flashWinRow.stride = 0 := rfl
    rw [RegRow.has, if_neg (by omega), if_pos ht, decide_eq_true_eq, hb, hs]
    omega
  rw [rowAt, show rowsAt ⟨.pantry, 0, 0x8000 + 4 * i⟩ = pantryRows from rfl, hsplit, List.find?_append, hnone]
  simp [hlast]

theorem domainAt_flashWin : domainAt (0x28000 + 4 * i) = none := by rw [domainAt_of (locOf_flashWin hi)]; rfl

theorem wideAt_flashWin : wideAt (0x28000 + 4 * i) = none := by
  rw [wideAt, locOf_flashWin hi]
  simp only [rowAt_flashWin hi]
  rfl

omit hi in
/-- Every word is legal in the window. -/
theorem flashWin_legal (v : Word) : flashWinRow.legal v.toNat = true := by
  have hbits : 0xFFFFFFFF - flashWinRow.bits % 0x100000000 = 0 := by decide
  have hchks : flashWinRow.chks = [] := rfl
  simp [RegRow.legal, RegRow.reserved, hbits, hchks]

omit hi in
theorem refusal_flashWin (d : Device) (a o : Nat) (v : Word) : d.refusal a ⟨.pantry, 0, o⟩ flashWinRow v = none := by
  have hacc : flashWinRow.acc = .rw := rfl
  simp [Device.refusal, Device.standbyBars, Device.bridgeBad, flashWin_legal, hacc]

omit hi in
theorem applyLoc_flashWin {d : Device} (m a : Nat) (v : Word) (hw : d.winBusy = false) :
    d.applyLoc m a ⟨.pantry, 0, 0x8000 + 4 * i⟩ flashWinRow v = (.ok, d.wr a v) := by
  have hs : d.store a flashWinRow v = d.wr a v := store_plain d a v rfl
  have hacc : flashWinRow.acc = .rw := rfl
  have h1 : 0x8000 + 4 * i ≠ 0x80 := by omega
  have h2 : 0x8000 + 4 * i ≠ 0xB0 := by omega
  simp [Device.applyLoc, Device.memberWord, hacc, Device.applyBlk, Device.applyPantry, h1, h2, hw, hs]

theorem writeWord_flashWin {d : Device} {direct : Bool} {m : Nat} (v : Word) (hs : d.staged m = none) (hw : d.winBusy = false) :
    d.writeWord direct m (0x28000 + 4 * i) v = (.ok, d.wr (0x28000 + 4 * i) v) := by
  have hcov : flashWinRow.cov = false := rfl
  rw [writeWord_taken hs (locOf_flashWin hi) (rowAt_flashWin hi) (.inr rfl) rfl (by decide) (by decide) (by decide)
    (refusal_flashWin d _ _ v), Device.takeWrite, applyLoc_flashWin m _ v hw]
  simp [noteCovered, hcov, settleAt_plain (locOf_flashWin hi) (by simp [plainBlocks])]

theorem view_flashWin (d : Device) : d.view (0x28000 + 4 * i) = d.rd (0x28000 + 4 * i) := by
  rw [view_of_row (locOf_flashWin hi) (rowAt_flashWin hi) (by decide) (by decide)]
  have h1 : 0x8000 + 4 * i ≠ 0x10 := by omega
  have h2 : ¬0x8000 + 4 * i < 0x60 := by omega
  have h3 : ¬0x8000 + 4 * i < 0x130 := by omega
  simp [Device.viewLoc, Device.viewPantry, h1, h2, h3]

theorem rmwNow_flashWin {d : Device} {m : Nat} (mask v : Word) (hs : d.staged m = none) (hw : d.winBusy = false) :
    d.rmwNow m (0x28000 + 4 * i) mask v false =
      (.ok, d.view (0x28000 + 4 * i), d.wr (0x28000 + 4 * i) ((d.view (0x28000 + 4 * i) &&& ~~~mask) ||| (v &&& mask))) := by
  have hread : d.readWord m (0x28000 + 4 * i) = (.ok, d.view (0x28000 + 4 * i), d) :=
    readWord_plain hs (locOf_flashWin hi) (rowAt_flashWin hi) rfl (fun x hx => by cases hx)
  rw [Device.rmwNow, Device.readEcc, hread]
  simp [writeWord_flashWin hi _ hs hw, touched_unstaged hs]

end

theorem winBusy_wr (d : Device) {a : Nat} (v : Word) (h : a ≠ 0x20010) : (d.wr a v).winBusy = d.winBusy := by
  have hp : (d.wr a v).bootPhase = d.bootPhase := get_of_rd (rd_wr_ne _ _ h.symm) _ _
  rw [Device.winBusy, Device.winBusy, hp]
  rfl

/-- Consecutive words written to the flash window. -/
theorem writeWords_flashWin {m i : Nat} (ws : List Word) : ∀ (d : Device) (n : Nat), d.staged m = none → d.winBusy = false →
    i + n + ws.length ≤ 8192 →
    d.writeWords m (0x28000 + 4 * i) n ws = (.ok, n + ws.length, false, d.wrs (0x28000 + 4 * (i + n)) ws) := by
  induction ws with
  | nil => intro d n _ _ _; simp [Device.writeWords, Device.wrs]
  | cons v t ih =>
    intro d n hs hw hlen
    rw [List.length_cons] at hlen
    have ha : 0x28000 + 4 * i + 4 * n = 0x28000 + 4 * (i + n) := by omega
    have hi : i + n < 8192 := by omega
    rw [writeWords_cons t (by rw [ha]; exact wideAt_flashWin hi) (by rw [ha]; exact writeWord_flashWin hi v hs hw),
      ih (d.wr _ v) (n + 1) hs (by rw [winBusy_wr _ _ (by omega), hw]) (by omega), Device.wrs, List.length_cons,
      show i + (n + 1) = i + n + 1 by omega, show n + 1 + t.length = n + (t.length + 1) by omega]
    rfl

/-! WRITE_BULK. -/

/-- The record of a bulk before it closes: the pairs done, and on a refusal where and why it stopped (R624). -/
def bulkStepped (k : Nat) (x : Status × Nat × Device) : Device :=
  if x.1 = .ok then x.2.2.opSteps k x.2.1 else ((x.2.2.opSteps k x.2.1).opFail k x.2.1).opDetail k x.1.code

/-- RESULT of a bulk. -/
def bulkResult (x : Status × Nat × Device) : Status := if x.1 = .ok then .ok else if x.2.1 = 0 then .abandoned else .partly

theorem txnBulk_range (d : Device) (tag : Nat) {ws : List Word} (h : ws.length = 0 ∨ ws.length % 2 ≠ 0) :
    d.txnBulk tag ws = (d.refused { master := 0 } .range 0).porchReply 4 tag .range 0 0 [] := if_pos h

theorem txnBulk_noRecord {d : Device} (tag : Nat) {ws : List Word} (h0 : ws.length ≠ 0) (h2 : ws.length % 2 = 0) (hk : d.opPick = none) :
    d.txnBulk tag ws = (((d.inc 0x9C).ev 0x54 6).refused { master := 0 } .busy 0).porchReply 4 tag .busy 0 0 [] := by
  rw [Device.txnBulk, if_neg (by omega), opOpen_none hk]

theorem txnBulk_runs {d : Device} (tag : Nat) {ws : List Word} {k : Nat} (h0 : ws.length ≠ 0) (h2 : ws.length % 2 = 0)
    (hk : d.opPick = some k) {x : Status × Nat × Device} (hx : (d.opOpenAt k 3 0 (ws.length / 2)).bulkPairs 0 ws = x) :
    d.txnBulk tag ws =
      (((bulkStepped k x).opClose k (bulkResult x)).complete 0
        { status := x.1, failIdx := x.2.1, opId := (((bulkStepped k x).opClose k (bulkResult x)).opId k).toNat }).porchReply 4 tag x.1 0 x.2.1
          (wordBytes (((bulkStepped k x).opClose k (bulkResult x)).opId k)) := by
  subst hx
  have hdone : ∀ y : Status × Nat × Device,
      (bulkStepped k y).opClose k (bulkResult y) =
        if y.1 = .ok then (y.2.2.opSteps k y.2.1).opClose k .ok
        else ((((y.2.2.opSteps k y.2.1).opFail k y.2.1).opDetail k y.1.code).opClose k (if y.2.1 = 0 then .abandoned else .partly)) := by
    intro y
    unfold bulkStepped bulkResult
    split <;> rfl
  rw [Device.txnBulk, if_neg (by omega), opOpen_some hk, hdone]

theorem bulkStepped_only (k : Nat) (x : Status × Nat × Device) : OnlyRegs x.2.2 (bulkStepped k x) := by
  unfold bulkStepped
  split
  · exact opSteps_only _ _ _
  · exact ((opSteps_only _ _ _).wr _ _).wr _ _

theorem bulkStepped_keeps (k : Nat) (x : Status × Nat × Device) :
    KeepsBut [oprecBase k + 0xC, oprecBase k + 0x10, oprecBase k + 0x14] x.2.2 (bulkStepped k x) := by
  intro a ha
  simp only [List.mem_cons, List.not_mem_nil, or_false, not_or] at ha
  obtain ⟨h1, h2, h3⟩ := ha
  unfold bulkStepped
  split
  · exact rd_opSteps_ne _ h1
  · rw [Device.opDetail, rd_wr_ne _ _ h3, Device.opFail, rd_wr_ne _ _ h2, rd_opSteps_ne _ h1]

theorem bulkStepped_steps (k : Nat) (x : Status × Nat × Device) :
    (bulkStepped k x).rd (oprecBase k + 0xC) = wd (max x.2.1 (x.2.2.rd (oprecBase k + 0xC)).toNat) := by
  unfold bulkStepped
  split
  · exact rd_wr_same _ _ _
  · rw [Device.opDetail, rd_wr_ne _ _ (by omega), Device.opFail, rd_wr_ne _ _ (by omega)]
    exact rd_wr_same _ _ _

theorem bulkStepped_fail (k : Nat) {x : Status × Nat × Device} (h : x.1 ≠ .ok) :
    (bulkStepped k x).rd (oprecBase k + 0x10) = wd x.2.1 ∧ (bulkStepped k x).rd (oprecBase k + 0x14) = wd x.1.code := by
  rw [bulkStepped, if_neg h]
  refine ⟨?_, rd_wr_same _ _ _⟩
  rw [Device.opDetail, rd_wr_ne _ _ (by omega)]
  exact rd_wr_same _ _ _

theorem bulkResult_code (x : Status × Nat × Device) : (bulkResult x).code = if x.1 = .ok then 0 else if x.2.1 = 0 then 9 else 10 := by
  unfold bulkResult
  split
  · rfl
  · split <;> rfl

/-- What a closed bulk leaves of the registers outside its record and GLOBAL's events. -/
theorem bulkClosed_outside {k : Nat} (hk : k < 16) (x : Status × Nat × Device) {a : Nat} (ha : 0x800 ≤ a) :
    ((bulkStepped k x).opClose k (bulkResult x)).rd a = x.2.2.rd a := by
  have := oprecBase_le hk
  rw [rd_opClose_outside _ _ hk (.inr ha), bulkStepped_keeps k x a (by simp only [List.mem_cons, List.not_mem_nil, or_false]; omega)]

theorem bulkClosed_opId (k : Nat) (x : Status × Nat × Device) :
    ((bulkStepped k x).opClose k (bulkResult x)).opId k = x.2.2.opId k := by
  have := oprecBase_ge k
  rw [Device.opId, rd_opClose_out _ _ (by omega) (by omega) (.inl (by omega)),
    bulkStepped_keeps k x _ (by simp only [List.mem_cons, List.not_mem_nil, or_false]; omega)]
  rfl

theorem bulkClosed_porch {k : Nat} (x : Status × Nat × Device) : ((bulkStepped k x).opClose k (bulkResult x)).porch = x.2.2.porch := by
  rw [(opClose_only _ _ _).porch, (bulkStepped_only k x).porch]

/-- The record of a bulk (R86, R624). -/
theorem bulkClosed_record (k : Nat) (x : Status × Nat × Device) :
    ((bulkStepped k x).opClose k (bulkResult x)).get (oprecBase k + 4) 12 2 = 2 ∧
      ((bulkStepped k x).opClose k (bulkResult x)).get (oprecBase k + 4) 8 4 = (if x.1 = .ok then 0 else if x.2.1 = 0 then 9 else 10) ∧
      ((bulkStepped k x).opClose k (bulkResult x)).rd (oprecBase k + 0xC) = wd (max x.2.1 (x.2.2.rd (oprecBase k + 0xC)).toNat) ∧
      (x.1 ≠ .ok → ((bulkStepped k x).opClose k (bulkResult x)).rd (oprecBase k + 0x10) = wd x.2.1 ∧
        ((bulkStepped k x).opClose k (bulkResult x)).rd (oprecBase k + 0x14) = wd x.1.code) := by
  have := oprecBase_ge k
  obtain ⟨hstate, hresult⟩ := opClose_result (bulkStepped k x) k (bulkResult x)
  have hout : ∀ o, 4 < o → o < 0x20 → ((bulkStepped k x).opClose k (bulkResult x)).rd (oprecBase k + o) = (bulkStepped k x).rd (oprecBase k + o) :=
    fun o h1 h2 => rd_opClose_out _ _ (by omega) (by omega) (.inl (by omega))
  refine ⟨hstate, by rw [hresult, bulkResult_code], by rw [hout _ (by decide) (by decide), bulkStepped_steps], fun hno => ?_⟩
  rw [hout _ (by decide) (by decide), hout _ (by decide) (by decide)]
  exact bulkStepped_fail k hno

/-- Bulks of the host. -/
theorem writeBulk_answers {s : State} {h : PHead} (hf : PorchFresh s h) (ws : List Word) :
    (ws.length = 0 ∨ ws.length % 2 ≠ 0 → Answers s h (.writeBulk h ws) 4 4 0 0 []) ∧
    (ws.length ≠ 0 → ws.length % 2 = 0 →
      (s.dev.opPick = none → Answers s h (.writeBulk h ws) 4 6 0 0 []) ∧
      (∀ k, s.dev.opPick = some k →
        let x := ((taken s.dev h).opOpenAt k 3 0 (ws.length / 2)).bulkPairs 0 ws
        x.2.2.porch = (taken s.dev h).porch → x.2.2.porchUp = true →
        Answers s h (.writeBulk h ws) 4 x.1.code 0 x.2.1 (wordBytes (x.2.2.opId k)) ∧
        ∃ d, exec (.writeBulk h ws) s = .next (after s d) ∧ d.get (oprecBase k + 4) 12 2 = 2 ∧
          d.get (oprecBase k + 4) 8 4 = (if x.1 = .ok then 0 else if x.2.1 = 0 then 9 else 10) ∧
          d.rd (oprecBase k + 0xC) = wd (max x.2.1 (x.2.2.rd (oprecBase k + 0xC)).toNat) ∧
          (x.1 ≠ .ok → d.rd (oprecBase k + 0x10) = wd x.2.1 ∧ d.rd (oprecBase k + 0x14) = wd x.1.code))) := by
  have hc := exec_writeBulk h ws s
  have hpick : ∀ y, s.dev.opPick = y → (taken s.dev h).opPick = y := fun y hy => (taken_onlyPorch s.dev h).opPick.trans hy
  refine ⟨fun hbad => ?_, fun h0 h2 => ⟨fun hk => ?_, fun k hk => ?_⟩⟩
  · exact answers_reply hf hc (txnBulk_range _ _ hbad) (by simp) (by simp [taken_up hf])
  · refine answers_reply hf hc (txnBulk_noRecord h.tag h0 h2 (hpick none hk)) (by rw [refused_porch]; rfl) ?_
    rw [porchUp_refused, porchUp_of_rd (d := taken s.dev h), taken_up hf]
    rw [rd_ev_ne _ _ (by decide), rd_inc_ne _ (by decide)]
  · intro x hp hu
    have hrun := txnBulk_runs h.tag h0 h2 (hpick (some k) hk) (x := x) rfl
    refine ⟨?_, _, link_taken hf hc, ?_⟩
    · rw [bulkClosed_opId] at hrun
      refine answers_reply hf hc hrun (by rw [complete_porch, bulkClosed_porch, hp]) ?_
      rw [porchUp_complete, porchUp_of_rd (bulkClosed_outside (opPick_lt hk) x (by decide)), hu]
    · rw [Device.runTxn, hrun]
      simp only [Device.get, rd_porchReply, rd_complete]
      exact bulkClosed_record k x

/-! The flash window, through each transaction. -/

section
variable {s : State} {h : PHead} (hf : PorchFresh s h) (hs : s.dev.staged 0 = none) (hw : s.dev.winBusy = false)
include hf hs hw

omit hf hs in
theorem taken_winBusy : (taken s.dev h).winBusy = false := (taken_onlyPorch s.dev h).winBusy.trans hw

theorem porchWrite_window {i : Nat} {ws : List Word} (hi : i + ws.length ≤ 8192) (h1 : 1 ≤ ws.length) (h2 : ws.length ≤ 64) :
    Answers s h (.porchWrite h (0x28000 + 4 * i) 15 ws) 2 0 (0x28000 + 4 * i) ws.length [] ∧
      ∃ d, exec (.porchWrite h (0x28000 + 4 * i) 15 ws) s = .next (after s d) ∧ d.rds (0x28000 + 4 * i) ws.length = ws := by
  have hc := exec_porchWrite h (0x28000 + 4 * i) 15 ws s
  have hwords := writeWords_flashWin (m := 0) (i := i) ws (taken s.dev h) 0 (taken_staged hs) (taken_winBusy hw) (by omega)
  rw [Nat.add_zero, Nat.zero_add] at hwords
  have hrun := txnWrite_words (taken s.dev h) h.tag (by omega) h1 h2 hwords
  have hout : ((taken s.dev h).wrs (0x28000 + 4 * i) ws).rd 0x30014 = (taken s.dev h).rd 0x30014 :=
    rd_wrs_out _ _ _ _ (by omega)
  refine ⟨answers_reply hf hc hrun (by simp [wrs_porch]) ?_, _, link_taken hf hc, ?_⟩
  · rw [porchUp_complete, porchUp_refused, porchUp_of_rd hout, taken_up hf]
  · rw [Device.runTxn, hrun, rds_congr (fun j _ => rd_porchReply _ _ _ _ _ _ _ _)]
    exact rds_wrs ws _ _

theorem porchRmw_window {i : Nat} (hi : i < 8192) (mask v : Word) :
    Answers s h (.porchRmw h (0x28000 + 4 * i) [mask, v] false) 3 0 (0x28000 + 4 * i) 0 (wordBytes ((taken s.dev h).view (0x28000 + 4 * i))) ∧
      ∃ d, exec (.porchRmw h (0x28000 + 4 * i) [mask, v] false) s = .next (after s d) ∧
        d.rd (0x28000 + 4 * i) = (s.dev.view (0x28000 + 4 * i) &&& ~~~mask) ||| (v &&& mask) := by
  have hc := exec_porchRmw h (0x28000 + 4 * i) [mask, v] false s
  have hrun := txnRmw_here (taken s.dev h) h.tag (by omega) (domainAt_flashWin hi)
    (rmwNow_flashWin hi mask v (taken_staged hs) (taken_winBusy hw))
  have hview : (taken s.dev h).view (0x28000 + 4 * i) = s.dev.view (0x28000 + 4 * i) := by
    rw [view_flashWin hi, view_flashWin hi, (taken_onlyPorch s.dev h).rd]
  refine ⟨answers_reply hf hc hrun (by rw [complete_porch, refused_porch]; rfl) ?_, _, link_taken hf hc, ?_⟩
  · rw [porchUp_complete, porchUp_refused, porchUp_of_rd (rd_wr_ne _ _ (by omega)), taken_up hf]
  · rw [Device.runTxn, hrun, rd_porchReply, rd_complete, refused_ok, rd_wr_same, hview]

omit hs hw in
/-- A bulk of one pair that is done. -/
theorem writeBulk_one {a v : Word} {k : Nat} (hk : s.dev.opPick = some k) {d1 : Device}
    (hpairs : ((taken s.dev h).opOpenAt k 3 0 1).bulkPairs 0 [a, v] = (.ok, 1, d1)) (hp : d1.porch = (taken s.dev h).porch)
    (hu : d1.porchUp = true) :
    Answers s h (.writeBulk h [a, v]) 4 0 0 1 (wordBytes (d1.opId k)) ∧
      ∃ d, exec (.writeBulk h [a, v]) s = .next (after s d) ∧ (∀ b, 0x800 ≤ b → d.rd b = d1.rd b) ∧
        d.get (oprecBase k + 4) 12 2 = 2 ∧ d.get (oprecBase k + 4) 8 4 = 0 := by
  have hc := exec_writeBulk h [a, v] s
  have hlt := opPick_lt hk
  have hlen : [a, v].length / 2 = 1 := by simp
  have hrun := txnBulk_runs h.tag (ws := [a, v]) (by simp) (by simp) ((taken_onlyPorch s.dev h).opPick.trans hk) (by rw [hlen, hpairs])
  refine ⟨?_, _, link_taken hf hc, ?_⟩
  · rw [bulkClosed_opId] at hrun
    refine answers_reply hf hc hrun (by rw [complete_porch, bulkClosed_porch, hp]) ?_
    rw [porchUp_complete, porchUp_of_rd (bulkClosed_outside hlt _ (by decide)), hu]
  · rw [Device.runTxn, hrun]
    simp only [Device.get, rd_porchReply, rd_complete]
    obtain ⟨hstate, hresult, -⟩ := bulkClosed_record k (.ok, 1, d1)
    exact ⟨fun b hb => bulkClosed_outside hlt _ hb, hstate, hresult⟩

theorem writeBulk_window {i k : Nat} (hi : i < 8192) (v : Word) (hk : s.dev.opPick = some k) :
    Answers s h (.writeBulk h [wd (0x28000 + 4 * i), v]) 4 0 0 1 (wordBytes (s.dev.rd 0x104)) ∧
      ∃ d, exec (.writeBulk h [wd (0x28000 + 4 * i), v]) s = .next (after s d) ∧ d.rd (0x28000 + 4 * i) = v ∧
        d.get (oprecBase k + 4) 12 2 = 2 ∧ d.get (oprecBase k + 4) 8 4 = 0 := by
  have hle := oprecBase_le (opPick_lt hk)
  have ha : (wd (0x28000 + 4 * i)).toNat = 0x28000 + 4 * i := wd_toNat (by omega)
  have hopen := opOpenAt_only (taken s.dev h) k 3 0 1
  have hid : ((taken s.dev h).opOpenAt k 3 0 1).rd (oprecBase k) = s.dev.rd 0x104 := by
    rw [opOpenAt_id, (taken_onlyPorch s.dev h).rd]
  have hout : ∀ b, 0x800 ≤ b → ((taken s.dev h).opOpenAt k 3 0 1).rd b = (taken s.dev h).rd b :=
    fun b hb => rd_opOpenAt_out _ _ _ _ (by omega) (by omega) (by omega)
  have hpairs : ∀ d : Device, d.staged 0 = none → d.winBusy = false →
      d.bulkPairs 0 [wd (0x28000 + 4 * i), v] = (.ok, 1, d.wr (0x28000 + 4 * i) v) := by
    intro d hs hw
    have hmod : ¬(0x28000 + 4 * i) % 4 ≠ 0 := by omega
    rw [Device.bulkPairs, ha, if_neg hmod, writeWord_flashWin hi v hs hw]
    rfl
  have hstaged : ((taken s.dev h).opOpenAt k 3 0 1).staged 0 = none := by rw [Device.staged, hopen.bus]; exact taken_staged hs
  have hbusy : ((taken s.dev h).opOpenAt k 3 0 1).winBusy = false := by
    have hphase : ((taken s.dev h).opOpenAt k 3 0 1).bootPhase = (taken s.dev h).bootPhase := get_of_rd (hout _ (by decide)) _ _
    have hpantry : ((taken s.dev h).opOpenAt k 3 0 1).pantry = (taken s.dev h).pantry := by
      generalize (taken s.dev h).opOpenAt k 3 0 1 = d at hopen
      rw [hopen]
    have hwin := taken_winBusy (h := h) hw
    rw [Device.winBusy] at hwin ⊢
    rw [hphase, hpantry]
    exact hwin
  have hup : (((taken s.dev h).opOpenAt k 3 0 1).wr (0x28000 + 4 * i) v).porchUp = true := by
    rw [porchUp_of_rd (rd_wr_ne _ _ (by omega)), porchUp_of_rd (hout _ (by decide)), taken_up hf]
  obtain ⟨hans, d, hrun, hkeep, hstate, hresult⟩ := writeBulk_one hf hk (hpairs _ hstaged hbusy) (hopen.wr _ _).porch hup
  rw [Device.opId, rd_wr_ne _ _ (by omega), hid] at hans
  exact ⟨hans, d, hrun, by rw [hkeep _ (by omega), rd_wr_same], hstate, hresult⟩

end

end Sys2Proof.Machine
end


section
/-! PROOFS. Requests the Porch does not take, requests of other types, and the answers of MC0 (R618, R620, R621, R628, R629, R643). -/

namespace Sys2Proof.Machine
open Sys2Proof Sys2Proof.Safety

/-! Requests that are not taken. -/

/-- A request that the link layer turns down has no other effect, whatever its type. -/
theorem exec_turnedDown {s : State} {c : Instr} {h : PHead} {ttype : Nat} (hc : HostRequest c h ttype)
    (hl : s.dev.boot.held = false ∨ s.dev.boot.warm = true) {d1 : Device} (hq : s.dev.porchRequest h ttype = (false, d1)) :
    exec c s = .next (after s d1) := by
  rcases hc with ⟨a, n, be, ecc, rfl, rfl⟩ | ⟨a, be, ws, rfl, rfl⟩ | ⟨a, ws, ecc, rfl, rfl⟩ | ⟨ws, rfl, rfl⟩ | ⟨unit, n, rfl, rfl⟩ |
    ⟨n, p, rfl, rfl⟩ | rfl
  · rw [exec_porchRead, link_after hl]; simp [Device.porchTxn, ptxnCode, hq]
  · rw [exec_porchWrite, link_after hl]; simp [Device.porchTxn, ptxnCode, hq]
  · rw [exec_porchRmw, link_after hl]; simp [Device.porchTxn, ptxnCode, hq]
  · rw [exec_writeBulk, link_after hl]; simp [Device.porchTxn, ptxnCode, hq]
  · rw [exec_atticRead, link_after hl]; simp [Device.atticRead, hq]
  · rw [exec_attest, link_after hl]; simp [Device.attest, hq]
  · rw [exec_porchBadTtype, link_after hl]; simp [Device.porchBadType, hq]

section
variable {s : State} {c : Instr} {h : PHead} {ttype : Nat} (hc : HostRequest c h ttype)
  (hl : s.dev.boot.held = false ∨ s.dev.boot.warm = true)
include hc hl

theorem request_down (hu : s.dev.porchUp = false) : exec c s = .next (after s s.dev) :=
  exec_turnedDown hc hl (porchRequest_refused ttype (porchAccept_down hu))

theorem request_outOfOrder (hu : s.dev.porchUp = true) (hs : h.seq ≠ (s.dev.porchAck h.ack).porch.rxNext) :
    let b := s.dev.porchAck h.ack
    ((b.porch.rxNext + 4096 - h.seq % 4096) % 4096 ≤ 16 → exec c s = .next (after s { b with porch := { b.porch with unsent := 0 } })) ∧
      (16 < (b.porch.rxNext + 4096 - h.seq % 4096) % 4096 →
        (b.porch.nak = true → exec c s = .next (after s b)) ∧
        (b.porch.nak = false →
          ∃ d, exec c s = .next (after s d) ∧ d.porch = { b.porch with nak := true, unsent := 0 } ∧
            d.rd 0x30028 = wd (satAdd 32 (s.dev.rd 0x30028).toNat 1) ∧ KeepsBut [0x30028] s.dev d)) := by
  intro b
  have hrd := (porchAck_onlyPorch s.dev h.ack).rd
  refine ⟨fun hw => exec_turnedDown hc hl (porchRequest_refused ttype (porchAccept_again hu hs hw)), fun hw => ?_⟩
  have hrun := exec_turnedDown hc hl (porchRequest_refused ttype (porchAccept_gap hu hs hw))
  refine ⟨fun hnak => ?_, fun hnak => ⟨_, hrun, ?_⟩⟩
  · rwa [Device.porchNakSend, if_pos hnak] at hrun
  · rw [Device.porchNakSend, if_neg (by rw [hnak]; decide)]
    refine ⟨rfl, ?_, fun a ha => ?_⟩
    · rw [rd_inc, if_pos rfl, rd_onPorch, hrd]
    · rw [rd_inc_ne _ (by simpa using ha), rd_onPorch, hrd]

theorem request_tagHeld (hu : s.dev.porchUp = true) (hs : h.seq = (s.dev.porchAck h.ack).porch.rxNext)
    (ht : h.tag ∈ (s.dev.porchAck h.ack).porch.tags) :
    ∃ d, exec c s = .next (after s d) ∧ d.porch.rxNext = ((s.dev.porchAck h.ack).porch.rxNext + 1) % 4096 ∧
      outgoing d = outgoing (s.dev.porchAck h.ack) ∧ d.rd 0x30034 = wd (satAdd 32 (s.dev.rd 0x30034).toNat 1) ∧ d.bit 0x30018 4 = true ∧
      KeepsBut [0x30034, 0x30018] s.dev d := by
  have hrd := (porchAck_onlyPorch s.dev h.ack).rd
  refine ⟨_, exec_turnedDown hc hl (porchRequest_tagHeld ttype hu hs ht), rfl, rfl, ?_, bit_ev_same _ _ (by decide), fun a ha => ?_⟩
  · rw [rd_ev_ne _ _ (by decide), rd_inc, if_pos rfl, rd_onPorch, hrd]
  · simp only [List.mem_cons, List.not_mem_nil, or_false, not_or] at ha
    rw [rd_ev_ne _ _ ha.2, rd_inc_ne _ ha.1, rd_onPorch, hrd]

theorem request_warmHold (hu : s.dev.porchUp = true) (hs : h.seq = (s.dev.porchAck h.ack).porch.rxNext)
    (ht : h.tag ∉ (s.dev.porchAck h.ack).porch.tags) (hheld : s.dev.boot.held = true) :
    ∃ d, exec c s = .next (after s d) ∧ d.porch.busy = s.dev.porch.busy ++ [(ttype, h.tag)] ∧
      d.porch.tags = (s.dev.porchAck h.ack).porch.tags ++ [h.tag] ∧ d.regs = s.dev.regs := by
  have hq := porchRequest_fresh ttype hu hs ht
  rw [if_pos hheld] at hq
  obtain ⟨-, -, -, -, hbusy⟩ := taken_porch s.dev h
  exact ⟨_, exec_turnedDown hc hl hq, by rw [onPorch_porch, hbusy], rfl, (taken_onlyPorch s.dev h).regs⟩

end

/-! Requests of other types. -/

section
variable {s : State} {h : PHead} (hf : PorchFresh s h)
include hf

/-- A request is answered from a device that leaves the Porch as it was taken. -/
theorem answers_link {c : Instr} {f : Device → Device} (hc : exec c s = s.link f) {d : Device} {ttype addr aux : Nat} {st : Status}
    {bytes : List Byte} (hrun : f s.dev = d.porchReply ttype h.tag st addr aux bytes) (hp : d.porch = (taken s.dev h).porch)
    (hu : d.porchUp = true) : Answers s h c ttype st.code addr aux bytes :=
  ⟨_, by rw [hc, link_after (.inl hf.live)], by rw [hrun]; exact answered_porchReply hp hu st addr aux bytes hf.wire⟩

theorem porchBadType_answers (ttype : Nat) :
    Answers s h (.porchBadTtype h ttype) ttype 8 0 0 [] ∧
      ∃ d, exec (.porchBadTtype h ttype) s = .next (after s d) ∧ d.rd 0x30038 = wd (satAdd 32 (s.dev.rd 0x30038).toNat 1) ∧
        d.bit 0x30018 5 = true ∧ d.rd 0x30060 = wd (ttype % 256 + 2 ^ 8 * (h.tag % 64)) ∧ KeepsBut [0x30038, 0x30018, 0x30060] s.dev d := by
  have hc := exec_porchBadTtype h ttype s
  have hrd := (taken_onlyPorch s.dev h).rd
  have hrun : s.dev.porchBadType h ttype =
      ((((taken s.dev h).inc 0x30038).ev 0x30018 5).wr 0x30060 (wd (ttype % 256 + 2 ^ 8 * (h.tag % 64)))).porchReply ttype h.tag
        .unsupported 0 0 [] := by
    rw [Device.porchBadType, porchRequest_taken hf]
  refine ⟨answers_link hf hc hrun rfl ?_, _, by rw [hc, link_after (.inl hf.live)], ?_⟩
  · rw [porchUp_of_rd (d := taken s.dev h), taken_up hf]
    rw [rd_wr_ne _ _ (by decide), rd_ev_ne _ _ (by decide), rd_inc_ne _ (by decide)]
  · rw [hrun]
    refine ⟨?_, ?_, ?_, fun a ha => ?_⟩
    · rw [rd_porchReply, rd_wr_ne _ _ (by decide), rd_ev_ne _ _ (by decide), rd_inc, if_pos rfl, hrd]
    · rw [bit_of_rd (rd_porchReply ..), bit_of_rd (rd_wr_ne _ _ (by decide))]
      exact bit_ev_same _ _ (by decide)
    · rw [rd_porchReply, rd_wr_same]
    · simp only [List.mem_cons, List.not_mem_nil, or_false, not_or] at ha
      obtain ⟨h1, h2, h3⟩ := ha
      rw [rd_porchReply, rd_wr_ne _ _ h3, rd_ev_ne _ _ h2, rd_inc_ne _ h1, hrd]

end

/-! ATTIC_READ (R629). -/

theorem readIssue_keeps (d : Device) (unit n : Nat) : (d.readIssue unit n).porch = d.porch ∧ (d.readIssue unit n).regs = d.regs := by
  unfold Device.readIssue
  split <;> exact ⟨rfl, rfl⟩

theorem readNext_keeps (d : Device) : d.readNext.porch = d.porch ∧ d.readNext.regs = d.regs := by
  unfold Device.readNext
  split
  · exact readIssue_keeps _ _ _
  · exact ⟨rfl, rfl⟩

section
variable {s : State} {h : PHead} (hf : PorchFresh s h)
include hf

theorem atticRead_answers (unit n : Nat) :
    (s.dev.cores.mc0Away = true ∨ 5 ≤ s.dev.porch.reads.length → Answers s h (.atticRead h unit n) 0x20 6 unit 0 []) ∧
    (s.dev.cores.mc0Away = false → s.dev.porch.reads.length < 5 →
      (n = 0 ∨ 64 < n → Answers s h (.atticRead h unit n) 0x20 4 unit 0 []) ∧
      (s.dev.readCause unit n = none →
        ∃ d, exec (.atticRead h unit n) s = .next (after s d) ∧ d.porch.reads = s.dev.porch.reads ++ [(h.tag, unit, n, true)] ∧
          outgoing d = outgoing (taken s.dev h) ∧ d.regs = s.dev.regs)) := by
  have hc := exec_atticRead h unit n s
  have ho := taken_onlyPorch s.dev h
  obtain ⟨hreads, -⟩ := taken_porch s.dev h
  have hup : ∀ {d : Device}, d.rd 0x30014 = (taken s.dev h).rd 0x30014 → d.porchUp = true := fun hd => (porchUp_of_rd hd).trans (taken_up hf)
  refine ⟨fun hbusy => ?_, fun ha hlen => ?_⟩
  · have hcond : ((taken s.dev h).cores.mc0Away || decide (5 ≤ (taken s.dev h).porch.reads.length)) = true := by
      rw [ho.cores, hreads]; simpa using hbusy
    refine answers_link hf hc (d := (taken s.dev h).inc 0x30020) (st := .busy) ?_ rfl (hup (rd_inc_ne _ (by decide)))
    rw [Device.atticRead, porchRequest_taken hf]
    exact if_pos hcond
  · have hcond : ¬((taken s.dev h).cores.mc0Away || decide (5 ≤ (taken s.dev h).porch.reads.length)) = true := by
      rw [ho.cores, hreads]; simp [ha, hlen]
    refine ⟨fun hn => ?_, fun hcause => ?_⟩
    · have hcause : (taken s.dev h).readCause unit n = some (.range, 3) := if_pos (by tauto)
      refine answers_link hf hc (d := (taken s.dev h).atticRefuse 3) (st := .range) ?_ rfl (hup ?_)
      · rw [Device.atticRead, porchRequest_taken hf]
        dsimp only
        rw [if_neg hcond, hcause]
      · rw [Device.atticRefuse, rd_ev_ne _ _ (by decide), rd_wr_ne _ _ (by decide), rd_inc_ne _ (by decide)]
    · have hcause' : (taken s.dev h).readCause unit n = none := (ho.readCause unit n).trans hcause
      have hrun : s.dev.atticRead h unit n =
          ((taken s.dev h).onPorch (fun p => { p with reads := p.reads ++ [(h.tag, unit, n, true)] })).readNext := by
        rw [Device.atticRead, porchRequest_taken hf]
        dsimp only
        rw [if_neg hcond, hcause']
      obtain ⟨hporch, hregs⟩ := readNext_keeps ((taken s.dev h).onPorch (fun p => { p with reads := p.reads ++ [(h.tag, unit, n, true)] }))
      refine ⟨_, by rw [hc, link_after (.inl hf.live)], ?_⟩
      rw [hrun, outgoing, hporch, hregs, onPorch_porch, hreads]
      exact ⟨rfl, rfl, ho.regs⟩

end

/-! Requests for a report (R643). -/

/-- The record of a host's request. -/
def hostAsk (tag n : Nat) (bytes : List Byte) : AttReq := { src := .porch tag, nonceLen := n, nonce := bytes }

/-- A request that finds no record is answered BUSY, and none waits behind it. -/
theorem attTake_noRecord {d : Device} {r : AttReq} (hr : r.op = none) (h : d.opPick = none) :
    d.attTake [r] = (((d.inc 0x9C).ev 0x54 6).attBusy r).setAtts [] := by
  have hop : ¬r.op.isSome = true := by simp [hr]
  rw [Device.attTake, if_neg hop, opOpen_none h]
  rfl

/-- The first request in a queue opens its record and takes its report. -/
theorem attTake_opens {d : Device} {r : AttReq} {k : Nat} (t : List AttReq) (hr : r.op = none) (h : d.opPick = some k) :
    ∃ origin, d.attTake (r :: t) =
      ((d.opOpenAt k 11 origin 2).setAtts ({ r with op := some k, body := (d.opOpenAt k 11 origin 2).attBody r.nonceLen r.nonce } :: t)).opSteps
        k 1 := by
  have hop : ¬r.op.isSome = true := by simp [hr]
  refine ⟨match r.src with | .porch _ => 0 | .mate _ => 5, ?_⟩
  rw [Device.attTake, if_neg hop, opOpen_some h] <;> rfl

theorem attBusy_host (d : Device) (tag n : Nat) (bytes : List Byte) :
    d.attBusy (hostAsk tag n bytes) = (d.inc 0x30020).porchReply 0x21 tag .busy 0 0 [] := rfl

theorem answered_attBusy {q d : Device} (hp : d.porch = q.porch) (hu : d.porchUp = true) {tag n : Nat} (bytes : List Byte) (ht : tag < 64) :
    Answered q (d.attBusy (hostAsk tag n bytes)) { ttype := 0x21, tag := tag, status := 6 } := by
  have hrd : (d.inc 0x30020).rd 0x30014 = d.rd 0x30014 := rd_inc_ne _ (by decide)
  rw [attBusy_host]
  exact answered_porchReply (d := d.inc 0x30020) hp ((porchUp_of_rd hrd).trans hu) .busy 0 0 [] ht

theorem answered_setAtts {q d : Device} {f : PFrame} (h : Answered q d f) (l : List AttReq) : Answered q (d.setAtts l) f := h

/-- A request for a report is queued once the Porch has taken it. -/
theorem attest_run {s : State} {h : PHead} (hf : PorchFresh s h) {n : Nat} {bytes : List Byte} (hn : n ≤ 32) (hb : bytes.length = 32) :
    s.dev.attest h n bytes = (taken s.dev h).attQueue (hostAsk h.tag n bytes) := by
  rw [Device.attest, porchRequest_taken hf]
  exact if_neg (by omega)

/-- A host's request for a report is taken up or waits: what the queue then holds. -/
structure AttQueued (d d' : Device) (tag n : Nat) (bytes : List Byte) : Prop where
  sources : d'.porch.atts.map (·.src) = d.porch.atts.map (·.src) ++ [.porch tag]
  last : ∃ r, d'.porch.atts.getLast? = some r ∧ r.nonceLen = n ∧ r.nonce = bytes ∧
    (d.porch.atts = [] → (∃ k, r.op = some k) ∧ ∃ d1 : Device, r.body = d1.attBody n bytes)
  frames : outgoing d' = outgoing d

theorem attQueue_host {d : Device} {tag n : Nat} {bytes : List Byte} (ha : d.cores.mc0Away = false) (hl : d.porch.atts.length < 3)
    (h : (d.porch.atts = [] ∧ d.opPick ≠ none) ∨ (∃ x k, d.porch.atts.head? = some x ∧ x.op = some k)) :
    AttQueued d (d.attQueue (hostAsk tag n bytes)) tag n bytes := by
  rw [attQueue_room ha hl]
  rcases h with ⟨hnil, hpick⟩ | ⟨x, k, hx, hk⟩
  · obtain ⟨k, hk⟩ := Option.ne_none_iff_exists'.1 hpick
    obtain ⟨origin, htake⟩ := attTake_opens (r := hostAsk tag n bytes) [] rfl hk
    rw [hnil, List.nil_append, htake]
    have hopen := (opOpenAt_only d k 11 origin 2).porch
    generalize d.opOpenAt k 11 origin 2 = e at hopen
    have hsteps := fun l : List AttReq => (opSteps_only (e.setAtts l) k 1).porch
    refine ⟨?_, ?_, ?_⟩
    · rw [hsteps, hnil]; rfl
    · rw [hsteps]
      exact ⟨_, rfl, rfl, rfl, fun _ => ⟨⟨k, rfl⟩, e, rfl⟩⟩
    · rw [outgoing, hsteps, outgoing, ← hopen]; rfl
  · obtain ⟨t, ht⟩ := List.head?_eq_some_iff.1 hx
    have hne : d.porch.atts ≠ [] := by rw [ht]; exact List.cons_ne_nil _ _
    have htake : d.attTake (d.porch.atts ++ [hostAsk tag n bytes]) = d.setAtts (d.porch.atts ++ [hostAsk tag n bytes]) := by
      rw [ht, List.cons_append, attTake_waits _ hk]
    rw [htake]
    refine ⟨by rw [setAtts_atts, List.map_append]; rfl, ⟨hostAsk tag n bytes, ?_, rfl, rfl, fun hnil => absurd hnil hne⟩, rfl⟩
    rw [setAtts_atts, List.getLast?_concat]

section
variable {s : State} {h : PHead} (hf : PorchFresh s h)
include hf

theorem attest_answers (n : Nat) (bytes : List Byte) :
    (32 < n ∨ bytes.length ≠ 32 → Answers s h (.attest h n bytes) 0x21 4 0 0 []) ∧
    (n ≤ 32 → bytes.length = 32 →
      (s.dev.cores.mc0Away = true ∨ 3 ≤ s.dev.porch.atts.length → Answers s h (.attest h n bytes) 0x21 6 0 0 []) ∧
      (s.dev.cores.mc0Away = false → s.dev.porch.atts = [] → s.dev.opPick = none → Answers s h (.attest h n bytes) 0x21 6 0 0 []) ∧
      (s.dev.cores.mc0Away = false → s.dev.porch.atts.length < 3 →
        (s.dev.porch.atts = [] ∧ s.dev.opPick ≠ none) ∨ (∃ x k, s.dev.porch.atts.head? = some x ∧ x.op = some k) →
        ∃ d r, exec (.attest h n bytes) s = .next (after s d) ∧ d.porch.atts.map (·.src) = s.dev.porch.atts.map (·.src) ++ [.porch h.tag] ∧
          d.porch.atts.getLast? = some r ∧ r.nonceLen = n ∧ r.nonce = bytes ∧ outgoing d = outgoing (taken s.dev h) ∧
          (s.dev.porch.atts = [] → (∃ k, r.op = some k) ∧ ∃ d1 : Device, r.body = d1.attBody n bytes))) := by
  have hc := exec_attest h n bytes s
  have ho := taken_onlyPorch s.dev h
  obtain ⟨-, hatts, -⟩ := taken_porch s.dev h
  have hup : ∀ {d : Device}, d.rd 0x30014 = (taken s.dev h).rd 0x30014 → d.porchUp = true := fun hd => (porchUp_of_rd hd).trans (taken_up hf)
  refine ⟨fun hbad => ?_, fun hn hb => ⟨fun hbusy => ?_, fun ha hnil hk => ?_, fun ha hlen hq => ?_⟩⟩
  · refine answers_link hf hc (d := taken s.dev h) (st := .range) ?_ rfl (taken_up hf)
    rw [Device.attest, porchRequest_taken hf]
    exact if_pos hbad
  · refine answers_link hf hc (d := (taken s.dev h).inc 0x30020) (st := .busy) ?_ rfl (hup (rd_inc_ne _ (by decide)))
    rw [attest_run hf hn hb, attQueue_full (by rw [ho.cores, hatts]; exact hbusy), attBusy_host]
  · have hrd : (((taken s.dev h).inc 0x9C).ev 0x54 6).rd 0x30014 = (taken s.dev h).rd 0x30014 := by
      rw [rd_ev_ne _ _ (by decide), rd_inc_ne _ (by decide)]
    have hporch : (((taken s.dev h).inc 0x9C).ev 0x54 6).porch = (taken s.dev h).porch := (((OnlyRegs.refl _).inc _).ev _ _).porch
    refine ⟨_, by rw [hc, link_after (.inl hf.live)], ?_⟩
    rw [attest_run hf hn hb, attQueue_room (ho.cores ▸ ha) (by rw [hatts, hnil]; decide), hatts, hnil, List.nil_append,
      attTake_noRecord rfl (ho.opPick.trans hk)]
    exact answered_setAtts (answered_attBusy hporch (hup hrd) bytes hf.wire) []
  · obtain ⟨hsrc, ⟨r, hlast, hlenr, hnonce, hopen⟩, hframes⟩ := attQueue_host (d := taken s.dev h) (tag := h.tag) (n := n) (bytes := bytes)
      (ho.cores ▸ ha) (by rw [hatts]; exact hlen) (by rw [hatts, ho.opPick]; exact hq)
    rw [hatts] at hsrc hopen
    exact ⟨_, r, by rw [hc, link_after (.inl hf.live), attest_run hf hn hb], hsrc, hlast, hlenr, hnonce, hframes, hopen⟩

end

/-! OH_STREAM (R628). -/

theorem ohStream_runs {s : State} (hlive : Live s) {h : PHead} (hu : s.dev.porchUp = true) (hs : h.seq = s.dev.porch.rxNext) (n : Nat)
    (rec : List Byte) :
    ∃ q, OnlyPorch s.dev q ∧ exec (.ohStream h n rec) s =
      .next (after s (if 63 < n ∨ q.bit (laneBase n + 0x90) 1 = false then q.inc 0x3003C else (q.relayPush n rec).2)) := by
  have hacc := porchAccept_next hu (hs.trans (porchAck_rxNext s.dev h.ack).symm)
  have hheld : (s.dev.porchAck h.ack).boot.held = false := by rw [(porchAck_onlyPorch s.dev h.ack).boot]; exact hlive
  refine ⟨(s.dev.porchAck h.ack).onPorch (fun p => { p with rxNext := (p.rxNext + 1) % 4096, nak := false, unsent := p.unsent + 1 }),
    (porchAck_onlyPorch s.dev h.ack).trans (onPorch_onlyPorch _ _), ?_⟩
  rw [exec_ohStream, link_after (.inl hlive), Device.ohStream, hacc]
  exact congrArg (fun d => Host.Outcome.next (after s d)) (if_neg (by simpa [Device.onPorch] using hheld))

/-- Overhead of the host: counted, or queued for its lane. -/
theorem ohStream_answers {s : State} (hlive : Live s) {h : PHead} (hu : s.dev.porchUp = true) (hs : h.seq = s.dev.porch.rxNext) (n : Nat)
    (rec : List Byte) :
    (63 < n ∨ s.dev.bit (laneBase n + 0x90) 1 = false →
      ∃ d, exec (.ohStream h n rec) s = .next (after s d) ∧ d.rd 0x3003C = wd (satAdd 32 (s.dev.rd 0x3003C).toNat 1) ∧
        KeepsBut [0x3003C] s.dev d ∧ d.lanes = s.dev.lanes) ∧
    (n ≤ 63 → s.dev.bit (laneBase n + 0x90) 1 = true → (s.dev.lane n).relayTx.length < 4 →
      (rec.getD 3 0).toNat = (s.dev.ohSelected n).length → 1 ≤ (rec.getD 8 0).toNat → (rec.getD 8 0).toNat ≤ 16 → rec.getD 0 0 = 0x01 →
      ∃ d, exec (.ohStream h n rec) s = .next (after s d) ∧ (d.lane n).relayTx.length = (s.dev.lane n).relayTx.length + 1 ∧
        d.regs = s.dev.regs) := by
  obtain ⟨q, ho, hrun⟩ := ohStream_runs hlive hu hs n rec
  have hbit : q.bit (laneBase n + 0x90) 1 = s.dev.bit (laneBase n + 0x90) 1 := bit_of_rd (ho.rd _) _
  rw [hbit] at hrun
  refine ⟨fun hno => ?_, fun hn hena hroom hbytes hlo hhi hver => ?_⟩
  · rw [if_pos hno] at hrun
    refine ⟨_, hrun, ?_, fun a ha => ?_, ho.lanes⟩
    · rw [rd_inc, if_pos rfl, ho.rd]
    · rw [rd_inc_ne _ (by simpa using ha), ho.rd]
  · have hlane : q.lane n = s.dev.lane n := by rw [Device.lane, Device.lane, ho.lanes]
    have hsel : q.ohSelected n = s.dev.ohSelected n := by rw [ho]; rfl
    have hpush : ¬((q.lane n).relayTx.length ≥ 4 ∨ (rec.getD 3 0).toNat ≠ (q.ohSelected n).length ∨ (rec.getD 8 0).toNat = 0 ∨
        16 < (rec.getD 8 0).toNat ∨ rec.getD 0 0 ≠ 0x01) := by
      rw [hlane, hsel]
      simp only [hver, ne_eq, not_true_eq_false, or_false]
      omega
    rw [if_neg (by rw [hena]; simp; omega)] at hrun
    refine ⟨_, hrun, ?_, ?_⟩ <;> simp only [Device.relayPush, if_neg hpush]
    · rw [lane_onLane, hlane, List.length_append, List.length_singleton]
    · exact ho.regs

end Sys2Proof.Machine
end


section
/-! PROOFS. What MC0 returns to the host: the units of an ATTIC_READ and the signed report (R629, R643); and the Porch's transactions
as a whole. -/

namespace Sys2Proof.Machine
open Sys2Proof Sys2Proof.Safety

/-! A response in several frames. -/

/-- The frames of a response cut into pieces: all but the last have MORE and OK (R629). -/
def streamFrames (ttype tag : Nat) (st : Status) (o : Nat) (l : List (List Byte)) : List PFrame :=
  l.mapIdx (fun i b =>
    { ttype := ttype, tag := tag, more := decide (i + 1 < l.length), status := if i + 1 = l.length then st.code else 0
      addr := o + 256 * i, payload := b })

theorem streamFrames_cons (ttype tag : Nat) (st : Status) (o : Nat) (b : List Byte) (t : List (List Byte)) :
    streamFrames ttype tag st o (b :: t) =
      { ttype := ttype, tag := tag, more := !t.isEmpty, status := if t.isEmpty then st.code else 0, addr := o, payload := b } ::
        streamFrames ttype tag st (o + 256) t := by
  have hmul : ∀ i, o + 256 * (i + 1) = o + 256 + 256 * i := fun i => by omega
  cases t with
  | nil => simp [streamFrames]
  | cons b' t' => simp [streamFrames, List.mapIdx_cons, hmul]

theorem porchSend_keeps (d : Device) (f : PFrame) : OnlyPorch d (d.porchSend f) ∧ OnlyFrames d.porch (d.porchSend f).porch := by
  unfold Device.porchSend
  split
  · exact ⟨rfl, flush_onlyFrames _ _⟩
  · exact ⟨rfl, rfl⟩

theorem outgoing_porchSend (d : Device) (f : PFrame) (hu : d.porchUp = true) : outgoing (d.porchSend f) = outgoing d ++ [f] := by
  rw [Device.porchSend, if_pos hu]
  simp only [outgoing, onPorch_porch, outgoing_flush, List.append_assoc]

theorem porchStream_keeps (ttype tag : Nat) (st : Status) (l : List (List Byte)) : ∀ (d : Device) (o : Nat),
    OnlyPorch d (d.porchStream ttype tag st o l) ∧ OnlyFrames d.porch (d.porchStream ttype tag st o l).porch := by
  induction l with
  | nil => exact fun d o => ⟨rfl, rfl⟩
  | cons b t ih =>
    intro d o
    rw [Device.porchStream]
    obtain ⟨hd, hf⟩ := porchSend_keeps d
      { ttype := ttype, tag := tag, more := !t.isEmpty, status := if t.isEmpty then st.code else 0, addr := o, payload := b }
    obtain ⟨hd', hf'⟩ := ih _ (o + 256)
    exact ⟨hd.trans hd', hf.trans hf'⟩

theorem outgoing_porchStream (ttype tag : Nat) (st : Status) (l : List (List Byte)) : ∀ (d : Device) (o : Nat), d.porchUp = true →
    outgoing (d.porchStream ttype tag st o l) = outgoing d ++ streamFrames ttype tag st o l := by
  induction l with
  | nil => intro d o _; simp [Device.porchStream, streamFrames]
  | cons b t ih =>
    intro d o hu
    rw [Device.porchStream, ih _ _ (((porchSend_keeps d _).1.up).trans hu), outgoing_porchSend _ _ hu, streamFrames_cons,
      List.append_assoc, List.singleton_append]

/-- Over a link that is not UP nothing leaves (R630). -/
theorem porchStream_down (ttype tag : Nat) (st : Status) (l : List (List Byte)) : ∀ (d : Device) (o : Nat), d.porchUp = false →
    d.porchStream ttype tag st o l = d := by
  induction l with
  | nil => exact fun d o _ => rfl
  | cons b t ih =>
    intro d o hu
    rw [Device.porchStream, Device.porchSend, if_neg (by rw [hu]; decide), ih _ _ hu]

/-! The units of an ATTIC_READ. -/

/-- The bytes that go to the host: what was read up to the first media error, zeros behind it (R629). -/
def readBytes (n : Nat) (data : List Byte) (bad : Option Nat) : List Byte :=
  data.take (bad.getD (4096 * n)) ++ List.replicate (4096 * n) 0

theorem getD_readBytes {n x : Nat} (data : List Byte) (bad : Option Nat) (h : x < 4096 * n) :
    (readBytes n data bad).getD x 0 = if x < bad.getD (4096 * n) then data.getD x 0 else 0 := by
  simp only [readBytes, List.getD_eq_getElem?_getD, List.getElem?_append, List.length_take, List.getElem?_take, List.getElem?_replicate]
  by_cases hb : x < bad.getD (4096 * n)
  · by_cases hd : x < data.length
    · simp [hb, hd]
    · have hz : x - min (bad.getD (4096 * n)) data.length < 4096 * n := by omega
      simp [hb, hd, hz]
  · have hz : x - min (bad.getD (4096 * n)) data.length < 4096 * n := by omega
    have hm : ¬x < min (bad.getD (4096 * n)) data.length := by omega
    simp [hb, hm, hz]

/-- A piece of a long enough list, byte by byte. -/
theorem take_drop_eq_map (l : List Byte) (o n : Nat) (h : o + n ≤ l.length) :
    (l.drop o).take n = (List.range n).map (fun j => l.getD (o + j) 0) := by
  refine List.ext_getElem (by simp; omega) fun i h1 h2 => ?_
  have hi : o + i < l.length := by simp at h2; omega
  simp [List.getD_eq_getElem?_getD, hi]

theorem streamFrames_readBytes (tag n : Nat) (st : Status) (data : List Byte) (bad : Option Nat) :
    streamFrames 0x20 tag st 0 (frames256 (16 * n) (readBytes n data bad)) =
      (List.range (16 * n)).map (fun i =>
        { ttype := 0x20, tag := tag, more := decide (i + 1 < 16 * n), status := if i + 1 = 16 * n then st.code else 0, addr := 256 * i
          payload := (List.range 256).map (fun j => if 256 * i + j < bad.getD (4096 * n) then data.getD (256 * i + j) 0 else 0) }) := by
  refine List.ext_getElem (by simp [streamFrames, frames256]) fun i h1 h2 => ?_
  have hi : i < 16 * n := by simpa using h2
  have hlen : 256 * i + 256 ≤ (readBytes n data bad).length := by simp [readBytes]; omega
  have hpay : ((readBytes n data bad).drop (256 * i)).take 256 =
      (List.range 256).map (fun j => if 256 * i + j < bad.getD (4096 * n) then data.getD (256 * i + j) 0 else 0) := by
    rw [take_drop_eq_map _ _ _ hlen]
    refine List.map_congr_left fun j hj => getD_readBytes data bad ?_
    have := List.mem_range.1 hj
    omega
  simp only [streamFrames, List.getElem_mapIdx, frames256, List.getElem_map, List.getElem_range, List.length_map, List.length_range, hpay,
    Nat.zero_add]

/-- An ATTIC_READ whose units MC0 has read. -/
def readServed (d : Device) (t : List (Nat × Nat × Nat × Bool)) : Device :=
  (d.readGone.onPorch (fun p => { p with reads := t })).inc 0x80070

section
variable {d : Device} {tag unit n : Nat} {go : Bool} {t : List (Nat × Nat × Nat × Bool)} (hr : d.porch.reads = (tag, unit, n, go) :: t)
include hr

theorem atticServed_waits (data : List Byte) (bad : Option Nat) (h : d.cores.mc0Away = true ∨ (d.attic.reading = false ∧ 56 ≤ d.attic.cmds.length)) :
    d.atticServed data bad = d := by
  have hc : (d.cores.mc0Away || (!d.attic.reading && decide (56 ≤ d.attic.cmds.length))) = true := by
    rcases h with h | ⟨h1, h2⟩
    · simp [h]
    · simp [h1, h2]
  rw [Device.atticServed, hr]
  exact if_pos hc

theorem atticServed_serves (data : List Byte) (bad : Option Nat) (ha : d.cores.mc0Away = false)
    (h : d.attic.reading = true ∨ d.attic.cmds.length < 56) :
    d.atticServed data bad =
      (if go then (readServed d t).porchStream 0x20 tag (if bad.isSome then .ecc else .ok) 0 (frames256 (16 * n) (readBytes n data bad))
        else readServed d t).readNext := by
  have hc : ¬(d.cores.mc0Away || (!d.attic.reading && decide (56 ≤ d.attic.cmds.length))) = true := by
    rcases h with h | h <;> simp [ha, h]
  have hbytes : readBytes n data bad =
      (match bad with | some b => data.take b | none => data.take (4096 * n)) ++ List.replicate (4096 * n) 0 := by cases bad <;> rfl
  rw [Device.atticServed, hr]
  dsimp only
  rw [if_neg hc, hbytes]
  rfl

theorem atticServed_record (data : List Byte) (bad : Option Nat) (ha : d.cores.mc0Away = false)
    (h : d.attic.reading = true ∨ d.attic.cmds.length < 56) :
    (d.atticServed data bad).porch.reads = t ∧ (d.atticServed data bad).rd 0x80070 = wd (satAdd 32 (d.rd 0x80070).toNat 1) ∧
      KeepsBut [0x80070] d (d.atticServed data bad) ∧
      (go = false ∨ d.porchUp = false → outgoing (d.atticServed data bad) = outgoing d) ∧
      (go = true → d.porchUp = true → outgoing (d.atticServed data bad) =
        outgoing d ++ streamFrames 0x20 tag (if bad.isSome then .ecc else .ok) 0 (frames256 (16 * n) (readBytes n data bad))) := by
  rw [atticServed_serves hr data bad ha h]
  have hup : (readServed d t).porchUp = d.porchUp := porchUp_of_rd (rd_inc_ne _ (by decide))
  have hout : outgoing (readServed d t) = outgoing d := rfl
  have hcount : (readServed d t).rd 0x80070 = wd (satAdd 32 (d.rd 0x80070).toNat 1) := by rw [readServed, rd_inc, if_pos rfl]; rfl
  have hkeep : KeepsBut [0x80070] d (readServed d t) := fun a hm => by
    rw [readServed, rd_inc_ne _ (by simpa using hm)]; rfl
  have hreads : (readServed d t).porch.reads = t := rfl
  generalize readServed d t = e at hup hout hcount hkeep hreads ⊢
  obtain ⟨hdev, hframes⟩ := porchStream_keeps 0x20 tag (if bad.isSome then .ecc else .ok) (frames256 (16 * n) (readBytes n data bad)) e 0
  cases go with
  | false =>
    obtain ⟨hporch, hregs⟩ := readNext_keeps e
    have hrd := fun a => rd_of_regs hregs a
    simp only [Bool.false_eq_true, if_false]
    refine ⟨by rw [hporch, hreads], by rw [hrd, hcount], fun a hm => (hrd a).trans (hkeep a hm), fun _ => ?_, nofun⟩
    rw [← hout, outgoing, outgoing, hporch]
  | true =>
    simp only [if_true]
    obtain ⟨hporch, hregs⟩ := readNext_keeps (e.porchStream 0x20 tag (if bad.isSome then .ecc else .ok) 0 (frames256 (16 * n) (readBytes n data bad)))
    have hrd := fun a => (rd_of_regs hregs a).trans (hdev.rd a)
    refine ⟨by rw [hporch, hframes]; exact hreads, by rw [hrd, hcount], fun a hm => (hrd a).trans (hkeep a hm), fun hno => ?_, fun _ hu => ?_⟩
    · have hdown : e.porchUp = false := by rw [hup]; simpa using hno
      rw [outgoing, hporch, porchStream_down _ _ _ _ _ _ hdown, ← hout]
      rfl
    · rw [← hout, ← outgoing_porchStream _ _ _ _ _ _ (hup.trans hu), outgoing, outgoing, hporch]

end

/-! The report. -/

theorem opPick_of_idle {d : Device} {k : Nat} (hk : k < 16) (h : d.opRunning k = false) : d.opPick ≠ none := by
  have hsome : ∀ (f : Option Nat → Nat → Option Nat), (∀ b x, f b x ≠ none) → ∀ (l : List Nat) (b : Option Nat), l ≠ [] → l.foldl f b ≠ none := by
    intro f hf l
    induction l with
    | nil => exact fun b h => absurd rfl h
    | cons x t ih =>
      intro b _
      rcases t with _ | ⟨y, t⟩
      · exact hf b x
      · exact ih _ (List.cons_ne_nil _ _)
  refine hsome _ (fun b x => ?_) _ _ (List.ne_nil_of_mem (List.mem_filter.2 ⟨List.mem_range.2 hk, by rw [h]; rfl⟩))
  cases b with
  | none => exact Option.some_ne_none x
  | some y =>
    dsimp only
    split <;> exact Option.some_ne_none _

/-- With a record free the next request is taken up; nothing is sent. -/
theorem attTake_next {d : Device} (hp : d.opPick ≠ none) (l : List AttReq) :
    (d.attTake l).porch.atts.map (·.src) = l.map (·.src) ∧ (∀ x ∈ (d.attTake l).porch.atts.head?, x.op.isSome = true) ∧
      (d.attTake l).pw = d.pw ∧ outgoing (d.attTake l) = outgoing d ∧ (l = [] → (d.attTake l).regs = d.regs) := by
  cases l with
  | nil => exact ⟨rfl, nofun, rfl, rfl, fun _ => rfl⟩
  | cons r t =>
    cases hr : r.op with
    | some k =>
      rw [attTake_waits t hr]
      refine ⟨rfl, fun x hx => ?_, rfl, rfl, nofun⟩
      have hxr : r = x := by simpa [setAtts_atts] using hx
      rw [← hxr, hr]; rfl
    | none =>
      obtain ⟨k, hk⟩ := Option.ne_none_iff_exists'.1 hp
      obtain ⟨origin, htake⟩ := attTake_opens t hr hk
      rw [htake]
      have hopen := opOpenAt_only d k 11 origin 2
      generalize d.opOpenAt k 11 origin 2 = e at hopen
      have hsteps := fun l : List AttReq => opSteps_only (e.setAtts l) k 1
      refine ⟨?_, fun x hx => ?_, ?_, ?_, nofun⟩
      · rw [(hsteps _).porch]; rfl
      · rw [(hsteps _).porch, setAtts_atts, List.head?_cons, Option.mem_some_iff] at hx
        rw [← hx]; rfl
      · rw [(hsteps _).pw, setAtts_pw, hopen.pw]
      · rw [outgoing, (hsteps _).porch, outgoing, ← hopen.porch]; rfl

/-- The record of a report that is built is closed (R643). -/
def reportClosed (d : Device) (k : Nat) : Device := (d.opSteps k 2).opClose k .ok

theorem reportClosed_only (d : Device) (k : Nat) : OnlyRegs d (reportClosed d k) := (opSteps_only d k 2).trans (opClose_only _ _ _)

/-- The report goes to the one who asked. -/
def reportSent (d : Device) (r : AttReq) : Device :=
  match r.src with
  | .porch tag => d.porchStream 0x21 tag .ok 0 (frames256 2 (attSigned r.body))
  | .mate id => d.pwBegin.pwSend false (.attestRsp id 0 (attSigned r.body))

theorem reportSent_regs (d : Device) (r : AttReq) : (reportSent d r).regs = d.regs := by
  unfold reportSent
  split
  · exact (porchStream_keeps _ _ _ _ d 0).1.regs
  · rfl

theorem reportSent_host (d : Device) {r : AttReq} {tag : Nat} (hr : r.src = .porch tag) (hu : d.porchUp = true) :
    ∃ f g, outgoing (reportSent d r) = outgoing d ++ [f, g] ∧ f.tag = tag ∧ g.tag = tag ∧ f.more = true ∧ g.more = false ∧
      f.payload ++ g.payload = (attSigned r.body).take 512 := by
  refine ⟨_, _, by rw [reportSent, hr]; exact outgoing_porchStream _ _ _ _ d 0 hu, rfl, rfl, rfl, rfl, ?_⟩
  have hsum : (512 : Nat) = 256 + 256 := rfl
  rw [hsum, List.take_add]
  rfl

theorem reportSent_mate (d : Device) {r : AttReq} {id : Nat} (hr : r.src = .mate id) :
    lastSent (reportSent d r) = some (.attestRsp id 0 (attSigned r.body)) ∧ outgoing (reportSent d r) = outgoing d := by
  rw [reportSent, hr]
  exact ⟨lastSent_pwSend _ _ _, rfl⟩

theorem attestReady_builds {d : Device} {r : AttReq} {t : List AttReq} {k : Nat} (hr : d.porch.atts = r :: t) (ha : d.cores.mc0Away = false)
    (hk : r.op = some k) : d.attestReady = (reportSent (reportClosed d k) r).attTake t := by
  have hc : ¬d.cores.mc0Away = true := by rw [ha]; decide
  rw [Device.attestReady, hr]
  dsimp only
  rw [if_neg hc, hk]
  rfl

theorem attestReady_idle {d : Device} (h : d.porch.atts = [] ∨ d.cores.mc0Away = true) : d.attestReady = d := by
  rw [Device.attestReady]
  split
  · next r t hr =>
    have ha : d.cores.mc0Away = true := by rcases h with h | h; exacts [absurd (hr.symm.trans h) (List.cons_ne_nil _ _), h]
    exact if_pos ha
  · rfl

theorem attestReady_record {d : Device} {r : AttReq} {t : List AttReq} {k : Nat} (hr : d.porch.atts = r :: t) (ha : d.cores.mc0Away = false)
    (hk : r.op = some k) (hlt : k < 16) :
    d.attestReady.porch.atts.map (·.src) = t.map (·.src) ∧ (∀ x ∈ d.attestReady.porch.atts.head?, x.op.isSome = true) ∧
      (t = [] → d.attestReady.get (oprecBase k + 4) 12 2 = 2 ∧ d.attestReady.get (oprecBase k + 4) 8 4 = 0) ∧
      (∀ tag, r.src = .porch tag → d.porchUp = true →
        ∃ f g, outgoing d.attestReady = outgoing d ++ [f, g] ∧ f.tag = tag ∧ g.tag = tag ∧ f.more = true ∧ g.more = false ∧
          f.payload ++ g.payload = (attSigned r.body).take 512) ∧
      (∀ id, r.src = .mate id → lastSent d.attestReady = some (.attestRsp id 0 (attSigned r.body)) ∧ outgoing d.attestReady = outgoing d) := by
  have honly := reportClosed_only d k
  obtain ⟨hstate, hresult⟩ := opClose_result (d.opSteps k 2) k .ok
  have hsent := reportSent_regs (reportClosed d k) r
  have hidle : (reportSent (reportClosed d k) r).opRunning k = false := by
    rw [Device.opRunning, get_of_rd (rd_of_regs hsent _), reportClosed, hstate]; rfl
  obtain ⟨hsrc, hhead, hpw, hout, hregs⟩ := attTake_next (opPick_of_idle hlt hidle) t
  have hframes : outgoing (reportClosed d k) = outgoing d := by rw [outgoing, outgoing, honly.porch]
  rw [attestReady_builds hr ha hk]
  refine ⟨hsrc, hhead, fun ht => ?_, fun tag htag hu => ?_, fun id hid => ?_⟩
  · have hrd := fun a => (rd_of_regs (hregs ht) a).trans (rd_of_regs hsent a)
    rw [get_of_rd (hrd _), get_of_rd (hrd _)]
    exact ⟨hstate, hresult⟩
  · have hup : (reportClosed d k).porchUp = true := by
      rw [porchUp_of_rd (d := d), hu]
      rw [reportClosed, rd_opClose_outside _ _ hlt (.inr (by decide)), rd_opSteps_ne]
      have := oprecBase_le hlt
      omega
    obtain ⟨f, g, hsend, hrest⟩ := reportSent_host _ htag hup
    exact ⟨f, g, by rw [hout, hsend, hframes], hrest⟩
  · obtain ⟨hlast, hsend⟩ := reportSent_mate (reportClosed d k) hid
    exact ⟨by rw [lastSent, hpw]; exact hlast, by rw [hout, hsend, hframes]⟩

/-- Settles O57: by what the link layer does with a request, then transaction by transaction. -/
theorem porchTransactionsAreTakenOnceAndAnswered : Obligations.PorchTransactionsAreTakenOnceAndAnswered := by
  intro s
  refine ⟨fun c h ttype hc hl => ⟨request_down hc hl, request_outOfOrder hc hl, request_tagHeld hc hl, request_warmHold hc hl⟩,
    fun h hf => ⟨porchRead_answers hf, porchWrite_answers hf, porchRmw_answers hf, writeBulk_answers hf,
      fun i ws hi h1 h2 hs hw => porchWrite_window hf hs hw hi h1 h2, fun i mask v hi hs hw => porchRmw_window hf hs hw hi mask v,
      fun i v k hi hs hw hk => writeBulk_window hf hs hw hi v hk, porchBadType_answers hf, atticRead_answers hf, attest_answers hf⟩,
    fun h a n be ecc tag hf hr => porchRead_waits hf hr, fun h n rec hlive hu hs => ohStream_answers hlive hu hs n rec, fun hl => ?_⟩
  refine ⟨fun e t data bad hr hno hfull => ?_, fun tag unit n go t data bad hr ha hroom => ?_, fun hno data bad => ?_,
    fun r t hr ha ⟨k, hk, hlt⟩ => ?_, fun hno => ?_⟩
  · obtain ⟨tag, unit, n, go⟩ := e
    rw [exec_atticReadServed, link_after hl, atticServed_waits hr data bad (.inr ⟨hno, hfull⟩)]
  · obtain ⟨hreads, hcount, hkeep, hquiet, hgo⟩ := atticServed_record hr data bad ha hroom
    refine ⟨_, by rw [exec_atticReadServed, link_after hl], hreads, hcount, hkeep, hquiet, fun h1 h2 => ?_⟩
    have hcode : (if bad.isSome then Status.ecc else .ok).code = if bad.isSome = true then 7 else 0 := by split <;> rfl
    rw [hgo h1 h2, streamFrames_readBytes, hcode]
  · rw [exec_atticReadServed, link_after hl]
    cases hr : s.dev.porch.reads with
    | nil => rw [Device.atticServed, hr]
    | cons e t =>
      obtain ⟨tag, unit, n, go⟩ := e
      rw [atticServed_waits hr data bad (.inl (hno.resolve_left (by rw [hr]; exact List.cons_ne_nil _ _)))]
  · obtain ⟨hsrc, hhead, hdone, hhost, hmate⟩ := attestReady_record hr ha hk hlt
    refine ⟨_, by rw [exec_attestReportReady, link_after hl], hsrc, hhead, fun ht k' hk' => ?_, hhost, hmate⟩
    obtain rfl : k = k' := Option.some.inj (hk.symm.trans hk')
    exact hdone ht
  · rw [exec_attestReportReady, link_after hl, attestReady_idle hno]

end Sys2Proof.Machine
end


section
/-! SUPPORT. Lanes (R95 to R158): the commands as runs of a device, the registers of a lane, and what a write of one of them does in
the management domain and in the lane's receive domain. -/

namespace Sys2Proof.Machine
open Sys2Proof Sys2Proof.Safety

/-! The commands of a lane. -/

theorem exec_laneEnable (m n : Nat) (v : Word) (s : State) :
    exec (.laneEnable m n v) s = s.live (fun d => d.cmdWrite m (laneBase n + 0x10) (setFld v 0 1 1)) := rfl
theorem exec_laneDisable (m n : Nat) (v : Word) (s : State) :
    exec (.laneDisable m n v) s = s.live (fun d => d.cmdWrite m (laneBase n + 0x10) (setFld v 0 1 0)) := rfl
theorem exec_laneDrainDone (n : Nat) (s : State) : exec (.laneDrainDone n) s = s.path (fun d => d.laneDrainDone n) := rfl
theorem exec_laneTxStart (n : Nat) (s : State) : exec (.laneTxStart n) s = s.path (fun d => d.laneTxGo n) := rfl
theorem exec_txIdleAtFrameEnd (n : Nat) (s : State) : exec (.txIdleAtFrameEnd n) s = s.path (fun d => d.laneTxIdle n) := rfl
theorem exec_txResume (n : Nat) (s : State) : exec (.txResume n) s = s.path (fun d => d.laneTxGo n) := rfl
theorem exec_adaptRestart (m n : Nat) (s : State) : exec (.adaptRestart m n) s = s.live (fun d => d.cmdWrite m (laneBase n + 0x4044) 1) := rfl
theorem exec_adaptDone (n : Nat) (s : State) : exec (.adaptDone n) s = s.path (fun d => d.adaptDone n) := rfl
theorem exec_marginStart (m n : Nat) (s : State) : exec (.marginStart m n) s = s.live (fun d => d.cmdWrite m (laneBase n + 0x4044) 2) := rfl
theorem exec_marginAbort (m n : Nat) (s : State) : exec (.marginAbort m n) s = s.live (fun d => d.cmdWrite m (laneBase n + 0x4044) 4) := rfl
theorem exec_marginPointDone (n errs : Nat) (s : State) : exec (.marginPointDone n errs) s = s.path (fun d => d.marginPoint n errs) := rfl
theorem exec_losDeclare (n : Nat) (s : State) : exec (.losDeclare n) s = s.path (fun d => d.losDeclare n) := rfl
theorem exec_losClear (n : Nat) (s : State) : exec (.losClear n) s = s.path (fun d => d.losClear n) := rfl
theorem exec_freqOorDeclare (n : Nat) (off : Int) (s : State) : exec (.freqOorDeclare n off) s = s.path (fun d => d.oorDeclare n off) := rfl
theorem exec_freqOorClear (n : Nat) (off : Int) (s : State) : exec (.freqOorClear n off) s = s.path (fun d => d.oorClear n off) := rfl
theorem exec_sdhFrameEnd (n : Nat) (bits : List Byte) (tags : Nat) (mem : List MemObs) (s : State) :
    exec (.sdhFrameEnd n bits tags mem) s = s.path (fun d => (d.sdhFrame n bits mem).tagWords n tags) := rfl
theorem exec_lofDeclare (n : Nat) (otu : Bool) (s : State) : exec (.lofDeclare n otu) s = s.path (fun d => d.lofDeclare n otu) := rfl
theorem exec_lofClear (n : Nat) (otu : Bool) (s : State) : exec (.lofClear n otu) s = s.path (fun d => d.lofClear n otu) := rfl
theorem exec_otuLomDeclare (n : Nat) (s : State) : exec (.otuLomDeclare n) s = s.path (fun d => d.otuLomDeclare n) := rfl
theorem exec_otuLomClear (n : Nat) (s : State) : exec (.otuLomClear n) s = s.path (fun d => d.otuLomClear n) := rfl
theorem exec_laneTxFrame (n : Nat) (s : State) : exec (.laneTxFrame n) s = s.path (fun d => d.laneTxFrame n) := rfl
theorem exec_ohRxRecordBuild (n : Nat) (s : State) : exec (.ohRxRecordBuild n) s = s.path (fun d => d.relayBuild n) := rfl
theorem exec_ohTxPush (m n : Nat) (s : State) : exec (.ohTxPush m n) s = s.live (fun d => d.cmdWrite m (laneBase n + 0x94) 1) := rfl

/-! The registers of a lane. -/

/-- The blocks below the lanes hold no register of a lane. -/
theorem laneReg_ne_block {n o a : Nat} (ha : a < 0x100000) : laneBase n + o ≠ a := by unfold laneBase; omega

theorem laneReg_aligned {n o : Nat} (ho : o % 4 = 0) : (laneBase n + o) % 4 = 0 := by unfold laneBase; omega

/-- LANE_CTL. -/
def laneCtlRow : RegRow := rw 0x10 0xFF1 0x30 [⟨4, 3, [(0, 4)]⟩]
/-- SDS_CMD. -/
def sdsCmdRow : RegRow := wo 0x4044 0x7

theorem rowAt_laneCtl (n : Nat) : rowAt ⟨.lane, n, 0x10⟩ = some laneCtlRow := by
  simp [rowAt, rowsAt, laneRows, header, ro, rw, RegRow.has, laneCtlRow]
theorem rowAt_ohTxPush (n : Nat) : rowAt ⟨.lane, n, 0x94⟩ = some (bitRow 0x94) := by
  simp [rowAt, rowsAt, laneRows, header, ro, rw, w1c, wo, RegRow.has, bitRow]
theorem rowAt_sdsCmd (n : Nat) : rowAt ⟨.lane, n, 0x4044⟩ = some sdsCmdRow := by
  simp [rowAt, rowsAt, laneRows, header, ro, rw, w1c, wo, RegRow.has, sdsCmdRow]

theorem rowOf_laneCtl {n : Nat} (hn : n < 64) : rowOf (laneBase n + 0x10) = some laneCtlRow := by
  rw [rowOf, locOf_lane hn (by decide)]; exact rowAt_laneCtl n

/-! A write of a lane's register. -/

/-- A write the lane accepts in the management domain: what the lane does with it, CFG_DIRTY when it is configuration, and what follows. -/
theorem exec_laneWrite {s : State} {m n o : Nat} {r : RegRow} {v : Word} {d : Device} (h : Ready s m) (hn : n < 64) (ho : o < 0x4000)
    (ha : o % 4 = 0) (hr : rowAt ⟨.lane, n, o⟩ = some r) (hw : r.wide = false) (hacc : r.acc = .rw ∨ r.acc = .wo)
    (href : s.dev.refusal (laneBase n + o) ⟨.lane, n, o⟩ r v = none) (he : s.dev.applyLane n (laneBase n + o) o r v = (.ok, d)) :
    s.live (fun d => d.cmdWrite m (laneBase n + o) v) = .next (acceptedFollowed s m (if r.cov = true then d.covered else d)) := by
  have hl : locOf (laneBase n + o) = some ⟨.lane, n, o⟩ := locOf_lane hn (by omega)
  have hd : domainOf ⟨.lane, n, o⟩ = none := if_neg (by simp; omega)
  have hne : r.acc ≠ .ro ∧ r.acc ≠ .rs ∧ r.acc ≠ .lock ∧ r.acc ≠ .w1c := by rcases hacc with e | e <;> simp [e]
  have hap : s.dev.applyLoc m (laneBase n + o) ⟨.lane, n, o⟩ r v = (.ok, d) := by
    rw [← he]; simp [Device.applyLoc, Device.memberWord, Device.applyBlk, hne.2.2.2]
  rw [live_after h.live, cmdWrite_mgmt h.unstaged hl hr hd (laneReg_aligned ha) hw hne.1 hne.2.1 hne.2.2.1 href (by rw [hap]), hap,
    settleAt_followed hl (by simp)]
  rfl

/-- A write the lane refuses: the record of the refusal and the completion. -/
theorem exec_laneWrite_refused {s : State} {m n o : Nat} {r : RegRow} {v : Word} {d : Device} {st : Status} (h : Ready s m) (hn : n < 64)
    (ho : o < 0x4000) (ha : o % 4 = 0) (hr : rowAt ⟨.lane, n, o⟩ = some r) (hw : r.wide = false) (hacc : r.acc = .rw ∨ r.acc = .wo)
    (href : s.dev.refusal (laneBase n + o) ⟨.lane, n, o⟩ r v = none) (he : s.dev.applyLane n (laneBase n + o) o r v = (st, d))
    (hst : st ≠ .ok) :
    s.live (fun d => d.cmdWrite m (laneBase n + o) v) =
      .next (after s ((d.refused { master := m, wide := false } st (laneBase n + o)).complete m { status := st })) := by
  have hl : locOf (laneBase n + o) = some ⟨.lane, n, o⟩ := locOf_lane hn (by omega)
  have hd : domainOf ⟨.lane, n, o⟩ = none := if_neg (by simp; omega)
  have hne : r.acc ≠ .ro ∧ r.acc ≠ .rs ∧ r.acc ≠ .lock ∧ r.acc ≠ .w1c := by rcases hacc with e | e <;> simp [e]
  have hap : s.dev.applyLoc m (laneBase n + o) ⟨.lane, n, o⟩ r v = (st, d) := by
    rw [← he]; simp [Device.applyLoc, Device.memberWord, Device.applyBlk, hne.2.2.2]
  rw [live_after h.live,
    cmdWrite_blockRefused h.unstaged hl hr hd (laneReg_aligned ha) hw hne.1 hne.2.1 hne.2.2.1 href hap hst]

/-- Nothing of the bridge refuses a command of a lane that its row allows. -/
theorem refusal_laneCommand {d : Device} {n a o : Nat} {r : RegRow} {v : Word} (hacc : r.acc = .wo) (ho : o < 0x60 ∨ 0x90 ≤ o)
    (hv : r.legal v.toNat = true) : d.refusal a ⟨.lane, n, o⟩ r v = none :=
  refusal_command hacc nofun (by simp [Device.standbyBars]) (by simp [Device.bridgeBad, hv]; omega)

section
variable {s : State} {m n : Nat} {v : Word} (h : Ready s m) (hq : DomainReady s (.laneRx n)) (hn : n < 64)
  (hv : sdsCmdRow.legal v.toNat = true)
include h hq hn hv

/-- A write of SDS_CMD is posted, completed, and taken in the lane's receive domain: the effect, or the record of its refusal there. -/
theorem exec_sdsCmd :
    s.live (fun d => d.cmdWrite m (laneBase n + 0x4044) v) = .next (after s
      (if ((s.dev.complete m {}).sdsCmd n v).1 = .ok then
        Device.settle (s.dev.complete m {}) (sfChange (s.dev.complete m {}) ((s.dev.complete m {}).sdsCmd n v).2)
       else ((s.dev.complete m {}).sdsCmd n v).2.refused { master := m, wide := false } ((s.dev.complete m {}).sdsCmd n v).1
         (laneBase n + 0x4044))) := by
  have hl : locOf (laneBase n + 0x4044) = some ⟨.lane, n, 0x4044⟩ := locOf_lane hn (by decide)
  have hd : domainOf ⟨.lane, n, 0x4044⟩ = some (.laneRx n) := rfl
  have hr := rowAt_sdsCmd n
  have hcov : sdsCmdRow.cov = false := rfl
  have hap : (s.dev.complete m {}).applyLoc m (laneBase n + 0x4044) ⟨.lane, n, 0x4044⟩ sdsCmdRow v = (s.dev.complete m {}).sdsCmd n v := rfl
  rw [live_after h.live, cmdWrite_posted h.unstaged hl hr hd ⟨hq.empty, hq.runs⟩ (laneReg_aligned (by decide)) rfl nofun nofun nofun
    (refusal_laneCommand rfl (.inr (by decide)) hv)]
  simp only [hcov, Bool.false_eq_true, if_false, Device.takeEffect, hl, hr, hap, settleAt_followed hl (List.mem_cons_self ..)]
  rfl

/-- An accepted write of SDS_CMD. -/
theorem exec_sdsCmd_ok {d : Device} (he : (s.dev.complete m {}).sdsCmd n v = (.ok, d)) :
    s.live (fun d => d.cmdWrite m (laneBase n + 0x4044) v) = .next (postedFollowed s m d) := by
  rw [exec_sdsCmd h hq hn hv, he]; rfl

end

end Sys2Proof.Machine
end


section
/-! PROOFS. Enabling, draining and the transmitter of a lane (R152, R153, R156). -/

namespace Sys2Proof.Machine
open Sys2Proof Sys2Proof.Safety

/-! The state of a lane is no register, and no other lane's. -/

theorem lane_of_lanes {d d' : Device} (h : d'.lanes = d.lanes) (k : Nat) : d'.lane k = d.lane k := by rw [Device.lane, h]; rfl

@[simp] theorem lane_wr (d : Device) (a : Nat) (v : Word) (k : Nat) : (d.wr a v).lane k = d.lane k := rfl
@[simp] theorem lane_put (d : Device) (a lo w v k : Nat) : (d.put a lo w v).lane k = d.lane k := rfl
@[simp] theorem lane_setBit (d : Device) (a i : Nat) (b : Bool) (k : Nat) : (d.setBit a i b).lane k = d.lane k := rfl
@[simp] theorem lane_ev (d : Device) (a i k : Nat) : (d.ev a i).lane k = d.lane k := rfl
@[simp] theorem lane_inc (d : Device) (a k : Nat) : (d.inc a).lane k = d.lane k := rfl
@[simp] theorem lane_free (d : Device) (k : Nat) : d.free.2.lane k = d.lane k := rfl
@[simp] theorem lane_complete (d : Device) (m : Nat) (c : Completion) (k : Nat) : (d.complete m c).lane k = d.lane k := rfl
@[simp] theorem lane_covered (d : Device) (k : Nat) : d.covered.lane k = d.lane k := rfl

/-- The register file and the lanes are as they were: an update of paths and tributaries. -/
structure PathsOnly (d d' : Device) : Prop where
  regs : d'.regs = d.regs
  lanes : d'.lanes = d.lanes

theorem PathsOnly.refl (d : Device) : PathsOnly d d := ⟨rfl, rfl⟩
theorem PathsOnly.trans {d d' d'' : Device} (h : PathsOnly d d') (h' : PathsOnly d' d'') : PathsOnly d d'' :=
  ⟨h'.regs.trans h.regs, h'.lanes.trans h.lanes⟩
theorem PathsOnly.foldl {α : Type} {f : Device → α → Device} (hf : ∀ d x, PathsOnly d (f d x)) (l : List α) (d : Device) :
    PathsOnly d (l.foldl f d) :=
  List.foldlRecOn l f (motive := PathsOnly d) (.refl d) fun _ h x _ => h.trans (hf _ x)

theorem pathsFresh_pathsOnly (d : Device) (n : Nat) : PathsOnly d (d.pathsFresh n) := by
  refine .trans (.foldl (fun e h => ?_) (tabKeys d.hos) d) (.foldl (fun e k => ?_) _ _)
  · split
    · exact ⟨rfl, rfl⟩
    · exact .refl e
  · split
    · exact ⟨rfl, rfl⟩
    · exact .refl e

theorem phaseLost_pathsOnly (d : Device) (n : Nat) : PathsOnly d (d.phaseLost n) := by
  refine .foldl (fun e h => ?_) _ d
  split
  · exact ⟨rfl, rfl⟩
  · exact .refl e

@[simp] theorem rd_pathsFresh (d : Device) (n a : Nat) : (d.pathsFresh n).rd a = d.rd a := rd_of_regs (pathsFresh_pathsOnly d n).regs a
@[simp] theorem lane_pathsFresh (d : Device) (n k : Nat) : (d.pathsFresh n).lane k = d.lane k :=
  lane_of_lanes (pathsFresh_pathsOnly d n).lanes k
@[simp] theorem rd_phaseLost (d : Device) (n a : Nat) : (d.phaseLost n).rd a = d.rd a := rd_of_regs (phaseLost_pathsOnly d n).regs a
@[simp] theorem lane_phaseLost (d : Device) (n k : Nat) : (d.phaseLost n).lane k = d.lane k :=
  lane_of_lanes (phaseLost_pathsOnly d n).lanes k
@[simp] theorem rd_cellsDrop (d : Device) (f : Nat → Bool) (a : Nat) : (d.cellsDrop f).rd a = d.rd a := rfl
@[simp] theorem lane_cellsDrop (d : Device) (f : Nat → Bool) (k : Nat) : (d.cellsDrop f).lane k = d.lane k := rfl

/-! The parts of a lane's start and end. -/

/-- The equaliser writes ADAPT_STATUS. -/
theorem rd_adaptFree_ne (d : Device) (n : Nat) {a : Nat} (h : a ≠ laneBase n + 0x4054) : (d.adaptFree n).rd a = d.rd a := by
  rw [Device.adaptFree, rd_onLane, rd_wr_ne _ _ h]; rfl

theorem lane_adaptFree (d : Device) (n : Nat) :
    (∃ w, (d.adaptFree n).lane n = { d.lane n with taps := w }) ∧ ∀ k, k ≠ n → (d.adaptFree n).lane k = d.lane k := by
  refine ⟨⟨d.free.2.free.1 &&& 0xFFFF, ?_⟩, fun k hk => ?_⟩
  · simp only [Device.adaptFree, lane_onLane, lane_wr, lane_free]
  · simp only [Device.adaptFree, lane_onLane_ne _ _ hk, lane_wr, lane_free]

/-- A scan that is stopped writes MARGIN_STATUS alone. -/
theorem rd_marginStop_ne (d : Device) (n st : Nat) {a : Nat} (h : a ≠ laneBase n + 0x4048) : (d.marginStop n st).rd a = d.rd a := by
  unfold Device.marginStop
  split
  · rw [rd_put_ne _ _ _ _ h, rd_onLane]
  · rfl

theorem lane_marginStop (d : Device) (n st : Nat) :
    (d.marginStop n st).lane n = { d.lane n with margin := none } ∧ ∀ k, k ≠ n → (d.marginStop n st).lane k = d.lane k := by
  unfold Device.marginStop
  split
  · exact ⟨by simp only [lane_put, lane_onLane], fun _ hk => by simp only [lane_put, lane_onLane_ne _ _ hk]⟩
  next h =>
    have hnone : (d.lane n).margin = none := by simpa using h
    exact ⟨by rw [← hnone], fun _ _ => rfl⟩

theorem rd_when_ev_ne (d : Device) (c : Bool) {a b : Nat} (i : Nat) (h : b ≠ a) : (d.when c (·.ev a i)).rd b = d.rd b := by
  cases c with
  | true => exact rd_ev_ne d i h
  | false => rfl

theorem lane_when_ev (d : Device) (c : Bool) (a i k : Nat) : (d.when c (·.ev a i)).lane k = d.lane k := by
  cases c with
  | true => exact lane_ev d a i k
  | false => rfl

/-- Framers that leave for HUNT set events of RX_EVENT alone. -/
theorem rd_framersDrop_ne (d : Device) (n : Nat) {a : Nat} (h : a ≠ laneBase n + 0x4008) : (d.framersDrop n).rd a = d.rd a := by
  simp only [Device.framersDrop, rd_phaseLost, rd_onLane, rd_when_ev_ne _ _ _ h]

theorem lane_framersDrop (d : Device) (n : Nat) :
    (d.framersDrop n).lane n = { d.lane n with sdh := (d.lane n).sdh.drop, otu := (d.lane n).otu.drop } ∧
      ∀ k, k ≠ n → (d.framersDrop n).lane k = d.lane k := by
  refine ⟨?_, fun k hk => ?_⟩
  · simp only [Device.framersDrop, lane_phaseLost, lane_onLane, lane_when_ev]
  · simp only [Device.framersDrop, lane_phaseLost, lane_onLane_ne _ _ hk, lane_when_ev]

/-! LANE_CTL. -/

/-- A value of LANE_CTL the bridge and the lane accept. -/
theorem exec_laneCtl {s : State} {m n : Nat} {r : RegRow} {v : Word} (h : Ready s m) (hn : n < 64) (hr : rowOf (laneBase n + 0x10) = some r)
    (href : s.dev.refusal (laneBase n + 0x10) ⟨.lane, n, 0x10⟩ r v = none) (hbad : s.dev.laneCtlBad n v = false) :
    s.live (fun d => d.cmdWrite m (laneBase n + 0x10) v) = .next (acceptedFollowed s m (s.dev.laneCtlTake n v).covered) := by
  obtain rfl : laneCtlRow = r := Option.some.inj ((rowOf_laneCtl hn).symm.trans hr)
  have he : s.dev.applyLane n (laneBase n + 0x10) 0x10 laneCtlRow v = (.ok, s.dev.laneCtlTake n v) := by
    rw [Device.applyLane, if_pos rfl, Device.laneCtlWrite, if_neg (by simp [hbad])]
  have hcov : laneCtlRow.cov = true := rfl
  rw [exec_laneWrite h hn (by decide) (by decide) (rowAt_laneCtl n) rfl (.inl rfl) href he, if_pos hcov]

theorem bitAt_setFld_zero (x : Word) {i : Nat} (h : i < 32) : bitAt (setFld x i 1 0) i = false := bitAt_setFld_same x false h
theorem bitAt_setFld_one (x : Word) {i : Nat} (h : i < 32) : bitAt (setFld x i 1 1) i = true := bitAt_setFld_same x true h

theorem laneCtlTake_starts {d : Device} {n : Nat} {v : Word} (hv : bitAt v 0 = true) (he : d.laneEna n = false)
    (hd : (d.lane n).draining = false) : d.laneCtlTake n v = ((d.wr (laneBase n + 0x10) v).laneStart n).adaptFree n := by
  simp [Device.laneCtlTake, hv, he, hd]

theorem laneCtlTake_drains {d : Device} {n : Nat} {v : Word} (hv : bitAt v 0 = false) (he : d.laneEna n = true) :
    d.laneCtlTake n v = (((d.wr (laneBase n + 0x10) v).onLane n (fun l => { l with draining := true })).marginStop n 4).setBit
      (laneBase n + 0x4000) 9 false := by
  simp [Device.laneCtlTake, hv, he]

/-- A lane that starts: the receiver runs with the framer in HUNT, DRAINED and the words of R139 are clear. -/
theorem laneStart_record (d : Device) (n : Nat) :
    ((d.laneStart n).lane n).rxOn = true ∧ ((d.laneStart n).lane n).sdh.st = .hunt ∧ (d.laneStart n).bit (laneBase n + 0x14) 1 = false ∧
      (∀ o ∈ [0x4000, 0x4024, 0x4028], (d.laneStart n).rd (laneBase n + o) = 0) ∧ (∀ k, k ≠ n → (d.laneStart n).lane k = d.lane k) ∧
      KeepsBut ([0x14, 0x4000, 0x4024, 0x4028].map (laneBase n + ·)) d (d.laneStart n) := by
  refine ⟨?_, ?_, ?_, fun o ho => ?_, fun k hk => ?_, fun a ha => ?_⟩
  · rw [Device.laneStart, lane_pathsFresh, lane_onLane]
  · rw [Device.laneStart, lane_pathsFresh, lane_onLane]
  · rw [Device.bit, Device.laneStart, rd_pathsFresh, rd_onLane]
    simp [rd_wr, bitAt_setFld_zero]
  · rw [Device.laneStart, rd_pathsFresh, rd_onLane]
    simp only [List.mem_cons, List.not_mem_nil, or_false] at ho
    rcases ho with rfl | rfl | rfl <;> simp [rd_wr]
  · rw [Device.laneStart, lane_pathsFresh, lane_onLane_ne _ _ hk]
    simp only [lane_wr, lane_put]
  · simp only [List.map_cons, List.map_nil, List.mem_cons, List.not_mem_nil, or_false, not_or] at ha
    obtain ⟨h1, h2, h3, h4⟩ := ha
    rw [Device.laneStart, rd_pathsFresh, rd_onLane, rd_wr_ne _ _ h4, rd_wr_ne _ _ h3, rd_wr_ne _ _ h2, rd_put_ne _ _ _ _ h1]

/-- An accepted ENABLE of a lane that is off and drained. -/
theorem laneEnable_record {d d' : Device} {n : Nat} {v : Word} (h : d' = (((d.wr (laneBase n + 0x10) v).laneStart n).adaptFree n).covered) :
    d'.rd (laneBase n + 0x10) = v ∧ (d'.lane n).rxOn = true ∧ (d'.lane n).sdh.st = .hunt ∧ d'.bit (laneBase n + 0x14) 1 = false ∧
      (∀ o ∈ [0x4000, 0x4024, 0x4028], d'.rd (laneBase n + o) = 0) ∧ (∀ k, k ≠ n → d'.lane k = d.lane k) ∧
      KeepsBut ([0x10, 0x14, 0x4000, 0x4024, 0x4028, 0x4054].map (laneBase n + ·) ++ [0x50]) d d' := by
  obtain ⟨hrx, hhunt, hdr, hz, hother, hkeep⟩ := laneStart_record (d.wr (laneBase n + 0x10) v) n
  obtain ⟨⟨w, hlane⟩, hlanes⟩ := lane_adaptFree ((d.wr (laneBase n + 0x10) v).laneStart n) n
  have hrd : ∀ o, o ≠ 0x4054 → d'.rd (laneBase n + o) = ((d.wr (laneBase n + 0x10) v).laneStart n).rd (laneBase n + o) := fun o ho => by
    rw [h, rd_covered _ (laneReg_ne_block (by decide)), rd_adaptFree_ne _ _ (by omega)]
  rw [h, lane_covered, hlane]
  rw [← h]
  refine ⟨?_, hrx, hhunt, ?_, fun o ho => ?_, fun k hk => ?_, fun a ha => ?_⟩
  · rw [hrd _ (by decide), hkeep _ (by simp), rd_wr_same]
  · rw [bit_of_rd (hrd _ (by decide)), hdr]
  · rw [hrd _ (by rintro rfl; simp at ho), hz o ho]
  · rw [h, lane_covered, hlanes k hk, hother k hk, lane_wr]
  · simp only [List.map_cons, List.map_nil, List.cons_append, List.nil_append, List.mem_cons, List.not_mem_nil, or_false, not_or] at ha
    obtain ⟨h10, h14, h4000, h4024, h4028, h4054, h50⟩ := ha
    rw [h, rd_covered _ h50, rd_adaptFree_ne _ _ h4054, hkeep a (by simp [h14, h4000, h4024, h4028]), rd_wr_ne _ _ h10]

/-- An accepted ENABLE 0 of a lane that is on. -/
theorem laneDisable_record {d d' : Device} {n : Nat} {v : Word}
    (h : d' = ((((d.wr (laneBase n + 0x10) v).onLane n (fun l => { l with draining := true })).marginStop n 4).setBit
      (laneBase n + 0x4000) 9 false).covered) :
    d'.rd (laneBase n + 0x10) = v ∧ (d'.lane n).draining = true ∧ (d'.lane n).margin = none ∧ (∀ k, k ≠ n → d'.lane k = d.lane k) ∧
      KeepsBut ([0x10, 0x4000, 0x4048].map (laneBase n + ·) ++ [0x50]) d d' := by
  obtain ⟨hlane, hother⟩ := lane_marginStop ((d.wr (laneBase n + 0x10) v).onLane n (fun l => { l with draining := true })) n 4
  rw [h, lane_covered, lane_setBit, hlane, lane_onLane, ← h]
  refine ⟨?_, rfl, rfl, fun k hk => ?_, fun a ha => ?_⟩
  · rw [h, rd_covered _ (laneReg_ne_block (by decide)), rd_setBit_ne _ _ _ (by simp), rd_marginStop_ne _ _ _ (by simp), rd_onLane, rd_wr_same]
  · rw [h, lane_covered, lane_setBit, hother k hk, lane_onLane_ne _ _ hk, lane_wr]
  · simp only [List.map_cons, List.map_nil, List.cons_append, List.nil_append, List.mem_cons, List.not_mem_nil, or_false, not_or] at ha
    obtain ⟨h10, h4000, h4048, h50⟩ := ha
    rw [h, rd_covered _ h50, rd_setBit_ne _ _ _ h4000, rd_marginStop_ne _ _ _ h4048, rd_onLane, rd_wr_ne _ _ h10]

/-! The end of a drain, and the transmitter. -/

theorem laneDrainDone_record {d : Device} {n : Nat} (h : (d.lane n).draining = true) :
    (d.laneDrainDone n).bit (laneBase n + 0x14) 1 = true ∧ (d.laneDrainDone n).bit (laneBase n + 0x18) 0 = true ∧
      (∀ o ∈ [0x4000, 0x4024, 0x4028], (d.laneDrainDone n).rd (laneBase n + o) = 0) ∧ ((d.laneDrainDone n).lane n).rxOn = false ∧
      ((d.laneDrainDone n).lane n).txOn = false ∧ ((d.laneDrainDone n).lane n).draining = false ∧
      ((d.laneDrainDone n).lane n).sdh.st = .hunt ∧ ∀ k, k ≠ n → (d.laneDrainDone n).lane k = d.lane k := by
  have hlane : (d.laneDrainDone n).lane n = (((d.cellsDrop (· == n)).framersDrop n).lane n).drained := by
    simp [Device.laneDrainDone, h]
  rw [hlane]
  refine ⟨?_, ?_, ?_, rfl, rfl, rfl, rfl, fun k hk => ?_⟩
  · simp [Device.laneDrainDone, h, Device.bit, rd_ev, bitAt_setFld_one]
  · rw [Device.laneDrainDone, if_pos h, bit_ev_same _ _ (by decide)]
  · simp [Device.laneDrainDone, h, rd_ev, rd_put, rd_wr]
  · simp [Device.laneDrainDone, h, lane_onLane_ne _ _ hk, (lane_framersDrop _ n).2 k hk]

theorem laneTxGo_starts {d : Device} {n : Nat} (he : d.laneEna n = true) (hs : d.squelched n = false) :
    d.laneTxGo n = d.setLane n { d.lane n with txOn := true } := by
  rw [Device.laneTxGo, he, hs]; rfl

theorem laneTxIdle_idles {d : Device} {n : Nat} (h : d.bit (laneBase n + 0x10) 11 = true ∨ d.acting = false) :
    d.laneTxIdle n = d.setLane n (d.lane n).idle := by
  rw [Device.laneTxIdle, if_pos (by rcases h with h | h <;> simp [h])]; rfl

/-- Settles O19: by what LANE_CTL, the end of the drain and the transmitter's frame boundaries do with the lane. -/
theorem laneEnablesDrainsAndTransmits : Obligations.LaneEnablesDrainsAndTransmits := by
  intro s n hlive hn
  refine ⟨fun m v r h hr href hbad he hd => ?_, fun m v r h hr href hbad he => ?_, fun h => ?_, fun he hs => ?_, fun h => ?_⟩
  · refine ⟨_, ?_, laneEnable_record rfl⟩
    rw [exec_laneEnable, exec_laneCtl h hn hr href hbad, laneCtlTake_starts (bitAt_setFld_one v (by decide)) he hd]
  · refine ⟨_, ?_, laneDisable_record rfl⟩
    rw [exec_laneDisable, exec_laneCtl h hn hr href hbad, laneCtlTake_drains (bitAt_setFld_zero v (by decide)) he]
  · exact ⟨_, by rw [exec_laneDrainDone, path_followed hlive], laneDrainDone_record h⟩
  · have hgo := laneTxGo_starts he hs
    refine ⟨_, by rw [exec_laneTxStart, path_followed hlive, hgo], by rw [exec_txResume, path_followed hlive, hgo], ?_, rfl⟩
    rw [lane_setLane]
  · refine ⟨_, by rw [exec_txIdleAtFrameEnd, path_followed hlive, laneTxIdle_idles h], ?_, rfl⟩
    rw [lane_setLane]; rfl

end Sys2Proof.Machine
end


section
/-! PROOFS. Adaptation and the margin scan of a lane (R100 to R109). -/

namespace Sys2Proof.Machine
open Sys2Proof Sys2Proof.Safety

/-! SDS_CMD. -/

theorem sdsCmd_legal : ∀ v ∈ [1#32, 2#32, 4#32], sdsCmdRow.legal v.toNat = true := by
  simp [sdsCmdRow, wo, RegRow.legal, RegRow.reserved]

theorem sdsCmd_restart (d : Device) (n : Nat) : d.sdsCmd n 1 = (.ok, d.adaptRestart n) := by
  simp [Device.sdsCmd, Device.when, bitAt, fld]

theorem sdsCmd_start (d : Device) (n : Nat) (h : (d.lane n).margin = none) : d.sdsCmd n 2 = (.ok, (d.marginStart n).2) := by
  simp [Device.sdsCmd, Device.when, bitAt, fld, h]

theorem sdsCmd_start_running (d : Device) (n : Nat) (h : (d.lane n).margin.isSome = true) : d.sdsCmd n 2 = (.range, d) := by
  simp [Device.sdsCmd, bitAt, fld, h]

theorem sdsCmd_abort (d : Device) (n : Nat) : d.sdsCmd n 4 = (.ok, d.marginStop n 3) := by
  simp [Device.sdsCmd, Device.when, bitAt, fld]

/-! Adaptation. -/

theorem adaptRestart_record (d : Device) (n : Nat) :
    (d.adaptRestart n).bit (laneBase n + 0x4000) 9 = false ∧ ((d.adaptRestart n).lane n).sdh.st = .hunt ∧
      ((d.adaptRestart n).lane n).otu.st = .hunt := by
  have hlane := (lane_framersDrop ((d.adaptFree n).setBit (laneBase n + 0x4000) 9 false) n).1
  refine ⟨?_, ?_, ?_⟩
  · rw [Device.adaptRestart, bit_of_rd (rd_framersDrop_ne _ _ (by simp)), bit_setBit_same _ _ _ (by decide)]
  · rw [Device.adaptRestart, hlane]; rfl
  · rw [Device.adaptRestart, hlane]; rfl

theorem noSignal_false {d : Device} {n : Nat} (hl : d.bit (laneBase n + 0x4000) 0 = false) (ho : d.bit (laneBase n + 0x4000) 1 = false) :
    d.noSignal n = false := by rw [Device.noSignal, hl, ho]; rfl

/-- The settings a lane settles with: those it has while ADAPT_FREEZE is 1, else free ones. -/
def adaptSettled (d : Device) (n : Nat) : Device := if d.bit (laneBase n + 0x4050) 0 then d else d.adaptFree n

theorem adaptDone_settles {d : Device} {n : Nat} (he : d.laneEna n = true) (hs : d.noSignal n = false) :
    d.adaptDone n = (adaptSettled d n).setBit (laneBase n + 0x4000) 9 true := by
  rw [Device.adaptDone, he, hs]; rfl

theorem adaptSettled_record (d : Device) (n : Nat) :
    (∃ w, (adaptSettled d n).lane n = { d.lane n with taps := w }) ∧ (∀ k, k ≠ n → (adaptSettled d n).lane k = d.lane k) ∧
      KeepsBut [laneBase n + 0x4054] d (adaptSettled d n) := by
  unfold adaptSettled
  split
  · exact ⟨⟨(d.lane n).taps, rfl⟩, fun _ _ => rfl, .refl _ d⟩
  · obtain ⟨hlane, hother⟩ := lane_adaptFree d n
    exact ⟨hlane, hother, fun a ha => rd_adaptFree_ne d n (by simpa using ha)⟩

theorem adaptDone_record {d : Device} {n : Nat} (he : d.laneEna n = true) (hs : d.noSignal n = false) :
    (d.adaptDone n).bit (laneBase n + 0x4000) 9 = true ∧
      (d.adaptDone n).lane n = { d.lane n with taps := ((d.adaptDone n).lane n).taps } ∧
      (∀ k, k ≠ n → (d.adaptDone n).lane k = d.lane k) ∧ KeepsBut [laneBase n + 0x4000, laneBase n + 0x4054] d (d.adaptDone n) ∧
      (d.bit (laneBase n + 0x4050) 0 = true → d.adaptDone n = d.setBit (laneBase n + 0x4000) 9 true) := by
  obtain ⟨⟨w, hlane⟩, hother, hkeep⟩ := adaptSettled_record d n
  rw [adaptDone_settles he hs]
  refine ⟨bit_setBit_same _ _ _ (by decide), ?_, fun k hk => ?_, fun a ha => ?_, fun hf => ?_⟩
  · rw [lane_setBit, hlane]
  · rw [lane_setBit, hother k hk]
  · simp only [List.mem_cons, List.not_mem_nil, or_false, not_or] at ha
    rw [rd_setBit_ne _ _ _ ha.1, hkeep a (by simp [ha.2])]
  · rw [adaptSettled, if_pos hf]

/-! The margin scan. -/

/-- A scan begins on an enabled lane with a signal. -/
theorem marginStart_begins {d : Device} {n : Nat} (he : d.laneEna n = true) (hs : d.noSignal n = false) (hm : (d.lane n).margin = none) :
    (d.marginStart n).2 = (d.onLane n (fun l => { l with margin := some {} })).put (laneBase n + 0x4048) 0 3 1 := by
  simp [Device.marginStart, he, hs, hm]

/-- A running scan that is aborted. -/
theorem marginStop_aborts {d : Device} {n : Nat} (st : Nat) (h : (d.lane n).margin.isSome = true) :
    d.marginStop n st = (d.onLane n (fun l => { l with margin := none })).put (laneBase n + 0x4048) 0 3 st := if_pos h

/-- What a scan leaves in the lane and in MARGIN_STATUS. -/
theorem marginState_record (d : Device) (n st : Nat) (w : Option Margin) (hst : st < 8) :
    let d' := (d.onLane n (fun l => { l with margin := w })).put (laneBase n + 0x4048) 0 3 st
    (d'.lane n).margin = w ∧ d'.get (laneBase n + 0x4048) 0 3 = st ∧ KeepsBut [laneBase n + 0x4048] d d' := by
  refine ⟨?_, ?_, fun a ha => ?_⟩
  · rw [lane_put, lane_onLane]
  · rw [get_put_same _ _ _ (by decide)]; exact Nat.mod_eq_of_lt hst
  · rw [rd_put_ne _ _ _ _ (by simpa using ha), rd_onLane]

/-- MARGIN_START while a scan runs: its domain counts the refusal, and the scan goes on. -/
theorem marginStart_refused (d : Device) (m a : Nat) :
    let d' := (d.complete m {}).refused { master := m, wide := false } .range a
    d'.lanes = d.lanes ∧ tabGet {} d'.bus.done m = {} ∧ d'.rd 0x8C = wd (satAdd 32 (d.rd 0x8C).toNat 1) ∧
      KeepsBut [0x8C, 0x54, 0xB0, 0xB4] d d' := by
  refine ⟨?_, ?_, ?_, fun b hb => ?_⟩
  · rw [refused_only]; rfl
  · rw [refused_bus]; exact done_complete d m {}
  · simp [Device.refused, refuseCounter, rd_wr, rd_ev, rd_inc]
  · rw [refused_keeps _ _ a (c := 0x8C) rfl b hb]; rfl

theorem marginPoint_some {d : Device} {n : Nat} {g : Margin} (errs : Nat) (h : (d.lane n).margin = some g) :
    d.marginPoint n errs = (fun m' : Margin =>
      if m'.dir < 4 then d.onLane n (fun l => { l with margin := some m' })
      else
        (((d.onLane n (fun l => { l with margin := none })).put (laneBase n + 0x4048) 0 3 2).wr (laneBase n + 0x404C)
          (wd (m'.res.getD 0 0 + 2 ^ 8 * m'.res.getD 1 0 + 2 ^ 16 * m'.res.getD 2 0 + 2 ^ 24 * m'.res.getD 3 0))).ev
          (laneBase n + 0x4008) 13) (g.point (decide (errs ≤ d.get (laneBase n + 0x4040) 8 8))) := by
  rw [Device.marginPoint, h]

/-- A point at or below the threshold, with steps left in its direction, steps outwards. -/
theorem marginPoint_steps {d : Device} {n errs : Nat} {g : Margin} (h : (d.lane n).margin = some g) (hdir : g.dir < 4)
    (herrs : errs ≤ d.get (laneBase n + 0x4040) 8 8) (hsteps : g.steps + 1 < marginTop g.dir) :
    d.marginPoint n errs = d.setLane n { d.lane n with margin := some { g with steps := g.steps + 1 } } := by
  have hp : g.point (decide (errs ≤ d.get (laneBase n + 0x4040) 8 8)) = { g with steps := g.steps + 1 } := by
    simp [Margin.point, herrs, hsteps]
  rw [marginPoint_some errs h, hp]
  exact if_pos hdir

/-- The result of a scan that ends, its status and its event. -/
def marginEnded (d : Device) (n : Nat) (res : Word) : Device :=
  (((d.onLane n (fun l => { l with margin := none })).put (laneBase n + 0x4048) 0 3 2).wr (laneBase n + 0x404C) res).ev (laneBase n + 0x4008) 13

/-- A point above the threshold in the last direction ends the scan. -/
theorem marginPoint_ends {d : Device} {n errs a b c k : Nat} (h : (d.lane n).margin = some ⟨3, k, [a, b, c]⟩)
    (herrs : d.get (laneBase n + 0x4040) 8 8 < errs) :
    d.marginPoint n errs = marginEnded d n (wd (a + 2 ^ 8 * b + 2 ^ 16 * c + 2 ^ 24 * k)) := by
  have hp : (Margin.mk 3 k [a, b, c]).point (decide (errs ≤ d.get (laneBase n + 0x4040) 8 8)) = ⟨4, 0, [a, b, c, k]⟩ := by
    simp [Margin.point, Nat.not_le.2 herrs, b2n]
  rw [marginPoint_some errs h, hp]
  exact if_neg (by simp)

theorem marginEnded_record (d : Device) (n : Nat) (res : Word) :
    ((marginEnded d n res).lane n).margin = none ∧ (marginEnded d n res).rd (laneBase n + 0x404C) = res ∧
      (marginEnded d n res).get (laneBase n + 0x4048) 0 3 = 2 ∧ (marginEnded d n res).bit (laneBase n + 0x4008) 13 = true ∧
      KeepsBut ([0x404C, 0x4048, 0x4008].map (laneBase n + ·)) d (marginEnded d n res) := by
  refine ⟨?_, ?_, ?_, bit_ev_same _ _ (by decide), fun x hx => ?_⟩
  · rw [marginEnded, lane_ev, lane_wr, lane_put, lane_onLane]
  · rw [marginEnded, rd_ev_ne _ _ (by simp), rd_wr_same]
  · rw [marginEnded, get_of_rd (rd_ev_ne _ _ (by simp)), get_of_rd (rd_wr_ne _ _ (by simp)), get_put_same _ _ _ (by decide)]; rfl
  · simp only [List.map_cons, List.map_nil, List.mem_cons, List.not_mem_nil, or_false, not_or] at hx
    obtain ⟨h1, h2, h3⟩ := hx
    rw [marginEnded, rd_ev_ne _ _ h3, rd_wr_ne _ _ h1, rd_put_ne _ _ _ _ h2, rd_onLane]

/-- Settles O20: by what SDS_CMD does in the lane's receive domain, and how adaptation and the scan go on. -/
theorem adaptationAndMarginScan : Obligations.AdaptationAndMarginScan := by
  intro s n hlive hn
  refine ⟨fun m h hq => ⟨⟨(s.dev.complete m {}).adaptRestart n, ?_, adaptRestart_record _ n⟩, fun he hl ho hm => ?_,
      fun hm => ?_, fun hm => ?_⟩, fun he hl ho => ?_, fun g errs hg hdir herrs hsteps => ?_, fun a b c k errs hg herrs => ?_⟩
  · rw [exec_adaptRestart, exec_sdsCmd_ok h hq hn (sdsCmd_legal _ (by simp)) (sdsCmd_restart _ n)]
  · refine ⟨_, ?_, marginState_record (s.dev.complete m {}) n 1 (some {}) (by decide)⟩
    rw [exec_marginStart, exec_sdsCmd_ok h hq hn (sdsCmd_legal _ (by simp)) (sdsCmd_start (s.dev.complete m {}) n hm),
      marginStart_begins (d := s.dev.complete m {}) he (noSignal_false hl ho) hm]
  · refine ⟨_, ?_, marginStart_refused s.dev m (laneBase n + 0x4044)⟩
    rw [exec_marginStart, exec_sdsCmd h hq hn (sdsCmd_legal _ (by simp)), sdsCmd_start_running (s.dev.complete m {}) n hm, if_neg nofun]
  · refine ⟨_, ?_, marginState_record (s.dev.complete m {}) n 3 none (by decide)⟩
    rw [exec_marginAbort, exec_sdsCmd_ok h hq hn (sdsCmd_legal _ (by simp)) (sdsCmd_abort _ n),
      marginStop_aborts (d := s.dev.complete m {}) 3 hm]
  · exact ⟨_, by rw [exec_adaptDone, path_followed hlive], adaptDone_record he (noSignal_false hl ho)⟩
  · exact ⟨_, by rw [exec_marginPointDone, path_followed hlive], marginPoint_steps hg hdir herrs hsteps⟩
  · exact ⟨_, by rw [exec_marginPointDone, path_followed hlive, marginPoint_ends hg herrs], marginEnded_record _ _ _⟩

end Sys2Proof.Machine
end


section
/-! PROOFS. LOS, FREQ_OOR, LOF and LOM of a lane (R102 to R105, R111, R113, R131). -/

namespace Sys2Proof.Machine
open Sys2Proof Sys2Proof.Safety

/-! A loss of the signal: the framers leave for HUNT and a running scan ends. -/

/-- What LOS and FREQ_OOR do to the receiver besides their own registers. -/
def receptionLost (d : Device) (n : Nat) : Device := (d.framersDrop n).marginStop n 4

theorem rd_receptionLost_ne (d : Device) (n : Nat) {a : Nat} (he : a ≠ laneBase n + 0x4008) (hm : a ≠ laneBase n + 0x4048) :
    (receptionLost d n).rd a = d.rd a := by
  rw [receptionLost, rd_marginStop_ne _ _ _ hm, rd_framersDrop_ne _ _ he]

theorem lane_receptionLost (d : Device) (n : Nat) :
    ((receptionLost d n).lane n).sdh.st = .hunt ∧ ((receptionLost d n).lane n).margin = none := by
  have hlane : (receptionLost d n).lane n = { (d.framersDrop n).lane n with margin := none } := (lane_marginStop _ n 4).1
  rw [hlane]
  exact ⟨by rw [(lane_framersDrop d n).1]; rfl, rfl⟩

/-- An event that is set stays set: the framers only add theirs. -/
theorem bit_when_ev_mono {d : Device} {c : Bool} {a b i j : Nat} (hi : i < 32) (hj : j < 32) (h : d.bit a i = true) :
    (d.when c (·.ev b j)).bit a i = true := by
  cases c with
  | true => exact bit_ev_mono j hi hj h
  | false => exact h

theorem bit_framersDrop_mono {d : Device} {n a i : Nat} (hi : i < 32) (h : d.bit a i = true) : (d.framersDrop n).bit a i = true := by
  rw [Device.framersDrop, bit_of_rd (rd_phaseLost _ _ _), bit_of_rd (rd_onLane _ _ _ _)]
  exact bit_when_ev_mono hi (by decide) (bit_when_ev_mono hi (by decide) h)

theorem event_receptionLost {d : Device} {n i : Nat} (hi : i < 32) (h : d.bit (laneBase n + 0x4008) i = true) :
    (receptionLost d n).bit (laneBase n + 0x4008) i = true := by
  rw [receptionLost, bit_of_rd (rd_marginStop_ne _ _ _ (by simp))]
  exact bit_framersDrop_mono hi h

theorem bit_receptionLost (d : Device) (n i : Nat) : (receptionLost d n).bit (laneBase n + 0x4000) i = d.bit (laneBase n + 0x4000) i :=
  bit_of_rd (rd_receptionLost_ne d n (by simp) (by simp)) i

/-! LOS and FREQ_OOR. -/

theorem losDeclare_loses {d : Device} {n : Nat} (hr : (d.lane n).rxOn = true) (hl : d.bit (laneBase n + 0x4000) 0 = false)
    (hloop : d.looped n = false) :
    d.losDeclare n = receptionLost (((((d.setBit (laneBase n + 0x4000) 0 true).setBit (laneBase n + 0x4000) 1 false).setBit
      (laneBase n + 0x4000) 9 false).wr (laneBase n + 0x4030) 0).ev (laneBase n + 0x4008) 0) n := by
  rw [Device.losDeclare, if_pos (by simp [Device.rxOn, hr, hl, hloop]), receptionLost]

theorem losDeclare_record {d d' : Device} {n : Nat} (h : d' = receptionLost (((((d.setBit (laneBase n + 0x4000) 0 true).setBit
      (laneBase n + 0x4000) 1 false).setBit (laneBase n + 0x4000) 9 false).wr (laneBase n + 0x4030) 0).ev (laneBase n + 0x4008) 0) n) :
    d'.bit (laneBase n + 0x4000) 0 = true ∧ d'.bit (laneBase n + 0x4000) 1 = false ∧ d'.bit (laneBase n + 0x4000) 9 = false ∧
      d'.rd (laneBase n + 0x4030) = 0 ∧ d'.bit (laneBase n + 0x4008) 0 = true ∧ (d'.lane n).sdh.st = .hunt ∧
      (d'.lane n).margin = none := by
  have hbit : ∀ i, d'.bit (laneBase n + 0x4000) i = (((d.setBit (laneBase n + 0x4000) 0 true).setBit (laneBase n + 0x4000) 1 false).setBit
      (laneBase n + 0x4000) 9 false).bit (laneBase n + 0x4000) i := fun i => by
    rw [h, bit_receptionLost, bit_of_rd (rd_ev_ne _ _ (by simp)), bit_of_rd (rd_wr_ne _ _ (by simp))]
  refine ⟨?_, ?_, ?_, ?_, ?_, h ▸ lane_receptionLost _ n⟩
  · rw [hbit, bit_setBit_ne _ _ (by decide) (by decide), bit_setBit_ne _ _ (by decide) (by decide), bit_setBit_same _ _ _ (by decide)]
  · rw [hbit, bit_setBit_ne _ _ (by decide) (by decide), bit_setBit_same _ _ _ (by decide)]
  · rw [hbit, bit_setBit_same _ _ _ (by decide)]
  · rw [h, rd_receptionLost_ne _ _ (by simp) (by simp), rd_ev_ne _ _ (by simp), rd_wr_same]
  · rw [h, event_receptionLost (by decide) (bit_ev_same _ _ (by decide))]

theorem oorDeclare_loses {d : Device} {n : Nat} {off : Int} (hr : (d.lane n).rxOn = true) (hl : d.bit (laneBase n + 0x4000) 0 = false)
    (hoff : 10000 < off.natAbs) (hloop : d.looped n = false) :
    d.oorDeclare n off = receptionLost ((((d.setBit (laneBase n + 0x4000) 1 true).setBit (laneBase n + 0x4000) 9 false).wr
      (laneBase n + 0x4030) (wd (unsigned 32 off))).ev (laneBase n + 0x4008) 1) n := by
  rw [Device.oorDeclare, if_pos (by simp [Device.rxOn, hr, hl, hloop, hoff]), receptionLost]

theorem oorDeclare_record {d d' : Device} {n : Nat} {v : Word} (h : d' = receptionLost ((((d.setBit (laneBase n + 0x4000) 1 true).setBit
      (laneBase n + 0x4000) 9 false).wr (laneBase n + 0x4030) v).ev (laneBase n + 0x4008) 1) n) :
    d'.bit (laneBase n + 0x4000) 1 = true ∧ d'.rd (laneBase n + 0x4030) = v ∧ d'.bit (laneBase n + 0x4008) 1 = true ∧
      (d'.lane n).sdh.st = .hunt := by
  refine ⟨?_, ?_, ?_, h ▸ (lane_receptionLost _ n).1⟩
  · rw [h, bit_receptionLost, bit_of_rd (rd_ev_ne _ _ (by simp)), bit_of_rd (rd_wr_ne _ _ (by simp)),
      bit_setBit_ne _ _ (by decide) (by decide), bit_setBit_same _ _ _ (by decide)]
  · rw [h, rd_receptionLost_ne _ _ (by simp) (by simp), rd_ev_ne _ _ (by simp), rd_wr_same]
  · rw [h, event_receptionLost (by decide) (bit_ev_same _ _ (by decide))]

theorem oorClear_clears {d : Device} {n : Nat} {off : Int} (hr : (d.lane n).rxOn = true) (hl : d.bit (laneBase n + 0x4000) 0 = false)
    (hoff : off.natAbs ≤ 8000) :
    d.oorClear n off = (d.setBit (laneBase n + 0x4000) 1 false).wr (laneBase n + 0x4030) (wd (unsigned 32 off)) := by
  rw [Device.oorClear, if_pos (by simp [Device.rxOn, hr, hl, hoff])]

theorem oorCleared_record (d : Device) (n : Nat) (v : Word) :
    let d' := (d.setBit (laneBase n + 0x4000) 1 false).wr (laneBase n + 0x4030) v
    d'.bit (laneBase n + 0x4000) 1 = false ∧ d'.rd (laneBase n + 0x4030) = v ∧
      Only [laneBase n + 0x4000, laneBase n + 0x4030] d d' := by
  refine ⟨?_, rd_wr_same _ _ _, ((OnlyRegs.refl d).setBit _ _ _).wr _ _, fun a ha => ?_⟩
  · rw [bit_of_rd (rd_wr_ne _ _ (by simp)), bit_setBit_same _ _ _ (by decide)]
  · simp only [List.mem_cons, List.not_mem_nil, or_false, not_or] at ha
    rw [rd_wr_ne _ _ ha.2, rd_setBit_ne _ _ _ ha.1]

/-! LOF and LOM. -/

/-- A defect bit of RX_STATUS is set, with its event when it was 0. -/
def defectDeclared (d : Device) (n i : Nat) : Device :=
  (d.setBit (laneBase n + 0x4000) i true).when (!d.bit (laneBase n + 0x4000) i) (·.ev (laneBase n + 0x4008) i)

theorem defectDeclared_record (d : Device) (n : Nat) {i : Nat} (hi : i < 32) :
    (defectDeclared d n i).bit (laneBase n + 0x4000) i = true ∧
      (d.bit (laneBase n + 0x4000) i = false → (defectDeclared d n i).bit (laneBase n + 0x4008) i = true) ∧
      Only [laneBase n + 0x4000, laneBase n + 0x4008] d (defectDeclared d n i) := by
  refine ⟨?_, fun h => ?_, ((OnlyRegs.refl d).setBit _ _ _).when ?_, fun a ha => ?_⟩
  · rw [defectDeclared, bit_of_rd (rd_when_ev_ne _ _ _ (by simp)), bit_setBit_same _ _ _ hi]
  · rw [defectDeclared, h]; exact bit_ev_same _ _ hi
  · exact ((OnlyRegs.refl d).setBit _ _ _).ev _ _
  · simp only [List.mem_cons, List.not_mem_nil, or_false, not_or] at ha
    rw [defectDeclared, rd_when_ev_ne _ _ _ ha.2, rd_setBit_ne _ _ _ ha.1]

theorem defectCleared_record (d : Device) (n : Nat) {i : Nat} (hi : i < 32) :
    (d.setBit (laneBase n + 0x4000) i false).bit (laneBase n + 0x4000) i = false ∧
      Only [laneBase n + 0x4000] d (d.setBit (laneBase n + 0x4000) i false) :=
  ⟨bit_setBit_same _ _ _ hi, (OnlyRegs.refl d).setBit _ _ _, fun a ha => rd_setBit_ne _ _ _ (by simpa using ha)⟩

theorem lofBit_lt (otu : Bool) : (if otu then 5 else 3) < 32 := by cases otu <;> decide

theorem lofDeclare_declares {d : Device} {n : Nat} {otu : Bool} (he : d.laneEna n = true)
    (h : if otu then d.isOtu n = true ∧ (d.lane n).otu.st ≠ .sync else (d.lane n).sdh.st ≠ .sync) :
    d.lofDeclare n otu = defectDeclared d n (if otu then 5 else 3) := by
  refine if_pos ?_
  cases otu with
  | true => obtain ⟨ho, hs⟩ : d.isOtu n = true ∧ (d.lane n).otu.st ≠ .sync := h; simp [he, ho, hs]
  | false => have hs : (d.lane n).sdh.st ≠ .sync := h; simp [he, hs]

theorem lofClear_clears {d : Device} {n : Nat} {otu : Bool} (h : (if otu then (d.lane n).otu.st else (d.lane n).sdh.st) = .sync) :
    d.lofClear n otu = d.setBit (laneBase n + 0x4000) (if otu then 5 else 3) false := by
  refine if_pos ?_
  cases otu with
  | true => have hs : (d.lane n).otu.st = .sync := h; simp [hs]
  | false => have hs : (d.lane n).sdh.st = .sync := h; simp [hs]

theorem otuLomDeclare_declares {d : Device} {n : Nat} (he : d.laneEna n = true) (ho : d.isOtu n = true)
    (hoom : d.bit (laneBase n + 0x4000) 6 = true) : d.otuLomDeclare n = defectDeclared d n 7 :=
  if_pos (by rw [he, ho, hoom]; rfl)

theorem otuLomClear_clears {d : Device} {n : Nat} (hoom : d.bit (laneBase n + 0x4000) 6 = false) :
    d.otuLomClear n = d.setBit (laneBase n + 0x4000) 7 false :=
  if_neg (by rw [hoom]; nofun)

/-- Settles O21: each defect by what its declaration or its clearing writes. -/
theorem signalAndFramingDefectsOfALane : Obligations.SignalAndFramingDefectsOfALane := by
  intro s n hlive hn
  refine ⟨fun hr hl hloop => ?_, ?_, fun off hr hl => ⟨fun hoff hloop => ?_, fun hoff => ?_⟩, fun otu he h => ?_, fun otu h => ?_,
    fun he ho hoom => ?_, fun hoom => ?_⟩
  · exact ⟨_, by rw [exec_losDeclare, path_followed hlive, losDeclare_loses hr hl hloop], losDeclare_record rfl⟩
  · exact ⟨_, by rw [exec_losClear, path_followed hlive, Device.losClear], defectCleared_record s.dev n (by decide)⟩
  · exact ⟨_, by rw [exec_freqOorDeclare, path_followed hlive, oorDeclare_loses hr hl hoff hloop], oorDeclare_record rfl⟩
  · exact ⟨_, by rw [exec_freqOorClear, path_followed hlive, oorClear_clears hr hl hoff], oorCleared_record s.dev n _⟩
  · exact ⟨_, by rw [exec_lofDeclare, path_followed hlive, lofDeclare_declares he h], defectDeclared_record s.dev n (lofBit_lt otu)⟩
  · exact ⟨_, by rw [exec_lofClear, path_followed hlive, lofClear_clears h], defectCleared_record s.dev n (lofBit_lt otu)⟩
  · exact ⟨_, by rw [exec_otuLomDeclare, path_followed hlive, otuLomDeclare_declares he ho hoom], defectDeclared_record s.dev n (by decide)⟩
  · exact ⟨_, by rw [exec_otuLomClear, path_followed hlive, otuLomClear_clears hoom], defectCleared_record s.dev n (by decide)⟩

end Sys2Proof.Machine
end


section
/-! PROOFS. The transmitted frame of a lane and its overhead relay (R141 to R151). -/

namespace Sys2Proof.Machine
open Sys2Proof Sys2Proof.Safety

/-! The transmitter. -/

theorem rd_txSend (d : Device) (n : Nat) (o : TxOh) (a : Nat) : (d.txSend n o).rd a = d.rd a := rd_onLane d n _ a

/-- A frame that leaves carries its overhead and counts; the relay queue is as it was. -/
theorem lane_txSend (d : Device) (n : Nat) (o : TxOh) :
    ((d.txSend n o).lane n).tx = o ∧ ((d.txSend n o).lane n).txFrame = (d.lane n).txFrame + 1 ∧
      ((d.txSend n o).lane n).relayTx = (d.lane n).relayTx ∧ ∀ k, k ≠ n → (d.txSend n o).lane k = d.lane k := by
  refine ⟨?_, ?_, ?_, fun k hk => by rw [Device.txSend, lane_onLane_ne _ _ hk]⟩ <;> rw [Device.txSend, lane_onLane]

/-- The queue gives up a frame, or the relay counts an underrun: what is being sent stays. -/
theorem relayTaken_record (d : Device) (n : Nat) :
    (∃ q, (d.relayTaken n).lane n = { d.lane n with relayTx := q }) ∧ (∀ k, k ≠ n → (d.relayTaken n).lane k = d.lane k) ∧
      KeepsBut [laneBase n + 0xA4, laneBase n + 0x18] d (d.relayTaken n) := by
  rw [Device.relayTaken]
  split
  · exact ⟨⟨_, lane_onLane _ _ _⟩, fun _ hk => lane_onLane_ne _ _ hk, fun a _ => rd_onLane _ _ _ a⟩
  · refine ⟨⟨(d.lane n).relayTx, by rw [lane_ev, lane_inc]⟩, fun k _ => by rw [lane_ev, lane_inc], fun a ha => ?_⟩
    simp only [List.mem_cons, List.not_mem_nil, or_false, not_or] at ha
    rw [rd_ev_ne _ _ ha.2, rd_inc_ne _ ha.1]

/-- An empty queue has no bytes for a frame: the underrun counts. -/
theorem relayTaken_underrun {d : Device} {n : Nat} (h : (d.lane n).relayTx = []) :
    d.relayTaken n = (d.inc (laneBase n + 0xA4)).ev (laneBase n + 0x18) 2 := by
  simp only [Device.relayTaken, h]

/-- The relay gives this frame its bytes: it is on, with a selection. -/
def relayFeeds (d : Device) (n : Nat) : Bool := d.bit (laneBase n + 0x90) 1 && !(d.ohSelected n).isEmpty

/-- The overhead of the next frame of a lane. -/
def frameOverhead (d : Device) (n : Nat) : TxOh :=
  { d.txOverhead n with relay := if relayFeeds d n then d.relayBytes n else (d.txOverhead n).relay }

theorem laneTxFrame_on {d : Device} {n : Nat} (h : (d.lane n).txOn = true) :
    d.laneTxFrame n = (d.txSend n (frameOverhead d n)).when (relayFeeds d n) (·.relayTaken n) := by
  have hfed : d.laneTxFrame n = if relayFeeds d n then (d.txSend n { d.txOverhead n with relay := d.relayBytes n }).relayTaken n
      else d.txSend n (d.txOverhead n) := if_pos h
  rw [hfed, frameOverhead]
  cases relayFeeds d n with
  | true => rfl
  | false => rfl

theorem laneTxFrame_record {d : Device} {n : Nat} (h : (d.lane n).txOn = true) :
    ((d.laneTxFrame n).lane n).tx = frameOverhead d n ∧ ((d.laneTxFrame n).lane n).txFrame = (d.lane n).txFrame + 1 ∧
      KeepsBut [laneBase n + 0xA4, laneBase n + 0x18] d (d.laneTxFrame n) ∧ ∀ k, k ≠ n → (d.laneTxFrame n).lane k = d.lane k := by
  obtain ⟨htx, hcount, -, hother⟩ := lane_txSend d n (frameOverhead d n)
  have hsend : KeepsBut [laneBase n + 0xA4, laneBase n + 0x18] d (d.txSend n (frameOverhead d n)) := fun a _ => rd_txSend d n _ a
  rw [laneTxFrame_on h]
  cases relayFeeds d n with
  | false => exact ⟨htx, hcount, hsend, hother⟩
  | true =>
    obtain ⟨⟨q, hlane⟩, htaken, hkeep⟩ := relayTaken_record (d.txSend n (frameOverhead d n)) n
    refine ⟨?_, ?_, hsend.trans hkeep, fun k hk => (htaken k hk).trans (hother k hk)⟩
    · exact (congrArg LaneSt.tx hlane).trans htx
    · exact (congrArg LaneSt.txFrame hlane).trans hcount

theorem laneTxFrame_off {d : Device} {n : Nat} (h : (d.lane n).txOn = false) :
    d.laneTxFrame n = d.setLane n { d.lane n with tx := {}, txb := { (d.lane n).txb with line := [] } } := by
  rw [Device.laneTxFrame, if_neg (by simp [h])]; rfl

/-- K1 and K2 without a forced pattern are the register's. -/
theorem kOut_register {d : Device} {n : Nat} (hsrc : d.bit (laneBase n + 0x24) 0 = false) (hforce : d.bit (laneBase n + 0x30) 1 = false)
    (hrdi : d.bit (laneBase n + 0x4058) 3 = false) : d.kOut n = d.get (laneBase n + 0x28) 0 16 := by
  rw [Device.kOut, hsrc, hforce, hrdi]; rfl

/-- Two bytes spell the number they are cut from. -/
theorem twoBytes {k : Nat} (h : k < 2 ^ 16) : (BitVec.ofNat 8 (k / 256)).toNat * 256 + (BitVec.ofNat 8 k).toNat = k := by
  simp only [BitVec.toNat_ofNat]; omega

theorem laneTxFrame_underrun {d : Device} {n : Nat} (h : (d.lane n).txOn = true) (hena : d.bit (laneBase n + 0x90) 1 = true)
    (hsel : d.ohSelected n ≠ []) (hq : (d.lane n).relayTx = []) :
    ((d.laneTxFrame n).lane n).tx.relay = (d.ohSelected n).map (fun w => BitVec.ofNat 8 (fld w 24 8)) ∧
      (d.laneTxFrame n).rd (laneBase n + 0xA4) = wd (satAdd 32 (d.rd (laneBase n + 0xA4)).toNat 1) ∧
      (d.laneTxFrame n).bit (laneBase n + 0x18) 2 = true := by
  have hf : relayFeeds d n = true := by simp [relayFeeds, hena, hsel]
  obtain ⟨-, -, hqueue, -⟩ := lane_txSend d n (frameOverhead d n)
  have hempty : ((d.txSend n (frameOverhead d n)).lane n).relayTx = [] := hqueue.trans hq
  have hend : d.laneTxFrame n = ((d.txSend n (frameOverhead d n)).inc (laneBase n + 0xA4)).ev (laneBase n + 0x18) 2 := by
    rw [laneTxFrame_on h, hf, ← relayTaken_underrun hempty]; rfl
  refine ⟨?_, ?_, ?_⟩
  · obtain ⟨htx, -⟩ := laneTxFrame_record h
    rw [htx, frameOverhead, hf, if_pos rfl, Device.relayBytes, hq]
  · rw [hend, rd_ev_ne _ _ (by simp), rd_inc, if_pos rfl, rd_txSend]
  · rw [hend, bit_ev_same _ _ (by decide)]

/-! The records of the relay. -/

/-- The receive record a lane has collected. -/
def collected (d : Device) (n : Nat) : List Byte :=
  rxRecord n (d.lane n).relaySeq ((d.lane n).relayBuf.take 16) (d.lane n).relayOof (d.lane n).relayGap

/-- The record in the lane's window. -/
def recordShown (d : Device) (n : Nat) : Device :=
  d.wrs (laneBase n + 0x3000) (bytesWords (collected d n ++ List.replicate (208 - (collected d n).length) 0))

theorem rd_recordShown (d : Device) (n : Nat) {o : Nat} (h : o < 0x3000) : (recordShown d n).rd (laneBase n + o) = d.rd (laneBase n + o) :=
  rd_wrs_out _ _ _ _ (.inl (by omega))

theorem lane_recordShown (d : Device) (n k : Nat) : (recordShown d n).lane k = d.lane k := by
  rw [recordShown, lane_of_lanes]
  rw [(OnlyRegs.refl d).wrs]

theorem porchUp_recordShown (d : Device) (n : Nat) : (recordShown d n).porchUp = d.porchUp := by
  rw [Device.porchUp, Device.porchUp, get_of_rd]
  exact rd_wrs_out _ _ _ _ (.inl (by unfold laneBase; omega))

/-- Sixteen frames make a record, which joins the queue or is lost. -/
theorem relayBuild_full {d : Device} {n : Nat} (hena : d.bit (laneBase n + 0x90) 0 = true) (hlen : 16 ≤ (d.lane n).relayBuf.length) :
    d.relayBuild n = if d.porchUp && decide ((d.lane n).relayRx.length < 4) then
        (recordShown d n).onLane n (fun x => { x with
          relayBuf := [], relayOof := false, relayGap := false, relayRx := x.relayRx ++ [collected d n] })
      else (((recordShown d n).onLane n (fun x => { x with relayBuf := [], relayOof := false, relayGap := true })).inc
        (laneBase n + 0xA0)).ev (laneBase n + 0x18) 1 := by
  rw [Device.relayBuild, if_pos (by simp [hena, hlen]), ← porchUp_recordShown d n]
  rfl

theorem relayBuild_queues {d : Device} {n : Nat} (hena : d.bit (laneBase n + 0x90) 0 = true) (hlen : 16 ≤ (d.lane n).relayBuf.length)
    (hup : d.porchUp = true) (hq : (d.lane n).relayRx.length < 4) :
    d.relayBuild n = (recordShown d n).onLane n (fun x => { x with
      relayBuf := [], relayOof := false, relayGap := false, relayRx := x.relayRx ++ [collected d n] }) := by
  rw [relayBuild_full hena hlen, if_pos (by simp [hup, hq])]

theorem relayBuild_loses {d : Device} {n : Nat} (hena : d.bit (laneBase n + 0x90) 0 = true) (hlen : 16 ≤ (d.lane n).relayBuf.length)
    (h : d.porchUp = false ∨ 4 ≤ (d.lane n).relayRx.length) :
    d.relayBuild n = (((recordShown d n).onLane n (fun x => { x with relayBuf := [], relayOof := false, relayGap := true })).inc
      (laneBase n + 0xA0)).ev (laneBase n + 0x18) 1 := by
  rw [relayBuild_full hena hlen, if_neg]
  rcases h with h | h
  · simp [h]
  · simp [Nat.not_lt.2 h]

theorem relayBuild_record {d : Device} {n : Nat} (hena : d.bit (laneBase n + 0x90) 0 = true) (hlen : 16 ≤ (d.lane n).relayBuf.length) :
    ((d.relayBuild n).lane n).relayBuf = [] ∧
      (d.porchUp = true → (d.lane n).relayRx.length < 4 →
        ((d.relayBuild n).lane n).relayRx.length = (d.lane n).relayRx.length + 1 ∧ ((d.relayBuild n).lane n).relayGap = false ∧
          (d.relayBuild n).rd (laneBase n + 0xA0) = d.rd (laneBase n + 0xA0)) ∧
      (d.porchUp = false ∨ 4 ≤ (d.lane n).relayRx.length →
        ((d.relayBuild n).lane n).relayRx = (d.lane n).relayRx ∧ ((d.relayBuild n).lane n).relayGap = true ∧
          (d.relayBuild n).rd (laneBase n + 0xA0) = wd (satAdd 32 (d.rd (laneBase n + 0xA0)).toNat 1) ∧
          (d.relayBuild n).bit (laneBase n + 0x18) 1 = true) := by
  refine ⟨?_, fun hup hq => ?_, fun h => ?_⟩
  · by_cases h : d.porchUp = false ∨ 4 ≤ (d.lane n).relayRx.length
    · rw [relayBuild_loses hena hlen h, lane_ev, lane_inc, lane_onLane]
    · obtain ⟨hup, hq⟩ := not_or.1 h
      rw [relayBuild_queues hena hlen (by simpa using hup) (by omega), lane_onLane]
  · rw [relayBuild_queues hena hlen hup hq, lane_onLane, rd_onLane, rd_recordShown d n (by decide), lane_recordShown]
    exact ⟨by simp, rfl, rfl⟩
  · rw [relayBuild_loses hena hlen h, lane_ev, lane_inc, lane_onLane, rd_ev_ne _ _ (by simp), rd_inc, if_pos rfl, rd_onLane,
      rd_recordShown d n (by decide), lane_recordShown]
    exact ⟨rfl, rfl, rfl, bit_ev_same _ _ (by decide)⟩

/-! OH_TX_PUSH. -/

theorem rds_succ (d : Device) (a k : Nat) : d.rds a (k + 1) = d.rd a :: d.rds (a + 4) k := by
  simp only [Device.rds, List.range_succ_eq_map, List.map_cons, List.map_map, Function.comp_def, Nat.mul_zero, Nat.add_zero, Nat.mul_succ,
    Nat.add_assoc, Nat.add_comm 4]

/-- The transmit record in the lane's window. -/
def pushed (d : Device) (n : Nat) : List Byte := (d.rds (laneBase n + 0x3100) 52).flatMap wordBytes

/-- The bytes of a record that OH_TX_PUSH judges: its version, its bytes per frame, its number of frames (R151). -/
theorem pushed_header (d : Device) (n : Nat) :
    (pushed d n).getD 0 0 = BitVec.ofNat 8 (d.get (laneBase n + 0x3100) 24 8) ∧
      ((pushed d n).getD 3 0).toNat = d.get (laneBase n + 0x3100) 0 8 ∧
      ((pushed d n).getD 8 0).toNat = d.get (laneBase n + 0x3108) 24 8 := by
  rw [pushed, rds_succ d _ 51, rds_succ d _ 50, rds_succ d _ 49]
  refine ⟨?_, ?_, ?_⟩ <;> simp [wordBytes, Device.get, fld, Nat.shiftRight_eq_div_pow]
  · apply BitVec.eq_of_toNat_eq; simp

/-- With a full queue a push is refused and counted. -/
theorem ohTxPush_refused {d : Device} {n : Nat} (hena : d.bit (laneBase n + 0x90) 1 = true) (hq : 4 ≤ (d.lane n).relayTx.length) :
    d.ohTxPush n = (.range, (d.inc (laneBase n + 0xA8)).ev (laneBase n + 0x18) 3) := by
  rw [Device.ohTxPush, if_pos hena]
  exact if_pos (.inl hq)

/-- The frames of a record: each the bytes of the selections. -/
def framesOf (rec : List Byte) (frames bytes : Nat) : List (List Byte) :=
  (List.range frames).map (fun f => (List.range bytes).map (fun b => rec.getD (16 + f * bytes + b) 0))

theorem framesOf_lengths (rec : List Byte) (frames bytes : Nat) :
    (framesOf rec frames bytes).length = frames ∧ ∀ f ∈ framesOf rec frames bytes, f.length = bytes := by
  simp +contextual [framesOf]

/-- A well-formed record joins a queue with room. -/
theorem ohTxPush_queues {d : Device} {n : Nat} (hena : d.bit (laneBase n + 0x90) 1 = true) (hq : (d.lane n).relayTx.length < 4)
    (hver : d.get (laneBase n + 0x3100) 24 8 = 1) (hbytes : d.get (laneBase n + 0x3100) 0 8 = (d.ohSelected n).length)
    (hlow : 1 ≤ d.get (laneBase n + 0x3108) 24 8) (hhigh : d.get (laneBase n + 0x3108) 24 8 ≤ 16) :
    d.ohTxPush n = (.ok, d.onLane n (fun l => { l with
      relayTx := l.relayTx ++ [framesOf (pushed d n) (d.get (laneBase n + 0x3108) 24 8) (d.ohSelected n).length] })) := by
  obtain ⟨h0, h3, h8⟩ := pushed_header d n
  rw [hver] at h0
  rw [Device.ohTxPush, if_pos hena, ← pushed, Device.relayPush, h0, h3, h8, hbytes]
  exact if_neg (by simp; omega)

theorem applyLane_ohTxPush (d : Device) (n a : Nat) (r : RegRow) : d.applyLane n a 0x94 r 1 = d.ohTxPush n := by
  rw [Device.applyLane, if_neg (by decide), if_pos rfl, if_pos (by decide)]

section
variable {s : State} {m n : Nat} (h : Ready s m) (hn : n < 64)
include h hn

theorem exec_ohTxPush_refused (hena : s.dev.bit (laneBase n + 0x90) 1 = true) (hq : 4 ≤ (s.dev.lane n).relayTx.length) :
    exec (.ohTxPush m n) s = .next (after s ((((s.dev.inc (laneBase n + 0xA8)).ev (laneBase n + 0x18) 3).refused
      { master := m, wide := false } .range (laneBase n + 0x94)).complete m { status := .range })) := by
  rw [exec_ohTxPush, exec_laneWrite_refused h hn (by decide) (by decide) (rowAt_ohTxPush n) rfl (.inr rfl)
    (refusal_laneCommand rfl (.inr (by decide)) (bitRow_legal _)) ((applyLane_ohTxPush _ _ _ _).trans (ohTxPush_refused hena hq)) nofun]

theorem exec_ohTxPush_ok {d : Device} (he : s.dev.ohTxPush n = (.ok, d)) :
    exec (.ohTxPush m n) s = .next (acceptedFollowed s m d) := by
  have hcov : (bitRow 0x94).cov = false := rfl
  rw [exec_ohTxPush, exec_laneWrite h hn (by decide) (by decide) (rowAt_ohTxPush n) rfl (.inr rfl)
    (refusal_laneCommand rfl (.inr (by decide)) (bitRow_legal _)) ((applyLane_ohTxPush _ _ _ _).trans he), hcov, if_neg nofun]

end

theorem irqSettle_lanes (d0 d : Device) : (irqSettle d0 d).lanes = d.lanes := by
  unfold irqSettle
  split
  · rfl
  · split
    · rfl
    · rfl

theorem complete_lanes (d : Device) (m : Nat) (c : Completion) : (d.complete m c).lanes = d.lanes := rfl
theorem refused_lanes (d : Device) (x : Access) (st : Status) (a : Nat) : (d.refused x st a).lanes = d.lanes := by rw [refused_only]

/-- A refused push: the lanes stay, the refusal is counted, and the master gets RANGE. -/
theorem ohTxPush_refused_record (s : State) (m n : Nat) :
    let t := after s ((((s.dev.inc (laneBase n + 0xA8)).ev (laneBase n + 0x18) 3).refused
      { master := m, wide := false } .range (laneBase n + 0x94)).complete m { status := .range })
    t.dev.lanes = s.dev.lanes ∧ t.dev.rd (laneBase n + 0xA8) = wd (satAdd 32 (s.dev.rd (laneBase n + 0xA8)).toNat 1) ∧
      tabGet {} t.dev.bus.done m = { status := .range } := by
  refine ⟨?_, ?_, ?_⟩
  · rw [after, irqSettle_lanes, complete_lanes, refused_lanes]; rfl
  · rw [after, rd_irqSettle, rd_complete, rd_refused _ _ _ _ (by unfold laneBase; omega), rd_ev_ne _ _ (by simp), rd_inc, if_pos rfl]
  · rw [after, irqSettle_bus, done_complete]

/-- Settles O23: by what a frame that leaves carries, and what the relay does with its records. -/
theorem laneTransmitsItsOverheadAndRelay : Obligations.LaneTransmitsItsOverheadAndRelay := by
  intro s n hlive hn
  refine ⟨fun h => ?_, fun h => ?_, fun hena hlen => ?_, fun m hm hena hq => ?_, fun m hm hena hq hver hbytes hlow hhigh => ?_⟩
  · obtain ⟨htx, hcount, hkeep, hother⟩ := laneTxFrame_record h
    refine ⟨_, by rw [exec_laneTxFrame, path_followed hlive], ?_, hcount, fun hs => ?_, fun hsrc hforce hrdi => ?_,
      fun hena hsel hq => laneTxFrame_underrun h hena hsel hq, hkeep, hother⟩
    · rw [htx]; rfl
    · rw [htx, frameOverhead, Device.txOverhead, hs]; rfl
    · rw [htx, ← kOut_register hsrc hforce hrdi]
      exact twoBytes (by rw [kOut_register hsrc hforce hrdi]; exact fld_lt _ _ _)
  · exact ⟨_, by rw [exec_laneTxFrame, path_followed hlive], laneTxFrame_off h⟩
  · exact ⟨_, by rw [exec_ohRxRecordBuild, path_followed hlive], relayBuild_record hena hlen⟩
  · exact ⟨_, exec_ohTxPush_refused hm hn hena hq, ohTxPush_refused_record s m n⟩
  · obtain ⟨hcount, hbyte⟩ := framesOf_lengths (pushed s.dev n) (s.dev.get (laneBase n + 0x3108) 24 8) (s.dev.ohSelected n).length
    refine ⟨_, _, exec_ohTxPush_ok hm hn (ohTxPush_queues hena hq hver hbytes hlow hhigh), ?_, hcount, hbyte, rfl⟩
    rw [lane_onLane]

end Sys2Proof.Machine
end


section
/-! SUPPORT. The counters of a lane through everything that follows the reported defects. -/

namespace Sys2Proof.Machine
open Sys2Proof Sys2Proof.Safety

/-- The registers of the lanes but their DEF_EVENT words. -/
def LaneWord (a : Nat) : Prop := 0x100000 ≤ a ∧ a < 0x500000 ∧ a % 0x10000 ≠ 0x405C

theorem not_laneWord_of_lt {a : Nat} (h : a < 0x100000) : ¬LaneWord a := fun ⟨h1, _, _⟩ => by omega
theorem not_laneWord_of_le {a : Nat} (h : 0x500000 ≤ a) : ¬LaneWord a := fun ⟨_, h2, _⟩ => by omega
theorem not_laneWord_defEvent (n : Nat) : ¬LaneWord (laneBase n + 0x405C) := fun ⟨_, _, h3⟩ => h3 (by unfold laneBase; omega)
theorem not_laneWord_slice (s o : Nat) : ¬LaneWord (sliceBase s + o) := not_laneWord_of_le (by unfold sliceBase; omega)
theorem not_laneWord_ho (h o : Nat) : ¬LaneWord (hoBase h + o) := not_laneWord_of_le (by unfold hoBase; omega)
theorem not_laneWord_tc (k o : Nat) : ¬LaneWord (tcBase k + o) := not_laneWord_of_le (by unfold tcBase; omega)
theorem not_laneWord_sel (i o : Nat) : ¬LaneWord (selBase i + o) := not_laneWord_of_le (by unfold selBase; omega)
/-- RING_TRIG names one of 256 rings. -/
theorem not_laneWord_ring (w : Word) (lo : Nat) : ¬LaneWord (ringBase (fld w lo 8) + 8) :=
  not_laneWord_of_lt (by have := fld_lt w lo 8; unfold ringBase; omega)

theorem KeptOn.when {S : Nat → Prop} {d d' : Device} (h : KeptOn S d d') {c : Bool} {f : Device → Device} (hf : KeptOn S d' (f d')) :
    KeptOn S d (d'.when c f) := by
  cases c
  · exact h
  · exact h.trans hf

/-- The lanes' words of two devices are the same. -/
abbrev LaneWordsKept : Device → Device → Prop := KeptOn LaneWord

theorem sfSet_kept (d : Device) (l : SfLayer) (sd : Bool) (x : SfSd) (S : Nat → Prop) : KeptOn S d (d.sfSet l sd x) := by
  cases l <;> exact .of_regs rfl

theorem sfClose_kept (d : Device) (l : SfLayer) : LaneWordsKept d (d.sfClose l) := by
  refine .foldl _ (fun e sd _ => ?_) d
  split
  · exact .refl _ e
  · exact sfSet_kept e l sd {} _

theorem cliHold_kept (d : Device) (j : Nat) : LaneWordsKept d (d.cliHold j) := by
  unfold Device.cliHold
  split
  · exact .refl _ d
  · exact .of_regs rfl

theorem followUp_kept (d : Device) (kind idx : Nat) (now changed ena : Word) : LaneWordsKept d (d.followUp kind idx now changed ena) := by
  unfold Device.followUp
  split
  · split
    · exact ((KeptOn.refl _ d).inc (not_laneWord_of_lt (by decide))).ev _ (not_laneWord_of_lt (by decide))
    · exact .of_regs rfl
  · exact .refl _ d

theorem ringDeclared_kept (d : Device) (capture : Word) (sel : Nat) : LaneWordsKept d (d.ringDeclared capture sel) := by
  have hring := not_laneWord_ring capture 8
  unfold Device.ringDeclared
  split
  · unfold Device.ringTrigger
    split
    · exact ((KeptOn.refl _ d).put _ _ _ hring).setBit _ _ hring
    · split
      · exact .refl _ d
      · exact (KeptOn.refl _ d).put _ _ _ hring
  · exact .refl _ d

theorem laneChange_kept (d0 d : Device) (n : Nat) : LaneWordsKept d (d0.laneChange d n) :=
  ((KeptOn.refl _ d).wr _ (not_laneWord_defEvent n)).trans (followUp_kept _ _ _ _ _ _)

theorem hoChange_kept (d0 d : Device) (h : Nat) : LaneWordsKept d (d0.hoChange d h) :=
  (((KeptOn.refl _ d).wr _ (not_laneWord_ho h _)).trans (followUp_kept _ _ _ _ _ _)).trans (ringDeclared_kept _ _ _)

theorem tcQueuePush_laneWords (d : Device) (s k : Nat) : LaneWordsKept d (d.tcQueuePush s k) := by
  unfold Device.tcQueuePush
  split
  · exact ((KeptOn.refl _ d).inc (not_laneWord_slice s _)).ev _ (not_laneWord_slice s _)
  · exact ((KeptOn.refl _ d).when ((KeptOn.refl _ d).ev _ (not_laneWord_slice s _))).trans (.of_regs rfl)

theorem tcEvents_kept (d : Device) (k : Nat) (bits : Word) : LaneWordsKept d (d.tcEvents k bits) :=
  ((KeptOn.refl _ d).wr _ (not_laneWord_tc k _)).when (tcQueuePush_laneWords _ _ _)

theorem tcChange_kept (d0 d : Device) (k : Nat) : LaneWordsKept d (d0.tcChange d k) := by
  unfold Device.tcChange
  beta_reduce
  split
  · exact .refl _ d
  · exact ((KeptOn.when (f := (·.tcEvents k _)) (.refl _ d) (tcEvents_kept d k _)).trans (followUp_kept _ _ _ _ _ _)).trans
      (ringDeclared_kept _ _ _)

theorem entryChange_kept (d0 d : Device) (j : Nat) : LaneWordsKept d (d0.entryChange d j) :=
  (KeptOn.refl _ d).when ((KeptOn.refl _ d).ev _ (not_laneWord_slice _ _))

theorem convSwitch_kept (d : Device) (i : Nat) (S : Nat → Prop) : KeptOn S d (d.convSwitch i) := by
  unfold Device.convSwitch
  split
  · refine .foldl _ (fun e k _ => ?_) d
    split
    · unfold Device.rtRestart
      split
      · exact .of_regs rfl
      · exact .of_regs rfl
    · exact .refl _ e
  · exact .refl _ d

theorem delayStep_kept (d : Device) (i : Nat) (old new : Option Align) : LaneWordsKept d (d.delayStep i old new) := by
  unfold Device.delayStep
  split
  · exact ((KeptOn.refl _ d).inc (not_laneWord_of_lt (by decide))).trans (convSwitch_kept _ i _)
  · exact .refl _ d

theorem pairDrop_kept (d : Device) (i : Nat) (p : HPair) (w pr : Bool) : LaneWordsKept d (d.pairDrop i p w pr) :=
  (KeptOn.of_regs rfl).trans (delayStep_kept _ _ _ _)

theorem celSettle_kept (d0 d : Device) (i : Nat) : LaneWordsKept d (celSettle d0 d i) := by
  unfold celSettle
  split
  · beta_reduce
    split
    · exact pairDrop_kept d i _ _ _
    · split
      · exact .of_regs rfl
      · exact .refl _ d
  · exact .refl _ d

theorem pmSettle_kept (d : Device) (p : Nat) : LaneWordsKept d (d.pmSettle p) := .of_regs rfl

theorem selQueuePush_kept (d : Device) (i : Nat) : LaneWordsKept d (d.selQueuePush i) := by
  unfold Device.selQueuePush
  split
  · exact ((KeptOn.refl _ d).inc (not_laneWord_of_lt (by decide))).ev _ (not_laneWord_of_lt (by decide))
  · exact ((KeptOn.refl _ d).when ((KeptOn.refl _ d).ev _ (not_laneWord_of_lt (by decide)))).trans (.of_regs rfl)

theorem selEv_kept (d : Device) (i b : Nat) : LaneWordsKept d (d.selEv i b) :=
  KeptOn.when (f := (·.selQueuePush i)) ((KeptOn.refl _ d).ev _ (not_laneWord_sel i _)) (selQueuePush_kept _ i)

theorem hitlessSettle_kept (d0 d : Device) (i : Nat) : LaneWordsKept d (hitlessSettle d0 d i) :=
  KeptOn.when (f := (·.selEv i 4)) (.refl _ d) (selEv_kept d i 4)

/-- What follows the reported defects writes no word of a lane but DEF_EVENT. -/
theorem settle_laneWords (d0 d : Device) : LaneWordsKept d (Device.settle d0 d) := by
  unfold Device.settle celSettleAll
  refine KeptOn.trans ?_ (.foldl _ (fun e i _ => hitlessSettle_kept d0 e i) _)
  refine KeptOn.trans ?_ (.foldl _ (fun e i _ => celSettle_kept d0 e i) _)
  refine KeptOn.trans ?_ (.foldl _ (fun e p _ => pmSettle_kept e p) _)
  refine KeptOn.trans ?_ (.foldl _ (fun e j _ => entryChange_kept d0 e j) _)
  refine KeptOn.trans ?_ (.foldl _ (fun e k _ => tcChange_kept d0 e k) _)
  refine KeptOn.trans ?_ (.foldl _ (fun e h _ => hoChange_kept d0 e h) _)
  refine KeptOn.trans ?_ (.foldl _ (fun e n _ => laneChange_kept d0 e n) _)
  exact (KeptOn.foldl _ (fun e l _ => sfClose_kept e l) d).trans (.foldl _ (fun e j _ => cliHold_kept e j) _)

theorem rd_followed (s : State) (d : Device) {a : Nat} (h : LaneWord a) : (followed s d).dev.rd a = d.rd a := by
  rw [followed, after, rd_irqSettle]; exact settle_laneWords s.dev d a h

end Sys2Proof.Machine
end


section
/-! PROOFS. A frame in SYNC on a lane without paths, and the trace that reaches the B1 counter (R135, R137). -/

namespace Sys2Proof.Machine
open Sys2Proof Sys2Proof.Safety

/-! The B1 counter of a frame in SYNC. -/

/-- The B1 counter of a lane. -/
def b1Reg (n : Nat) : Nat := laneBase n + 0x4430

theorem laneWord_b1 {n : Nat} (hn : n < 64) : LaneWord (b1Reg n) := by
  unfold LaneWord b1Reg laneBase; omega

/-- A step of the section that leaves the B1 counter and the tables of heads and tributaries. -/
structure SectionKept (n : Nat) (d d' : Device) : Prop where
  b1 : d'.rd (b1Reg n) = d.rd (b1Reg n)
  hos : d'.hos = d.hos
  tcs : d'.tcs = d.tcs

section
variable {n : Nat} {d d' d'' : Device}

theorem SectionKept.refl (n : Nat) (d : Device) : SectionKept n d d := ⟨rfl, rfl, rfl⟩
theorem SectionKept.trans (h : SectionKept n d d') (h' : SectionKept n d' d'') : SectionKept n d d'' :=
  ⟨h'.b1.trans h.b1, h'.hos.trans h.hos, h'.tcs.trans h.tcs⟩
theorem SectionKept.onLane (h : SectionKept n d d') (k : Nat) (f : LaneSt → LaneSt) : SectionKept n d (d'.onLane k f) :=
  h.trans ⟨rd_onLane _ _ _ _, rfl, rfl⟩
theorem SectionKept.wr (h : SectionKept n d d') {o : Nat} (v : Word) (ho : o ≠ 0x4430) : SectionKept n d (d'.wr (laneBase n + o) v) :=
  h.trans ⟨rd_wr_ne _ _ (by unfold b1Reg; omega), rfl, rfl⟩
theorem SectionKept.setBit (h : SectionKept n d d') {o : Nat} (i : Nat) (b : Bool) (ho : o ≠ 0x4430) :
    SectionKept n d (d'.setBit (laneBase n + o) i b) := h.wr _ ho
theorem SectionKept.ev (h : SectionKept n d d') {o : Nat} (i : Nat) (ho : o ≠ 0x4430) : SectionKept n d (d'.ev (laneBase n + o) i) :=
  h.wr _ ho
theorem SectionKept.when_ev (h : SectionKept n d d') (c : Bool) {o : Nat} (i : Nat) (ho : o ≠ 0x4430) :
    SectionKept n d (d'.when c (·.ev (laneBase n + o) i)) := by
  cases c
  · exact h
  · exact h.ev i ho
theorem SectionKept.count (h : SectionKept n d d') {o : Nat} (e : Nat) (ho : o ≠ 0x4430) (ho' : o + 4 ≠ 0x4430) :
    SectionKept n d (d'.count (laneBase n + o) e) := by
  unfold Device.count
  split
  · exact h
  · exact (h.wr _ ho).wr _ ho'
theorem SectionKept.sfSet (h : SectionKept n d d') (k : Nat) (sd : Bool) (x : SfSd) : SectionKept n d (d'.sfSet (.ms k) sd x) :=
  h.trans ⟨rd_onLane _ _ _ _, rfl, rfl⟩
theorem SectionKept.sfErrors (h : SectionKept n d d') (k e : Nat) : SectionKept n d (d'.sfErrors (.ms k) e) :=
  (h.sfSet k false _).sfSet k true _
theorem SectionKept.pmBlock (h : SectionKept n d d') (p : Nat) (ne fe : Bool) : SectionKept n d (d'.pmBlock p ne fe) := by
  unfold Device.pmBlock
  split
  · exact h.trans ⟨rfl, rfl, rfl⟩
  · exact h

end

theorem rxK_kept (d : Device) (n k : Nat) : SectionKept n d (d.rxK n k) := by
  unfold Device.rxK
  beta_reduce
  split
  · exact ((((SectionKept.refl n d).onLane n _).wr _ (by decide)).setBit _ _ (by decide)).when_ev _ _ (by decide)
  · split
    · exact (((SectionKept.refl n d).onLane n _).setBit _ _ (by decide)).ev _ (by decide)
    · exact (SectionKept.refl n d).onLane n _

theorem rxS1_kept (d : Device) (n b : Nat) : SectionKept n d (d.rxS1 n b) := by
  unfold Device.rxS1
  beta_reduce
  split
  · exact (((SectionKept.refl n d).onLane n _).wr _ (by decide)).ev _ (by decide)
  · exact (SectionKept.refl n d).onLane n _

theorem rxRelay_kept (d : Device) (n : Nat) (sync : Bool) (bytes : List Byte) : SectionKept n d (d.rxRelay n sync bytes) := by
  unfold Device.rxRelay
  split
  · exact (SectionKept.refl n d).onLane n _
  · exact (SectionKept.refl n d).onLane n _

/-- A counter that moves up: its low word wraps. -/
theorem rd_count_same (d : Device) (a e : Nat) : ((d.count a e).rd a).toNat = ((d.rd a).toNat + e) % 2 ^ 32 := by
  unfold Device.count
  split
  next h => rw [h, Nat.add_zero, Nat.mod_eq_of_lt (d.rd a).isLt]
  · rw [rd_wr_ne _ _ (by omega), rd_wr_same]
    simp only [wd, BitVec.toNat_ofNat]; omega

theorem count_tables (d : Device) (a e : Nat) : (d.count a e).hos = d.hos ∧ (d.count a e).tcs = d.tcs := by
  unfold Device.count
  split
  · exact ⟨rfl, rfl⟩
  · exact ⟨rfl, rfl⟩

/-- The section's overhead adds its B1 errors to what J0 left in the counter. -/
theorem rxSection_record (d : Device) (n : Nat) (o : SdhObs) :
    ((d.rxSection n o).rd (b1Reg n)).toNat = (((d.rxJ0 n o.j0).rd (b1Reg n)).toNat + o.b1) % 2 ^ 32 ∧
      (d.rxSection n o).hos = (d.rxJ0 n o.j0).hos ∧ (d.rxSection n o).tcs = (d.rxJ0 n o.j0).tcs := by
  obtain ⟨e, he⟩ : ∃ e, e = (((d.rxJ0 n o.j0).rxK n (o.k1.toNat * 256 + o.k2.toNat)).rxS1 n o.s1.toNat).onLane n (fun l => { l with
        msAis := l.msAis.step (o.k2.toNat % 8 == 7) 3 3, msRdi := l.msRdi.step (o.k2.toNat % 8 == 6) 5 5
        reiB2 := o.b2 }) := ⟨_, rfl⟩
  have hbefore : SectionKept n (d.rxJ0 n o.j0) e := he ▸ ((rxK_kept _ n _).trans (rxS1_kept _ n _)).onLane n _
  have hafter : SectionKept n (e.count (b1Reg n) o.b1) (d.rxSection n o) := by
    rw [Device.rxSection, ← he]
    exact (((((SectionKept.refl n _).count _ (by decide) (by decide)).count _ (by decide) (by decide)).sfErrors n _).pmBlock _ _ _).pmBlock _ _ _
  obtain ⟨hhos, htcs⟩ := count_tables e (b1Reg n) o.b1
  refine ⟨?_, hafter.hos.trans (hhos.trans hbefore.hos), hafter.tcs.trans (htcs.trans hbefore.tcs)⟩
  rw [hafter.b1, rd_count_same, hbefore.b1]

/-! A device without heads and tributaries carries nothing. -/

theorem framePaths_empty {d : Device} (hh : d.hos = []) (ht : d.tcs = []) (n : Nat) (f : Nat → Byte) (mem : List MemObs) :
    d.framePaths n true f mem = d := by
  have hhos : ∀ m, d.hosOf m = [] := fun m => by simp [Device.hosOf, hh, tabKeys]
  have hslots : ∀ m, d.slotsOf m = [] := fun m => by simp [Device.slotsOf, hhos, ht, tabKeys, toRising]
  simp [Device.framePaths, Device.rxPaths, Device.rxBoundary, hhos, hslots]

/-- A right frame leaves the framer of a lane in SYNC, and nothing counts. -/
theorem sdhJudge_sync {d : Device} {n : Nat} (hst : (d.lane n).sdh.st = .sync) (hheld : d.huntHeld n true = false) (offs : List Nat) :
    d.sdhJudge n offs true =
      d.onLane n (fun l => { l with sdh := { (d.lane n).sdh with errRun := 0, frame := (d.lane n).sdh.frame + 1 } }) := by
  have hjudge : (d.lane n).sdh.judge (d.inframe n) (d.oofCount n) offs true =
      ({ (d.lane n).sdh with errRun := 0, frame := (d.lane n).sdh.frame + 1 }, {}, false) := by
    rw [Framer.judge, hst]; rfl
  rw [Device.sdhJudge, hheld, hjudge]
  rfl

theorem rxSdh_sync {d : Device} {n : Nat} {o : SdhObs} (hok : o.ok = true) (hst : (d.lane n).sdh.st = .sync)
    (hheld : d.huntHeld n true = false) :
    d.rxSdh n o = (true, ((d.sdhJudge n o.offs true).rxSection n o).rxRelay n true o.relay) := by
  have hafter : ((d.sdhJudge n o.offs true).lane n).sdh.st = .sync := by rw [sdhJudge_sync hst hheld, lane_onLane]; exact hst
  rw [Device.rxSdh, hok]
  simp [hst, hafter]

theorem wrs_tables (d : Device) (a : Nat) (l : List Word) : (d.wrs a l).hos = d.hos ∧ (d.wrs a l).tcs = d.tcs := by
  rw [(OnlyRegs.refl d).wrs a l]
  exact ⟨rfl, rfl⟩

theorem traceStep_tables (d : Device) (t : TraceRx) (fmt : TraceFmt) (b : Byte) (acc expct size : Nat) (ranges : List (Nat × Nat)) :
    (d.traceStep t fmt b acc expct size ranges).1.hos = d.hos ∧ (d.traceStep t fmt b acc expct size ranges).1.tcs = d.tcs := by
  unfold Device.traceStep
  beta_reduce
  split
  · unfold Device.traceAccept
    split
    · split
      · exact ⟨rfl, rfl⟩
      · exact wrs_tables d _ _
    · exact ⟨rfl, rfl⟩
  · exact ⟨rfl, rfl⟩

theorem when_ev_tables (d : Device) (c : Bool) (a i : Nat) : (d.when c (·.ev a i)).hos = d.hos ∧ (d.when c (·.ev a i)).tcs = d.tcs := by
  cases c
  · exact ⟨rfl, rfl⟩
  · exact ⟨rfl, rfl⟩

theorem rxJ0_tables (d : Device) (n : Nat) (b : Byte) : (d.rxJ0 n b).hos = d.hos ∧ (d.rxJ0 n b).tcs = d.tcs := by
  unfold Device.rxJ0
  beta_reduce
  obtain ⟨hh, ht⟩ := when_ev_tables (Device.onLane _ n _) _ (laneBase n + 0x4008) 10
  obtain ⟨hh', ht'⟩ := traceStep_tables d _ _ b _ _ _ _
  exact ⟨hh.trans hh', ht.trans ht'⟩

/-- A right frame in SYNC on a device without heads and tributaries: the B1 counter. -/
theorem rd_b1_stmFrame {d : Device} {n : Nat} {cur : List Byte} {o : SdhObs} (mem : List MemObs) (hh : d.hos = []) (ht : d.tcs = [])
    (ho : o = d.sdhObs n cur (d.sdhStream n cur)) (hok : o.ok = true) (hst : (d.lane n).sdh.st = .sync) (hheld : d.huntHeld n true = false) :
    ((d.stmFrame n cur mem).rd (b1Reg n)).toNat = ((((d.sdhJudge n o.offs true).rxJ0 n o.j0).rd (b1Reg n)).toNat + o.b1) % 2 ^ 32 := by
  obtain ⟨hb1, hhos, htcs⟩ := rxSection_record (d.sdhJudge n o.offs true) n o
  obtain ⟨hhos', htcs'⟩ := rxJ0_tables (d.sdhJudge n o.offs true) n o.j0
  have hrelay := rxRelay_kept ((d.sdhJudge n o.offs true).rxSection n o) n true o.relay
  have hjudge : (d.sdhJudge n o.offs true).hos = [] ∧ (d.sdhJudge n o.offs true).tcs = [] := by
    rw [sdhJudge_sync hst hheld]; exact ⟨hh, ht⟩
  have hempty := framePaths_empty (hrelay.hos.trans (hhos.trans (hhos'.trans hjudge.1)))
    (hrelay.tcs.trans (htcs.trans (htcs'.trans hjudge.2))) n (d.frameBytes n (d.sdhStream n cur)) mem
  rw [Device.stmFrame]
  beta_reduce
  rw [rd_onLane, ← ho, rxSdh_sync hok hst hheld, hempty, hrelay.b1, hb1]

/-! A J0 of more than 64 bytes. -/

/-- The words written last are read back. -/
theorem rd_wrs_last (l : List Word) (v : Word) : ∀ (d : Device) (a : Nat), (d.wrs a (l ++ [v])).rd (a + 4 * l.length) = v := by
  induction l with
  | nil => exact fun d a => rd_wr_same d a v
  | cons w t ih =>
    intro d a
    have htail := ih (d.wr a w) (a + 4)
    rw [Nat.add_assoc, Nat.add_comm 4] at htail
    exact htail

/-- A J0 acceptance that has seen a trace ending in CR LF twice and has all of it again but LF. -/
def seenTwice (l : List Byte) : TraceRx := { buf := l ++ [0x0D], last := l ++ [0x0D, 0x0A], cnt := 2 }

/-- LF ends the third trace, whatever its length beyond 64 bytes. -/
theorem seenTwice_ends {l : List Byte} (h : 62 ≤ l.length) (reg : List Byte) :
    ((seenTwice l).expecting reg).byte .sixtyFour 0x0A = ({ (seenTwice l).expecting reg with buf := [], cnt := 3 }, true) := by
  simp [TraceRx.byte, TraceRx.expecting, TraceRx.period, seenTwice]
  omega

/-- The third equal trace is accepted with all its words. -/
theorem traceAccept_third {t : TraceRx} (hcnt : t.cnt = 3) (hacc : t.accepted = false) (d : Device) (acc size : Nat) :
    d.traceAccept t acc size = ({ t with accepted := true }, d.wrs acc (traceWords size t.last), true) := by
  simp [Device.traceAccept, hcnt, hacc]

theorem rxJ0_seenTwice {d : Device} {n : Nat} {l : List Byte} (hl : 62 ≤ l.length) (hj : (d.lane n).j0 = seenTwice l)
    (hm : d.get (laneBase n + 0x401C) 0 2 = 2) {a : Nat} (ha : a ≠ laneBase n + 0x4008) :
    (d.rxJ0 n 0x0A).rd a = (d.wrs (laneBase n + 0x4140) (traceWords 64 (l ++ [0x0D, 0x0A]))).rd a := by
  have hacc := traceAccept_third (t := { (seenTwice l).expecting (d.traceBytes (laneBase n + 0x4100) 64) with buf := [], cnt := 3 }) rfl rfl d
    (laneBase n + 0x4140) 64
  rw [Device.rxJ0, hm, hj]
  beta_reduce
  rw [rd_when_ev_ne _ _ _ ha, rd_onLane, if_neg (by decide), if_neg (by decide), if_neg (by decide), if_neg (by decide), Device.traceStep,
    seenTwice_ends hl]
  beta_reduce
  rw [if_pos rfl, hacc]
  rfl

/-- 754 zeros, CR and LF: its last word lies where the B1 counter does. -/
theorem traceWords_long : traceWords 64 (List.replicate 754 0 ++ [0x0D, 0x0A]) = List.replicate 188 0 ++ [0x00000D0A] := by decide +kernel

theorem rd_b1_rxJ0_long {d : Device} {n : Nat} (hj : (d.lane n).j0 = seenTwice (List.replicate 754 0))
    (hm : d.get (laneBase n + 0x401C) 0 2 = 2) : (d.rxJ0 n 0x0A).rd (b1Reg n) = 0x00000D0A := by
  have hlast := rd_wrs_last (List.replicate 188 0) 0x00000D0A d (laneBase n + 0x4140)
  rw [List.length_replicate, Nat.add_assoc] at hlast
  rw [rxJ0_seenTwice (by rw [List.length_replicate]; decide) hj hm (by unfold b1Reg; omega), traceWords_long]
  exact hlast

end Sys2Proof.Machine
end


section
/-! PROOFS. A state in which a right frame in SYNC leaves the B1 counter with a word of the accepted J0 (R135, R137). -/

namespace Sys2Proof.Machine
open Sys2Proof Sys2Proof.Safety

/-! What a frame shows rests on the configuration of its lane. -/

section
variable (d : Device) (n : Nat) (v : Word)

theorem laneMode_wr_freq : (d.wr (laneBase n + 0x4030) v).laneMode n = d.laneMode n := by
  rw [Device.laneMode, Device.laneMode, get_of_rd (rd_wr_ne _ _ (by simp))]
theorem isOtu_wr_freq : (d.wr (laneBase n + 0x4030) v).isOtu n = d.isOtu n := by
  rw [Device.isOtu, Device.isOtu, laneMode_wr_freq]
theorem stmMode_wr_freq : (d.wr (laneBase n + 0x4030) v).stmMode n = d.stmMode n := by
  rw [Device.stmMode, Device.stmMode, laneMode_wr_freq, isOtu_wr_freq]
theorem lineIn_wr_freq (len : Nat) (bits : List Byte) : (d.wr (laneBase n + 0x4030) v).lineIn n len bits = d.lineIn n len bits := by
  rw [Device.lineIn, Device.lineIn, bit_of_rd (rd_wr_ne _ _ (by simp)), bit_of_rd (rd_wr_ne _ _ (by simp)), lane_wr]
theorem sdhIn_wr_freq (bits : List Byte) : (d.wr (laneBase n + 0x4030) v).sdhIn n bits = d.sdhIn n bits := by
  rw [Device.sdhIn, Device.sdhIn, isOtu_wr_freq, laneMode_wr_freq, lineIn_wr_freq, lineIn_wr_freq, lane_wr]
theorem sdhStream_wr_freq (cur : List Byte) : (d.wr (laneBase n + 0x4030) v).sdhStream n cur = d.sdhStream n cur := by
  rw [Device.sdhStream, Device.sdhStream, stmMode_wr_freq, lane_wr]
theorem winUse_wr_freq : (d.wr (laneBase n + 0x4030) v).winUse n = d.winUse n := by
  rw [Device.winUse, Device.winUse, stmMode_wr_freq, get_of_rd (rd_wr_ne _ _ (by simp)), get_of_rd (rd_wr_ne _ _ (by simp))]
theorem sdhByte_wr_freq (f : Nat → Byte) : (d.wr (laneBase n + 0x4030) v).sdhByte n f = d.sdhByte n f := by
  funext i
  rw [Device.sdhByte, Device.sdhByte, Device.sdhLine, Device.sdhLine, stmMode_wr_freq, winUse_wr_freq, lane_wr,
    bit_of_rd (rd_wr_ne _ _ (by simp))]

end

/-- A frame time's bytes as the framer of a lane reads them. -/
def frameSeen (d : Device) (n : Nat) (bits : List Byte) : SdhObs := d.sdhObs n (d.sdhIn n bits) (d.sdhStream n (d.sdhIn n bits))

/-- The frequency offset of the frame time changes nothing the framer reads. -/
theorem frameSeen_wr_freq (d : Device) (n : Nat) (v : Word) (bits : List Byte) :
    (frameSeen (d.wr (laneBase n + 0x4030) v) n bits).ok = (frameSeen d n bits).ok ∧
      (frameSeen (d.wr (laneBase n + 0x4030) v) n bits).j0 = (frameSeen d n bits).j0 := by
  rw [frameSeen, frameSeen, sdhIn_wr_freq, sdhStream_wr_freq, Device.sdhObs, Device.sdhObs, stmMode_wr_freq, winUse_wr_freq,
    sdhByte_wr_freq, lane_wr]
  simp only [sdhRead, and_self]

/-! The state. -/

/-- The A1 and A2 bytes of the reset window. -/
def a1a2 : List Byte := List.replicate 6 0xF6 ++ List.replicate 6 0x28

/-- Lane 0 after reset in SYNC, J0 in 64-byte mode with two equal traces of 756 bytes behind it; J0 of the frame is LF. -/
def longTraceDevice : Device :=
  (State.reset.dev.wr (laneBase 0 + 0x401C) 2).setLane 0
    { rxOn := true, sdh := { st := .sync, lock := 143 }, j0 := seenTwice (List.replicate 754 0),
      rxb := { back := List.replicate 198 0 ++ [0x0A] } }

def longTraceState : State := { State.reset with dev := longTraceDevice }

theorem longTrace_live : Live longTraceState := by unfold Live; decide
theorem longTrace_rxOn : (longTraceDevice.lane 0).rxOn = true := by decide
theorem longTrace_free : longTraceDevice.sliceHeld (sliceOfLane 0) = false := by decide
theorem longTrace_hunts : longTraceDevice.huntHeld 0 true = false := by decide
theorem longTrace_sync : (longTraceDevice.lane 0).sdh.st = .sync := by decide
theorem longTrace_off : longTraceDevice.laneEna 0 = false := by decide
theorem longTrace_signal : longTraceDevice.noSignal 0 = false := by decide
theorem longTrace_b1 : longTraceDevice.rd (b1Reg 0) = 0 := by decide
theorem longTrace_mode : longTraceDevice.get (laneBase 0 + 0x401C) 0 2 = 2 := by decide

theorem longTrace_seen : (frameSeen longTraceDevice 0 a1a2).ok = true ∧ (frameSeen longTraceDevice 0 a1a2).j0 = 0x0A := by decide +kernel

/-- The device of the frame: the same with the frequency offset of the frame time. -/
theorem longTrace_framed : ∃ v, (longTraceDevice.adaptStep 0).freqStep 0 = longTraceDevice.free.2.wr (laneBase 0 + 0x4030) v := by
  have ha : longTraceDevice.adaptStep 0 = longTraceDevice := by rw [Device.adaptStep, longTrace_off]; rfl
  exact ⟨_, by rw [ha, Device.freqStep, longTrace_signal, if_neg nofun]⟩

/-- What the frame time's bytes show, with the errors of its B1. -/
def longTraceObs : SdhObs := frameSeen ((longTraceDevice.adaptStep 0).freqStep 0) 0 a1a2

theorem longTraceObs_shows : longTraceObs.ok = true ∧ longTraceObs.j0 = 0x0A := by
  obtain ⟨v, hv⟩ := longTrace_framed
  obtain ⟨hok, hj0⟩ := frameSeen_wr_freq longTraceDevice.free.2 0 v a1a2
  rw [longTraceObs, hv, hok, hj0]
  exact longTrace_seen

/-- The B1 counter after the frame: the last word of J0 and the frame's errors. -/
theorem longTrace_counted (mem : List MemObs) :
    ((longTraceDevice.sdhFrame 0 a1a2 mem).rd (b1Reg 0)).toNat = (0x0D0A + longTraceObs.b1) % 2 ^ 32 := by
  obtain ⟨v, hv⟩ := longTrace_framed
  obtain ⟨hok, hj0⟩ := longTraceObs_shows
  obtain ⟨d1, hd1⟩ : ∃ d1, d1 = (longTraceDevice.adaptStep 0).freqStep 0 := ⟨_, rfl⟩
  have hsync : (d1.lane 0).sdh.st = .sync := by rw [hd1, hv, lane_wr]; exact longTrace_sync
  have hheld : d1.huntHeld 0 true = false := by
    rw [hd1, hv, Device.huntHeld, bit_of_rd (rd_wr_ne _ _ (by simp)), bit_of_rd (rd_wr_ne _ _ (by simp)), isOtu_wr_freq, lane_wr]
    exact longTrace_hunts
  have hobs : longTraceObs = d1.sdhObs 0 (d1.sdhIn 0 a1a2) (d1.sdhStream 0 (d1.sdhIn 0 a1a2)) := by rw [hd1]; rfl
  have htables : d1.hos = [] ∧ d1.tcs = [] := by rw [hd1, hv]; exact ⟨rfl, rfl⟩
  have hb1 : ((d1.sdhJudge 0 longTraceObs.offs true).rxJ0 0 0x0A).rd (b1Reg 0) = 0x00000D0A := by
    rw [sdhJudge_sync hsync hheld]
    refine rd_b1_rxJ0_long ?_ ?_
    · rw [lane_onLane, hd1, hv, lane_wr]; rfl
    · rw [get_of_rd (rd_onLane _ _ _ _), hd1, hv, get_of_rd (rd_wr_ne _ _ (by simp))]; exact longTrace_mode
  have hframe : longTraceDevice.sdhFrame 0 a1a2 mem = d1.stmFrame 0 (d1.sdhIn 0 a1a2) mem := by
    rw [Device.sdhFrame, if_pos (by rw [Device.rxOn, longTrace_rxOn, longTrace_free]; rfl), hd1]
  rw [hframe, rd_b1_stmFrame mem htables.1 htables.2 hobs hok hsync hheld, hj0, hb1]
  rfl

/-- A frame time in which no word is chosen leaves the tracer. -/
theorem tagWords_none (d : Device) (n : Nat) : d.tagWords n 0 = d := by
  unfold Device.tagWords
  split
  · rfl
  · rfl

/-- Refutes O22: the first clause fails in a state whose J0 acceptance holds a trace of 756 bytes in 64-byte mode (no reachable state
does): the frame that ends its third copy is right, and the words of the accepted J0 reach the B1 counter before its errors are added. -/
theorem not_framersJudgeReceivedFrames : ¬ Obligations.FramersJudgeReceivedFrames := by
  intro h
  obtain ⟨hok, -⟩ := longTraceObs_shows
  obtain ⟨hsdh, -⟩ := h longTraceState 0 longTrace_live (by decide) longTrace_rxOn
  obtain ⟨hclause, -, -⟩ := hsdh a1a2 _ 0 [] _ longTraceObs rfl rfl rfl longTrace_free longTrace_hunts
  obtain ⟨d, hexec, -, -, hb1, -⟩ := hclause longTrace_sync hok
  rw [exec_sdhFrameEnd, path_followed longTrace_live] at hexec
  have hstate := Host.Outcome.next.inj hexec
  have hcount := longTrace_counted []
  have hsame : ((longTraceDevice.sdhFrame 0 a1a2 []).tagWords 0 0).rd (b1Reg 0) = d.rd (b1Reg 0) := by
    rw [← rd_followed longTraceState _ (laneWord_b1 (by decide)), ← rd_followed longTraceState d (laneWord_b1 (by decide)), ← hstate]
    rfl
  have hreset : (longTraceState.dev.rd (laneBase 0 + 0x4430)).toNat = 0 := by
    rw [show longTraceState.dev.rd (laneBase 0 + 0x4430) = 0 from longTrace_b1]; rfl
  rw [tagWords_none] at hsame
  rw [hreset] at hb1
  have hclash : (0x0D0A + longTraceObs.b1) % 2 ^ 32 = (0 + longTraceObs.b1) % 2 ^ 32 :=
    (hcount.symm.trans (congrArg BitVec.toNat hsame)).trans hb1
  omega

end Sys2Proof.Machine
end

section
/-! SUPPORT. High-order contexts: how their table is read after an update, and what a write of HO_CFG does at the bridge (R165, R193,
R194). -/

namespace Sys2Proof.Machine
open Sys2Proof Sys2Proof.Safety

/-! The commands of a head, as the runs of a live device. -/

theorem exec_hoEnable (m h : Nat) (v : Word) (s : State) :
    exec (.hoEnable m h v) s = s.live (fun d => d.cmdWrite m (hoBase h) (setFld v 0 1 1)) := rfl
theorem exec_hoDisable (m h : Nat) (v : Word) (s : State) :
    exec (.hoDisable m h v) s = s.live (fun d => d.cmdWrite m (hoBase h) (setFld v 0 1 0)) := rfl
theorem exec_hoRxStart (h : Nat) (s : State) : exec (.hoRxStart h) s = s.path (fun d => d.hoRxStart h) := rfl
theorem exec_hoTxStart (h : Nat) (s : State) : exec (.hoTxStart h) s = s.path (fun d => d.hoTxStart h) := rfl
theorem exec_hoDrainDone (h : Nat) (s : State) : exec (.hoDrainDone h) s = s.path (fun d => d.hoDrainDone h) := rfl
theorem exec_hoLomDeclare (h : Nat) (s : State) : exec (.hoLomDeclare h) s = s.path (fun d => d.hoLomDeclare h) := rfl
theorem exec_hoLomClear (h : Nat) (s : State) : exec (.hoLomClear h) s = s.path (fun d => d.hoLomClear h) := rfl

/-! The table of contexts. -/

theorem ho_of_hos {d d' : Device} (h : d'.hos = d.hos) (k : Nat) : d'.ho k = d.ho k := by rw [Device.ho, h]; rfl

@[simp] theorem ho_wr (d : Device) (a : Nat) (v : Word) (k : Nat) : (d.wr a v).ho k = d.ho k := rfl
@[simp] theorem ho_setBit (d : Device) (a i : Nat) (b : Bool) (k : Nat) : (d.setBit a i b).ho k = d.ho k := rfl
@[simp] theorem ho_ev (d : Device) (a i k : Nat) : (d.ev a i).ho k = d.ho k := rfl
@[simp] theorem ho_covered (d : Device) (k : Nat) : d.covered.ho k = d.ho k := rfl

/-- An update of each context of a list in turn: those listed end as the update leaves them, the others as they were. -/
theorem ho_foldl {f : Device → Nat → Device} {P : HoSt → Prop} (hsame : ∀ d m, P ((f d m).ho m))
    (hother : ∀ d m k, k ≠ m → (f d m).ho k = d.ho k) (l : List Nat) :
    ∀ d : Device, (∀ m ∈ l, P ((l.foldl f d).ho m)) ∧ ∀ k, k ∉ l → (l.foldl f d).ho k = d.ho k := by
  induction l with
  | nil => exact fun d => ⟨nofun, fun _ _ => rfl⟩
  | cons a t ih =>
    intro d
    obtain ⟨hin, hout⟩ := ih (f d a)
    refine ⟨fun m hm => ?_, fun k hk => ?_⟩
    · by_cases hmt : m ∈ t
      · exact hin m hmt
      · have hma : m = a := (List.mem_cons.1 hm).resolve_right hmt
        rw [List.foldl_cons, hout m hmt, hma]
        exact hsame d a
    · rw [List.mem_cons, not_or] at hk
      rw [List.foldl_cons, hout k hk.2, hother d a k hk.1]

/-! The contexts of a group. -/

theorem mem_groupOf {d : Device} {h k : Nat} (hk : k < groupSize (d.hoType h)) : h + k ∈ d.groupOf h :=
  List.mem_map_of_mem (List.mem_range.2 hk)

/-- The contexts of a group behind its head. -/
theorem groupOf_drop (d : Device) (h : Nat) :
    (d.groupOf h).drop 1 = (List.range' 1 (groupSize (d.hoType h) - 1)).map (h + ·) := by
  rw [Device.groupOf, ← List.map_drop, List.range_eq_range', List.drop_range']

theorem mem_members {d : Device} {h k : Nat} (hpos : 1 ≤ k) (hk : k < groupSize (d.hoType h)) : h + k ∈ (d.groupOf h).drop 1 := by
  rw [groupOf_drop]
  exact List.mem_map_of_mem (List.mem_range'_1.2 ⟨hpos, by omega⟩)

theorem head_not_member (d : Device) (h : Nat) : h ∉ (d.groupOf h).drop 1 := by
  rw [groupOf_drop]
  simp

/-! HO_CFG at the bridge. -/

/-- HO_CFG. -/
def hoCfgRow : RegRow :=
  { base := 0x0, acc := .rw, reset := 0x80, bits := 0x00FF00FF, roBits := 0x00FF0080, chks := [⟨1, 3, [(0, 4)]⟩] }

theorem rowAt_hoCfg (h : Nat) : rowAt ⟨.ho, h, 0⟩ = some hoCfgRow := rfl

theorem locOf_hoCfg {h : Nat} (hh : h < 12288) : locOf (hoBase h) = some ⟨.ho, h, 0⟩ := locOf_ho (o := 0) hh (by decide)

theorem hoBase_aligned (h : Nat) : hoBase h % 4 = 0 := by unfold hoBase; omega

theorem applyLoc_hoCfg (d : Device) (m h : Nat) (v : Word) :
    d.applyLoc m (hoBase h) ⟨.ho, h, 0⟩ hoCfgRow v = d.hoCfgWrite h v := by
  simp [Device.applyLoc, Device.memberWord, Device.applyBlk, Device.applyHo, hoCfgRow]

section
variable {s : State} {m h : Nat} {v : Word} (hm : Ready s m) (hh : h < 12288)
  (href : s.dev.refusal (hoBase h) ⟨.ho, h, 0⟩ hoCfgRow v = none)
include hm hh href

/-- A write of HO_CFG the head takes: CFG_DIRTY is set and the defects follow. -/
theorem exec_hoCfg (hbad : s.dev.hoCfgBad h v = false) :
    s.live (fun d => d.cmdWrite m (hoBase h) v) = .next (acceptedFollowed s m (s.dev.hoCfgTake h v).covered) := by
  have hap : s.dev.applyLoc m (hoBase h) ⟨.ho, h, 0⟩ hoCfgRow v = (.ok, s.dev.hoCfgTake h v) := by
    rw [applyLoc_hoCfg, Device.hoCfgWrite, hbad]; rfl
  rw [live_after hm.live, cmdWrite_mgmt hm.unstaged (locOf_hoCfg hh) (rowAt_hoCfg h) rfl (hoBase_aligned h) rfl nofun nofun nofun href
    (by rw [hap]), hap, settleAt_followed (locOf_hoCfg hh) (by simp)]
  rfl

/-- A write of HO_CFG the head refuses, whose lane no enabled pair protects: the record of the refusal and the completion. -/
theorem exec_hoCfg_refused (hbad : s.dev.hoCfgBad h v = true) (hprot : s.dev.hoProtect h = false) :
    s.live (fun d => d.cmdWrite m (hoBase h) v) =
      .next (after s ((s.dev.refused { master := m, wide := false } .range (hoBase h)).complete m { status := .range })) := by
  have hap : s.dev.applyLoc m (hoBase h) ⟨.ho, h, 0⟩ hoCfgRow v = (.range, s.dev) := by
    rw [applyLoc_hoCfg, Device.hoCfgWrite, hbad, hprot, Bool.and_false]; rfl
  rw [live_after hm.live, cmdWrite_blockRefused hm.unstaged (locOf_hoCfg hh) (rowAt_hoCfg h) rfl (hoBase_aligned h) rfl nofun nofun nofun
    href hap nofun]

end

theorem irqSettle_hos (d0 d : Device) : (irqSettle d0 d).hos = d.hos := by
  unfold irqSettle
  split
  · rfl
  · split
    · rfl
    · rfl

theorem refused_hos (d : Device) (x : Access) (st : Status) (a : Nat) : (d.refused x st a).hos = d.hos := by rw [refused_only]

/-- A refusal with RANGE: the contexts stay, the refusal is recorded, and the master gets RANGE. -/
theorem rangeRefused_record (s : State) (m a : Nat) :
    let t := after s ((s.dev.refused { master := m, wide := false } .range a).complete m { status := .range })
    tabGet {} t.dev.bus.done m = { status := .range } ∧ t.dev.hos = s.dev.hos ∧ KeepsBut [0x8C, 0x54, 0xB0, 0xB4] s.dev t.dev := by
  refine ⟨?_, ?_, fun b hb => ?_⟩
  · rw [after, irqSettle_bus, done_complete]
  · rw [after, irqSettle_hos]
    exact refused_hos _ _ _ _
  · rw [after, rd_irqSettle, rd_complete]
    exact refused_keeps _ _ _ rfl b hb

/-- A context is stored with a new HO_CFG: that word, CFG_DIRTY and the context alone change. -/
theorem hoCfgStored_record (d : Device) (h : Nat) (w : Word) (f : HoSt → HoSt) :
    let d' := ((d.wr (hoBase h) w).onHo h f).covered
    d'.rd (hoBase h) = w ∧ d'.ho h = f (d.ho h) ∧ (∀ k, k ≠ h → d'.ho k = d.ho k) ∧ KeepsBut [hoBase h, 0x50] d d' := by
  refine ⟨?_, by rw [ho_covered, ho_onHo, ho_wr], fun k hk => by rw [ho_covered, ho_onHo_ne _ _ hk, ho_wr], fun a ha => ?_⟩
  · rw [rd_covered _ (by unfold hoBase; omega), rd_onHo, rd_wr_same]
  · simp only [List.mem_cons, List.not_mem_nil, or_false, not_or] at ha
    rw [rd_covered _ ha.2, rd_onHo, rd_wr_ne _ _ ha.1]

end Sys2Proof.Machine
end

section
/-! PROOFS. Enabling, starting, stopping and the multiframe defect of a high-order head (R165, R177, R185, R190 to R195). -/

namespace Sys2Proof.Machine
open Sys2Proof Sys2Proof.Safety

/-! ENABLE rises or falls. -/

theorem hoCfgTake_enables {d : Device} {h : Nat} {v : Word} (hv : bitAt v 0 = true) (he : d.hoEna h = false) :
    d.hoCfgTake h v = (d.wr (hoBase h) (v &&& 0x7F)).onHo h (fun x => { x.fresh with rx := x.rx.rise, tx := x.tx.rise }) := by
  simp [Device.hoCfgTake, hv, he]

theorem hoCfgTake_disables {d : Device} {h : Nat} {v : Word} (hv : bitAt v 0 = false) (he : d.hoEna h = true) :
    d.hoCfgTake h v = (d.wr (hoBase h) (v &&& 0x7F)).onHo h (fun x => { x with rx := x.rx.fall, tx := x.tx.fall }) := by
  simp [Device.hoCfgTake, hv, he]

/-! The words a side takes into use. -/

/-- A head takes its protection word into use: that and the selectors alone change. -/
theorem protTake_ho (d : Device) (h : Nat) :
    ∃ l, d.protTake (hoCtx h) = { d.onHo h (fun x => { x with prot := d.rd (protAddr (hoCtx h)) }) with land := l } := by
  have hctx : ¬hoCtx h < 262144 := by unfold hoCtx; omega
  have hidx : hoCtx h - 262144 = h := by unfold hoCtx; omega
  unfold Device.protTake
  simp only [if_neg hctx, hidx]
  split
  · exact ⟨_, rfl⟩
  · unfold Device.protMembers
    beta_reduce
    split
    · split
      · exact ⟨_, rfl⟩
      · exact ⟨_, rfl⟩
    · split
      · exact ⟨_, rfl⟩
      · exact ⟨_, rfl⟩

theorem ho_protTake (d : Device) (h : Nat) :
    (∃ p, (d.protTake (hoCtx h)).ho h = { d.ho h with prot := p }) ∧ ∀ k, k ≠ h → (d.protTake (hoCtx h)).ho k = d.ho k := by
  obtain ⟨l, hl⟩ := protTake_ho d h
  rw [hl]
  exact ⟨⟨_, tabGet_tabPut_same _ _ _ _⟩, fun k hk => tabGet_tabPut_ne _ _ _ _ hk⟩

/-- Windows of a head that begin again touch the evaluation of its SF and SD. -/
theorem ho_sfRestart (d : Device) (h : Nat) (on : Bool) :
    ∃ f g, (d.sfRestart (.ho h) on).ho h = { d.ho h with sf := f, sd := g } := by
  simp only [Device.sfRestart, List.foldl_cons, List.foldl_nil, Device.sfSet, ho_onHo]
  exact ⟨_, _, rfl⟩

/-- What the receive side takes into use at a boundary: HO_MON among it; the side and the pointer stay. -/
structure RxLoaded (d : Device) (h : Nat) (x : HoSt) : Prop where
  mon : x.rxMon = d.rd (hoBase h + 4)
  side : x.rx = (d.ho h).rx
  pointer : x.pi = (d.ho h).pi

theorem hoLoadRx_loaded (d : Device) (h : Nat) : RxLoaded d h ((d.hoLoadRx h).ho h) := by
  unfold Device.hoLoadRx
  beta_reduce
  generalize hload : d.onHo h _ = d1
  have hd1 : RxLoaded d h (d1.ho h) := by
    rw [← hload, ho_onHo]
    exact ⟨rfl, rfl, rfl⟩
  obtain ⟨p, hp⟩ := (ho_protTake d1 h).1
  have htake : RxLoaded d h ((d1.protTake (hoCtx h)).ho h) := by
    rw [hp]
    exact ⟨hd1.mon, hd1.side, hd1.pointer⟩
  refine when_ind (P := fun e => RxLoaded d h (e.ho h)) htake fun _ => ?_
  obtain ⟨f, g, hf⟩ := ho_sfRestart (d1.protTake (hoCtx h)) h true
  rw [hf]
  exact ⟨htake.mon, htake.side, htake.pointer⟩

/-! The receive side starts. -/

/-- The head whose receive side starts (R177): its pointer in NORM with the active value 0. -/
def headStarted (d : Device) (h : Nat) : Device :=
  d.setHo h { rx := .on, oom := d.bit (hoBase h) 4 && !d.laneSync (d.rxLane (laneOfHo h)), tx := (d.ho h).tx, txMon := (d.ho h).txMon,
              tx1 := (d.ho h).tx1, tx2 := (d.ho h).tx2, gen := (d.ho h).gen, out := (d.ho h).out, prot := (d.ho h).prot,
              txPos := (d.ho h).txPos }

/-- A member of the group of head `h` is claimed (R166, R177). -/
def memberClaimed (h : Nat) (d : Device) (m : Nat) : Device :=
  d.setHo m { prot := (d.ho m).prot, claim := some h, pi := { st := .conc }, shadow := { st := .conc } }

theorem hoRxStart_starts {d : Device} {h : Nat} (he : d.hoEna h = true) (hrx : (d.ho h).rx = .starting) :
    d.hoRxStart h = (((d.groupOf h).drop 1).foldl (memberClaimed h) ((headStarted d h).hoLoadRx h)).aisLatch (hoCtx h) := by
  rw [Device.hoRxStart, if_pos (by simp [he, hrx])]
  rfl

theorem ho_aisLatch (d : Device) (h : Nat) :
    (∃ a, (d.aisLatch (hoCtx h)).ho h = { d.ho h with aisFrom := a }) ∧ ∀ k, k ≠ h → (d.aisLatch (hoCtx h)).ho k = d.ho k := by
  have hidx : hoCtx h - 262144 = h := by unfold hoCtx; omega
  rw [Device.aisLatch, if_neg (by unfold hoCtx; omega), hidx]
  exact ⟨⟨_, ho_onHo _ _ _⟩, fun k hk => ho_onHo_ne d _ hk⟩

/-- The claims of the members leave the head, and what the head latches leaves the members. -/
theorem hoRxStart_record {d : Device} {h : Nat} (he : d.hoEna h = true) (hrx : (d.ho h).rx = .starting) :
    let d' := d.hoRxStart h
    (d'.ho h).rx = .on ∧ (d'.ho h).pi.st = .norm ∧ (d'.ho h).pi.active = 0 ∧ (d'.ho h).rxMon = d.rd (hoBase h + 4) ∧
      ∀ k, 1 ≤ k → k < groupSize (d.hoType h) → (d'.ho (h + k)).claim = some h ∧ (d'.ho (h + k)).pi.st = .conc := by
  rw [hoRxStart_starts he hrx]
  obtain ⟨hmon, hside, hpointer⟩ := hoLoadRx_loaded (headStarted d h) h
  rw [headStarted, ho_setHo] at hside hpointer
  obtain ⟨hmembers, hothers⟩ := ho_foldl (f := memberClaimed h) (P := fun x => x.claim = some h ∧ x.pi.st = .conc)
    (fun e m => by rw [memberClaimed, ho_setHo]; exact ⟨rfl, rfl⟩) (fun e m k hk => ho_setHo_ne e _ hk) ((d.groupOf h).drop 1)
    ((headStarted d h).hoLoadRx h)
  have hhead := hothers h (head_not_member d h)
  obtain ⟨⟨a, ha⟩, hkept⟩ := ho_aisLatch (((d.groupOf h).drop 1).foldl (memberClaimed h) ((headStarted d h).hoLoadRx h)) h
  refine ⟨?_, ?_, ?_, ?_, fun k hpos hk => ?_⟩
  · rw [ha, hhead]; exact hside
  · rw [ha, hhead]; exact congrArg Pi.st hpointer
  · rw [ha, hhead]; exact congrArg Pi.active hpointer
  · rw [ha, hhead]; exact hmon
  · rw [hkept _ (by omega)]
    exact hmembers _ (mem_members hpos hk)

/-! The transmit side starts. -/

theorem ho_hoLoadTx (d : Device) (h : Nat) :
    (d.hoLoadTx h).ho h = { d.ho h with txMon := d.rd (hoBase h + 4), tx1 := d.rd (hoBase h + 8), tx2 := d.rd (hoBase h + 0xC) } :=
  ho_onHo d h _

theorem ho_hoLoadTx_ne (d : Device) {h k : Nat} (hk : k ≠ h) : (d.hoLoadTx h).ho k = d.ho k := ho_onHo_ne d _ hk

theorem hoTxStart_record {d : Device} {h : Nat} (he : d.hoEna h = true) (htx : (d.ho h).tx = .starting) :
    let d' := d.hoTxStart h
    (d'.ho h).tx = .on ∧ (d'.ho h).gen.newPtr = true ∧ (d'.ho h).txMon = d.rd (hoBase h + 4) ∧ (d'.ho h).tx1 = d.rd (hoBase h + 8) ∧
      (d'.ho h).tx2 = d.rd (hoBase h + 0xC) ∧ d'.regs = d.regs ∧ ∀ k, k ≠ h → d'.ho k = d.ho k := by
  rw [Device.hoTxStart, if_pos (by simp [he, htx])]
  refine ⟨?_, ?_, ?_, ?_, ?_, rfl, fun k hk => ?_⟩
  · rw [ho_hoLoadTx, ho_onHo]
  · rw [ho_hoLoadTx, ho_onHo]
  · rw [ho_hoLoadTx]; rfl
  · rw [ho_hoLoadTx]; rfl
  · rw [ho_hoLoadTx]; rfl
  · rw [ho_hoLoadTx_ne _ hk, ho_onHo_ne _ _ hk]

/-! The group is released. -/

/-- A context of the group that has stopped is released (R194). -/
def memberReleased (d : Device) (m : Nat) : Device := (d.setHo m { prot := (d.ho m).prot }).protTake (hoCtx m)

theorem hoDrainDone_stops {d : Device} {h : Nat} (he : d.hoEna h = false) (hd : d.hoDrained h = false) :
    d.hoDrainDone h = (((d.groupOf h).foldl memberReleased (d.hoRxStop h)).setBit (hoBase h) 7 true).ev (hoBase h + 0x24) 19 := by
  rw [Device.hoDrainDone, if_pos (by simp [he, hd])]
  rfl

theorem ho_memberReleased (d : Device) (m : Nat) :
    (∃ p, (memberReleased d m).ho m = { prot := p }) ∧ ∀ k, k ≠ m → (memberReleased d m).ho k = d.ho k := by
  obtain ⟨⟨p, hp⟩, hother⟩ := ho_protTake (d.setHo m { prot := (d.ho m).prot }) m
  refine ⟨⟨p, ?_⟩, fun k hk => (hother k hk).trans (ho_setHo_ne d _ hk)⟩
  rw [memberReleased, hp, ho_setHo]

theorem hoDrainDone_record {d : Device} {h : Nat} (he : d.hoEna h = false) (hd : d.hoDrained h = false) :
    let d' := d.hoDrainDone h
    d'.bit (hoBase h) 7 = true ∧ d'.bit (hoBase h + 0x24) 19 = true ∧
      ∀ k, k < groupSize (d.hoType h) → (d'.ho (h + k)).claim = none ∧ (d'.ho (h + k)).rx = .off ∧ (d'.ho (h + k)).tx = .off := by
  rw [hoDrainDone_stops he hd]
  obtain ⟨hmembers, -⟩ := ho_foldl (f := memberReleased) (P := fun x => x.claim = none ∧ x.rx = .off ∧ x.tx = .off)
    (fun e m => by obtain ⟨p, hp⟩ := (ho_memberReleased e m).1; rw [hp]; exact ⟨rfl, rfl, rfl⟩)
    (fun e m => (ho_memberReleased e m).2) (d.groupOf h) (d.hoRxStop h)
  refine ⟨?_, bit_ev_same _ _ (by decide), fun k hk => ?_⟩
  · rw [bit_of_rd (rd_ev_ne _ _ (by omega)), bit_setBit_same _ _ _ (by decide)]
  · rw [ho_ev, ho_setBit]
    exact hmembers _ (mem_groupOf hk)

/-! LOM. -/

theorem hoLomDeclare_declares {d : Device} {h : Nat} (ho : (d.ho h).oom = true) :
    d.hoLomDeclare h = d.setHo h { d.ho h with lom := true } := by
  rw [Device.hoLomDeclare, if_pos ho, Device.onHo]

theorem hoLomClear_clears {d : Device} {h : Nat} (ho : (d.ho h).oom = false) :
    d.hoLomClear h = d.setHo h { d.ho h with lom := false } := by
  rw [Device.hoLomClear, if_neg (by simp [ho]), Device.onHo]

/-- Settles O24: by what HO_CFG takes at the bridge, then each start and stop by what it leaves of the contexts of the group. -/
theorem highOrderHeadsStartAndStop : Obligations.HighOrderHeadsStartAndStop := by
  intro s h hlive hh
  have hrow : rowOf (hoBase h) = some hoCfgRow := rowOf_of (locOf_hoCfg hh)
  refine ⟨fun m v r hm hr href hbad he => ?_, fun m v r hm hr href hbad he => ?_, fun m v r hm hr href hbad hprot => ?_, fun he hrx => ?_,
    fun he htx => ?_, fun he hd => ?_, fun ho => ?_, fun ho => ?_⟩
  · obtain rfl : hoCfgRow = r := Option.some.inj (hrow.symm.trans hr)
    refine ⟨_, by rw [exec_hoEnable, exec_hoCfg hm hh href hbad, hoCfgTake_enables (bitAt_setFld_one v (by decide)) he], ?_⟩
    obtain ⟨hreg, hself, hother, hkeep⟩ := hoCfgStored_record s.dev h (setFld v 0 1 1 &&& 0x7F)
      (fun x => { x.fresh with rx := x.rx.rise, tx := x.tx.rise })
    exact ⟨hreg, by rw [hself], by rw [hself], hother, hkeep⟩
  · obtain rfl : hoCfgRow = r := Option.some.inj (hrow.symm.trans hr)
    refine ⟨_, by rw [exec_hoDisable, exec_hoCfg hm hh href hbad, hoCfgTake_disables (bitAt_setFld_zero v (by decide)) he], ?_⟩
    obtain ⟨hreg, hself, hother, hkeep⟩ := hoCfgStored_record s.dev h (setFld v 0 1 0 &&& 0x7F)
      (fun x => { x with rx := x.rx.fall, tx := x.tx.fall })
    exact ⟨hreg, by rw [hself], by rw [hself], hother, hkeep⟩
  · obtain rfl : hoCfgRow = r := Option.some.inj (hrow.symm.trans hr)
    exact ⟨_, by rw [exec_hoEnable, exec_hoCfg_refused hm hh href hbad hprot], rangeRefused_record s m (hoBase h)⟩
  · exact ⟨_, by rw [exec_hoRxStart, path_followed hlive], hoRxStart_record he hrx⟩
  · exact ⟨_, by rw [exec_hoTxStart, path_followed hlive], hoTxStart_record he htx⟩
  · exact ⟨_, by rw [exec_hoDrainDone, path_followed hlive], hoDrainDone_record he hd⟩
  · exact ⟨_, by rw [exec_hoLomDeclare, path_followed hlive], hoLomDeclare_declares ho⟩
  · exact ⟨_, by rw [exec_hoLomClear, path_followed hlive], hoLomClear_clears ho⟩

end Sys2Proof.Machine
end

section
/-! SUPPORT. A period of a pointer generator, and what the units around it leave as they were (R188 to R192, R234 to R238). -/

namespace Sys2Proof.Machine
open Sys2Proof Sys2Proof.Safety

theorem exec_hoRegenFrame (h : Nat) (delta : Int) (s : State) :
    exec (.hoRegenFrame h delta) s = s.path (fun d => d.hoRegenFrame h delta) := rfl
theorem exec_tcRegenPeriod (k : Nat) (delta : Int) (s : State) :
    exec (.tcRegenPeriod k delta) s = s.path (fun d => d.tcRegenPeriod k delta) := rfl

/-! The pointer of a period, case by case. -/

section
variable (top : Nat) (g : Regen) (delta : Int) (fresh : Nat)

theorem period_ais : g.period top true delta fresh = ({ g with ais := true, ndf := false, just := 0, newPtr := true }, {}) := rfl

variable {top g delta fresh} (hnew : g.newPtr = false)
include hnew

theorem period_slips (hout : (g.fill : Int) + delta ≤ 0 ∨ (g.fill : Int) + delta ≥ 8) :
    g.period top false delta fresh =
      ({ g with ais := false, ndf := true, just := 0, fill := 4, value := fresh % (top + 1), bar := 3 }, { slip := true }) := by
  rw [Regen.period, if_neg nofun, if_neg (by simp [hnew]), if_pos hout]

variable (hlow : 0 < (g.fill : Int) + delta) (hhigh : (g.fill : Int) + delta < 8)
include hlow hhigh

theorem period_barred (hbar : 0 < g.bar) :
    g.period top false delta fresh =
      ({ g with ais := false, ndf := false, just := 0, bar := g.bar - 1, fill := ((g.fill : Int) + delta).toNat }, {}) := by
  rw [Regen.period, if_neg nofun, if_neg (by simp [hnew]), if_neg (by omega), if_pos hbar]

theorem period_justifies_negatively (hbar : g.bar = 0) (hfull : 6 ≤ (g.fill : Int) + delta) :
    g.period top false delta fresh =
      ({ g with ais := false, ndf := false, just := 2, bar := 3, fill := ((g.fill : Int) + delta).toNat - 1,
                value := if g.value = 0 then top else g.value - 1 }, { neg := true }) := by
  rw [Regen.period, if_neg nofun, if_neg (by simp [hnew]), if_neg (by omega), if_neg (by omega), if_pos hfull]

theorem period_justifies_positively (hbar : g.bar = 0) (hempty : (g.fill : Int) + delta ≤ 2) :
    g.period top false delta fresh =
      ({ g with ais := false, ndf := false, just := 1, bar := 3, fill := ((g.fill : Int) + delta).toNat + 1,
                value := if g.value = top then 0 else g.value + 1 }, { pos := true }) := by
  rw [Regen.period, if_neg nofun, if_neg (by simp [hnew]), if_neg (by omega), if_neg (by omega), if_neg (by omega), if_pos hempty]

end

/-- What a period's generator shows of the pointer `g`, whatever bytes it carries: under AIS the word sent is all ones. -/
structure Laid (g x : Regen) : Prop where
  fill : x.fill = g.fill
  value : x.value = g.value
  bar : x.bar = g.bar
  ndf : x.ndf = g.ndf
  ais : x.ais = g.ais
  newPtr : x.newPtr = g.newPtr
  word : g.ais = true → x.word = 0xFFFF

theorem lay_laid (old g : Regen) (ss size unit opp : Nat) (c : List Byte) (b : Byte) :
    Laid g { old.lay g ss size unit opp c with bip := b } := by
  unfold Regen.lay
  split
  · exact ⟨rfl, rfl, rfl, rfl, rfl, rfl, fun _ => rfl⟩
  next h => exact ⟨rfl, rfl, rfl, rfl, rfl, rfl, fun e => absurd e h⟩

/-! Counters in registers. -/

theorem rd_count_ne (d : Device) {a b : Nat} (n : Nat) (h : b ≠ a) (h' : b ≠ a + 4) : (d.count a n).rd b = d.rd b := by
  unfold Device.count
  split
  · rfl
  · rw [rd_wr_ne _ _ h', rd_wr_ne _ _ h]

theorem count_zero (d : Device) (a : Nat) : d.count a 0 = d := if_pos rfl

/-- The transmission of a container that begins enters the digest alone. -/
theorem when_begins_eq (d : Device) (b : Bool) (c : Nat) (content : Content) (bytes : List Byte) :
    ∃ p, d.when b (·.begins c content bytes) = { d with pw := p } := by
  unfold Device.when Device.begins
  beta_reduce
  split
  · split
    · exact ⟨_, rfl⟩
    · exact ⟨_, rfl⟩
  · exact ⟨_, rfl⟩

/-! The raw counters of a tributary. -/

theorem rawGet_of_raw {d d' : Device} (h : d'.raw = d.raw) (k i : Nat) : d'.rawGet k i = d.rawGet k i := by rw [Device.rawGet, h]; rfl

theorem rawGet_rawSet_same (d : Device) (k i v : Nat) : (d.rawSet k i v).rawGet k i = v := tabGet_tabPut_same _ _ _ _
theorem rawGet_rawSet_ne (d : Device) {k i j : Nat} (v : Nat) (h : j ≠ i) : (d.rawSet k i v).rawGet k j = d.rawGet k j :=
  tabGet_tabPut_ne _ _ _ _ (by omega)

theorem rawGet_rawCount_same (d : Device) (k i n : Nat) : (d.rawCount k i n).rawGet k i % 2 ^ 48 = (d.rawGet k i + n) % 2 ^ 48 := by
  unfold Device.rawCount
  split
  next h => rw [h, Nat.add_zero]
  · split
    · rw [rawGet_rawSet_same]; omega
    · rw [rawGet_rawSet_same]

/-- A count is a store of that counter, or nothing. -/
theorem rawCount_eq (d : Device) (k i n : Nat) : d.rawCount k i n = d ∨ ∃ v, d.rawCount k i n = d.rawSet k i v := by
  unfold Device.rawCount
  split
  · exact .inl rfl
  · split
    · exact .inr ⟨_, rfl⟩
    · exact .inr ⟨_, rfl⟩

theorem rawGet_rawCount_ne (d : Device) {k i j : Nat} (n : Nat) (h : j ≠ i) : (d.rawCount k i n).rawGet k j = d.rawGet k j := by
  rcases rawCount_eq d k i n with e | ⟨v, e⟩
  · rw [e]
  · rw [e, rawGet_rawSet_ne d v h]

theorem rawCount_frame (d : Device) (k i n : Nat) : (d.rawCount k i n).regs = d.regs ∧ (d.rawCount k i n).tcs = d.tcs := by
  rcases rawCount_eq d k i n with e | ⟨v, e⟩
  · rw [e]; exact ⟨rfl, rfl⟩
  · rw [e]; exact ⟨rfl, rfl⟩

/-! The words of the tributaries. -/

theorem tc_of_tcs {d d' : Device} (h : d'.tcs = d.tcs) (k : Nat) : d'.tc k = d.tc k := by rw [Device.tc, h]; rfl

theorem tcSlice_lt (d : Device) (k : Nat) : sliceOfLane (d.tcLane k) < 16 := by
  have hlane : d.tcLane k < 2 ^ 6 := fld_lt _ _ _
  unfold sliceOfLane
  omega

/-- The slices stand below the tributaries' window. -/
theorem sliceReg_below {s o : Nat} (hs : s < 16) (ho : o < 0x10000) : ¬tcBase 0 ≤ sliceBase s + o := by
  unfold sliceBase tcBase
  omega

/-- What an update leaves of the tributaries: their words and their state. -/
structure TribKept (d d' : Device) : Prop where
  words : KeptOn (tcBase 0 ≤ ·) d d'
  tcs : d'.tcs = d.tcs

theorem TribKept.refl (d : Device) : TribKept d d := ⟨.refl _ d, rfl⟩
theorem TribKept.trans {d d' d'' : Device} (h : TribKept d d') (h' : TribKept d' d'') : TribKept d d'' :=
  ⟨h.words.trans h'.words, h'.tcs.trans h.tcs⟩

theorem tcQueuePush_tribKept (d : Device) {s : Nat} (hs : s < 16) (k : Nat) :
    TribKept d (d.tcQueuePush s k) ∧ (d.tcQueuePush s k).raw = d.raw := by
  unfold Device.tcQueuePush
  split
  · exact ⟨⟨((KeptOn.refl _ d).inc (sliceReg_below hs (by decide))).ev _ (sliceReg_below hs (by decide)), by simp⟩, by simp⟩
  · have hev : TribKept d (d.when (d.tcQueue s).isEmpty (·.ev (sliceBase s + 0x420) 0)) ∧
        (d.when (d.tcQueue s).isEmpty (·.ev (sliceBase s + 0x420) 0)).raw = d.raw :=
      when_ind (P := fun e => TribKept d e ∧ e.raw = d.raw) ⟨.refl d, rfl⟩
        fun _ => ⟨⟨(KeptOn.refl _ d).ev _ (sliceReg_below hs (by decide)), by simp⟩, by simp⟩
    exact ⟨hev.1.trans ⟨.of_regs rfl, rfl⟩, hev.2⟩

end Sys2Proof.Machine
end

section
/-! PROOFS. The transmit frame of a head (R187 to R192). -/

namespace Sys2Proof.Machine
open Sys2Proof Sys2Proof.Safety

/-- The frame's counters: generated justifications and slips, the slip with its event (R189, R191). -/
def headCounted (d : Device) (h : Nat) (c : GenCount) : Device :=
  (((d.count (hoBase h + 0x80) (b2n c.pos)).count (hoBase h + 0x90) (b2n c.neg)).count (hoBase h + 0xC0) (b2n c.slip)).when c.slip
    (·.ev (hoBase h + 0x24) 18)

theorem headCounted_hos (d : Device) (h : Nat) (c : GenCount) : (headCounted d h c).hos = d.hos := by
  rw [headCounted, (when_ev_tables _ _ _ _).1, (count_tables _ _ _).1, (count_tables _ _ _).1, (count_tables _ _ _).1]

theorem headCounted_none (d : Device) (h : Nat) : headCounted d h {} = d := by
  simp only [headCounted, b2n, Bool.false_eq_true, if_false, count_zero, Device.when]

theorem rd_headCounted_pos (d : Device) (h : Nat) (c : GenCount) :
    ((headCounted d h c).rd (hoBase h + 0x80)).toNat = ((d.rd (hoBase h + 0x80)).toNat + b2n c.pos) % 2 ^ 32 := by
  rw [headCounted, rd_when_ev_ne _ _ _ (by omega), rd_count_ne _ _ (by omega) (by omega), rd_count_ne _ _ (by omega) (by omega),
    rd_count_same]

theorem rd_headCounted_neg (d : Device) (h : Nat) (c : GenCount) :
    ((headCounted d h c).rd (hoBase h + 0x90)).toNat = ((d.rd (hoBase h + 0x90)).toNat + b2n c.neg) % 2 ^ 32 := by
  rw [headCounted, rd_when_ev_ne _ _ _ (by omega), rd_count_ne _ _ (by omega) (by omega), rd_count_same,
    rd_count_ne _ _ (by omega) (by omega)]

theorem rd_headCounted_slip (d : Device) (h : Nat) (c : GenCount) :
    ((headCounted d h c).rd (hoBase h + 0xC0)).toNat = ((d.rd (hoBase h + 0xC0)).toNat + b2n c.slip) % 2 ^ 32 := by
  rw [headCounted, rd_when_ev_ne _ _ _ (by omega), rd_count_same, rd_count_ne _ _ (by omega) (by omega),
    rd_count_ne _ _ (by omega) (by omega)]

theorem bit_headCounted_slip (d : Device) (h : Nat) {c : GenCount} (hslip : c.slip = true) :
    (headCounted d h c).bit (hoBase h + 0x24) 18 = true := by
  rw [headCounted, hslip]
  exact bit_ev_same _ _ (by decide)

/-- What a frame of head `h` with the pointer and the counts `g` leaves. -/
structure FrameSent (d : Device) (h : Nat) (g : Regen × GenCount) (d' : Device) : Prop where
  pos : (d'.ho h).txPos = (d.ho h).txPos + 1
  mon : (d'.ho h).txMon = d.rd (hoBase h + 4)
  gen : Laid g.1 (d'.ho h).gen
  poh : g.1.ais = true → (d'.ho h).poh = {}
  plus : (d'.rd (hoBase h + 0x80)).toNat = ((d.rd (hoBase h + 0x80)).toNat + b2n g.2.pos) % 2 ^ 32
  minus : (d'.rd (hoBase h + 0x90)).toNat = ((d.rd (hoBase h + 0x90)).toNat + b2n g.2.neg) % 2 ^ 32
  slips : (d'.rd (hoBase h + 0xC0)).toNat = ((d.rd (hoBase h + 0xC0)).toNat + b2n g.2.slip) % 2 ^ 32
  event : g.2.slip = true → d'.bit (hoBase h + 0x24) 18 = true
  quiet : g.2 = {} → d'.regs = d.regs

/-- The head whose container, assembled behind its new words, is laid in behind the pointer `g` (R187, R188). -/
def headLaid (d : Device) (h : Nat) (g : Regen) (x : HoSt) : HoSt :=
  { x with
    gen := { (x.gen.lay g (if d.bit (laneBase (laneOfHo h) + 0x10) 7 then 0 else 2) (783 * groupSize (d.hoType h))
      (groupSize (d.hoType h)) 0
      (if d.hoType h = 0 then stuffed ((d.free.2.hoLoadTx h).hoOutBytes h) else (d.free.2.hoLoadTx h).hoOutBytes h)) with
        bip := bip8 ((d.free.2.hoLoadTx h).hoOutBytes h) }
    txPos := x.txPos + 1
    poh := if d.hoPohGen h && !g.ais then (d.free.2.hoLoadTx h).hoPoh h else {} }

/-- A frame takes its words, lays the container in, counts, and lets the container begin unless it is AIS. -/
theorem hoRegenFrame_eq {d : Device} {h : Nat} {delta : Int} {g : Regen × GenCount}
    (hg : (d.ho h).gen.period 782 (d.hoTxAis h) delta d.free.1.toNat = g) :
    d.hoRegenFrame h delta = (headCounted ((d.free.2.hoLoadTx h).onHo h (headLaid d h g.1)) h g.2).when (!g.1.ais)
      (·.begins (hoCtx h) (d.ho h).out.content ((d.free.2.hoLoadTx h).hoOutBytes h)) := by
  subst hg
  rfl

theorem hoRegenFrame_sent (d : Device) (h : Nat) (delta : Int) :
    FrameSent d h ((d.ho h).gen.period 782 (d.hoTxAis h) delta d.free.1.toNat) (d.hoRegenFrame h delta) := by
  generalize hg : (d.ho h).gen.period 782 (d.hoTxAis h) delta d.free.1.toNat = g
  generalize hlaid : (d.free.2.hoLoadTx h).onHo h (headLaid d h g.1) = d1
  have hregs1 : d1.regs = d.regs := by rw [← hlaid]; rfl
  obtain ⟨p, hp⟩ := when_begins_eq (headCounted d1 h g.2) (!g.1.ais) (hoCtx h) (d.ho h).out.content ((d.free.2.hoLoadTx h).hoOutBytes h)
  rw [hoRegenFrame_eq hg, hlaid, hp]
  generalize hd' : ({ headCounted d1 h g.2 with pw := p } : Device) = d'
  have hregs : d'.regs = (headCounted d1 h g.2).regs := by rw [← hd']
  have hhos : d'.hos = (headCounted d1 h g.2).hos := by rw [← hd']
  have hho : d'.ho h = headLaid d h g.1 ((d.free.2.hoLoadTx h).ho h) := by
    rw [ho_of_hos hhos, ho_of_hos (headCounted_hos _ _ _), ← hlaid, ho_onHo]
  refine ⟨?_, ?_, ?_, fun hais => ?_, ?_, ?_, ?_, fun hslip => ?_, fun hquiet => ?_⟩
  · rw [hho, ho_hoLoadTx]; rfl
  · rw [hho, ho_hoLoadTx]; rfl
  · rw [hho]; exact lay_laid _ _ _ _ _ _ _ _
  · rw [hho, headLaid, hais, Bool.not_true, Bool.and_false]; rfl
  · rw [rd_of_regs hregs, rd_headCounted_pos, rd_of_regs hregs1]
  · rw [rd_of_regs hregs, rd_headCounted_neg, rd_of_regs hregs1]
  · rw [rd_of_regs hregs, rd_headCounted_slip, rd_of_regs hregs1]
  · rw [bit_of_rd (rd_of_regs hregs _)]
    exact bit_headCounted_slip d1 h hslip
  · rw [hregs, hquiet, headCounted_none, hregs1]

end Sys2Proof.Machine
end

section
/-! PROOFS. The outgoing period of a tributary (R233 to R238, R262, R265), and the pointer generators of heads and tributaries. -/

namespace Sys2Proof.Machine
open Sys2Proof Sys2Proof.Safety

/-! The words of the period's boundary (R217, R265). -/

theorem rtRestart_eq (d : Device) (k : Nat) : ∃ r, d.rtRestart k = d.setRt k r := by
  unfold Device.rtRestart
  split
  · exact ⟨_, rfl⟩
  · exact ⟨_, rfl⟩

/-- A tributary whose transmit side has taken its words: a change of RETIME_ENA makes a new pointer due. -/
def txLoaded (d : Device) (k : Nat) (x : TcSt) : TcSt :=
  { x with
    txCfg := d.rd (tcBase k), txMon := d.rd (tcBase k + 4), txCli := d.rd (tcBase k + 8)
    gen := if bitAt (d.tc k).txCli 6 = bitAt (d.rd (tcBase k + 8)) 6 then x.gen else { x.gen with newPtr := true } }

theorem gen_txLoaded (d : Device) (k : Nat) (x : TcSt) : ∃ b, (txLoaded d k x).gen = { x.gen with newPtr := b } := by
  unfold txLoaded
  dsimp only
  split
  · exact ⟨x.gen.newPtr, rfl⟩
  · exact ⟨true, rfl⟩

theorem tcLoadTx_eq (d : Device) (k : Nat) : ∃ t, d.tcLoadTx k = { d.onTc k (txLoaded d k) with rts := t } := by
  have hload : d.tcLoadTx k = (d.onTc k (txLoaded d k)).when (bitAt (d.tc k).txCli 6 != bitAt (d.rd (tcBase k + 8)) 6 ||
      (bitAt (d.rd (tcBase k + 8)) 6 && decide (fld (d.tc k).txCli 0 5 ≠ fld (d.rd (tcBase k + 8)) 0 5))) (·.rtRestart k) := rfl
  rw [hload]
  refine when_ind (P := fun e => ∃ t, e = { d.onTc k (txLoaded d k) with rts := t }) ⟨_, rfl⟩ fun _ => ?_
  obtain ⟨r, hr⟩ := rtRestart_eq (d.onTc k (txLoaded d k)) k
  exact ⟨_, hr⟩

/-- What the words of a boundary leave of the tributary's generator and of what the period counts. -/
structure TxLoaded (d : Device) (k : Nat) (d1 : Device) : Prop where
  pos : (d1.tc k).txPos = (d.tc k).txPos
  fill : (d1.tc k).gen.fill = (d.tc k).gen.fill
  value : (d1.tc k).gen.value = (d.tc k).gen.value
  bar : (d1.tc k).gen.bar = (d.tc k).gen.bar
  type : d1.tcType k = d.tcType k
  ais : d1.tcTxAis k = d.tcTxAis k
  raw : ∀ i, d1.rawGet k i = d.rawGet k i

theorem tcLoadTx_loaded (d : Device) (k : Nat) : TxLoaded d k (d.free.2.tcLoadTx k) := by
  obtain ⟨t, ht⟩ := tcLoadTx_eq d.free.2 k
  generalize d.free.2.tcLoadTx k = d1 at ht ⊢
  have htc : d1.tc k = txLoaded d.free.2 k (d.tc k) := by
    have htcs : d1.tcs = (d.free.2.onTc k (txLoaded d.free.2 k)).tcs := by rw [ht]
    rw [tc_of_tcs htcs, tc_onTc]; rfl
  obtain ⟨b, hb⟩ := gen_txLoaded d.free.2 k (d.tc k)
  refine ⟨by rw [htc]; rfl, by rw [htc, hb], by rw [htc, hb], by rw [htc, hb], by rw [ht]; rfl, ?_, fun i => ?_⟩
  · have hfc : d1.fc = d.fc := by rw [ht]; rfl
    rw [Device.tcTxAis, Device.tcTxAis, htc, Device.fcHeld, Device.fcHeld, hfc]
    rfl
  · exact rawGet_of_raw (by rw [ht]; rfl) k i

/-! The events of a tributary. -/

theorem bitAt_eq_getLsbD (x : Word) (i : Nat) : bitAt x i = x.getLsbD i := by
  simp [bitAt, fld, BitVec.getLsbD, Nat.testBit_eq_decide_div_mod_eq, Nat.shiftRight_eq_div_pow]
  rfl

theorem bitAt_or_two_pow (x : Word) {i : Nat} (h : i < 32) : bitAt (x ||| wd (2 ^ i)) i = true := by
  rw [bitAt_eq_getLsbD, BitVec.getLsbD_or, wd, BitVec.getLsbD_ofNat]
  simp [h]

theorem tcEv_record (d : Device) (k : Nat) {i : Nat} (hi : i < 32) :
    (d.tcEv k i).bit (tcBase k + 0x24) i = true ∧ (d.tcEv k i).tcs = d.tcs ∧ (d.tcEv k i).raw = d.raw := by
  have hword : tcBase 0 ≤ tcBase k + 0x24 := by unfold tcBase; omega
  have hset : (d.wr (tcBase k + 0x24) (d.rd (tcBase k + 0x24) ||| wd (2 ^ i))).bit (tcBase k + 0x24) i = true := by
    rw [Device.bit, rd_wr_same]
    exact bitAt_or_two_pow _ hi
  refine when_ind (P := fun e => e.bit (tcBase k + 0x24) i = true ∧ e.tcs = d.tcs ∧ e.raw = d.raw) ⟨hset, rfl, rfl⟩ fun _ => ?_
  obtain ⟨⟨hwords, htcs⟩, hraw⟩ :=
    tcQueuePush_tribKept (d.wr (tcBase k + 0x24) (d.rd (tcBase k + 0x24) ||| wd (2 ^ i))) (tcSlice_lt d k) k
  exact ⟨by rw [bit_of_rd (hwords _ hword)]; exact hset, htcs, hraw⟩

/-! The retimer's share of the period (R262, R266). -/

theorem rtSlip_kept (d : Device) {k : Nat} (hk : k < 262144) (x : RtSlip) :
    TribKept d (d.rtSlip k x) ∧ ∀ i, i < 16 → (d.rtSlip k x).rawGet k i = d.rawGet k i := by
  cases x with
  | none => exact ⟨.refl d, fun _ _ => rfl⟩
  | some ovf =>
    have hs := tcSlice_lt d k
    have hcnt : d.cliCount k .slip 1 = d.rawCount k 16 1 := if_pos hk
    obtain ⟨hregs, htcs⟩ := rawCount_frame d k 16 1
    unfold Device.rtSlip
    beta_reduce
    rw [hcnt]
    refine ⟨⟨?_, by rw [ev_tcs, wr_tcs, inc_tcs, htcs]⟩, fun i hi => ?_⟩
    · exact (((KeptOn.of_regs hregs).inc (sliceReg_below hs (by decide))).wr _ (sliceReg_below hs (by decide))).ev _
        (sliceReg_below hs (by decide))
    · rw [rawGet_of_raw (d := d.rawCount k 16 1) (by rw [ev_raw, wr_raw, inc_raw]), rawGet_rawCount_ne d 1 (by omega)]

theorem rtPeriod_kept (d : Device) {k : Nat} (hk : k < 262144) :
    TribKept d (d.rtPeriod k) ∧ ∀ i, i < 16 → (d.rtPeriod k).rawGet k i = d.rawGet k i := by
  have hset : ∀ r, TribKept d (d.setRt k r) := fun r => ⟨.of_regs rfl, rfl⟩
  unfold Device.rtPeriod
  split
  · split
    · exact ⟨hset _, fun _ _ => rfl⟩
    · split
      · exact ⟨.refl d, fun _ _ => rfl⟩
      · obtain ⟨hkept, hraw⟩ := rtSlip_kept (d.setRt k (d.rtRun k).r) hk (d.rtRun k).slip
        exact ⟨(hset _).trans hkept, hraw⟩
  · exact ⟨.refl d, fun _ _ => rfl⟩

/-! The period of a tributary. -/

/-- The period's raw counters: generated justifications and slips, the slip with its event (R235, R237). -/
def tribCounted (d : Device) (k : Nat) (c : GenCount) : Device :=
  (((d.rawCount k 4 (b2n c.pos)).rawCount k 5 (b2n c.neg)).rawCount k 8 (b2n c.slip)).when c.slip (·.tcEv k 19)

theorem when_tcEv_tables (d : Device) (b : Bool) (k i : Nat) (hi : i < 32) :
    (d.when b (·.tcEv k i)).tcs = d.tcs ∧ (d.when b (·.tcEv k i)).raw = d.raw :=
  when_ind (P := fun e => e.tcs = d.tcs ∧ e.raw = d.raw) ⟨rfl, rfl⟩ fun _ => (tcEv_record d k hi).2

theorem tribCounted_tcs (d : Device) (k : Nat) (c : GenCount) : (tribCounted d k c).tcs = d.tcs := by
  rw [tribCounted, (when_tcEv_tables _ _ _ _ (by decide)).1, (rawCount_frame _ _ _ _).2, (rawCount_frame _ _ _ _).2,
    (rawCount_frame _ _ _ _).2]

theorem rawGet_tribCounted (d : Device) (k : Nat) (c : GenCount) :
    (tribCounted d k c).rawGet k 4 % 2 ^ 48 = (d.rawGet k 4 + b2n c.pos) % 2 ^ 48 ∧
      (tribCounted d k c).rawGet k 5 % 2 ^ 48 = (d.rawGet k 5 + b2n c.neg) % 2 ^ 48 ∧
      (tribCounted d k c).rawGet k 8 % 2 ^ 48 = (d.rawGet k 8 + b2n c.slip) % 2 ^ 48 := by
  have hev : ∀ e : Device, ∀ i, (e.when c.slip (·.tcEv k 19)).rawGet k i = e.rawGet k i :=
    fun e i => rawGet_of_raw (when_tcEv_tables e c.slip k 19 (by decide)).2 k i
  refine ⟨?_, ?_, ?_⟩
  · rw [tribCounted, hev, rawGet_rawCount_ne _ _ (by decide), rawGet_rawCount_ne _ _ (by decide), rawGet_rawCount_same]
  · rw [tribCounted, hev, rawGet_rawCount_ne _ _ (by decide), rawGet_rawCount_same, rawGet_rawCount_ne _ _ (by decide)]
  · rw [tribCounted, hev, rawGet_rawCount_same, rawGet_rawCount_ne _ _ (by decide), rawGet_rawCount_ne _ _ (by decide)]

/-- What a period of tributary `k` with the pointer and the counts `g` leaves. -/
structure PeriodSent (d : Device) (k : Nat) (g : Regen × GenCount) (d' : Device) : Prop where
  pos : (d'.tc k).txPos = (d.tc k).txPos + 1
  gen : Laid g.1 (d'.tc k).gen
  poh : g.1.ais = true → (d'.tc k).poh = {}
  plus : d'.rawGet k 4 % 2 ^ 48 = (d.rawGet k 4 + b2n g.2.pos) % 2 ^ 48
  minus : d'.rawGet k 5 % 2 ^ 48 = (d.rawGet k 5 + b2n g.2.neg) % 2 ^ 48
  slips : d'.rawGet k 8 % 2 ^ 48 = (d.rawGet k 8 + b2n g.2.slip) % 2 ^ 48
  event : g.2.slip = true → d'.bit (tcBase k + 0x24) 19 = true

/-- The tributary whose container is laid in behind the pointer `g` (R233, R234). -/
def tribLaid (d : Device) (k : Nat) (g : Regen) (x : TcSt) : TcSt :=
  { x with gen := d.tcLay k g (d.tcOutBytes k), txPos := x.txPos + 1, poh := if d.tcPohGen k && !g.ais then d.tcPoh k else {} }

/-- A period lays the container in, counts, gives the retimer its share and lets the container begin unless it is AIS. -/
theorem tcRegenPeriod_eq {d d1 : Device} {k : Nat} {gain : Int} {g : Regen × GenCount} (hd1 : d.free.2.tcLoadTx k = d1)
    (hg : (d1.tc k).gen.period (tcTop (d1.tcType k)) (d1.tcTxAis k) (if d1.rtActs k then 0 else gain) d.free.1.toNat = g) :
    d.tcRegenPeriod k gain = ((tribCounted (d1.onTc k (tribLaid d1 k g.1)) k g.2).rtPeriod k).when (!g.1.ais)
      (·.begins k (d1.tc k).out.content (d1.tcDigestBytes k)) := by
  subst hg hd1
  rfl

theorem tcRegenPeriod_sent {d d1 : Device} {k : Nat} (hk : k < 262144) (gain : Int) (hd1 : d.free.2.tcLoadTx k = d1) :
    PeriodSent d1 k ((d1.tc k).gen.period (tcTop (d1.tcType k)) (d1.tcTxAis k) (if d1.rtActs k then 0 else gain) d.free.1.toNat)
      (d.tcRegenPeriod k gain) := by
  generalize hg : (d1.tc k).gen.period (tcTop (d1.tcType k)) (d1.tcTxAis k) (if d1.rtActs k then 0 else gain) d.free.1.toNat = g
  generalize hlaid : d1.onTc k (tribLaid d1 k g.1) = d2
  obtain ⟨hkept, hrt⟩ := rtPeriod_kept (tribCounted d2 k g.2) hk
  obtain ⟨p, hp⟩ := when_begins_eq ((tribCounted d2 k g.2).rtPeriod k) (!g.1.ais) k (d1.tc k).out.content (d1.tcDigestBytes k)
  rw [tcRegenPeriod_eq hd1 hg, hlaid, hp]
  generalize hd' : ({ (tribCounted d2 k g.2).rtPeriod k with pw := p } : Device) = d'
  have hregs : d'.regs = ((tribCounted d2 k g.2).rtPeriod k).regs := by rw [← hd']
  have htcs : d'.tcs = ((tribCounted d2 k g.2).rtPeriod k).tcs := by rw [← hd']
  have hraw : ∀ i, i < 16 → d'.rawGet k i = (tribCounted d2 k g.2).rawGet k i := fun i hi => by
    rw [← hrt i hi]
    exact rawGet_of_raw (by rw [← hd']) k i
  have htc : d'.tc k = tribLaid d1 k g.1 (d1.tc k) := by
    rw [tc_of_tcs htcs, tc_of_tcs hkept.tcs, tc_of_tcs (tribCounted_tcs _ _ _), ← hlaid, tc_onTc]
  have hraw2 : ∀ i, d2.rawGet k i = d1.rawGet k i := fun i => by rw [← hlaid]; rfl
  obtain ⟨hplus, hminus, hslips⟩ := rawGet_tribCounted d2 k g.2
  rw [hraw2] at hplus hminus hslips
  refine ⟨?_, ?_, fun hais => ?_, ?_, ?_, ?_, fun hslip => ?_⟩
  · rw [htc]; rfl
  · rw [htc]; exact lay_laid _ _ _ _ _ _ _ _
  · rw [htc, tribLaid, hais, Bool.not_true, Bool.and_false]; rfl
  · rw [hraw 4 (by decide), hplus]
  · rw [hraw 5 (by decide), hminus]
  · rw [hraw 8 (by decide), hslips]
  · rw [bit_of_rd (rd_of_regs hregs _), bit_of_rd (hkept.words _ (by unfold tcBase; omega)), tribCounted, hslip]
    exact (tcEv_record _ k (by decide)).1

/-- Settles O25: a frame or period leaves what its generator shows and counts, and the generator does what the case of its store says. -/
theorem pointerGeneratorsJustifyAndSlip : Obligations.PointerGeneratorsJustifyAndSlip := by
  intro s hlive
  refine ⟨fun h delta _ => ?_, fun k gain d1 hk hd1 delta hdelta => ?_⟩
  · have hsent := hoRegenFrame_sent s.dev h delta
    refine ⟨_, by rw [exec_hoRegenFrame, path_followed hlive], hsent.pos, hsent.mon, fun hais => ?_, fun hais hnew =>
      ⟨fun hout => ?_, fun hlow hhigh => ⟨fun hbar => ?_, fun hbar hempty => ?_, fun hbar hfull => ?_⟩⟩⟩
    · rw [hais, period_ais] at hsent
      exact ⟨hsent.gen.ais, hsent.gen.newPtr, hsent.poh rfl, hsent.gen.word rfl⟩
    · rw [hais, period_slips hnew hout] at hsent
      exact ⟨hsent.gen.fill, hsent.gen.ndf, hsent.event rfl, hsent.slips⟩
    · rw [hais, period_barred hnew hlow hhigh hbar] at hsent
      exact ⟨hsent.gen.value, hsent.gen.bar, hsent.quiet rfl⟩
    · rw [hais, period_justifies_positively hnew hlow hhigh hbar hempty] at hsent
      exact ⟨hsent.gen.value, hsent.gen.bar, hsent.plus⟩
    · rw [hais, period_justifies_negatively hnew hlow hhigh hbar hfull] at hsent
      exact ⟨hsent.gen.value, hsent.gen.bar, hsent.minus⟩
  · have hload : TxLoaded s.dev k d1 := hd1 ▸ tcLoadTx_loaded s.dev k
    have hsent := tcRegenPeriod_sent hk gain hd1.symm
    rw [← hdelta, hload.type, hload.ais] at hsent
    refine ⟨_, by rw [exec_tcRegenPeriod, path_followed hlive], hsent.pos.trans (by rw [hload.pos]), fun hais => ?_, ?_⟩
    · rw [hais, period_ais] at hsent
      exact ⟨hsent.gen.ais, hsent.gen.newPtr, hsent.poh rfl, hsent.gen.word rfl⟩
    rw [← hload.fill, ← hload.bar, ← hload.value, ← hload.raw, ← hload.raw, ← hload.raw]
    refine fun hais hnew hbar => ⟨fun hout => ?_, fun hlow hempty => ?_, fun hfull hhigh => ?_⟩
    · rw [hais, period_slips hnew hout] at hsent
      exact ⟨hsent.gen.fill, hsent.gen.ndf, hsent.slips, hsent.event rfl⟩
    · rw [hais, period_justifies_positively hnew hlow (by omega) hbar hempty] at hsent
      exact ⟨hsent.gen.value, hsent.plus⟩
    · rw [hais, period_justifies_negatively hnew (by omega) hhigh hbar hfull] at hsent
      exact ⟨hsent.gen.value, hsent.minus⟩

end Sys2Proof.Machine
end

section
/-! SUPPORT. Register commands in the management domain: what an accepted one and a refused one leave, whatever block
holds the register (R50, R51, R66). -/

namespace Sys2Proof.Machine
open Sys2Proof Sys2Proof.Safety

/-- A write its block accepts in the management domain: what the block does with it, CFG_DIRTY when it is configuration, and what follows. -/
theorem exec_mgmtWrite {s : State} {m a : Nat} {l : Loc} {r : RegRow} {v : Word} {d : Device} (h : Ready s m) (hl : locOf a = some l)
    (hr : rowAt l = some r) (hd : domainOf l = none) (ha : a % 4 = 0) (hw : r.wide = false) (hacc : r.acc = .rw ∨ r.acc = .wo)
    (href : s.dev.refusal a l r v = none) (he : s.dev.applyLoc m a l r v = (.ok, d)) :
    s.live (fun d => d.cmdWrite m a v) = .next (accepted s m (settleAt a s.dev (if r.cov = true then d.covered else d))) := by
  have hne : r.acc ≠ .ro ∧ r.acc ≠ .rs ∧ r.acc ≠ .lock := by rcases hacc with e | e <;> simp [e]
  obtain ⟨hro, hrs, hk⟩ := hne
  rw [live_after h.live, cmdWrite_mgmt h.unstaged hl hr hd ha hw hro hrs hk href (by rw [he]), he, accepted]

/-- A write its block refuses in the management domain: the record of the refusal and the completion. -/
theorem exec_mgmtWrite_refused {s : State} {m a : Nat} {l : Loc} {r : RegRow} {v : Word} {d : Device} {st : Status} (h : Ready s m)
    (hl : locOf a = some l) (hr : rowAt l = some r) (hd : domainOf l = none) (ha : a % 4 = 0) (hw : r.wide = false)
    (hacc : r.acc = .rw ∨ r.acc = .wo) (href : s.dev.refusal a l r v = none) (he : s.dev.applyLoc m a l r v = (st, d)) (hst : st ≠ .ok) :
    s.live (fun d => d.cmdWrite m a v) =
      .next (after s ((d.refused { master := m, wide := false } st a).complete m { status := st })) := by
  have hne : r.acc ≠ .ro ∧ r.acc ≠ .rs ∧ r.acc ≠ .lock := by rcases hacc with e | e <;> simp [e]
  obtain ⟨hro, hrs, hk⟩ := hne
  rw [live_after h.live, cmdWrite_blockRefused h.unstaged hl hr hd ha hw hro hrs hk href he hst]

theorem refused_tcs (d : Device) (x : Access) (st : Status) (a : Nat) : (d.refused x st a).tcs = d.tcs := by rw [refused_only]
theorem refused_clis (d : Device) (x : Access) (st : Status) (a : Nat) : (d.refused x st a).clis = d.clis := by rw [refused_only]

theorem irqSettle_trib (d0 d : Device) : (irqSettle d0 d).tcs = d.tcs ∧ (irqSettle d0 d).clis = d.clis := by
  unfold irqSettle
  split
  · exact ⟨rfl, rfl⟩
  · split
    · exact ⟨rfl, rfl⟩
    · exact ⟨rfl, rfl⟩

/-- What a refusal with RANGE adds to the record `d` of its block: the completion, and words of GLOBAL. -/
theorem rangeRefused_adds (s : State) (m a : Nat) (d : Device) :
    let t := after s ((d.refused { master := m, wide := false } .range a).complete m { status := .range })
    tabGet {} t.dev.bus.done m = { status := .range } ∧ t.dev.tcs = d.tcs ∧ t.dev.clis = d.clis ∧ ∀ b, 0xB4 < b → t.dev.rd b = d.rd b := by
  refine ⟨?_, ?_, ?_, fun b hb => ?_⟩
  · rw [after, irqSettle_bus, done_complete]
  · rw [after, (irqSettle_trib _ _).1]
    exact refused_tcs _ _ _ _
  · rw [after, (irqSettle_trib _ _).2]
    exact refused_clis _ _ _ _
  · rw [after, rd_irqSettle, rd_complete, rd_refused _ _ _ _ (.inr hb)]

end Sys2Proof.Machine
end

section
/-! PROOFS. The pops of the event queues and of the tracer's FIFO (R240, R368, R423, R661). -/

namespace Sys2Proof.Machine
open Sys2Proof Sys2Proof.Safety

theorem exec_tcEventPop (m sl : Nat) (s : State) : exec (.tcEventPop m sl) s = s.live (fun d => d.cmdWrite m (sliceBase sl + 0x414) 1) := rfl
theorem exec_selEventPop (m : Nat) (s : State) : exec (.selEventPop m) s = s.live (fun d => d.cmdWrite m 0xB0038 1) := rfl
theorem exec_tcaPop (m : Nat) (s : State) : exec (.tcaPop m) s = s.live (fun d => d.cmdWrite m 0xD0084 1) := rfl
theorem exec_tracerPop (m : Nat) (s : State) : exec (.tracerPop m) s = s.live (fun d => d.cmdWrite m 0xA0020 1) := rfl

theorem rowAt_tcEventPop (sl : Nat) : rowAt ⟨.slice, sl, 0x414⟩ = some (bitRow 0x414) := by
  simp [rowAt, rowsAt, sliceRows, header, ro, rw, w1c, wo, rs, RegRow.has, bitRow]

/-- The registers that pop a queue: their blocks and offsets. -/
def popRegs : List (Blk × Nat) := [(.slice, 0x414), (.landing, 0x38), (.pm, 0x84), (.tracer, 0x20)]

/-- Nothing refuses a pop: no STANDBY list names one, and its row allows the bit. -/
theorem refusal_pop (d : Device) (a : Nat) {l : Loc} {r : RegRow} (h : (l.blk, l.off) ∈ popRegs) (hacc : r.acc = .wo)
    (hv : r.legal 1 = true) : d.refusal a l r 1 = none := by
  obtain ⟨b, i, o⟩ := l
  simp only [popRegs, List.mem_cons, Prod.mk.injEq, List.not_mem_nil, or_false] at h
  refine refusal_command hacc ?_ ?_ ?_ <;> rcases h with ⟨rfl, rfl⟩ | ⟨rfl, rfl⟩ | ⟨rfl, rfl⟩ | ⟨rfl, rfl⟩ <;>
    simp [Device.standbyBars, Device.bridgeBad, hv]

/-- A pop of a slice's queue leaves the queues of the other slices. -/
theorem tcQueue_tcEventPop (d : Device) (sl : Nat) :
    (d.tcEventPop sl).tcQueue sl = (d.tcQueue sl).drop 1 ∧ ∀ k, k ≠ sl → (d.tcEventPop sl).tcQueue k = d.tcQueue k :=
  ⟨tabGet_tabPut_same _ _ _ _, fun _ hk => tabGet_tabPut_ne _ _ _ _ hk⟩

/-- Settles O17: each pop is an accepted write of its command register, whose block drops the head of its queue. -/
theorem queuesPopTheirOldestEntry : Obligations.QueuesPopTheirOldestEntry := by
  intro s m h
  refine ⟨fun sl hsl => ?_, ⟨s.dev.selEventPop, ?_, rfl, rfl⟩, ⟨s.dev.tcaPop, ?_, rfl, rfl⟩, ⟨s.dev.trcPop, ?_, rfl, rfl⟩⟩
  · have hl : locOf (sliceBase sl + 0x414) = some ⟨.slice, sl, 0x414⟩ := locOf_slice hsl (by decide)
    obtain ⟨hsame, hother⟩ := tcQueue_tcEventPop s.dev sl
    refine ⟨s.dev.tcEventPop sl, ?_, hsame, hother, rfl⟩
    rw [exec_tcEventPop, exec_mgmtWrite h hl (rowAt_tcEventPop sl) rfl (by unfold sliceBase; omega) rfl (.inr rfl)
      (refusal_pop _ _ (by simp [popRegs]) rfl (bitRow_legal _)) rfl, settleAt_followed hl (by simp)]
    rfl
  · have hl : locOf 0xB0038 = some ⟨.landing, 0, 0x38⟩ := by decide
    rw [exec_selEventPop, exec_mgmtWrite (r := bitRow 0x38) h hl (by decide) rfl (by decide) rfl (.inr rfl)
      (refusal_pop _ _ (by simp [popRegs]) rfl (bitRow_legal _)) rfl, settleAt_settled hl (by decide)]
    rfl
  · have hl : locOf 0xD0084 = some ⟨.pm, 0, 0x84⟩ := by decide
    rw [exec_tcaPop, exec_mgmtWrite (r := bitRow 0x84) h hl (by decide) rfl (by decide) rfl (.inr rfl)
      (refusal_pop _ _ (by simp [popRegs]) rfl (bitRow_legal _)) rfl, settleAt_settled hl (by decide)]
    rfl
  · have hl : locOf 0xA0020 = some ⟨.tracer, 0, 0x20⟩ := by decide
    rw [exec_tracerPop, exec_mgmtWrite (r := wo 0x20 0x7) h hl (by decide) rfl (by decide) rfl (.inr rfl)
      (refusal_pop _ _ (by simp [popRegs]) rfl (by decide)) rfl, settleAt_plain hl (by decide)]
    rfl

end Sys2Proof.Machine
end

section
/-! SUPPORT. Tributaries: their commands as runs of a device, and what a write of one of their registers does at the bridge (R204, R212,
R213). -/

namespace Sys2Proof.Machine
open Sys2Proof Sys2Proof.Safety

theorem exec_tcEnable (m k : Nat) (v : Word) (s : State) :
    exec (.tcEnable m k v) s = s.live (fun d => d.cmdWrite m (tcBase k) (setFld v 0 1 1)) := rfl
theorem exec_tcDisable (m k : Nat) (v : Word) (s : State) :
    exec (.tcDisable m k v) s = s.live (fun d => d.cmdWrite m (tcBase k) (setFld v 0 1 0)) := rfl
theorem exec_tcRxStart (k : Nat) (s : State) : exec (.tcRxStart k) s = s.path (fun d => d.tcRxStart k) := rfl
theorem exec_tcTxStart (k : Nat) (s : State) : exec (.tcTxStart k) s = s.path (fun d => d.tcTxStart k) := rfl
theorem exec_tcDrainDone (k : Nat) (s : State) : exec (.tcDrainDone k) s = s.path (fun d => d.tcDrainDone k) := rfl
theorem exec_retimeLeak (k : Nat) (s : State) : exec (.retimeLeak k) s = s.path (fun d => d.retimeLeak k) := rfl

/-! The registers of a tributary. -/

/-- TC_CFG. -/
def tcCfgRow : RegRow := rw 0x0 0x1FFFFFFF 0 [⟨1, 3, [(0, 3)]⟩, ⟨10, 8, [(0, 191)]⟩, ⟨18, 2, [(0, 2)]⟩, ⟨20, 3, [(0, 6)]⟩]

theorem rowAt_tcCfg (k : Nat) : rowAt ⟨.tc, k, 0⟩ = some tcCfgRow := rfl

theorem locOf_tcCfg {k : Nat} (hk : k < 262144) : locOf (tcBase k) = some ⟨.tc, k, 0⟩ := locOf_tc (o := 0) hk (by decide)

theorem tcBase_aligned (k : Nat) : tcBase k % 4 = 0 := by unfold tcBase; omega

/-- The bridge's own registers stand below the tributaries' window. -/
theorem tcReg_ne_block {k o a : Nat} (ha : a < 0x2000000) : tcBase k + o ≠ a := by unfold tcBase; omega

theorem tcReg_inWindow (k o : Nat) : tcBase 0 ≤ tcBase k + o := by unfold tcBase; omega

theorem applyLoc_tcCfg (d : Device) (m k : Nat) (v : Word) :
    d.applyLoc m (tcBase k) ⟨.tc, k, 0⟩ tcCfgRow v =
      ((d.tcCfgWrite k v).1, if (d.tcCfgWrite k v).1 = .ok then tcRequeue d (d.tcCfgWrite k v).2 else (d.tcCfgWrite k v).2) := by
  simp [Device.applyLoc, Device.memberWord, Device.applyBlk, Device.applyTc, tcCfgRow, rw]

section
variable {s : State} {m k : Nat} {v : Word} (h : Ready s m) (hk : k < 262144)
  (href : s.dev.refusal (tcBase k) ⟨.tc, k, 0⟩ tcCfgRow v = none)
include h hk href

/-- A write of TC_CFG that no cause refuses: taken, CFG_DIRTY set, and the defects follow. -/
theorem exec_tcCfg (hcause : s.dev.tcCfgCause k v = none) :
    s.live (fun d => d.cmdWrite m (tcBase k) v) = .next (acceptedFollowed s m (tcRequeue s.dev (s.dev.tcCfgTake k v)).covered) := by
  have hap : s.dev.applyLoc m (tcBase k) ⟨.tc, k, 0⟩ tcCfgRow v = (.ok, tcRequeue s.dev (s.dev.tcCfgTake k v)) := by
    rw [applyLoc_tcCfg, Device.tcCfgWrite, hcause]; rfl
  rw [exec_mgmtWrite h (locOf_tcCfg hk) (rowAt_tcCfg k) rfl (tcBase_aligned k) rfl (.inl rfl) href hap,
    settleAt_followed (locOf_tcCfg hk) (by simp)]
  rfl

/-- A write of TC_CFG that a cause refuses: its slice records the tributary and the cause, and the master gets RANGE. -/
theorem exec_tcCfg_refused {c : Nat} (hcause : s.dev.tcCfgCause k v = some c) :
    s.live (fun d => d.cmdWrite m (tcBase k) v) = .next (after s
      (((s.dev.tcRefuse (sliceOfLane (fld v 4 6)) k c).refused { master := m, wide := false } .range (tcBase k)).complete m
        { status := .range })) := by
  have hap : s.dev.applyLoc m (tcBase k) ⟨.tc, k, 0⟩ tcCfgRow v = (.range, s.dev.tcRefuse (sliceOfLane (fld v 4 6)) k c) := by
    rw [applyLoc_tcCfg, Device.tcCfgWrite, hcause]; rfl
  rw [exec_mgmtWrite_refused h (locOf_tcCfg hk) (rowAt_tcCfg k) rfl (tcBase_aligned k) rfl (.inl rfl) href hap nofun]

end

/-! Events and queues. -/

theorem tcQueuePush_units (d : Device) (s k : Nat) : (d.tcQueuePush s k).rts = d.rts ∧ (d.tcQueuePush s k).clis = d.clis := by
  unfold Device.tcQueuePush
  split
  · exact ⟨by rw [ev_rts, inc_rts], by rw [ev_clis, inc_clis]⟩
  · exact when_ind (P := fun e => e.rts = d.rts ∧ e.clis = d.clis) ⟨rfl, rfl⟩ fun _ => ⟨ev_rts _ _ _, ev_clis _ _ _⟩

/-- An event of a tributary leaves the retimers and the client monitors. -/
theorem tcEv_units (d : Device) (k i : Nat) : (d.tcEv k i).rts = d.rts ∧ (d.tcEv k i).clis = d.clis := by
  unfold Device.tcEv Device.tcEvents
  refine when_ind (P := fun e => e.rts = d.rts ∧ e.clis = d.clis) ⟨wr_rts _ _ _, wr_clis _ _ _⟩ fun _ => ?_
  obtain ⟨hrts, hclis⟩ := tcQueuePush_units (d.wr (tcBase k + 0x24) (d.rd (tcBase k + 0x24) ||| wd (2 ^ i))) (sliceOfLane (d.tcLane k)) k
  exact ⟨hrts, hclis⟩

/-- An event of a tributary is the only word of the tributaries it changes. -/
theorem rd_tcEv_ne (d : Device) {k i a : Nat} (hw : tcBase 0 ≤ a) (hne : a ≠ tcBase k + 0x24) : (d.tcEv k i).rd a = d.rd a := by
  have hset := rd_wr_ne d (d.rd (tcBase k + 0x24) ||| wd (2 ^ i)) hne
  refine when_ind (P := fun e => e.rd a = d.rd a) hset fun _ => ?_
  exact ((tcQueuePush_tribKept _ (tcSlice_lt d k) k).1.words a hw).trans hset

/-- The queueing that follows a change of the masked events leaves the tributaries (R240). -/
theorem tcRequeue_tribKept (d0 d : Device) : TribKept d (tcRequeue d0 d) := by
  unfold tcRequeue
  refine List.foldlRecOn (motive := TribKept d) _ _ (.refl d) fun e he k _ => ?_
  split
  · exact he.trans (tcQueuePush_tribKept e (tcSlice_lt d k) k).1
  · exact he

theorem covered_tribKept (d : Device) : TribKept d d.covered :=
  ⟨fun _ ha => rd_covered d (by unfold tcBase at ha; omega), rfl⟩

end Sys2Proof.Machine
end

section
/-! PROOFS. Enabling, starting and stopping of a tributary, and the leak of its retimer (R201, R212 to R217, R221, R236, R263). -/

namespace Sys2Proof.Machine
open Sys2Proof Sys2Proof.Safety

/-! ENABLE rises or falls. -/

/-- The tributary as TC_CFG takes a value: an LO_TYPE that does not carry the CLIENT is a conflict (R243). -/
theorem tcCfgSet_stored (d : Device) (k : Nat) (v : Word) :
    (∃ c, (d.tcCfgSet k v).tc k = { d.tc k with conflict := c }) ∧ (∀ j, j ≠ k → (d.tcCfgSet k v).tc j = d.tc j) ∧
      (d.tcCfgSet k v).regs = (d.wr (tcBase k) v).regs :=
  ⟨⟨_, tc_onTc (d.wr (tcBase k) v) k _⟩, fun _ hj => tc_onTc_ne (d.wr (tcBase k) v) _ hj, rfl⟩

theorem tcCfgTake_enables {d : Device} {k : Nat} {v : Word} (hv : bitAt v 0 = true) (he : d.tcEna k = false) :
    d.tcCfgTake k v = ((d.tcCfgSet k v).setBit (tcBase k + 0x20) 17 false).onTc k
      (fun x => { x.fresh with rx := x.rx.rise, tx := x.tx.rise }) := by
  simp [Device.tcCfgTake, hv, he]

theorem tcCfgTake_disables {d : Device} {k : Nat} {v : Word} (hv : bitAt v 0 = false) (he : d.tcEna k = true) :
    d.tcCfgTake k v = (d.tcCfgSet k v).onTc k (fun x => { x with rx := x.rx.fall, tx := x.tx.fall }) := by
  simp [Device.tcCfgTake, hv, he]

/-- What a TC_CFG value leaves once it is taken: the word, the sides as `f` moves them, the other tributaries. -/
structure CfgTaken (d : Device) (k : Nat) (v : Word) (f : Side → Side) (d' : Device) : Prop where
  word : d'.rd (tcBase k) = v
  rx : (d'.tc k).rx = f (d.tc k).rx
  tx : (d'.tc k).tx = f (d.tc k).tx
  others : ∀ j, j ≠ k → d'.tc j = d.tc j

/-- What follows the taking leaves it: the queues of the slices and CFG_DIRTY hold no word of a tributary. -/
theorem CfgTaken.kept {d d1 d' : Device} {k : Nat} {v : Word} {f : Side → Side} (h : CfgTaken d k v f d1) (hk : TribKept d1 d') :
    CfgTaken d k v f d' := by
  have htc := tc_of_tcs hk.tcs
  exact ⟨(hk.words _ (tcReg_inWindow k 0)).trans h.word, by rw [htc, h.rx], by rw [htc, h.tx], fun j hj => by rw [htc, h.others j hj]⟩

theorem cfgTaken_enabled {d : Device} {k : Nat} {v : Word} (hv : bitAt v 0 = true) (he : d.tcEna k = false) :
    CfgTaken d k v Side.rise (d.tcCfgTake k v) ∧ (d.tcCfgTake k v).bit (tcBase k + 0x20) 17 = false := by
  obtain ⟨⟨c, hself⟩, hothers, hregs⟩ := tcCfgSet_stored d k v
  rw [tcCfgTake_enables hv he]
  generalize d.tcCfgSet k v = d1 at hself hothers hregs
  have htc : ∀ j, (d1.setBit (tcBase k + 0x20) 17 false).tc j = d1.tc j := fun j => rfl
  refine ⟨⟨?_, ?_, ?_, fun j hj => ?_⟩, ?_⟩
  · rw [rd_onTc, rd_setBit_ne _ _ _ (by omega), rd_of_regs hregs, rd_wr_same]
  · rw [tc_onTc, htc, hself]
  · rw [tc_onTc, htc, hself]
  · rw [tc_onTc_ne _ _ hj, htc, hothers j hj]
  · exact bit_setBit_same d1 _ false (by decide)

theorem cfgTaken_disabled {d : Device} {k : Nat} {v : Word} (hv : bitAt v 0 = false) (he : d.tcEna k = true) :
    CfgTaken d k v Side.fall (d.tcCfgTake k v) := by
  obtain ⟨⟨c, hself⟩, hothers, hregs⟩ := tcCfgSet_stored d k v
  rw [tcCfgTake_disables hv he]
  refine ⟨?_, ?_, ?_, fun j hj => ?_⟩
  · rw [rd_onTc, rd_of_regs hregs, rd_wr_same]
  · rw [tc_onTc, hself]
  · rw [tc_onTc, hself]
  · rw [tc_onTc_ne _ _ hj, hothers j hj]

theorem requeued_tribKept (d0 d : Device) : TribKept d (tcRequeue d0 d).covered := (tcRequeue_tribKept d0 d).trans (covered_tribKept _)

/-! The record of a refused TC_CFG (R213). -/

/-- The slice's record of a refused TC_CFG stands outside the tributaries. -/
theorem tcRefuse_record (d : Device) {sl : Nat} (k c : Nat) (hsl : sl < 16) :
    TribKept d (d.tcRefuse sl k c) ∧ (d.tcRefuse sl k c).rd (sliceBase sl + 0x408) = wd (k + 2 ^ 20 * c) := by
  have hout : ∀ o, o < 0x10000 → ¬tcBase 0 ≤ sliceBase sl + o := fun o => sliceReg_below hsl
  rw [Device.tcRefuse]
  refine ⟨⟨?_, by rw [ev_tcs, wr_tcs, inc_tcs]⟩, by rw [rd_ev_ne _ _ (by omega), rd_wr_same]⟩
  exact (((KeptOn.refl _ d).inc (hout _ (by decide))).wr _ (hout _ (by decide))).ev _ (hout _ (by decide))

/-! The words a receive side takes into use (R217, R327). -/

/-- A tributary takes its protection word into use: that and the selectors alone change. -/
theorem protTake_tc (d : Device) {k : Nat} (hk : k < 262144) :
    ∃ l, d.protTake k = { d.onTc k (fun x => { x with prot := d.rd (protAddr k) }) with land := l } := by
  unfold Device.protTake
  simp only [if_pos hk]
  split
  · exact ⟨_, rfl⟩
  · unfold Device.protMembers
    beta_reduce
    split
    · split
      · exact ⟨_, rfl⟩
      · exact ⟨_, rfl⟩
    · split
      · exact ⟨_, rfl⟩
      · exact ⟨_, rfl⟩

theorem tc_protTake (d : Device) {k : Nat} (hk : k < 262144) :
    (∃ p, (d.protTake k).tc k = { d.tc k with prot := p }) ∧ (d.protTake k).regs = d.regs ∧ (d.protTake k).clis = d.clis := by
  obtain ⟨l, hl⟩ := protTake_tc d hk
  rw [hl]
  exact ⟨⟨_, tabGet_tabPut_same _ _ _ _⟩, rfl, rfl⟩

/-- Windows of a tributary that begin again touch the evaluation of its SF and SD. -/
theorem sfRestart_tc (d : Device) (k : Nat) (on : Bool) :
    (∃ f g, (d.sfRestart (.tc k) on).tc k = { d.tc k with sf := f, sd := g }) ∧ (d.sfRestart (.tc k) on).regs = d.regs ∧
      (d.sfRestart (.tc k) on).clis = d.clis := by
  refine ⟨?_, rfl, rfl⟩
  simp only [Device.sfRestart, List.foldl_cons, List.foldl_nil, Device.sfSet, tc_onTc]
  exact ⟨_, _, rfl⟩

/-- The tributary as its receive side has taken its words. -/
def rxLoaded (d : Device) (k : Nat) (x : TcSt) : TcSt :=
  { x with
    rxCfg := d.rd (tcBase k), rxMon := d.rd (tcBase k + 4), rxCli := d.rd (tcBase k + 8), capt := d.rd (tcBase k + 0x14)
    ca := d.caLo (d.tcLane k)
    tim := x.tim && decide (fld (d.rd (tcBase k + 4)) 2 2 ≠ 0) && decide (fld (d.rd (tcBase k + 4)) 0 2 ≠ 0) }

/-- CLIENT or FRAMING is new to the receive side, or the monitor was off: it restarts (R245). -/
def Device.cliRestarts (d : Device) (k : Nat) : Bool :=
  decide (fld (d.tc k).rxCli 0 5 ≠ d.get (tcBase k + 8) 0 5) || (!bitAt (d.tc k).rxCli 5 && d.bit (tcBase k + 8) 5)

/-- What a boundary of the receive side leaves: the words in use, the side and the pointer as they were, the monitor restarted or kept. -/
structure TribRxLoaded (d : Device) (k : Nat) (d' : Device) : Prop where
  rx : (d'.tc k).rx = (d.tc k).rx
  pointer : (d'.tc k).pi = (d.tc k).pi
  cfg : (d'.tc k).rxCfg = d.rd (tcBase k)
  mon : (d'.tc k).rxMon = d.rd (tcBase k + 4)
  cli : (d'.tc k).rxCli = d.rd (tcBase k + 8)
  regs : d'.regs = d.regs
  monitors : d'.clis = (d.when (d.cliRestarts k) (·.setCli k {})).clis

theorem tcLoadRx_loaded (d : Device) {k : Nat} (hk : k < 262144) : TribRxLoaded d k (d.tcLoadRx k) := by
  have hload : d.tcLoadRx k = (((d.when (d.cliRestarts k) (·.setCli k {})).onTc k (rxLoaded d k)).protTake k).when
      (decide (fld (d.tc k).rxMon 20 4 ≠ fld (d.rd (tcBase k + 4)) 20 4)) (·.sfRestart (.tc k) true) := rfl
  obtain ⟨hregs, htcs⟩ := when_ind (P := fun e => e.regs = d.regs ∧ e.tcs = d.tcs) (c := d.cliRestarts k) (f := (·.setCli k {}))
    ⟨rfl, rfl⟩ fun _ => ⟨rfl, rfl⟩
  rw [hload]
  generalize hd1 : d.when (d.cliRestarts k) (·.setCli k {}) = d1 at hregs htcs ⊢
  obtain ⟨⟨p, hp⟩, hpregs, hpclis⟩ := tc_protTake (d1.onTc k (rxLoaded d k)) hk
  rw [tc_onTc, tc_of_tcs htcs] at hp
  have htaken : TribRxLoaded d k ((d1.onTc k (rxLoaded d k)).protTake k) :=
    ⟨by rw [hp]; rfl, by rw [hp]; rfl, by rw [hp]; rfl, by rw [hp]; rfl, by rw [hp]; rfl, hpregs.trans hregs,
      hpclis.trans (by rw [hd1]; rfl)⟩
  refine when_ind (P := TribRxLoaded d k) htaken fun _ => ?_
  obtain ⟨⟨f, g, htc⟩, hr, hc⟩ := sfRestart_tc ((d1.onTc k (rxLoaded d k)).protTake k) k true
  exact ⟨by rw [htc]; exact htaken.rx, by rw [htc]; exact htaken.pointer, by rw [htc]; exact htaken.cfg, by rw [htc]; exact htaken.mon,
    by rw [htc]; exact htaken.cli, hr.trans htaken.regs, hc.trans htaken.monitors⟩

/-! The receive side starts. -/

/-- The tributary whose receive side starts (R215, R221): its pointer in NORM with the active value 0. -/
def tribStarted (x : TcSt) : TcSt :=
  { conflict := x.conflict, rx := .on, tx := x.tx, txCfg := x.txCfg, txMon := x.txMon, gen := x.gen, txCli := x.txCli, rxCli := x.rxCli,
    out := x.out, prot := x.prot, poh := x.poh, txPos := x.txPos }

theorem tcRxStart_starts {d : Device} {k : Nat} (he : d.tcEna k = true) (hrx : (d.tc k).rx = .starting) (hp : d.tcPhase k = true) :
    d.tcRxStart k = (((d.setTc k (tribStarted (d.tc k))).tcExtOff k).tcLoadRx k).aisLatch k := by
  rw [Device.tcRxStart, if_pos (by simp [he, hrx, hp])]
  rfl

theorem aisLatch_tc (d : Device) {k : Nat} (hk : k < 262144) :
    (∃ a, (d.aisLatch k).tc k = { d.tc k with aisFrom := a }) ∧ (d.aisLatch k).regs = d.regs := by
  rw [Device.aisLatch, if_pos hk]
  exact ⟨⟨_, tc_onTc _ _ _⟩, rfl⟩

theorem tcRxStart_record {d : Device} {k : Nat} (hk : k < 262144) (he : d.tcEna k = true) (hrx : (d.tc k).rx = .starting)
    (hp : d.tcPhase k = true) :
    let d' := d.tcRxStart k
    (d'.tc k).rx = .on ∧ (d'.tc k).pi.st = .norm ∧ (d'.tc k).pi.active = 0 ∧ (d'.tc k).rxCfg = d.rd (tcBase k) ∧
      (d'.tc k).rxMon = d.rd (tcBase k + 4) ∧ (d'.tc k).rxCli = d.rd (tcBase k + 8) ∧ d'.bit (tcBase k + 0x2C) 16 = false ∧
      KeepsBut [tcBase k + 0x2C] d d' := by
  rw [tcRxStart_starts he hrx hp]
  generalize hd1 : (d.setTc k (tribStarted (d.tc k))).tcExtOff k = d1
  have htc : d1.tc k = tribStarted (d.tc k) := by rw [← hd1]; exact tc_setTc d k _
  have hregs : d1.regs = (d.put (tcBase k + 0x2C) 16 1 0).regs := by rw [← hd1]; rfl
  have hrd : ∀ a, a ≠ tcBase k + 0x2C → d1.rd a = d.rd a := fun a ha => by rw [rd_of_regs hregs, rd_put_ne _ _ _ _ ha]
  obtain ⟨hload, hpointer, hcfg, hmon, hcli, hlregs, -⟩ := tcLoadRx_loaded d1 hk
  obtain ⟨⟨x, hais⟩, haregs⟩ := aisLatch_tc (d1.tcLoadRx k) hk
  have hall : ∀ a, ((d1.tcLoadRx k).aisLatch k).rd a = d1.rd a := rd_of_regs (haregs.trans hlregs)
  refine ⟨?_, ?_, ?_, ?_, ?_, ?_, ?_, fun a ha => ?_⟩
  · rw [hais]; exact hload.trans (by rw [htc]; rfl)
  · rw [hais]; exact (congrArg Pi.st hpointer).trans (by rw [htc]; rfl)
  · rw [hais]; exact (congrArg Pi.active hpointer).trans (by rw [htc]; rfl)
  · rw [hais]; exact hcfg.trans (hrd _ (by omega))
  · rw [hais]; exact hmon.trans (hrd _ (by omega))
  · rw [hais]; exact hcli.trans (hrd _ (by omega))
  · rw [bit_of_rd (hall _), bit_of_rd (rd_of_regs hregs _), Device.bit, rd_put_same]
    exact bitAt_setFld_zero _ (by decide)
  · rw [hall, hrd a (by simpa using ha)]

/-! The transmit side starts. -/

theorem tcTxStart_record {d : Device} {k : Nat} (he : d.tcEna k = true) (htx : (d.tc k).tx = .starting) :
    let d' := d.tcTxStart k
    (d'.tc k).tx = .on ∧ (d'.tc k).gen.newPtr = true ∧ (d'.tc k).txCfg = d.rd (tcBase k) ∧ d'.regs = d.regs := by
  rw [Device.tcTxStart, if_pos (by simp [he, htx])]
  generalize hd1 : d.onTc k (fun x => { x with tx := .on, gen := { newPtr := true, ais := false } }) = d1
  have htc1 : d1.tc k = { d.tc k with tx := .on, gen := { newPtr := true, ais := false } } := by rw [← hd1]; exact tc_onTc d k _
  have hregs1 : d1.regs = d.regs := by rw [← hd1]; rfl
  obtain ⟨t, ht⟩ := tcLoadTx_eq d1 k
  obtain ⟨r, hr⟩ := rtRestart_eq (d1.tcLoadTx k) k
  have htc : ((d1.tcLoadTx k).rtRestart k).tc k = txLoaded d1 k (d1.tc k) := by
    rw [hr, ht]; exact tc_onTc d1 k _
  have hregs : ((d1.tcLoadTx k).rtRestart k).regs = d1.regs := by rw [hr, ht]; rfl
  refine ⟨?_, ?_, ?_, hregs.trans hregs1⟩
  · rw [htc, htc1]; rfl
  · rw [htc, htc1, txLoaded]
    dsimp only
    split
    · rfl
    · rfl
  · rw [htc]; exact rd_of_regs hregs1 _

/-! Both sides have stopped. -/

/-- The tributary that has stopped: it keeps its conflict and its protection word (R216). -/
def tribStopped (x : TcSt) : TcSt := { conflict := x.conflict, prot := x.prot }

theorem tcDrainDone_stops {d : Device} {k : Nat} (he : d.tcEna k = false) (hd : d.tcDrained k = false) :
    d.tcDrainDone k = ((((((((d.tcRxStop k).setTc k (tribStopped (d.tc k))).protTake k).setRt k {}).setCli k {}).tcExtOff
      k).setBit (tcBase k + 0x20) 17 true).tcEv k 20) := by
  rw [Device.tcDrainDone, if_pos (by simp [he, hd])]
  rfl

theorem tcDrainDone_record {d : Device} {k : Nat} (hk : k < 262144) (he : d.tcEna k = false) (hd : d.tcDrained k = false) :
    let d' := d.tcDrainDone k
    d'.bit (tcBase k + 0x20) 17 = true ∧ d'.bit (tcBase k + 0x24) 20 = true ∧ (d'.tc k).rx = .off ∧ (d'.tc k).tx = .off ∧
      d'.rt k = {} ∧ d'.cli k = {} := by
  rw [tcDrainDone_stops he hd]
  generalize hd1 : (((((d.tcRxStop k).setTc k (tribStopped (d.tc k))).protTake k).setRt k {}).setCli k {}).tcExtOff k = d1
  generalize hd2 : d1.setBit (tcBase k + 0x20) 17 true = d2
  have htcs2 : d2.tcs = (((d.tcRxStop k).setTc k (tribStopped (d.tc k))).protTake k).tcs := by
    rw [← hd2, setBit_tcs, ← hd1, Device.tcExtOff, put_tcs]; rfl
  have hrt2 : d2.rt k = {} := by
    rw [Device.rt, ← hd2, setBit_rts, ← hd1, Device.tcExtOff, put_rts]
    exact rt_setRt (((d.tcRxStop k).setTc k (tribStopped (d.tc k))).protTake k) k {}
  have hcli2 : d2.cli k = {} := by
    rw [Device.cli, ← hd2, setBit_clis, ← hd1, Device.tcExtOff, put_clis]
    exact cli_setCli ((((d.tcRxStop k).setTc k (tribStopped (d.tc k))).protTake k).setRt k {}) k {}
  obtain ⟨⟨p, hp⟩, -⟩ := tc_protTake ((d.tcRxStop k).setTc k (tribStopped (d.tc k))) hk
  rw [tc_setTc, ← tc_of_tcs htcs2] at hp
  obtain ⟨hevent, htcs, -⟩ := tcEv_record d2 k (i := 20) (by decide)
  obtain ⟨hrts, hclis⟩ := tcEv_units d2 k 20
  refine ⟨?_, hevent, ?_, ?_, ?_, ?_⟩
  · rw [bit_of_rd (rd_tcEv_ne d2 (tcReg_inWindow k _) (by omega)), ← hd2]
    exact bit_setBit_same _ _ _ (by decide)
  · rw [tc_of_tcs htcs, hp]; rfl
  · rw [tc_of_tcs htcs, hp]; rfl
  · rw [Device.rt, hrts]; exact hrt2
  · rw [Device.cli, hclis]; exact hcli2

/-! The leak. -/

theorem retimeLeak_leaks {d : Device} {k : Nat} (h : d.leakEvery k ≤ (d.rt k).leak) :
    d.retimeLeak k = d.setRt k { d.rt k with leak := 0, p := (d.rt k).p - (d.rt k).p.sign } := by
  rw [Device.retimeLeak, if_pos h]
  have hp : (if (d.rt k).p > 0 then (d.rt k).p - 1 else if (d.rt k).p < 0 then (d.rt k).p + 1 else 0) =
      (d.rt k).p - (d.rt k).p.sign := by
    rcases lt_trichotomy (d.rt k).p 0 with hneg | hzero | hpos
    · rw [if_neg (by omega), if_pos hneg, Int.sign_eq_neg_one_of_neg hneg]; omega
    · rw [hzero]; rfl
    · rw [if_pos hpos, Int.sign_eq_one_of_pos hpos]
  rw [hp]

theorem retimeLeak_waits {d : Device} {k : Nat} (h : (d.rt k).leak < d.leakEvery k) : d.retimeLeak k = d := by
  rw [Device.retimeLeak, if_neg (by omega)]

/-- Settles O26: by what TC_CFG takes at the bridge or records of its refusal, then each start, stop and leak by what it leaves. -/
theorem tributariesStartAndStop : Obligations.TributariesStartAndStop := by
  intro s k hlive hk
  have hrow : rowOf (tcBase k) = some tcCfgRow := rowOf_of (locOf_tcCfg hk)
  refine ⟨fun m v r hm hr href hcause he => ?_, fun m v r hm hr href hcause he => ?_, fun m v r c hm hr href hcause => ?_,
    fun he hrx hp => ?_, fun he htx => ?_, fun he hd => ?_, fun hleak => ?_, fun hleak => ?_⟩
  · obtain rfl : tcCfgRow = r := Option.some.inj (hrow.symm.trans hr)
    obtain ⟨htaken, hdrained⟩ := cfgTaken_enabled (v := setFld v 0 1 1) (bitAt_setFld_one v (by decide)) he
    have hkept := requeued_tribKept s.dev (s.dev.tcCfgTake k (setFld v 0 1 1))
    obtain ⟨hword, hrx, htx, hothers⟩ := htaken.kept hkept
    refine ⟨_, by rw [exec_tcEnable, exec_tcCfg hm hk href hcause], hword, ?_, hrx, htx, hothers⟩
    rw [bit_of_rd (hkept.words _ (tcReg_inWindow k _)), hdrained]
  · obtain rfl : tcCfgRow = r := Option.some.inj (hrow.symm.trans hr)
    obtain ⟨hword, hrx, htx, hothers⟩ :=
      (cfgTaken_disabled (v := setFld v 0 1 0) (bitAt_setFld_zero v (by decide)) he).kept (requeued_tribKept s.dev _)
    exact ⟨_, by rw [exec_tcDisable, exec_tcCfg hm hk href hcause], hword, hrx, htx, hothers⟩
  · obtain rfl : tcCfgRow = r := Option.some.inj (hrow.symm.trans hr)
    have hlane : fld (setFld v 0 1 1) 4 6 = fld v 4 6 := fld_setFld_ne v 1 (by decide) (.inr (by decide))
    have hsl : sliceOfLane (fld v 4 6) < 16 := by
      have := fld_lt v 4 6
      unfold sliceOfLane
      omega
    obtain ⟨hkept, hcauses⟩ := tcRefuse_record s.dev k c hsl
    obtain ⟨hdone, htcs, -, hwords⟩ := rangeRefused_adds s m (tcBase k) (s.dev.tcRefuse (sliceOfLane (fld v 4 6)) k c)
    refine ⟨_, by rw [exec_tcEnable, exec_tcCfg_refused hm hk href hcause, hlane], hdone, htcs.trans hkept.tcs, ?_, ?_⟩
    · rw [hwords _ (by unfold sliceBase; omega), hcauses]
    · exact (hwords _ (by unfold tcBase; omega)).trans (hkept.words _ (tcReg_inWindow k 0))
  · exact ⟨_, by rw [exec_tcRxStart, path_followed hlive], tcRxStart_record hk he hrx hp⟩
  · exact ⟨_, by rw [exec_tcTxStart, path_followed hlive], tcTxStart_record he htx⟩
  · exact ⟨_, by rw [exec_tcDrainDone, path_followed hlive], tcDrainDone_record hk he hd⟩
  · refine ⟨_, by rw [exec_retimeLeak, path_followed hlive, retimeLeak_leaks hleak], ?_, ?_, fun j hj => rt_setRt_ne _ _ hj, rfl⟩
    · rw [rt_setRt]
    · rw [rt_setRt]
  · rw [exec_retimeLeak, path_followed hlive, retimeLeak_waits hleak]

end Sys2Proof.Machine
end

section
/-! PROOFS. PDH client monitors: their configuration (R217, R242, R245, R269, R272), the frames of an E1 in SYNC (R246, R250, R270) and the
times of their hunt and of LOF (R249, R257). -/

namespace Sys2Proof.Machine
open Sys2Proof Sys2Proof.Safety

theorem exec_clientConfigWrite (m k : Nat) (v : Word) (s : State) :
    exec (.clientConfigWrite m k v) s = s.live (fun d => d.cmdWrite m (tcBase k + 8) v) := rfl
theorem exec_hoClientWrite (m sl i : Nat) (v : Word) (s : State) :
    exec (.hoClientWrite m sl i v) s = s.live (fun d => d.cmdWrite m (entryAddr sl i) v) := rfl
theorem exec_clientSel (m sl : Nat) (v : Word) (s : State) :
    exec (.clientSel m sl v) s = s.live (fun d => d.cmdWrite m (sliceBase sl + 0x500) v) := rfl
theorem exec_clientFrameEnd (j : Nat) (s : State) : exec (.clientFrameEnd j) s = s.path (fun d => d.clientFrame j) := rfl
theorem exec_e1Crc4CandidateTimeout (j off : Nat) (s : State) :
    exec (.e1Crc4CandidateTimeout j off) s = s.path (fun d => d.crc4CandTimeout j off) := rfl
theorem exec_e1Crc4AutoTimeout (j : Nat) (s : State) : exec (.e1Crc4AutoTimeout j) s = s.path (fun d => d.crc4AutoTimeout j) := rfl
theorem exec_clientLofDeclare (j : Nat) (s : State) : exec (.clientLofDeclare j) s = s.path (fun d => d.cliLofDeclare j) := rfl
theorem exec_clientLofClear (j : Nat) (s : State) : exec (.clientLofClear j) s = s.path (fun d => d.cliLofClear j) := rfl

/-! TC_CLIENT. -/

/-- TC_CLIENT. -/
def tcClientRow : RegRow := rw 0x8 0x7F 0 [⟨0, 3, [(0, 4)]⟩]

theorem rowAt_tcClient (k : Nat) : rowAt ⟨.tc, k, 8⟩ = some tcClientRow := rfl

theorem locOf_tcClient {k : Nat} (hk : k < 262144) : locOf (tcBase k + 8) = some ⟨.tc, k, 8⟩ := locOf_tc hk (by decide)

theorem applyLoc_tcClient (d : Device) (m k : Nat) (v : Word) :
    d.applyLoc m (tcBase k + 8) ⟨.tc, k, 8⟩ tcClientRow v = d.clientWrite k v := by
  simp [Device.applyLoc, Device.memberWord, Device.applyBlk, Device.applyTc, tcClientRow, rw]

/-- The tributary once TC_CLIENT took a value: its conflict is over (R243). -/
def clientTaken (d : Device) (k : Nat) (v : Word) : Device := ((d.wr (tcBase k + 8) v).onTc k (fun x => { x with conflict := false })).covered

section
variable {s : State} {m k : Nat} {v : Word} (h : Ready s m) (hk : k < 262144)
  (href : s.dev.refusal (tcBase k + 8) ⟨.tc, k, 8⟩ tcClientRow v = none)
include h hk href

/-- A write of TC_CLIENT that no cause refuses. -/
theorem exec_tcClient (hcause : s.dev.clientCause k v = none) :
    exec (.clientConfigWrite m k v) s = .next (acceptedFollowed s m (clientTaken s.dev k v)) := by
  have hap : s.dev.applyLoc m (tcBase k + 8) ⟨.tc, k, 8⟩ tcClientRow v =
      (.ok, (s.dev.wr (tcBase k + 8) v).onTc k (fun x => { x with conflict := false })) := by
    rw [applyLoc_tcClient, Device.clientWrite, hcause]
  rw [exec_clientConfigWrite, exec_mgmtWrite h (locOf_tcClient hk) (rowAt_tcClient k) rfl (by unfold tcBase; omega) rfl (.inl rfl) href hap,
    settleAt_followed (locOf_tcClient hk) (by simp)]
  rfl

/-- A write of TC_CLIENT that a cause refuses: the slice records the tributary and the cause, and the master gets RANGE. -/
theorem exec_tcClient_refused {c : Nat} (hcause : s.dev.clientCause k v = some c) :
    exec (.clientConfigWrite m k v) s = .next (after s
      (((s.dev.clientRefuse (sliceOfLane (s.dev.tcLane k)) k c).refused { master := m, wide := false } .range (tcBase k + 8)).complete m
        { status := .range })) := by
  have hap : s.dev.applyLoc m (tcBase k + 8) ⟨.tc, k, 8⟩ tcClientRow v =
      (.range, s.dev.clientRefuse (sliceOfLane (s.dev.tcLane k)) k c) := by
    rw [applyLoc_tcClient, Device.clientWrite, hcause]
  rw [exec_clientConfigWrite,
    exec_mgmtWrite_refused h (locOf_tcClient hk) (rowAt_tcClient k) rfl (by unfold tcBase; omega) rfl (.inl rfl) href hap nofun]

end

theorem clientTaken_record (d : Device) (k : Nat) (v : Word) :
    let d' := clientTaken d k v
    d'.rd (tcBase k + 8) = v ∧ d'.clis = d.clis ∧ (d'.tc k).conflict = false ∧ KeepsBut [tcBase k + 8, 0x50] d d' := by
  refine ⟨?_, rfl, ?_, fun a ha => ?_⟩
  · rw [clientTaken, rd_covered _ (tcReg_ne_block (by decide)), rd_onTc, rd_wr_same]
  · exact congrArg TcSt.conflict (tc_onTc (d.wr (tcBase k + 8) v) k (fun x => { x with conflict := false }))
  · simp only [List.mem_cons, List.not_mem_nil, or_false, not_or] at ha
    rw [clientTaken, rd_covered _ ha.2, rd_onTc, rd_wr_ne _ _ ha.1]

/-- The slice's record of a refused client word stands outside the tributaries and leaves the monitors. -/
theorem clientRefuse_record (d : Device) {sl : Nat} (k c : Nat) (hsl : sl < 16) :
    KeptOn (tcBase 0 ≤ ·) d (d.clientRefuse sl k c) ∧ (d.clientRefuse sl k c).clis = d.clis ∧
      (d.clientRefuse sl k c).rd (sliceBase sl + 0x53C) = wd (k + 2 ^ 20 * c) := by
  have hout : ∀ o, o < 0x10000 → ¬tcBase 0 ≤ sliceBase sl + o := fun o => sliceReg_below hsl
  rw [Device.clientRefuse]
  refine ⟨?_, by rw [ev_clis, wr_clis, inc_clis], by rw [rd_ev_ne _ _ (by omega), rd_wr_same]⟩
  exact (((KeptOn.refl _ d).inc (hout _ (by decide))).wr _ (hout _ (by decide))).ev _ (hout _ (by decide))

/-! HO_CLIENTi and CLIENT_SEL. -/

/-- HO_CLIENTi, all thirty-two of a slice. -/
def hoClientRow : RegRow := rw 0x600 0xFFFFF 0 [] 0x80
/-- CLIENT_SEL. -/
def clientSelRow : RegRow := wo 0x500 0x8003FFFF

theorem rowAt_hoClient (sl : Nat) {i : Nat} (hi : i < 32) : rowAt ⟨.slice, sl, 0x600 + 4 * i⟩ = some hoClientRow := by
  simp [rowAt, rowsAt, sliceRows, header, ro, rw, w1c, wo, rs, RegRow.has, hoClientRow]
  omega

theorem rowAt_clientSel (sl : Nat) : rowAt ⟨.slice, sl, 0x500⟩ = some clientSelRow := by
  simp [rowAt, rowsAt, sliceRows, header, ro, rw, w1c, wo, rs, RegRow.has, clientSelRow]

theorem locOf_hoClient {sl i : Nat} (hsl : sl < 16) (hi : i < 32) : locOf (entryAddr sl i) = some ⟨.slice, sl, 0x600 + 4 * i⟩ := by
  rw [entryAddr, Nat.add_assoc]
  exact locOf_slice hsl (by omega)

theorem locOf_clientSel {sl : Nat} (hsl : sl < 16) : locOf (sliceBase sl + 0x500) = some ⟨.slice, sl, 0x500⟩ := locOf_slice hsl (by decide)

/-- The entry once HO_CLIENTi took a value: a value that differs restarts its monitor (R269). -/
def entryTaken (d : Device) (sl i : Nat) (v : Word) : Device :=
  ((d.wr (entryAddr sl i) v).when (decide (d.rd (entryAddr sl i) ≠ v)) (·.setCli (entryNo sl i) {})).covered

theorem applyLoc_hoClient (d : Device) (m sl : Nat) {i : Nat} (v : Word) (hi : i < 32) :
    d.applyLoc m (entryAddr sl i) ⟨.slice, sl, 0x600 + 4 * i⟩ hoClientRow v = d.hoClientWrite sl i v := by
  have hidx : (0x600 + 4 * i - 0x600) / 4 = i := by omega
  have hslice : d.applySlice sl (entryAddr sl i) (0x600 + 4 * i) hoClientRow v = d.hoClientWrite sl i v := by
    rw [Device.applySlice, if_neg (by omega), if_neg (by omega), if_neg (by omega), if_pos (by omega), hidx]
  rw [← hslice]
  simp [Device.applyLoc, Device.memberWord, Device.applyBlk, hoClientRow, rw]

/-- A write of HO_CLIENTi that is not refused. -/
theorem exec_hoClient {s : State} {m sl i : Nat} {v : Word} (h : Ready s m) (hsl : sl < 16) (hi : i < 32)
    (href : s.dev.refusal (entryAddr sl i) ⟨.slice, sl, 0x600 + 4 * i⟩ hoClientRow v = none) (hbad : s.dev.hoClientBad sl i v = false) :
    exec (.hoClientWrite m sl i v) s = .next (acceptedFollowed s m (entryTaken s.dev sl i v)) := by
  have hap := applyLoc_hoClient s.dev m sl v hi
  rw [Device.hoClientWrite, if_neg (by simp [hbad])] at hap
  rw [exec_hoClientWrite, exec_mgmtWrite h (locOf_hoClient hsl hi) (rowAt_hoClient sl hi) rfl (by unfold entryAddr sliceBase; omega) rfl
    (.inl rfl) href hap, settleAt_followed (locOf_hoClient hsl hi) (by simp)]
  rfl

theorem entryTaken_record (d : Device) (sl i : Nat) (v : Word) :
    let d' := entryTaken d sl i v
    d'.rd (entryAddr sl i) = v ∧ (d.rd (entryAddr sl i) ≠ v → d'.cli (entryNo sl i) = {}) ∧ KeepsBut [entryAddr sl i, 0x50] d d' := by
  have hregs : ((d.wr (entryAddr sl i) v).when (decide (d.rd (entryAddr sl i) ≠ v)) (·.setCli (entryNo sl i) {})).regs =
      (d.wr (entryAddr sl i) v).regs := when_ind (P := fun e => e.regs = (d.wr (entryAddr sl i) v).regs) rfl fun _ => rfl
  refine ⟨?_, fun hne => ?_, fun a ha => ?_⟩
  · rw [entryTaken, rd_covered _ (by unfold entryAddr sliceBase; omega), rd_of_regs hregs, rd_wr_same]
  · rw [entryTaken, decide_eq_true hne]
    exact cli_setCli (d.wr (entryAddr sl i) v) (entryNo sl i) {}
  · simp only [List.mem_cons, List.not_mem_nil, or_false, not_or] at ha
    rw [entryTaken, rd_covered _ ha.2, rd_of_regs hregs, rd_wr_ne _ _ ha.1]

/-- A write of CLIENT_SEL. -/
theorem exec_clientSel_stores {s : State} {m sl : Nat} {v : Word} (h : Ready s m) (hsl : sl < 16)
    (href : s.dev.refusal (sliceBase sl + 0x500) ⟨.slice, sl, 0x500⟩ clientSelRow v = none) :
    exec (.clientSel m sl v) s = .next (acceptedFollowed s m { s.dev with cliSel := tabPut 0 s.dev.cliSel sl v }) := by
  rw [exec_clientSel, exec_mgmtWrite h (locOf_clientSel hsl) (rowAt_clientSel sl) rfl (by unfold sliceBase; omega) rfl (.inr rfl) href rfl,
    settleAt_followed (locOf_clientSel hsl) (by simp)]
  rfl

/-! Counters of a monitor, which leave the monitors themselves. -/

theorem rawCount_clis (d : Device) (k i n : Nat) : (d.rawCount k i n).clis = d.clis := by
  rcases rawCount_eq d k i n with e | ⟨v, e⟩
  · rw [e]
  · rw [e]; rfl

theorem count_clis (d : Device) (a n : Nat) : (d.count a n).clis = d.clis := by
  unfold Device.count
  split
  · rfl
  · rw [wr_clis, wr_clis]

theorem cli_cliCount (d : Device) (j : Nat) (c : CliCnt) (n i : Nat) : (d.cliCount j c n).cli i = d.cli i := by
  unfold Device.cliCount
  split
  · rw [Device.cli, rawCount_clis]; rfl
  · rw [Device.cli, count_clis]; rfl

/-- A client counter of a tributary is one of its raw counters (R427). -/
theorem cliCount_tc (d : Device) {j : Nat} (hj : j < 262144) (c : CliCnt) (n : Nat) : d.cliCount j c n = d.rawCount j (9 + c.idx) n := if_pos hj

theorem pmCliBlock_raw (d : Device) (k : Nat) (err : Bool) : (d.pmCliBlock k err).raw = d.raw := by
  unfold Device.pmCliBlock
  split
  · rfl
  · rfl

/-- A frame in SYNC leaves OOF to the loss of it. -/
theorem rawGet_cliSyncCount_oof (d : Device) {j : Nat} (hj : j < 262144) (c : Cli) (kind framing : Nat) (o : ClientObs) :
    (d.cliSyncCount j c kind framing o).rawGet j 13 = d.rawGet j 13 := by
  unfold Device.cliSyncCount
  beta_reduce
  rw [if_pos hj]
  have hblocks : ∀ (l : List Bool) (e : Device), (l.foldl (fun d b => d.pmCliBlock j b) e).raw = e.raw := fun l e =>
    List.foldlRecOn (motive := fun x => x.raw = e.raw) l _ rfl fun x hx b _ => (pmCliBlock_raw x j b).trans hx
  rw [rawGet_of_raw (hblocks _ _), cliCount_tc _ hj, cliCount_tc _ hj, cliCount_tc _ hj, cliCount_tc _ hj,
    rawGet_rawCount_ne _ _ (by decide), rawGet_rawCount_ne _ _ (by decide), rawGet_rawCount_ne _ _ (by decide),
    rawGet_rawCount_ne _ _ (by decide)]

/-! A frame in SYNC. -/

/-- What a frame reports leaves the framing state. -/
theorem syncReport_framing (c : Cli) (kind framing : Nat) (o : ClientObs) :
    (c.syncReport kind framing o).st = c.st ∧ (c.syncReport kind framing o).fasRun = c.fasRun := by
  have hsa : (o.sa.foldl Cli.saStep c).st = c.st ∧ (o.sa.foldl Cli.saStep c).fasRun = c.fasRun :=
    List.foldlRecOn (motive := fun x : Cli => x.st = c.st ∧ x.fasRun = c.fasRun) _ _ ⟨rfl, rfl⟩ fun x hx g _ => hx
  unfold Cli.syncReport
  beta_reduce
  split
  · exact hsa
  · exact ⟨rfl, rfl⟩

/-- Without a CRC-4 win, an E1 frame whose FAS and bit 2 are right ends the run of wrong FAS (R250). -/
theorem syncRuns_e1_right {c : Cli} {o : ClientObs} (hcrc : c.crcWin = false) (hfas : o.fas = true) (hbit : o.bit2 = true) :
    (c.syncRuns 1 o).1 = false ∧ (c.syncRuns 1 o).2.st = c.st ∧ (c.syncRuns 1 o).2.fasRun = 0 := by
  simp [Cli.syncRuns, hcrc, hfas, hbit]

/-- The third E1 frame in a row with a wrong FAS ends SYNC (R250). -/
theorem syncRuns_e1_third {c : Cli} {o : ClientObs} (hfas : o.fas = false) (hrun : c.fasRun = 2) : (c.syncRuns 1 o).1 = true := by
  simp [Cli.syncRuns, hfas, hrun]

theorem cliSync_keeps {d : Device} {j : Nat} {o : ClientObs} (h : ((d.cli j).syncRuns (d.cliKind j).1 o).1 = false) :
    (d.cliSync j o).cli j = { ((d.cli j).syncRuns (d.cliKind j).1 o).2.syncReport (d.cliKind j).1 (d.cliKind j).2 o with
      frame := (d.cli j).frame + 1 } := by
  unfold Device.cliSync
  beta_reduce
  rw [if_neg (by simp [h])]
  exact cli_setCli _ _ _

/-- A loss of SYNC is counted. -/
theorem cliSync_loses {d : Device} {j : Nat} (hj : j < 262144) {o : ClientObs} (h : ((d.cli j).syncRuns (d.cliKind j).1 o).1 = true) :
    ((d.cliSync j o).cli j).st = .hunt ∧ ((d.cliSync j o).cli j).noCrc4 = false ∧
      (d.cliSync j o).rawGet j 13 % 2 ^ 48 = (d.rawGet j 13 + 1) % 2 ^ 48 := by
  unfold Device.cliSync
  beta_reduce
  rw [if_pos h, cli_cliCount, cli_setCli]
  refine ⟨rfl, rfl, ?_⟩
  rw [cliCount_tc _ hj, CliCnt.idx, rawGet_rawCount_same]
  exact congrArg (fun n => (n + 1) % 2 ^ 48) (rawGet_cliSyncCount_oof d hj _ _ _ _)

/-- Client AIS is a detector of its own. -/
theorem cliAis_eq (d : Device) (j : Nat) (o : ClientObs) :
    ∃ a, (d.cliAis j o).cli j = { d.cli j with ais := a } ∧ (d.cliAis j o).raw = d.raw := by
  unfold Device.cliAis
  beta_reduce
  split
  · split
    · exact ⟨_, cli_setCli _ _ _, rfl⟩
    · exact ⟨_, rfl, rfl⟩
  · exact ⟨_, cli_setCli _ _ _, rfl⟩

/-- What a frame leaves of the framing is what SYNC makes of it: AIS and the place in the stream stand beside it. -/
structure FrameEnded (x y : Device) (j : Nat) : Prop where
  st : (y.cli j).st = (x.cli j).st
  fasRun : (y.cli j).fasRun = (x.cli j).fasRun
  noCrc4 : (y.cli j).noCrc4 = (x.cli j).noCrc4
  frame : (y.cli j).frame = (x.cli j).frame
  raw : y.raw = x.raw

theorem clientFrame_ended {d : Device} {j f : Nat} {o : ClientObs} (hruns : d.cliRuns j = true) (hkind : d.cliKind j = (1, f))
    (hst : (d.cli j).st = .sync) (hlen : cliLen 1 f ≤ (d.cli j).fifo.length)
    (ho : o = (d.cli j).read 1 f ((d.cli j).fifo.take (cliLen 1 f))) : FrameEnded (d.cliSync j o) (d.clientFrame j) j := by
  have hframe : d.clientFrame j = ((d.cliSync j o).cliAis j o).setCli j
      ((d.cli j).advance (((d.cliSync j o).cliAis j o).cli j) 1 f ((d.cli j).fifo.take (cliLen 1 f))) := by
    unfold Device.clientFrame
    rw [if_pos hruns, hkind, ho]
    beta_reduce
    rw [if_neg (by simpa using hlen), hst]
  obtain ⟨a, hais, hraw⟩ := cliAis_eq (d.cliSync j o) j o
  rw [hframe, hais]
  exact ⟨by rw [cli_setCli]; rfl, by rw [cli_setCli]; rfl, by rw [cli_setCli]; rfl, by rw [cli_setCli]; rfl, hraw⟩

theorem clientFrame_idle {d : Device} {j : Nat} (h : d.cliRuns j = false) : d.clientFrame j = d.setCli j {} := by
  rw [Device.clientFrame, if_neg (by simp [h])]

theorem clientFrame_short {d : Device} {j : Nat} (h : d.cliRuns j = true)
    (hlen : (d.cli j).fifo.length < cliLen (d.cliKind j).1 (d.cliKind j).2) : d.clientFrame j = d := by
  rw [Device.clientFrame, if_pos h]
  exact if_pos hlen

/-! The times of the hunt and of LOF. -/

theorem crc4CandTimeout_drops {d : Device} {j off : Nat} (hruns : d.cliRuns j = true) (hkind : d.cliKind j = (1, 0))
    (hcand : (d.cli j).cands.any (fun c => c.off == off && c.basic.isSome) = true) :
    ((d.crc4CandTimeout j off).cli j).cands = (d.cli j).cands.filter (·.off != off) := by
  rw [Device.crc4CandTimeout, if_pos (by simp [hruns, hkind, hcand]), cli_cliCount, cli_setCli]

theorem crc4AutoTimeout_locks {d : Device} {j : Nat} {c : CliCand} (hruns : d.cliRuns j = true) (hkind : d.cliKind j = (1, 2))
    (hst : (d.cli j).st ≠ .sync) (hbasic : c.basic.isSome = true) (hcands : (d.cli j).cands = [c]) :
    (d.crc4AutoTimeout j).cli j = (d.cli j).lockTo c.off false true := by
  obtain ⟨f, hf⟩ := Option.isSome_iff_exists.1 hbasic
  have hold : oldestBasic (d.cli j).cands = some c := by simp [oldestBasic, hcands, hf]
  rw [Device.crc4AutoTimeout, if_pos (by simp [hruns, hkind, hst]), hold]
  exact (cli_cliCount _ _ _ _ _).trans (cli_setCli _ _ _)

theorem cliLofDeclare_declares {d : Device} {j : Nat} (hruns : d.cliRuns j = true) (hst : (d.cli j).st ≠ .sync) :
    d.cliLofDeclare j = d.setCli j { d.cli j with lof := true } := by
  rw [Device.cliLofDeclare, if_pos (by simp [hruns, hst])]

theorem cliLofClear_clears {d : Device} {j : Nat} (hst : (d.cli j).st = .sync) :
    d.cliLofClear j = d.setCli j { d.cli j with lof := false } := by
  rw [Device.cliLofClear, if_pos (by simp [hst])]

/-- A CLIENT or FRAMING that is new to the receive side restarts the monitor at its boundary (R217, R245). -/
theorem tcLoadRx_restarts {d : Device} {k : Nat} (hk : k < 262144) (hnew : fld (d.tc k).rxCli 0 5 ≠ d.get (tcBase k + 8) 0 5) :
    (d.tcLoadRx k).cli k = {} ∧ ((d.tcLoadRx k).tc k).rxCli = d.rd (tcBase k + 8) := by
  have hload := tcLoadRx_loaded d hk
  have hrestarts : d.cliRestarts k = true := by simp [Device.cliRestarts, hnew]
  refine ⟨?_, hload.cli⟩
  rw [Device.cli, hload.monitors, hrestarts]
  exact cli_setCli d k {}

/-- Settles O27: by what the configuration words take at the bridge or record of a refusal, what a frame of an E1 in SYNC leaves of its
framing, and what each time does with the monitor. -/
theorem clientMonitorsFollowTheirConfigurationAndFrames : Obligations.ClientMonitorsFollowTheirConfigurationAndFrames := by
  intro s hlive
  refine ⟨fun m k v r hm hk hr href => ?_, fun m sl i v r hm hsl hi hr href hbad => ?_, fun m sl v r hm hsl hr href => ?_,
    fun k hk hnew => tcLoadRx_restarts hk hnew, fun j hruns => ?_, fun j hruns hlen => ?_,
    fun j o hj hruns hkind hst hlen ho hcrc => ?_, fun j off hruns hkind hcand => ?_,
    fun j c hruns hkind hst hbasic hcands => ?_, fun j hruns hst => ?_, fun j hst => ?_⟩
  · obtain rfl : tcClientRow = r := Option.some.inj ((rowOf_of (locOf_tcClient hk)).symm.trans hr)
    refine ⟨fun hcause => ⟨_, exec_tcClient hm hk href hcause, clientTaken_record s.dev k v⟩, fun c hcause => ?_⟩
    obtain ⟨hkept, hmonitors, hcauses⟩ := clientRefuse_record s.dev k c (tcSlice_lt s.dev k)
    obtain ⟨hdone, -, hclis, hwords⟩ := rangeRefused_adds s m (tcBase k + 8) (s.dev.clientRefuse (sliceOfLane (s.dev.tcLane k)) k c)
    refine ⟨_, exec_tcClient_refused hm hk href hcause, hdone, ?_, hclis.trans hmonitors, ?_⟩
    · rw [hwords _ (by unfold tcBase; omega), hkept _ (tcReg_inWindow k 8)]
    · rw [hwords _ (by unfold sliceBase; omega), hcauses]
  · obtain rfl : hoClientRow = r := Option.some.inj (((rowOf_of (locOf_hoClient hsl hi)).trans (rowAt_hoClient sl hi)).symm.trans hr)
    exact ⟨_, exec_hoClient hm hsl hi href hbad, entryTaken_record s.dev sl i v⟩
  · obtain rfl : clientSelRow = r := Option.some.inj (((rowOf_of (locOf_clientSel hsl)).trans (rowAt_clientSel sl)).symm.trans hr)
    exact ⟨_, exec_clientSel_stores hm hsl href, tabGet_tabPut_same _ _ _ _, rfl⟩
  · rw [exec_clientFrameEnd, path_followed hlive, clientFrame_idle hruns]
  · rw [exec_clientFrameEnd, path_followed hlive, clientFrame_short hruns hlen]
  · obtain ⟨est, efas, ecrc, eframe, eraw⟩ := clientFrame_ended hruns (Prod.ext hkind rfl) hst hlen ho
    refine ⟨fun hfas hbit => ⟨_, by rw [exec_clientFrameEnd, path_followed hlive], ?_⟩,
      fun hfas hrun => ⟨_, by rw [exec_clientFrameEnd, path_followed hlive], ?_⟩⟩
    · obtain ⟨hkeep, hkst, hkfas⟩ := syncRuns_e1_right hcrc hfas hbit
      rw [← hkind] at hkeep hkst hkfas
      obtain ⟨hrst, hrfas⟩ := syncReport_framing ((s.dev.cli j).syncRuns (s.dev.cliKind j).1 o).2 (s.dev.cliKind j).1 (s.dev.cliKind j).2 o
      rw [est, efas, eframe, cliSync_keeps hkeep]
      exact ⟨hrst.trans (hkst.trans hst), hrfas.trans hkfas, rfl⟩
    · have hloss : ((s.dev.cli j).syncRuns (s.dev.cliKind j).1 o).1 = true := by
        rw [hkind]
        exact syncRuns_e1_third hfas hrun
      rw [est, ecrc, rawGet_of_raw eraw]
      exact cliSync_loses hj hloss
  · exact ⟨_, by rw [exec_e1Crc4CandidateTimeout, path_followed hlive], crc4CandTimeout_drops hruns hkind hcand⟩
  · refine ⟨_, by rw [exec_e1Crc4AutoTimeout, path_followed hlive], ?_⟩
    rw [crc4AutoTimeout_locks hruns hkind hst hbasic hcands]
    exact ⟨rfl, rfl, rfl, rfl⟩
  · exact ⟨_, by rw [exec_clientLofDeclare, path_followed hlive], cliLofDeclare_declares hruns hst⟩
  · exact ⟨_, by rw [exec_clientLofClear, path_followed hlive], cliLofClear_clears hst⟩

end Sys2Proof.Machine
end

section
/-! PROOFS. Writes of page entries (R276 to R280, R301). -/

namespace Sys2Proof.Machine
open Sys2Proof Sys2Proof.Safety

theorem exec_pageEntryWrite (m p c : Nat) (v : Word) (s : State) :
    exec (.pageEntryWrite m p c v) s = s.live (fun d => d.cmdWrite m (entryAddrOf p c) v) := rfl

/-! Where an entry stands (R276). -/

/-- The row of a page (R278). -/
def pageRow : RegRow := rw 0x0 0xFFFFFFFF 0 [] 0x10C000

/-- The place of the entry of output `c` inside its page (R276). -/
def entryOff (c : Nat) : Nat := if c < 262144 then 4 * c else 0x00100000 + 4 * (c - 262144)

theorem entryAddrOf_eq (p c : Nat) : entryAddrOf p c = pageBase p + entryOff c := by
  unfold entryAddrOf entryOff
  split <;> omega

/-- The entries lie behind every block, slice and context. -/
theorem entryAddrOf_ge (p c : Nat) : 0x04000000 ≤ entryAddrOf p c := by
  rw [entryAddrOf_eq, pageBase]
  omega

theorem entryAddrOf_aligned (p c : Nat) : entryAddrOf p c % 4 = 0 := by
  rw [entryAddrOf_eq, pageBase, entryOff]
  split <;> omega

/-- A place of a page stands for the output whose entry it holds. -/
theorem entryCtx_entryOff (c : Nat) : entryCtx (entryOff c) = c := by
  unfold entryCtx entryOff
  split
  · rw [if_pos (by omega)]; omega
  · rw [if_neg (by omega)]; omega

section
variable {c : Nat} (hc : c < 274432)
include hc

theorem entryOff_lt : entryOff c < 0x10C000 := by
  unfold entryOff
  split <;> omega

theorem locOf_entry {p : Nat} (hp : p < 2) : locOf (entryAddrOf p c) = some ⟨.page, p, entryOff c⟩ := by
  have hoff := entryOff_lt hc
  have hcase : p = 0 ∨ p = 1 := by omega
  rw [entryAddrOf_eq, locOf, pageBase]
  rcases hcase with rfl | rfl
  · iterate 10 rw [if_neg (by omega)]
    rw [if_pos (by omega), Nat.mul_zero, Nat.add_zero, Nat.add_sub_cancel_left]
  · iterate 12 rw [if_neg (by omega)]
    rw [if_pos (by omega), Nat.mul_one, Nat.add_sub_cancel_left]

theorem rowAt_entry (p : Nat) : rowAt ⟨.page, p, entryOff c⟩ = some pageRow := by
  have hoff := entryOff_lt hc
  have hhas : pageRow.has (entryOff c) = true := by simp [RegRow.has, pageRow, rw, hoff]
  exact List.find?_cons_of_pos hhas

end

/-! The bridge (R280). -/

theorem pageRow_legal (v : Word) : pageRow.legal v.toNat = true := by
  have hbits : 0xFFFFFFFF - pageRow.bits % 0x100000000 = 0 := by decide
  have hchks : pageRow.chks = [] := rfl
  simp [RegRow.legal, RegRow.reserved, hbits, hchks]

/-- The bridge leaves the judgement of an entry to the Hall. -/
theorem refusal_entry (d : Device) (a p o : Nat) (v : Word) : d.refusal a ⟨.page, p, o⟩ pageRow v = none := by
  have hacc : pageRow.acc = .rw := rfl
  simp [Device.refusal, Device.standbyBars, Device.bridgeBad, pageRow_legal, hacc]

theorem applyLoc_entry (d : Device) (m a p o : Nat) (v : Word) : d.applyLoc m a ⟨.page, p, o⟩ pageRow v = d.pageWrite p o v := by
  simp [Device.applyLoc, Device.memberWord, Device.applyBlk, pageRow, rw]

theorem settleAt_entry {p c : Nat} (hp : p < 2) (hc : c < 274432) (d0 d : Device) : settleAt (entryAddrOf p c) d0 d = d := by
  rw [settleAt, locOf_entry hc hp]

/-! The Hall's judgement. -/

/-- An entry that is stored unsettles the CRC of its page (R291), and the configuration is dirty (R77). -/
def entryStored (d : Device) (p c : Nat) (v : Word) : Device := ((d.wr (entryAddrOf p c) v).setBit 0xC0068 p false).covered

/-- REFUSED of the Hall with what it records of an entry (R301). -/
def entryRefusal (p c k : Nat) : Word :=
  wd (k + 2 ^ 4 * (if c < 262144 then c else c - 262144) + 2 ^ 24 * b2n (decide (262144 ≤ c)) + 2 ^ 25 * p)

/-- The Hall's record of an entry refused with cause `k`: counted, recorded, its event set (R280, R301). -/
def entryRefused (d : Device) (p c k : Nat) : Device := ((d.inc 0xC007C).wr 0xC0080 (entryRefusal p c k)).ev 0xC0014 2

theorem pageWrite_stores {d : Device} {p c : Nat} {v : Word} (h : d.pageCause p c v = none) :
    d.pageWrite p (entryOff c) v = (.ok, (d.wr (entryAddrOf p c) v).setBit 0xC0068 p false) := by
  simp only [Device.pageWrite, entryCtx_entryOff, h, entryAddrOf_eq]

theorem pageWrite_refuses {d : Device} {p c k : Nat} {v : Word} (h : d.pageCause p c v = some k) :
    d.pageWrite p (entryOff c) v = (.range, entryRefused d p c k) := by
  simp only [Device.pageWrite, entryCtx_entryOff, h]
  rfl

/-- The causes of R280 are 1 to 4. -/
theorem pageCause_le {d : Device} {p c k : Nat} {v : Word} (h : d.pageCause p c v = some k) : k ≤ 4 := by
  unfold Device.pageCause at h
  split_ifs at h <;> cases h <;> decide

theorem entryStored_record (d : Device) {p : Nat} (hp : p < 2) (c : Nat) (v : Word) :
    (entryStored d p c v).rd (entryAddrOf p c) = v ∧ (entryStored d p c v).bit 0xC0068 p = false ∧ (entryStored d p c v).hall = d.hall ∧
      KeepsBut [entryAddrOf p c, 0xC0068, 0x50] d (entryStored d p c v) := by
  have hge := entryAddrOf_ge p c
  refine ⟨?_, ?_, rfl, fun a ha => ?_⟩
  · rw [entryStored, rd_covered _ (by omega), rd_setBit_ne _ _ _ (by omega), rd_wr_same]
  · rw [entryStored, bit_of_rd (rd_covered _ (by decide))]
    exact bit_setBit_same _ _ _ (by omega)
  · simp only [List.mem_cons, List.not_mem_nil, or_false, not_or] at ha
    obtain ⟨hentry, hvalid, hdirty⟩ := ha
    rw [entryStored, rd_covered _ hdirty, rd_setBit_ne _ _ _ hvalid, rd_wr_ne _ _ hentry]

/-- The fields of the record: the cause, the output's index in its order, the page. -/
theorem entryRefusal_fields {p c k : Nat} (hp : p < 2) (hc : c < 274432) (hk : k < 16) :
    fld (entryRefusal p c k) 0 4 = k ∧ fld (entryRefusal p c k) 4 18 = (if c < 262144 then c else c - 262144) ∧
      fld (entryRefusal p c k) 25 1 = p := by
  have hb : b2n (decide (262144 ≤ c)) < 2 := by cases decide (262144 ≤ c) <;> decide
  have hi : (if c < 262144 then c else c - 262144) < 2 ^ 18 := by split <;> omega
  rw [entryRefusal]
  generalize b2n (decide (262144 ≤ c)) = b at hb
  generalize (if c < 262144 then c else c - 262144) = i at hi
  refine ⟨?_, ?_, ?_⟩ <;> rw [fld, wd_toNat (by omega), Nat.shiftRight_eq_div_pow] <;> omega

theorem entryRefused_record (d : Device) (p c k : Nat) :
    (entryRefused d p c k).rd 0xC007C = wd (satAdd 32 (d.rd 0xC007C).toNat 1) ∧ (entryRefused d p c k).rd 0xC0080 = entryRefusal p c k ∧
      (entryRefused d p c k).bit 0xC0014 2 = true ∧ KeepsBut [0xC007C, 0xC0080, 0xC0014] d (entryRefused d p c k) := by
  refine ⟨?_, ?_, bit_ev_same _ _ (by decide), fun a ha => ?_⟩
  · rw [entryRefused, rd_ev_ne _ _ (by decide), rd_wr_ne _ _ (by decide), rd_inc, if_pos rfl]
  · rw [entryRefused, rd_ev_ne _ _ (by decide), rd_wr_same]
  · simp only [List.mem_cons, List.not_mem_nil, or_false, not_or] at ha
    obtain ⟨hcount, hrecord, hevent⟩ := ha
    rw [entryRefused, rd_ev_ne _ _ hevent, rd_wr_ne _ _ hrecord, rd_inc_ne _ hcount]

section
variable {s : State} {m p c : Nat} {v : Word} (h : Ready s m) (hp : p < 2) (hc : c < 274432)
include h hp hc

theorem exec_pageEntryWrite_stores (hk : s.dev.pageCause p c v = none) :
    exec (.pageEntryWrite m p c v) s = .next (accepted s m (entryStored s.dev p c v)) := by
  have hap := (applyLoc_entry s.dev m (entryAddrOf p c) p (entryOff c) v).trans (pageWrite_stores hk)
  rw [exec_pageEntryWrite, exec_mgmtWrite h (locOf_entry hc hp) (rowAt_entry hc p) rfl (entryAddrOf_aligned p c) rfl (.inl rfl)
    (refusal_entry _ _ _ _ _) hap, settleAt_entry hp hc]
  rfl

theorem exec_pageEntryWrite_refuses {k : Nat} (hk : s.dev.pageCause p c v = some k) :
    exec (.pageEntryWrite m p c v) s = .next (after s
      (((entryRefused s.dev p c k).refused { master := m, wide := false } .range (entryAddrOf p c)).complete m { status := .range })) := by
  have hap := (applyLoc_entry s.dev m (entryAddrOf p c) p (entryOff c) v).trans (pageWrite_refuses hk)
  rw [exec_pageEntryWrite, exec_mgmtWrite_refused h (locOf_entry hc hp) (rowAt_entry hc p) rfl (entryAddrOf_aligned p c) rfl (.inl rfl)
    (refusal_entry _ _ _ _ _) hap nofun]

end

/-- Settles O28: the bridge takes every entry, the Hall stores it or records the lowest cause of R280, and the refusal's own record
stands in GLOBAL. -/
theorem pageEntriesAreJudgedAndStored : Obligations.PageEntriesAreJudgedAndStored := by
  intro s m p c v r h hp hc _
  refine ⟨fun hk => ⟨_, exec_pageEntryWrite_stores h hp hc hk, entryStored_record s.dev hp c v⟩,
    fun k hk => ⟨_, exec_pageEntryWrite_refuses h hp hc hk, ?_⟩⟩
  have hk16 : k < 16 := by have := pageCause_le hk; omega
  obtain ⟨hcount, hrecord, hevent, hkeeps⟩ := entryRefused_record s.dev p c k
  obtain ⟨hcause, hindex, hpage⟩ := entryRefusal_fields hp hc hk16
  have hout : ∀ {b : Nat}, 0xB4 < b → ((entryRefused s.dev p c k).refused { master := m, wide := false } .range (entryAddrOf p c)).rd b =
      (entryRefused s.dev p c k).rd b := fun hb => rd_refused _ _ _ _ (.inr hb)
  have hfld : ∀ lo w, ((entryRefused s.dev p c k).refused { master := m, wide := false } .range (entryAddrOf p c)).get 0xC0080 lo w =
      fld (entryRefusal p c k) lo w := fun lo w => by rw [Device.get, hout (by decide), hrecord]
  refine ⟨?_, ?_, ?_, ?_, ?_, ?_, fun a ha => ?_⟩
  · rw [hout (by decide), hcount]
  · rw [hfld, hcause, Nat.mod_eq_of_lt hk16]
  · rw [hfld, hindex]
  · rw [hfld, hpage]
  · rw [bit_of_rd (hout (by decide)), hevent]
  · rw [refused_only]
    rfl
  · simp only [List.mem_cons, List.not_mem_nil, or_false, not_or] at ha
    obtain ⟨h1, h2, h3, h4⟩ := ha
    rw [refused_keeps _ _ _ (st := .range) rfl a (by simpa using h4), hkeeps a (by simp [h1, h2, h3])]

end Sys2Proof.Machine
end

section
/-! SUPPORT. Reports to the Fault Collector that wait for slots of their own (R556). -/

namespace Sys2Proof.Machine
open Sys2Proof Sys2Proof.Safety

@[simp] theorem raise_later (d : Device) (r : SrcReport) : (d.raise r).fc.later = d.fc.later := by
  obtain ⟨l, h⟩ := raise_eq d r
  rw [h]

@[simp] theorem raiseSlots_hall (d : Device) (g : List (List SrcReport)) : (d.raiseSlots g).hall = d.hall := by
  obtain ⟨m, n, h⟩ := raiseSlots_eq d g
  rw [h]

@[simp] theorem raiseSlots_pw (d : Device) (g : List (List SrcReport)) : (d.raiseSlots g).pw = d.pw := by
  obtain ⟨m, n, h⟩ := raiseSlots_eq d g
  rw [h]

/-- The slots behind the first wait behind those that wait already. -/
theorem later_raiseSlots (d : Device) (r : SrcReport) (rest : List (List SrcReport)) :
    (d.raiseSlots ([r] :: rest)).fc.later = d.fc.later ++ rest := congrArg (· ++ rest) (raise_later d r)

/-- What waited still waits behind further slots. -/
theorem raised_raiseSlots_mono {d : Device} {src : Nat} (h : Raised d src) (g : List (List SrcReport)) : Raised (d.raiseSlots g) src := by
  cases g with
  | nil => exact h
  | cons now rest => exact List.foldlRecOn (motive := fun e => Raised e src) now _ h (fun _ he r _ => he.raise r)

/-- The first slot is now: its condition waits. -/
theorem raised_raiseSlots (d : Device) {r : SrcReport} (h : r.real = true) (rest : List (List SrcReport)) :
    Raised (d.raiseSlots ([r] :: rest)) r.src := raised_raise d h

/-- Errors of one source, each in a slot of its own, leave its condition waiting. -/
theorem raised_raiseSlots_map {α : Type} (d : Device) {src : Nat} {f : α → SrcReport} (hs : ∀ x, (f x).src = src) (hr : ∀ x, (f x).real = true)
    {l : List α} (hl : l ≠ []) : Raised (d.raiseSlots (l.map (fun x => [f x]))) src := by
  cases l with
  | nil => exact absurd rfl hl
  | cons x t => exact hs x ▸ raised_raiseSlots d (hr x) _

end Sys2Proof.Machine
end

section
/-! PROOFS. The prepare pass of a page switch and the ready signals (R277, R291 to R293). -/

namespace Sys2Proof.Machine
open Sys2Proof Sys2Proof.Safety

theorem exec_preparePassEnd (ecc : List Nat) (s : State) : exec (.preparePassEnd ecc) s = s.live (fun d => d.prepareEnd ecc) := rfl
theorem exec_slicePreparePassEnd (sl : Nat) (ecc : List Nat) (s : State) :
    exec (.slicePreparePassEnd sl ecc) s = s.live (fun d => d.slicePrepareEnd sl ecc) := rfl

/-! The ready bitmap (R293). -/

/-- A bitmap of some numbers of a list is at most the bitmap of all of them. -/
theorem bitmap_filter_le (p : Nat → Bool) (l : List Nat) : ∀ a b : Nat, a ≤ b →
    (l.filter p).foldl (fun a s => a + 2 ^ s) a ≤ l.foldl (fun a s => a + 2 ^ s) b := by
  induction l with
  | nil => exact fun _ _ h => h
  | cons n t ih =>
    intro a b h
    cases hn : p n with
    | true => rw [List.filter_cons_of_pos hn]; exact ih _ _ (Nat.add_le_add_right h _)
    | false => rw [List.filter_cons_of_neg (by simp [hn])]; exact ih _ _ (Nat.le_add_right_of_le h)

theorem readyMask_lt (d : Device) : d.readyMask < 2 ^ 16 :=
  Nat.lt_of_le_of_lt (bitmap_filter_le _ (List.range 16) 0 0 (Nat.le_refl 0)) (by decide)

/-- All slices are ready when every one passed and none is held in reset. -/
theorem readyMask_all {d : Device} (hpassed : d.hall.passed = List.range 16) (hheld : ∀ n, n < 16 → d.sliceHeld n = false) :
    d.readyMask = 0xFFFF := by
  have hall : (List.range 16).filter (fun n => d.hall.passed.contains n && !d.sliceHeld n) = List.range 16 := by
    refine List.filter_eq_self.2 fun n hn => ?_
    rw [hpassed, hheld n (List.mem_range.1 hn), Bool.not_false, Bool.and_true]
    exact List.contains_iff_mem.2 hn
  rw [Device.readyMask, hall]
  rfl

/-! The slices of a pass. -/

/-- The registers of the blocks and lanes, which stand below the slices. -/
def BelowSlices (a : Nat) : Prop := a < 0x00800000

theorem not_belowSlices (n o : Nat) : ¬BelowSlices (sliceBase n + o) := by
  unfold BelowSlices sliceBase
  omega

/-- What the ends of the slices leave: the registers below the slices, the Fault Collector and all of the Hall but the slices that passed. -/
structure PassKept (d d' : Device) : Prop where
  regs : KeptOn BelowSlices d d'
  fc : d'.fc = d.fc
  sw : d'.hall.sw = d.hall.sw
  outcomes : d'.hall.outcomes = d.hall.outcomes

theorem PassKept.refl (d : Device) : PassKept d d := ⟨.refl _ d, rfl, rfl, rfl⟩

theorem PassKept.trans {d d' d'' : Device} (h : PassKept d d') (h' : PassKept d' d'') : PassKept d d'' :=
  ⟨h.regs.trans h'.regs, h'.fc.trans h.fc, h'.sw.trans h.sw, h'.outcomes.trans h.outcomes⟩

theorem PassKept.wr {d d' : Device} (h : PassKept d d') {b : Nat} (v : Word) (hb : ¬BelowSlices b) : PassKept d (d'.wr b v) :=
  ⟨h.regs.wr v hb, h.fc, h.sw, h.outcomes⟩

theorem PassKept.passed {d d' : Device} (h : PassKept d d') (l : List Nat) : PassKept d { d' with hall := { d'.hall with passed := l } } :=
  ⟨h.regs.trans (.of_regs rfl), h.fc, h.sw, h.outcomes⟩

theorem slicePass_kept (d : Device) (n : Nat) (crc expct : Word) (ecc : List Nat) : PassKept d (d.slicePass n crc expct ecc) := by
  have hout := not_belowSlices n
  unfold Device.slicePass
  dsimp only
  split
  · exact ((((PassKept.refl d).wr _ (hout 0x700)).wr _ (hout 0x704)).wr _ (hout 0x708)).passed _
  · exact (((PassKept.refl d).wr _ (hout 0x700)).wr _ (hout 0x704)).wr _ (hout 0x708)

/-- A slice that reads the CRC it expects, and no uncorrectable entry, has passed. -/
theorem slicePass_passes (d : Device) (n : Nat) (crc : Word) : (d.slicePass n crc crc []).hall.passed = d.hall.passed ++ [n] :=
  congrArg (fun e : Device => e.hall.passed) (if_pos ⟨rfl, rfl⟩)

theorem slicesPass_kept (l : List Nat) (crc expct : Word) (ecc : List Nat) (d : Device) :
    PassKept d (l.foldl (fun d n => d.slicePass n crc expct ecc) d) :=
  List.foldlRecOn _ _ (PassKept.refl d) (fun e h n _ => h.trans (slicePass_kept e n crc expct ecc))

theorem slicesPass_pass (l : List Nat) (crc : Word) (d : Device) :
    (l.foldl (fun d n => d.slicePass n crc crc []) d).hall.passed = d.hall.passed ++ l := by
  induction l generalizing d with
  | nil => simp
  | cons n t ih => rw [List.foldl_cons, ih, slicePass_passes, List.append_assoc]; rfl

/-! A pass. -/

/-- The Hall's registers at the end of a pass: DONE, the page's CRC and PAGE_CRC_VALID (R291, R301). -/
def passLatched (d : Device) (w : HallSw) : Device :=
  ((d.setBit 0xC0010 2 true).wr (0xC0060 + 4 * w.page) (d.pageCrc w.page)).setBit 0xC0068 w.page true

/-- The reports of the uncorrectable errors of a pass, each in the slot that reads the entry (R291, R556). -/
def passReports (w : HallSw) (ecc : List Nat) : List (List SrcReport) :=
  (passSlots ecc).map (·.map (fun c => { src := 14, addr := entryAddrOf w.page c }))

/-- The slices have compared what they read with the CRC GO latched (R292). -/
def passCompared (d : Device) (w : HallSw) (slices ecc : List Nat) : Device :=
  slices.foldl (fun e n => e.slicePass n (d.pageCrc w.page) w.crc ecc) (passLatched d w)

/-- Entries that a slice of the pass owns are uncorrectable. -/
def passBad (d : Device) (slices ecc : List Nat) : Bool := slices.any (fun n => !(d.eccOwned n ecc).isEmpty)

/-- A pass is over and its errors are counted. -/
def passRead (d : Device) (w : HallSw) (slices ecc : List Nat) : Device := (passCompared d w slices ecc).raiseSlots (passReports w ecc)

theorem passEnd_eq (d : Device) (w : HallSw) (slices ecc : List Nat) :
    d.passEnd w slices ecc =
      if (d.pageCrc w.page != w.crc || passBad d slices ecc) = true then
        ((passRead d w slices ecc).setBit 0xC0010 3 true).hallAbandon w
          (2 ^ 16 * b2n (d.pageCrc w.page != w.crc) + 2 ^ 17 * b2n (passBad d slices ecc)) 0 (passRead d w slices ecc).readyMask w.waited
          ((passRead d w slices ecc).rd 0xC001C)
      else if (List.range 16).all (fun n => (passRead d w slices ecc).hall.passed.contains n) = true then
        (passRead d w slices ecc).opSteps w.op 1
      else passRead d w slices ecc := rfl

theorem passLatched_record (d : Device) {w : HallSw} (hp : w.page < 2) :
    (passLatched d w).bit 0xC0010 2 = true ∧ (passLatched d w).rd (0xC0060 + 4 * w.page) = d.pageCrc w.page ∧
      (passLatched d w).bit 0xC0068 w.page = true ∧ (passLatched d w).rd 0xC0074 = d.rd 0xC0074 := by
  refine ⟨?_, ?_, bit_setBit_same _ _ _ (by omega), ?_⟩
  · rw [passLatched, bit_of_rd (rd_setBit_ne _ _ _ (by decide)), bit_of_rd (rd_wr_ne _ _ (by omega))]
    exact bit_setBit_same _ _ _ (by decide)
  · rw [passLatched, rd_setBit_ne _ _ _ (by omega), rd_wr_same]
  · rw [passLatched, rd_setBit_ne _ _ _ (by decide), rd_wr_ne _ _ (by omega), rd_setBit_ne _ _ _ (by decide)]

@[simp] theorem passLatched_hall (d : Device) (w : HallSw) : (passLatched d w).hall = d.hall := by
  rw [passLatched, setBit_hall, wr_hall, setBit_hall]

@[simp] theorem passLatched_fc (d : Device) (w : HallSw) : (passLatched d w).fc = d.fc := by
  rw [passLatched, setBit_fc, wr_fc, setBit_fc]

theorem passCompared_kept (d : Device) (w : HallSw) (slices ecc : List Nat) : PassKept (passLatched d w) (passCompared d w slices ecc) :=
  slicesPass_kept slices _ _ ecc _

/-- Every slice of a pass without errors that reads the expected CRC has passed (R292). -/
theorem passCompared_passed {d : Device} {w : HallSw} (hcrc : d.pageCrc w.page = w.crc) (slices : List Nat) :
    (passCompared d w slices []).hall.passed = d.hall.passed ++ slices := by
  rw [passCompared, hcrc, slicesPass_pass, passLatched_hall]

theorem passBad_nil (d : Device) (slices : List Nat) : passBad d slices [] = false := by
  simp [passBad, Device.eccOwned]

theorem passReports_nil (w : HallSw) : passReports w [] = [] := rfl

/-- A pass without errors whose CRC is the expected one leaves what its slices left, but for the step its operation record counts. -/
theorem passEnd_right {d : Device} {w : HallSw} (hcrc : d.pageCrc w.page = w.crc) (slices : List Nat) :
    (d.passEnd w slices []).hall = (passCompared d w slices []).hall ∧ (d.passEnd w slices []).fc = (passCompared d w slices []).fc ∧
      ∀ a, a % 0x40 ≠ 0xC → (d.passEnd w slices []).rd a = (passCompared d w slices []).rd a := by
  have hread : passRead d w slices [] = passCompared d w slices [] := by rw [passRead, passReports_nil, Device.raiseSlots]
  rw [passEnd_eq, hcrc, passBad_nil, bne_self_eq_false, Bool.or_false, if_neg Bool.false_ne_true, hread]
  split
  · exact ⟨by rw [Device.opSteps, wr_hall], by rw [Device.opSteps, wr_fc], fun a ha => rd_opSteps_ne _ (by unfold oprecBase; omega)⟩
  · exact ⟨rfl, rfl, fun _ _ => rfl⟩

/-- An abandoned switch leaves the registers but the count, the events and SWITCH_LAST (R297, R303). -/
theorem rd_hallAbandon (d : Device) (w : HallSw) (flags fail ready waited : Nat) (frame : Word) {a : Nat} (h : a < 0xC0040 ∨ 0xC0060 ≤ a)
    (hc : a ≠ 0xC0074) (he : a ≠ 0xC0014) : (d.hallAbandon w flags fail ready waited frame).rd a = d.rd a := by
  obtain ⟨-, -, hkeep⟩ := switchLast_words (((d.setSw none).inc 0xC0074).ev 0xC0014 1) w.op .abandoned ready waited
    (hallDetail ready flags d.activePage waited) frame
  rw [Device.hallAbandon, rd_hallOutcome, hkeep a h, rd_ev_ne _ _ he, rd_inc_ne _ hc, rd_setSw]

theorem hallAbandon_fc (d : Device) (w : HallSw) (flags fail ready waited : Nat) (frame : Word) :
    (d.hallAbandon w flags fail ready waited frame).fc = d.fc := rfl

theorem hallAbandon_pw (d : Device) (w : HallSw) (flags fail ready waited : Nat) (frame : Word) :
    (d.hallAbandon w flags fail ready waited frame).pw = d.pw := rfl

/-- A pass that fails abandons the switch at once (R292, R297). -/
theorem passEnd_fails {d : Device} {w : HallSw} {slices ecc : List Nat} (hp : w.page < 2)
    (h : (d.pageCrc w.page != w.crc || passBad d slices ecc) = true) :
    (d.passEnd w slices ecc).hall.sw = none ∧
      (∃ page, (d.passEnd w slices ecc).hall.outcomes = d.hall.outcomes ++ [⟨w.op, true, some 0,
        hallDetail (passRead d w slices ecc).readyMask (2 ^ 16 * b2n (d.pageCrc w.page != w.crc) + 2 ^ 17 * b2n (passBad d slices ecc))
          page w.waited⟩]) ∧
      (d.passEnd w slices ecc).bit 0xC0010 3 = true ∧
      (d.passEnd w slices ecc).rd 0xC0074 = wd (satAdd 32 (d.rd 0xC0074).toNat 1) ∧
      (d.passEnd w slices ecc).fc = (passRead d w slices ecc).fc := by
  have hkept := passCompared_kept d w slices ecc
  obtain ⟨-, -, -, hcount⟩ := passLatched_record d hp
  have hrd : (passRead d w slices ecc).rd 0xC0074 = d.rd 0xC0074 := by
    rw [passRead, rd_raiseSlots, hkept.regs _ (by unfold BelowSlices; decide), hcount]
  have hout : (passRead d w slices ecc).hall.outcomes = d.hall.outcomes := by
    rw [passRead, raiseSlots_hall, hkept.outcomes, passLatched_hall]
  rw [passEnd_eq, if_pos h]
  obtain ⟨hsw, houtcomes, habandoned, -, -, -, -⟩ := hallAbandon_record ((passRead d w slices ecc).setBit 0xC0010 3 true) w
    (2 ^ 16 * b2n (d.pageCrc w.page != w.crc) + 2 ^ 17 * b2n (passBad d slices ecc)) 0 (passRead d w slices ecc).readyMask w.waited
    ((passRead d w slices ecc).rd 0xC001C)
  refine ⟨hsw, ⟨((passRead d w slices ecc).setBit 0xC0010 3 true).activePage, ?_⟩, ?_, ?_, by rw [hallAbandon_fc, setBit_fc]⟩
  · rw [houtcomes, setBit_hall, hout]
  · rw [bit_of_rd (rd_hallAbandon _ _ _ _ _ _ _ (.inl (by decide)) (by decide) (by decide))]
    exact bit_setBit_same _ _ _ (by decide)
  · rw [habandoned, rd_setBit_ne _ _ _ (by decide), hrd]

/-- DETAIL of a switch abandoned by another CRC carries the CRC flag (R290). -/
theorem hallDetail_crc {ready : Nat} (h : ready < 2 ^ 16) (ecc page waited : Nat) :
    bitAt (hallDetail ready (2 ^ 16 * 1 + 2 ^ 17 * ecc) page waited) 16 = true := by
  rw [bitAt, beq_iff_eq, hallDetail, fld, wd, BitVec.toNat_ofNat, Nat.shiftRight_eq_div_pow]
  omega

/-! The pass of the slices no reset took out of it (R291). -/

/-- The slices that run the common pass. -/
def passRuns (d : Device) (w : HallSw) : List Nat := (List.range 16).filter (fun n => !w.missed.contains n && !d.sliceHeld n)

theorem prepareEnd_runs {d : Device} {w : HallSw} (hsw : d.hall.sw = some w) (hdone : d.bit 0xC0010 2 = false) (ecc : List Nat) :
    d.prepareEnd ecc = d.passEnd w (passRuns d w) (d.eccSeen (passRuns d w) ecc) := by
  simp only [Device.prepareEnd, hsw, hdone, Bool.false_eq_true, if_false]
  rfl

theorem passRuns_all {d : Device} {w : HallSw} (hheld : ∀ n, n < 16 → d.sliceHeld n = false) (hmissed : w.missed = []) :
    passRuns d w = List.range 16 := by
  refine List.filter_eq_self.2 fun n hn => ?_
  rw [hmissed, hheld n (List.mem_range.1 hn)]
  rfl

/-- Every entry belongs to one of the sixteen slices (R277). -/
theorem entryOwner_lt (d : Device) {c : Nat} (hc : c < 274432) : d.entryOwner c < 16 := by
  unfold Device.entryOwner
  split
  · exact tcSlice_lt d c
  · omega

/-- Entries read in different slots are reported in slots of their own (R556). -/
theorem passSlots_two {c1 c2 : Nat} (h : c1 / 72 < c2 / 72) : passSlots [c1, c2] = [[c1], [c2]] := by
  have hne : (c1 / 72 == c2 / 72) = false := beq_false_of_ne (by omega)
  simp [passSlots, List.splitBy, List.splitBy.loop, hne]

section
variable {d : Device} {w : HallSw} {c1 c2 : Nat} (h1 : c1 < 274432) (h2 : c2 < 274432)
include h1 h2

/-- A pass of every slice sees every entry. -/
theorem eccSeen_all : d.eccSeen (List.range 16) [c1, c2] = [c1, c2] := by
  have hseen : ∀ c, c < 274432 → (List.range 16).contains (d.entryOwner c) = true :=
    fun c hc => List.contains_iff_mem.2 (List.mem_range.2 (entryOwner_lt d hc))
  simp only [Device.eccSeen, List.filter, hseen c1 h1, hseen c2 h2]

omit h2 in
theorem passBad_first : passBad d (List.range 16) [c1, c2] = true := by
  refine List.any_eq_true.2 ⟨d.entryOwner c1, List.mem_range.2 (entryOwner_lt d h1), ?_⟩
  simp [Device.eccOwned]

omit h1 h2 in
/-- Two errors of different slots: the first waits now, the second for the next slot. -/
theorem passRead_two (hlater : d.fc.later = []) (h : c1 / 72 < c2 / 72) :
    Raised (passRead d w (List.range 16) [c1, c2]) 14 ∧
      (passRead d w (List.range 16) [c1, c2]).fc.later = [[{ src := 14, addr := entryAddrOf w.page c2 }]] := by
  have hreports : passReports w [c1, c2] = [[{ src := 14, addr := entryAddrOf w.page c1 }], [{ src := 14, addr := entryAddrOf w.page c2 }]] := by
    rw [passReports, passSlots_two h]
    rfl
  have hfc : (passCompared d w (List.range 16) [c1, c2]).fc = d.fc := (passCompared_kept d w _ _).fc.trans (passLatched_fc d w)
  rw [passRead, hreports]
  exact ⟨raised_raiseSlots _ rfl _, by rw [later_raiseSlots, hfc, hlater, List.nil_append]⟩

end

/-! The outcomes of a pass. -/

theorem sliceHeld_of_fc {d d' : Device} (h : d'.fc = d.fc) (n : Nat) : d'.sliceHeld n = d.sliceHeld n := by
  rw [Device.sliceHeld, Device.sliceHeld, Device.fcHeld, Device.fcHeld, h]

section
variable {d : Device} {w : HallSw} (hsw : d.hall.sw = some w) (hp : w.page < 2) (hdone : d.bit 0xC0010 2 = false)
  (hheld : ∀ n, n < 16 → d.sliceHeld n = false)
include hsw hp hdone hheld

/-- A common pass of all slices that reads the expected CRC makes every slice ready and settles the page's CRC (R291 to R293). -/
theorem prepareEnd_right (hcrc : d.pageCrc w.page = w.crc) (hpassed : d.hall.passed = []) (hmissed : w.missed = []) :
    (d.prepareEnd []).hall.passed = List.range 16 ∧ (d.prepareEnd []).hall.sw = some w ∧ (d.prepareEnd []).bit 0xC0010 2 = true ∧
      (d.prepareEnd []).rd (0xC0060 + 4 * w.page) = w.crc ∧ (d.prepareEnd []).bit 0xC0068 w.page = true ∧
      (d.prepareEnd []).readyMask = 0xFFFF := by
  have hruns : d.prepareEnd [] = d.passEnd w (List.range 16) [] := by
    rw [prepareEnd_runs hsw hdone, passRuns_all hheld hmissed, Device.eccSeen, List.filter_nil]
  obtain ⟨hhall, hfc, hrd⟩ := passEnd_right hcrc (List.range 16)
  have hkept := passCompared_kept d w (List.range 16) []
  obtain ⟨hend, hword, hvalid, -⟩ := passLatched_record d hp
  have hread : ∀ a, a < 0x00800000 → a % 0x40 ≠ 0xC → (d.passEnd w (List.range 16) []).rd a = (passLatched d w).rd a :=
    fun a ha hne => (hrd a hne).trans (hkept.regs a ha)
  have hall : (d.passEnd w (List.range 16) []).hall.passed = List.range 16 := by
    rw [hhall, passCompared_passed hcrc, hpassed, List.nil_append]
  rw [hruns]
  refine ⟨hall, ?_, ?_, ?_, ?_, readyMask_all hall fun n hn => ?_⟩
  · rw [hhall, hkept.sw, passLatched_hall, hsw]
  · rw [bit_of_rd (hread _ (by decide) (by decide)), hend]
  · rw [hread _ (by omega) (by omega), hword, hcrc]
  · rw [bit_of_rd (hread _ (by decide) (by decide)), hvalid]
  · rw [sliceHeld_of_fc (hfc.trans (hkept.fc.trans (passLatched_fc d w))), hheld n hn]

omit hheld in
/-- A common pass that reads another CRC abandons the switch with the CRC flag (R292, R297). -/
theorem prepareEnd_crcWrong (hcrc : d.pageCrc w.page ≠ w.crc) :
    ∃ o, (d.prepareEnd []).hall.sw = none ∧ (d.prepareEnd []).hall.outcomes = d.hall.outcomes ++ [o] ∧ o.op = w.op ∧ o.abandoned = true ∧
      bitAt o.detail 16 = true ∧ (d.prepareEnd []).bit 0xC0010 3 = true ∧
      (d.prepareEnd []).rd 0xC0074 = wd (satAdd 32 (d.rd 0xC0074).toNat 1) := by
  have hbad : (d.pageCrc w.page != w.crc) = true := bne_iff_ne.2 hcrc
  rw [prepareEnd_runs hsw hdone]
  obtain ⟨hnone, ⟨page, hout⟩, hflag, hcount, -⟩ := passEnd_fails (d := d) (slices := passRuns d w) (ecc := d.eccSeen (passRuns d w) []) hp
    (by rw [hbad, Bool.true_or])
  rw [hbad] at hout
  exact ⟨_, hnone, hout, rfl, rfl, hallDetail_crc (readyMask_lt _) _ _ _, hflag, hcount⟩

/-- Uncorrectable errors found in different slots abandon the switch, and each is an event of its own (R292, R556). -/
theorem prepareEnd_eccWrong {c1 c2 : Nat} (hslot : c1 / 72 < c2 / 72) (hc : c2 < 274432) (hlater : d.fc.later = []) (hmissed : w.missed = []) :
    (d.prepareEnd [c1, c2]).hall.sw = none ∧ (d.prepareEnd [c1, c2]).bit 0xC0010 3 = true ∧ Raised (d.prepareEnd [c1, c2]) 14 ∧
      (d.prepareEnd [c1, c2]).fc.later = [[{ src := 14, addr := entryAddrOf w.page c2 }]] := by
  have hc1 : c1 < 274432 := by omega
  have hbad : (d.pageCrc w.page != w.crc || passBad d (List.range 16) [c1, c2]) = true := by rw [passBad_first hc1, Bool.or_true]
  rw [prepareEnd_runs hsw hdone, passRuns_all hheld hmissed, eccSeen_all hc1 hc]
  obtain ⟨hnone, -, hflag, -, hfc⟩ := passEnd_fails hp hbad
  obtain ⟨hraised, hnext⟩ := passRead_two (w := w) hlater hslot
  exact ⟨hnone, hflag, hraised.of_fc hfc, by rw [hfc, hnext]⟩

end

/-- A slice that missed the common pass in a reset and ends its own rightly has passed (R293). -/
theorem slicePrepareEnd_right {d : Device} {w : HallSw} {n : Nat} (hsw : d.hall.sw = some w) (hc : w.committing = false)
    (hdef : w.deferred = false) (hheld : d.sliceHeld n = false) (hpassed : d.hall.passed.contains n = false)
    (hmissed : w.missed.contains n = true) (hcrc : d.pageCrc w.page = w.crc) :
    (d.slicePrepareEnd n []).hall.passed = d.hall.passed ++ [n] ∧ (d.slicePrepareEnd n []).hall.sw = some w := by
  have hruns : d.slicePrepareEnd n [] = d.passEnd w [n] [] := by
    simp only [Device.slicePrepareEnd, hsw, hc, hdef, hheld, hpassed, hmissed, Bool.not_true, Bool.or_self, Bool.false_eq_true, if_false,
      Device.eccOwned, List.filter_nil]
  obtain ⟨hhall, -, -⟩ := passEnd_right hcrc [n]
  rw [hruns, hhall, passCompared_passed hcrc, (passCompared_kept d w [n] []).sw, passLatched_hall]
  exact ⟨rfl, hsw⟩

end Sys2Proof.Machine
end

section
/-! PROOFS. The sample before a boundary, the boundary itself, and the record of a switch (R274, R275, R287, R288, R290, R294 to R297). -/

namespace Sys2Proof.Machine
open Sys2Proof Sys2Proof.Safety

theorem exec_hallReadySample (s : State) : exec .hallReadySample s = s.live (fun d => d.readySample) := rfl
theorem exec_systemFrameBoundary (store page : List Nat) (s : State) :
    exec (.systemFrameBoundary store page) s = s.path (fun d => (d.sysFrame { store := store, page := page }).pwFollow) := rfl
theorem exec_hallOprecWrite (s : State) : exec .hallOprecWrite s = s.live (fun d => d.hallOprec) := rfl

/-! The sample (R294). -/

section
variable {d : Device} {w : HallSw} (hsw : d.hall.sw = some w) (hc : w.committing = false) (hdef : w.deferred = false)
  (hb : d.boundaryAllowed w = true)
include hsw hc hdef hb

theorem readySample_commits (hr : d.readyMask = 0xFFFF) :
    d.readySample = d.setSw (some { w with committing := true, ready := 0xFFFF }) := by
  simp [Device.readySample, hsw, hc, hdef, hb, hr]

theorem readySample_waits (hr : d.readyMask ≠ 0xFFFF) (hk : fld w.cfg 0 2 ≠ 2) (hlim : w.waited + 1 < fld w.cfg 8 5) :
    d.readySample = d.setSw (some { w with ready := d.readyMask }) := by
  have hno : ¬(fld w.cfg 0 2 = 2 ∨ fld w.cfg 8 5 ≤ w.waited + 1) := by omega
  simp [Device.readySample, hsw, hc, hdef, hb, hr, hno]

theorem readySample_abandons (hr : d.readyMask ≠ 0xFFFF) (hend : fld w.cfg 0 2 = 2 ∨ fld w.cfg 8 5 ≤ w.waited + 1) :
    d.readySample = d.hallAbandon w (2 ^ 18) 1 d.readyMask (w.waited + 1) (d.rd 0xC001C + 1) := by
  simp [Device.readySample, hsw, hc, hdef, hb, hr, hend]

end

/-! The outputs at a boundary (R275, R284, R287, R295). -/

/-- What the outputs of a boundary leave: the Hall's and the Party Wall's own state, the registers but HALL_EVENT, and every event set. -/
structure FrameKept (d d' : Device) : Prop where
  hall : d'.hall = d.hall
  pw : d'.pw = d.pw
  regs : KeepsBut [0xC0014] d d'
  events : ∀ i, i < 32 → d.bit 0xC0014 i = true → d'.bit 0xC0014 i = true

theorem FrameKept.refl (d : Device) : FrameKept d d := ⟨rfl, rfl, .refl _ d, fun _ _ h => h⟩

theorem FrameKept.trans {d d' d'' : Device} (h : FrameKept d d') (h' : FrameKept d' d'') : FrameKept d d'' :=
  ⟨h'.hall.trans h.hall, h'.pw.trans h.pw, h.regs.trans h'.regs, fun i hi hb => h'.events i hi (h.events i hi hb)⟩

theorem FrameKept.of_regs {d d' : Device} (hr : d'.regs = d.regs) (hh : d'.hall = d.hall) (hp : d'.pw = d.pw) : FrameKept d d' :=
  ⟨hh, hp, .of_regs hr _, fun i _ h => by rwa [bit_of_rd (rd_of_regs hr _) i]⟩

theorem ev_frameKept (d : Device) {i : Nat} (hi : i < 32) : FrameKept d (d.ev 0xC0014 i) :=
  ⟨rfl, rfl, fun _ ha => rd_ev_ne d i (by simpa using ha), fun _ hj h => bit_ev_mono i hj hi h⟩

theorem onHo_frameKept (d : Device) (h : Nat) (f : HoSt → HoSt) : FrameKept d (d.onHo h f) := .of_regs rfl rfl rfl
theorem onTc_frameKept (d : Device) (k : Nat) (f : TcSt → TcSt) : FrameKept d (d.onTc k f) := .of_regs rfl rfl rfl
theorem setRt_frameKept (d : Device) (k : Nat) (r : Retimer) : FrameKept d (d.setRt k r) := .of_regs rfl rfl rfl

theorem hoTxStop_frameKept (d : Device) (h : Nat) : FrameKept d (d.hoTxStop h) := by
  unfold Device.hoTxStop
  split
  · exact onHo_frameKept d h _
  · exact .refl d

theorem hoOut_frameKept (e : HallErr) (d : Device) (h : Nat) : FrameKept d (d.hoOut e h) := by
  unfold Device.hoOut
  split
  · exact .refl d
  · exact (hoTxStop_frameKept d h).trans (onHo_frameKept _ h _)

theorem tcTxStop_frameKept (d : Device) (k : Nat) : FrameKept d (d.tcTxStop k) := by
  unfold Device.tcTxStop
  split
  · exact (onTc_frameKept d k _).trans (setRt_frameKept _ k _)
  · exact .refl d

theorem rtRestart_frameKept (d : Device) (k : Nat) : FrameKept d (d.rtRestart k) := by
  obtain ⟨r, hr⟩ := rtRestart_eq d k
  rw [hr]
  exact setRt_frameKept d k r

theorem tcOut_frameKept (e : HallErr) (d : Device) (k : Nat) : FrameKept d (d.tcOut e k) := by
  unfold Device.tcOut
  split
  · exact .refl d
  · split
    · have hout : ∀ f, FrameKept d ((d.tcTxStop k).onTc k f) := fun f => (tcTxStop_frameKept d k).trans (onTc_frameKept _ k f)
      exact when_ind (hout _) (fun _ => (hout _).trans (rtRestart_frameKept _ k))
    · exact onTc_frameKept d k _

theorem outputs_frameKept (d : Device) (e : HallErr) : FrameKept d (d.outputs e) := by
  have hho : FrameKept d ((tabKeys d.hos).foldl (Device.hoOut e) d) :=
    List.foldlRecOn _ _ (FrameKept.refl d) (fun x h n _ => h.trans (hoOut_frameKept e x n))
  have htc : FrameKept d ((tabKeys d.tcs).foldl (Device.tcOut e) ((tabKeys d.hos).foldl (Device.hoOut e) d)) :=
    List.foldlRecOn _ _ hho (fun x h n _ => h.trans (tcOut_frameKept e x n))
  unfold Device.outputs
  exact when_ind htc (fun _ => htc.trans (ev_frameKept _ (by decide)))

theorem hallErrors_frameKept (d : Device) (e : HallErr) : FrameKept d (d.hallErrors e) :=
  .of_regs (by rw [Device.hallErrors, raiseSlots_regs, raiseSlots_regs]) (by rw [Device.hallErrors, raiseSlots_hall, raiseSlots_hall])
    (by rw [Device.hallErrors, raiseSlots_pw, raiseSlots_pw])

/-- Uncorrectable errors of the frame store and of the active page raise their sources (R275, R287). -/
theorem hallErrors_raised (d : Device) (store page : List Nat) :
    (store ≠ [] → Raised (d.hallErrors { store := store, page := page }) 10) ∧
      (page ≠ [] → Raised (d.hallErrors { store := store, page := page }) 14) :=
  ⟨fun h => raised_raiseSlots_mono (raised_raiseSlots_map d (fun _ => rfl) (fun _ => rfl) h) _,
    fun h => raised_raiseSlots_map _ (f := fun c => { src := 14, addr := entryAddrOf d.activePage c }) (fun _ => rfl) (fun _ => rfl) h⟩

/-! The boundary (R274, R294, R295, R297). -/

/-- The Hall once its pending switch has met the boundary of the next system frame. -/
def frameTurned (d : Device) : Device := (d.incWrap 0xC001C).hallBoundary

/-- A boundary: the switch, the exchange of the frame store's halves, the outputs, their errors. -/
theorem sysFrame_frameKept (d : Device) (e : HallErr) : FrameKept (frameTurned d).storeTurn (d.sysFrame e) :=
  (outputs_frameKept _ e).trans (hallErrors_frameKept _ e)

/-- No mirrored commit is due: the boundary is the Hall's alone (R540). -/
theorem pwFollow_none {d : Device} (h : d.pw.follow = false) : d.pwFollow = d := by
  unfold Device.pwFollow
  split
  · rename_i hf _
    rw [h] at hf
    cases hf
  · rfl

/-- The boundary under way: one more has passed when its kind counts this frame and the commit is not behind (R288). -/
def switchAged (d : Device) (w : HallSw) : HallSw :=
  if kindCounts w.cfg (d.rd 0xC001C) && !w.deferred then { w with waited := w.waited + 1 } else w

theorem switchAged_keeps (d : Device) (w : HallSw) :
    (switchAged d w).committing = w.committing ∧ (switchAged d w).page = w.page := by
  unfold switchAged
  split
  · exact ⟨rfl, rfl⟩
  · exact ⟨rfl, rfl⟩

theorem hallBoundary_none {d : Device} (h : d.hall.sw = none) : d.hallBoundary = d := by
  rw [Device.hallBoundary, h]

/-- A switch whose sample committed exchanges the pages (R294). -/
theorem hallBoundary_commits {d : Device} {w : HallSw} (h : d.hall.sw = some w) (hc : w.committing = true) :
    d.hallBoundary = d.hallCommit (switchAged d w) := by
  have hcommitting := (switchAged_keeps d w).1.trans hc
  rw [Device.hallBoundary, h]
  exact if_pos hcommitting

/-- The last boundary R288 allows abandons a switch no sample decided (R297). -/
theorem hallBoundary_abandons {d : Device} {w : HallSw} (h : d.hall.sw = some w) (hc : w.committing = false) (hdef : w.deferred = false)
    (hkind : kindCounts w.cfg (d.rd 0xC001C) = true) (hk : fld w.cfg 0 2 ≠ 2) (hlim : fld w.cfg 8 5 ≤ w.waited + 1) :
    d.hallBoundary = d.hallAbandon { w with waited := w.waited + 1 } (2 ^ 18) 1 w.ready (w.waited + 1) (d.rd 0xC001C) := by
  simp [Device.hallBoundary, h, hc, hdef, hkind, hk, hlim]

/-! A commit (R294, R295). -/

/-- The other page is active from this boundary on (R295). -/
def pageTurned (d : Device) (w : HallSw) : Device :=
  { d.put 0xC0010 0 1 w.page with hall := { d.hall with lastCommit := (d.rd 0xC001C).toNat } }

theorem pageTurned_pw (d : Device) (w : HallSw) : (pageTurned d w).pw = d.pw := rfl

theorem switchLast_only (d : Device) (op : Nat) (st : Status) (ready waited : Nat) (detail frame : Word) :
    OnlyRegs d (d.switchLast op st ready waited detail frame) := ((OnlyRegs.refl d).wrs _ _).wrStamp _

/-- The pages are exchanged and SWITCH_LAST is written, with the flags of DETAIL (R290, R303). -/
def pagesExchanged (d : Device) (w : HallSw) (flags : Nat) : Device :=
  (pageTurned d w).switchLast w.op .ok w.ready w.waited (hallDetail w.ready flags w.page w.waited) ((pageTurned d w).rd 0xC001C)

/-- In phase 0 the switch is complete at once. -/
theorem hallCommit_phase0 {d : Device} (w : HallSw) (h : (d.rd 0xC001C).toNat % 4 = 0) :
    d.hallCommit w = (pagesExchanged d w 0).hallComplete w (hallDetail w.ready 0 w.page w.waited) := by
  simp only [Device.hallCommit, h, decide_true, if_true]
  rfl

/-- In another phase the low-order entries wait for phase 0. -/
theorem hallCommit_deferred {d : Device} (w : HallSw) (h : (d.rd 0xC001C).toNat % 4 ≠ 0) :
    d.hallCommit w = (pagesExchanged d w (2 ^ 20)).setSw
      (some { w with committing := false, deferred := true, detail := hallDetail w.ready (2 ^ 20) w.page w.waited }) := by
  simp only [Device.hallCommit, h, decide_false, Bool.false_eq_true, if_false]
  rfl

theorem pagesExchanged_record (d : Device) {w : HallSw} (hp : w.page < 2) (flags : Nat) :
    (pagesExchanged d w flags).activePage = w.page ∧ (pagesExchanged d w flags).get 0xC0040 0 4 = 0 ∧
      (pagesExchanged d w flags).pw = d.pw ∧
      ∀ a, a < 0xC0040 ∨ 0xC0060 ≤ a → a ≠ 0xC0010 → (pagesExchanged d w flags).rd a = d.rd a := by
  obtain ⟨hlast, -, hkeep⟩ := switchLast_words (pageTurned d w) w.op .ok w.ready w.waited (hallDetail w.ready flags w.page w.waited)
    ((pageTurned d w).rd 0xC001C)
  have hrd : ∀ a, a < 0xC0040 ∨ 0xC0060 ≤ a → (pagesExchanged d w flags).rd a = (d.put 0xC0010 0 1 w.page).rd a := hkeep
  refine ⟨?_, ?_, ?_, fun a ha hne => by rw [hrd a ha, rd_put_ne _ _ _ _ hne]⟩
  · rw [Device.activePage, get_of_rd (hrd _ (.inl (by decide))), get_put_same _ _ _ (by decide), pow_one, Nat.mod_eq_of_lt hp]
  · have hcode : Status.code .ok = 0 := rfl
    rw [Device.get, pagesExchanged, hlast, hcode, fld, wd, BitVec.toNat_ofNat, Nat.shiftRight_zero]
    omega
  · rw [pagesExchanged, (switchLast_only _ _ _ _ _ _ _).pw, pageTurned_pw]

theorem setSw_pw (d : Device) (w : Option HallSw) : (d.setSw w).pw = d.pw := rfl
theorem hallOutcome_sw (d : Device) (o : HallOut) : (d.hallOutcome o).hall.sw = d.hall.sw := rfl
theorem hallOutcome_pw (d : Device) (o : HallOut) : (d.hallOutcome o).pw = d.pw := rfl

/-- A complete switch: counted, its event set, an outcome left for MC0 (R295, R297). -/
theorem hallComplete_record (d : Device) (w : HallSw) (detail : Word) :
    (d.hallComplete w detail).hall.sw = none ∧ (d.hallComplete w detail).bit 0xC0014 0 = true ∧
      (d.hallComplete w detail).rd 0xC0070 = wd (satAdd 32 (d.rd 0xC0070).toNat 1) ∧ (d.hallComplete w detail).pw = d.pw ∧
      ∀ a, a ≠ 0xC0014 → a ≠ 0xC0070 → a % 0x40 ≠ 0xC → (d.hallComplete w detail).rd a = d.rd a := by
  have hstep : ∀ a, a % 0x40 ≠ 0xC → ((d.setSw none).opSteps w.op 2).rd a = d.rd a :=
    fun a ha => (rd_opSteps_ne _ (by unfold oprecBase; omega)).trans (rd_setSw d none a)
  refine ⟨?_, ?_, ?_, ?_, fun a he hc ha => ?_⟩
  · rw [Device.hallComplete, hallOutcome_sw, ev_hall, inc_hall, Device.opSteps, wr_hall, setSw_sw]
  · rw [Device.hallComplete, bit_of_rd (rd_hallOutcome _ _ _)]
    exact bit_ev_same _ _ (by decide)
  · rw [Device.hallComplete, rd_hallOutcome, rd_ev_ne _ _ (by decide), rd_inc, if_pos rfl, hstep _ (by decide)]
  · rw [Device.hallComplete, hallOutcome_pw, ev_pw, inc_pw, Device.opSteps, wr_pw, setSw_pw]
  · rw [Device.hallComplete, rd_hallOutcome, rd_ev_ne _ _ he, rd_inc_ne _ hc, hstep a ha]

/-- A committing boundary: the other page is active, and the switch is complete or waits for phase 0. -/
structure Committed (d : Device) (w : HallSw) (d' : Device) : Prop where
  frame : d'.rd 0xC001C = d.rd 0xC001C
  page : d'.activePage = w.page
  last : d'.get 0xC0040 0 4 = 0
  pw : d'.pw = d.pw
  phase0 : (d.rd 0xC001C).toNat % 4 = 0 →
    d'.hall.sw = none ∧ d'.bit 0xC0014 0 = true ∧ d'.rd 0xC0070 = wd (satAdd 32 (d.rd 0xC0070).toNat 1)
  deferred : (d.rd 0xC001C).toNat % 4 ≠ 0 → ∃ w', d'.hall.sw = some w' ∧ w'.deferred = true

theorem hallCommit_committed (d : Device) {w : HallSw} (hp : w.page < 2) : Committed d w (d.hallCommit w) := by
  by_cases h : (d.rd 0xC001C).toNat % 4 = 0
  · obtain ⟨hpage, hlast, hpw, hkeep⟩ := pagesExchanged_record d hp 0
    obtain ⟨hsw, hevent, hcount, hpw', hkeep'⟩ :=
      hallComplete_record (pagesExchanged d w 0) w (hallDetail w.ready 0 w.page w.waited)
    rw [hallCommit_phase0 w h]
    exact {
      frame := (hkeep' _ (by decide) (by decide) (by decide)).trans (hkeep _ (.inl (by decide)) (by decide))
      page := by rw [Device.activePage, get_of_rd (hkeep' _ (by decide) (by decide) (by decide))]; exact hpage
      last := by rw [get_of_rd (hkeep' _ (by decide) (by decide) (by decide)), hlast]
      pw := hpw'.trans hpw
      phase0 := fun _ => ⟨hsw, hevent, by rw [hcount, hkeep _ (.inr (by decide)) (by decide)]⟩
      deferred := fun hne => absurd h hne }
  · obtain ⟨hpage, hlast, hpw, hkeep⟩ := pagesExchanged_record d hp (2 ^ 20)
    rw [hallCommit_deferred w h]
    exact {
      frame := by rw [rd_setSw, hkeep _ (.inl (by decide)) (by decide)]
      page := by rw [Device.activePage, get_of_rd (rd_setSw _ _ _)]; exact hpage
      last := by rw [get_of_rd (rd_setSw _ _ _), hlast]
      pw := by rw [setSw_pw, hpw]
      phase0 := fun h0 => absurd h0 h
      deferred := fun _ => ⟨_, rfl, rfl⟩ }

/-! The next system frame. -/

theorem rd_incWrap (d : Device) (a b : Nat) : (d.incWrap a).rd b = if b = a then d.rd a + 1 else d.rd b := rd_wr d a b _

/-- A boundary leaves what the switch left, but that the halves of the frame store are exchanged and HALL_EVENT may have gained an event. -/
structure FrameTurned (x d' : Device) : Prop where
  regs : ∀ a, a ≠ 0xC0014 → d'.rd a = x.rd a
  events : ∀ i, i < 32 → x.bit 0xC0014 i = true → d'.bit 0xC0014 i = true
  sw : d'.hall.sw = x.hall.sw
  store : d'.hall.rd = x.hall.wr
  pw : d'.pw = x.pw

theorem sysFrame_turned (d : Device) (e : HallErr) : FrameTurned (frameTurned d) (d.sysFrame e) := by
  have h := sysFrame_frameKept d e
  exact ⟨fun a ha => h.regs a (by simpa using ha), h.events, by rw [h.hall, Device.storeTurn], by rw [h.hall, Device.storeTurn], h.pw⟩

section
variable {s : State} (hlive : Live s) (hf : s.dev.pw.follow = false) (store page : List Nat)
include hlive hf

/-- A boundary of a device that no mirrored commit awaits, whose switch leaves the Party Wall. -/
theorem exec_boundary (hpw : (frameTurned s.dev).pw = s.dev.pw) :
    exec (.systemFrameBoundary store page) s = .next (followed s (s.dev.sysFrame { store := store, page := page })) := by
  have hfollow : (s.dev.sysFrame { store := store, page := page }).pw.follow = false := by rw [(sysFrame_turned _ _).pw, hpw, hf]
  rw [exec_systemFrameBoundary, path_followed hlive, pwFollow_none hfollow]

/-- Without a switch: SYSFRAME advances, the frame store's halves are exchanged, the errors are raised (R274, R275, R287). -/
theorem boundary_without (hsw : s.dev.hall.sw = none) :
    ∃ d, exec (.systemFrameBoundary store page) s = .next (followed s d) ∧ d.rd 0xC001C = s.dev.rd 0xC001C + 1 ∧
      d.activePage = s.dev.activePage ∧ d.hall.rd = s.dev.hall.wr ∧ (store ≠ [] → Raised d 10) ∧ (page ≠ [] → Raised d 14) := by
  have hturned : frameTurned s.dev = s.dev.incWrap 0xC001C := hallBoundary_none hsw
  have h := sysFrame_turned s.dev { store := store, page := page }
  rw [hturned] at h
  refine ⟨_, exec_boundary hlive hf store page (by rw [hturned, Device.incWrap, wr_pw]), ?_, ?_, ?_, hallErrors_raised _ store page⟩
  · rw [h.regs _ (by decide), rd_incWrap, if_pos rfl]
  · rw [Device.activePage, get_of_rd ((h.regs _ (by decide)).trans (rd_wr_ne _ _ (by decide))), Device.activePage]
  · rw [h.store, Device.incWrap, wr_hall]

/-- The last boundary R288 allows abandons an undecided switch; the active page stays (R297). -/
theorem boundary_abandons {w : HallSw} (hsw : s.dev.hall.sw = some w) (hc : w.committing = false) (hdef : w.deferred = false)
    (hkind : kindCounts w.cfg (s.dev.rd 0xC001C + 1) = true) (hk : fld w.cfg 0 2 ≠ 2) (hlim : fld w.cfg 8 5 ≤ w.waited + 1) :
    ∃ d, exec (.systemFrameBoundary store page) s = .next (followed s d) ∧ d.rd 0xC001C = s.dev.rd 0xC001C + 1 ∧ d.hall.sw = none ∧
      d.rd 0xC0074 = wd (satAdd 32 (s.dev.rd 0xC0074).toNat 1) ∧ d.activePage = s.dev.activePage := by
  have hframe : (s.dev.incWrap 0xC001C).rd 0xC001C = s.dev.rd 0xC001C + 1 := by rw [rd_incWrap, if_pos rfl]
  have hturned := hallBoundary_abandons (d := s.dev.incWrap 0xC001C) (by rw [Device.incWrap, wr_hall, hsw]) hc hdef (by rw [hframe, hkind]) hk hlim
  have h := sysFrame_turned s.dev { store := store, page := page }
  rw [frameTurned, hturned] at h
  obtain ⟨hnone, -, hcount, -, -, -, hactive⟩ := hallAbandon_record (s.dev.incWrap 0xC001C) { w with waited := w.waited + 1 } (2 ^ 18) 1 w.ready
    (w.waited + 1) ((s.dev.incWrap 0xC001C).rd 0xC001C)
  refine ⟨_, exec_boundary hlive hf store page (by rw [frameTurned, hturned, hallAbandon_pw, Device.incWrap, wr_pw]), ?_, ?_, ?_, ?_⟩
  · rw [h.regs _ (by decide), rd_hallAbandon _ _ _ _ _ _ _ (.inl (by decide)) (by decide) (by decide), hframe]
  · rw [h.sw, hnone]
  · rw [h.regs _ (by decide), hcount, rd_incWrap, if_neg (by decide)]
  · rw [Device.activePage, get_of_rd (h.regs _ (by decide))]
    exact hactive.trans (get_of_rd (rd_wr_ne _ _ (by decide)) 0 1)

/-- The boundary after the commit exchanges the pages; in phase 0 the switch is complete (R294, R295, R297). -/
theorem boundary_commits {w : HallSw} (hsw : s.dev.hall.sw = some w) (hc : w.committing = true) (hp : w.page < 2) :
    ∃ d, exec (.systemFrameBoundary store page) s = .next (followed s d) ∧ d.rd 0xC001C = s.dev.rd 0xC001C + 1 ∧ d.activePage = w.page ∧
      d.get 0xC0040 0 4 = 0 ∧
      ((s.dev.rd 0xC001C + 1).toNat % 4 = 0 → d.hall.sw = none ∧ d.bit 0xC0014 0 = true ∧
        d.rd 0xC0070 = wd (satAdd 32 (s.dev.rd 0xC0070).toNat 1)) ∧
      ((s.dev.rd 0xC001C + 1).toNat % 4 ≠ 0 → ∃ w', d.hall.sw = some w' ∧ w'.deferred = true) := by
  have hframe : (s.dev.incWrap 0xC001C).rd 0xC001C = s.dev.rd 0xC001C + 1 := by rw [rd_incWrap, if_pos rfl]
  have hturned := hallBoundary_commits (d := s.dev.incWrap 0xC001C) (by rw [Device.incWrap, wr_hall, hsw]) hc
  have hpage := (switchAged_keeps (s.dev.incWrap 0xC001C) w).2
  have hcommit := hallCommit_committed (s.dev.incWrap 0xC001C) (hpage.trans_lt hp)
  have h := sysFrame_turned s.dev { store := store, page := page }
  rw [← hturned] at hcommit
  refine ⟨_, exec_boundary hlive hf store page (hcommit.pw.trans (by rw [Device.incWrap, wr_pw])), ?_, ?_, ?_, fun h0 => ?_, fun h0 => ?_⟩
  · rw [h.regs _ (by decide), frameTurned, hcommit.frame, hframe]
  · rw [Device.activePage, get_of_rd (h.regs _ (by decide)), ← hpage]
    exact hcommit.page
  · rw [get_of_rd (h.regs _ (by decide))]
    exact hcommit.last
  · obtain ⟨hnone, hevent, hcount⟩ := hcommit.phase0 (by rw [hframe, h0])
    exact ⟨h.sw.trans hnone, h.events 0 (by decide) hevent,
      by rw [h.regs _ (by decide), frameTurned, hcount, rd_incWrap, if_neg (by decide)]⟩
  · obtain ⟨w', hw', hdeferred⟩ := hcommit.deferred (by rw [hframe]; exact h0)
    exact ⟨w', h.sw.trans hw', hdeferred⟩

end

/-! The record of an outcome (R290). -/

/-- The first failing step of an outcome, when it has one. -/
def failNoted (d : Device) (o : HallOut) : Device := match o.fail with | some i => d.opFail o.op i | none => d

theorem failNoted_only (d : Device) (o : HallOut) : OnlyRegs d (failNoted d o) := by
  unfold failNoted
  split
  · exact (OnlyRegs.refl d).wr _ _
  · exact .refl d

/-- MC0 has written the outcome into its record. -/
def outcomeNoted (d : Device) (o : HallOut) : Device :=
  ((failNoted d o).opDetail o.op o.detail.toNat).opClose o.op (if o.abandoned then .abandoned else .ok)

theorem hallOprec_notes {d : Device} {o : HallOut} {t : List HallOut} (h : d.hall.outcomes = o :: t) (ha : d.cores.mc0Away = false) :
    d.hallOprec = outcomeNoted { d with hall := { d.hall with outcomes := t } } o := by
  simp only [Device.hallOprec, h, ha, Bool.false_eq_true, if_false]
  rfl

theorem outcomeNoted_only (d : Device) (o : HallOut) : OnlyRegs d (outcomeNoted d o) :=
  ((failNoted_only d o).wr _ _).trans (opClose_only _ _ _)

theorem outcomeNoted_record (d : Device) (o : HallOut) :
    (outcomeNoted d o).get (oprecBase o.op + 4) 12 2 = 2 ∧ (outcomeNoted d o).get (oprecBase o.op + 4) 8 4 = (if o.abandoned then 9 else 0) ∧
      (outcomeNoted d o).rd (oprecBase o.op + 0x14) = o.detail ∧ (outcomeNoted d o).bit 0x54 5 = true := by
  have hge := oprecBase_ge o.op
  obtain ⟨hstate, hresult⟩ := opClose_result ((failNoted d o).opDetail o.op o.detail.toNat) o.op (if o.abandoned then .abandoned else .ok)
  refine ⟨hstate, hresult.trans ?_, ?_, ?_⟩
  · cases o.abandoned <;> rfl
  · rw [outcomeNoted, rd_opClose_out _ _ (by omega) (by omega) (by omega), Device.opDetail, rd_wr_same, wd_toNat_self]
  · rw [outcomeNoted, Device.opClose]
    exact bit_ev_same _ _ (by decide)

/-- Settles O30: by what a pass leaves of its slices and of the page's CRC, what the sample decides, what the boundary does with the
decision while the outputs leave it, and what MC0 writes of an outcome. -/
theorem hallPreparesSamplesAndCommits : Obligations.HallPreparesSamplesAndCommits := by
  intro s hlive
  refine ⟨fun w hsw hp hdone hheld => ⟨fun hcrc hpassed hmissed => ?_, fun hcrc => ?_, fun c1 c2 hslot hc hlater hmissed => ?_⟩,
    fun w sl hsw hc hdef _ hheld hpassed hmissed hcrc => ?_,
    fun w hsw hc hdef hb => ⟨fun hr => ?_, fun hr hk hlim => ?_, fun hr hend => ?_⟩,
    fun store page hf => ⟨boundary_without hlive hf store page, fun w hsw hc hdef => boundary_abandons hlive hf store page hsw hc hdef,
      fun w hsw hc hp => boundary_commits hlive hf store page hsw hc hp⟩,
    fun o t hout ha => ?_⟩
  · exact ⟨_, by rw [exec_preparePassEnd, live_after hlive], prepareEnd_right hsw hp hdone hheld hcrc hpassed hmissed⟩
  · obtain ⟨o, hrecord⟩ := prepareEnd_crcWrong hsw hp hdone hcrc
    exact ⟨_, o, by rw [exec_preparePassEnd, live_after hlive], hrecord⟩
  · exact ⟨_, by rw [exec_preparePassEnd, live_after hlive], prepareEnd_eccWrong hsw hp hdone hheld hslot hc hlater hmissed⟩
  · exact ⟨_, by rw [exec_slicePreparePassEnd, live_after hlive], slicePrepareEnd_right hsw hc hdef hheld hpassed hmissed hcrc⟩
  · exact ⟨_, by rw [exec_hallReadySample, live_after hlive, readySample_commits hsw hc hdef hb hr], setSw_sw _ _, setSw_regs _ _⟩
  · exact ⟨_, by rw [exec_hallReadySample, live_after hlive, readySample_waits hsw hc hdef hb hr hk hlim], setSw_sw _ _, setSw_regs _ _⟩
  · obtain ⟨hnone, -, hcount, -, -, -, hpage⟩ := hallAbandon_record s.dev w (2 ^ 18) 1 s.dev.readyMask (w.waited + 1) (s.dev.rd 0xC001C + 1)
    exact ⟨_, by rw [exec_hallReadySample, live_after hlive, readySample_abandons hsw hc hdef hb hr hend], hnone, hcount, hpage⟩
  · refine ⟨_, by rw [exec_hallOprecWrite, live_after hlive, hallOprec_notes hout ha], ?_, outcomeNoted_record _ o⟩
    rw [outcomeNoted_only]

end Sys2Proof.Machine
end

section
/-! SUPPORT. What follows the reported defects leaves the lanes' states but for the SF and SD evaluations it closes (R307, R318). -/

namespace Sys2Proof.Machine
open Sys2Proof Sys2Proof.Safety

theorem lanes_foldl {α : Type} {f : Device → α → Device} (hf : ∀ e x, (f e x).lanes = e.lanes) (l : List α) (d : Device) :
    (l.foldl f d).lanes = d.lanes :=
  List.foldlRecOn l f (motive := fun e => e.lanes = d.lanes) rfl fun _ h x _ => (hf _ x).trans h

theorem lanes_when {d : Device} {c : Bool} {f : Device → Device} (hf : (f d).lanes = d.lanes) : (d.when c f).lanes = d.lanes :=
  when_ind (P := fun e => e.lanes = d.lanes) rfl fun _ => hf

theorem lanes_wr (d : Device) (a : Nat) (v : Word) : (d.wr a v).lanes = d.lanes := rfl
theorem lanes_ev (d : Device) (a i : Nat) : (d.ev a i).lanes = d.lanes := rfl
theorem lanes_inc (d : Device) (a : Nat) : (d.inc a).lanes = d.lanes := rfl

theorem lanes_cliHold (d : Device) (j : Nat) : (d.cliHold j).lanes = d.lanes := by
  unfold Device.cliHold; split
  · rfl
  · rfl

theorem lanes_followUp (d : Device) (kind idx : Nat) (now changed ena : Word) : (d.followUp kind idx now changed ena).lanes = d.lanes := by
  unfold Device.followUp; split
  · split
    · rfl
    · rfl
  · rfl

theorem lanes_ringTrigger (d : Device) (r : Nat) : (d.ringTrigger r).lanes = d.lanes := by
  unfold Device.ringTrigger; split
  · rfl
  · split
    · rfl
    · rfl

theorem lanes_ringDeclared (d : Device) (capture : Word) (sel : Nat) : (d.ringDeclared capture sel).lanes = d.lanes := by
  unfold Device.ringDeclared; split
  · exact lanes_ringTrigger _ _
  · rfl

theorem lanes_tcQueuePush (d : Device) (s k : Nat) : (d.tcQueuePush s k).lanes = d.lanes := by
  unfold Device.tcQueuePush; split
  · rw [lanes_ev, lanes_inc]
  · exact lanes_when (lanes_ev ..)

theorem lanes_tcEvents (d : Device) (k : Nat) (bits : Word) : (d.tcEvents k bits).lanes = d.lanes :=
  (lanes_when (f := (·.tcQueuePush _ k)) (lanes_tcQueuePush ..)).trans (lanes_wr ..)

theorem lanes_laneChange (d0 d : Device) (n : Nat) : (d0.laneChange d n).lanes = d.lanes :=
  (lanes_followUp ..).trans (lanes_wr ..)

theorem lanes_hoChange (d0 d : Device) (h : Nat) : (d0.hoChange d h).lanes = d.lanes :=
  ((lanes_ringDeclared ..).trans (lanes_followUp ..)).trans (lanes_wr ..)

theorem lanes_tcChange (d0 d : Device) (k : Nat) : (d0.tcChange d k).lanes = d.lanes := by
  unfold Device.tcChange
  beta_reduce
  split
  · rfl
  · rw [lanes_ringDeclared, lanes_followUp]
    exact lanes_when (f := (·.tcEvents k _)) (lanes_tcEvents d k _)

theorem lanes_entryChange (d0 d : Device) (j : Nat) : (d0.entryChange d j).lanes = d.lanes :=
  lanes_when (f := (·.ev _ 2)) (lanes_ev ..)

theorem lanes_rtRestart (d : Device) (k : Nat) : (d.rtRestart k).lanes = d.lanes := by
  unfold Device.rtRestart; split
  · rfl
  · rfl

theorem lanes_convSwitch (d : Device) (i : Nat) : (d.convSwitch i).lanes = d.lanes := by
  unfold Device.convSwitch; split
  · refine lanes_foldl (fun e k => ?_) _ d
    split
    · exact lanes_rtRestart e k
    · rfl
  · rfl

theorem lanes_delayStep (d : Device) (i : Nat) (old new : Option Align) : (d.delayStep i old new).lanes = d.lanes := by
  unfold Device.delayStep; split
  · exact lanes_convSwitch _ i
  · rfl

theorem lanes_celSettle (d0 d : Device) (i : Nat) : (celSettle d0 d i).lanes = d.lanes := by
  unfold celSettle; split
  · beta_reduce
    split
    · exact lanes_delayStep _ _ _ _
    · split
      · rfl
      · rfl
  · rfl

theorem lanes_selQueuePush (d : Device) (i : Nat) : (d.selQueuePush i).lanes = d.lanes := by
  unfold Device.selQueuePush; split
  · rfl
  · exact lanes_when rfl

theorem lanes_selEv (d : Device) (i b : Nat) : (d.selEv i b).lanes = d.lanes :=
  lanes_when (d := d.ev _ _) (f := (·.selQueuePush i)) (lanes_selQueuePush _ i)

theorem lanes_hitlessSettle (d0 d : Device) (i : Nat) : (hitlessSettle d0 d i).lanes = d.lanes :=
  lanes_when (f := (·.selEv i 4)) (lanes_selEv d i 4)

/-- Of the steps that follow a command, the closing of suppressed evaluations alone changes a lane's state. -/
theorem lanes_settle (d0 d : Device) : (Device.settle d0 d).lanes = (d.sfLayers.foldl Device.sfClose d).lanes := by
  unfold Device.settle celSettleAll
  beta_reduce
  rw [lanes_foldl (lanes_hitlessSettle d0), lanes_foldl (lanes_celSettle d0), lanes_foldl fun e p => (rfl : (e.pmSettle p).lanes = e.lanes),
    lanes_foldl (lanes_entryChange d0), lanes_foldl (lanes_tcChange d0), lanes_foldl (lanes_hoChange d0), lanes_foldl (lanes_laneChange d0),
    lanes_foldl lanes_cliHold]

/-- MS_SF of lane `n`, when it is declared in `d'`, was declared in `d` already. -/
def MsSfFrom (n : Nat) (d d' : Device) : Prop := (d'.lane n).msSf.decl = true → (d.lane n).msSf.decl = true

theorem onLane_msSf (n : Nat) (d : Device) (k : Nat) {f : LaneSt → LaneSt} (hf : ∀ x, (f x).msSf.decl = true → x.msSf.decl = true) :
    MsSfFrom n d (d.onLane k f) := by
  intro h
  by_cases hk : n = k
  · subst hk
    rw [lane_onLane] at h
    exact hf _ h
  · rwa [lane_onLane_ne _ _ hk] at h

theorem sfSet_clear_msSf (n : Nat) (d : Device) (l : SfLayer) (sd : Bool) : MsSfFrom n d (d.sfSet l sd {}) := by
  cases l with
  | ms k => exact onLane_msSf n d k fun x hx => by cases sd with | false => cases hx | true => exact hx
  | sm k => exact onLane_msSf n d k fun x hx => by cases sd with | false => exact hx | true => exact hx
  | ho _ => exact id
  | tc _ => exact id

theorem sfClose_msSf (n : Nat) (d : Device) (l : SfLayer) : MsSfFrom n d (d.sfClose l) := by
  refine List.foldlRecOn _ _ (motive := MsSfFrom n d) id fun e he sd _ => ?_
  split
  · exact he
  · exact fun h => he (sfSet_clear_msSf n e l sd h)

/-- An MS_SF declared after a command's settling was declared by the command's effect. -/
theorem followed_msSf (s : State) (d : Device) (n : Nat) : MsSfFrom n d (followed s d).dev := by
  intro h
  rw [followed, after, lane_of_lanes ((irqSettle_lanes _ _).trans (lanes_settle s.dev d))] at h
  exact List.foldlRecOn _ _ (motive := MsSfFrom n d) id (fun e he l _ h' => he (sfClose_msSf n e l h')) h

end Sys2Proof.Machine
end

section
/-! PROOFS. The end of an SF window that has been discarded and has not begun anew (R318). -/

namespace Sys2Proof.Machine
open Sys2Proof Sys2Proof.Safety

theorem exec_sfsdWindowEnd (l : SfLayer) (sd : Bool) (s : State) : exec (.sfsdWindowEnd l sd) s = s.path (fun d => d.sfWindowEnd l sd) := rfl

/-- Without a window in progress the end of one does nothing. -/
theorem sfWindowEnd_waiting {d : Device} {l : SfLayer} {sd : Bool} (hopen : d.sfOpen l = true) (hena : d.sfEna (d.sfProfile l) sd = true)
    (hon : (d.sfGet l sd).on = false) : d.sfWindowEnd l sd = d := by
  rw [Device.sfWindowEnd, hopen, hena, hon]; rfl

/-- A threshold is at least one errored block (R317). -/
theorem sfThreshold_pos (d : Device) (l : SfLayer) (sd decl : Bool) : 0 < d.sfThreshold l sd decl := Nat.le_max_left ..

/-- Lane 63 receives an STM-64 in SYNC and its profile evaluates SF. Its MS_SF is declared, and a change of the profile has discarded
the window in progress: the next begins at the next frame boundary (R318, last row). -/
def sfWaits : State :=
  { State.reset with
      dev :=
        ((((State.reset.dev.wr (laneBase 63 + 0x10) 0x31).wr (laneBase 63 + 0x4000) 0).setBit (sliceBase 15 + 0x800) 8 true).setLane 63
          { rxOn := true, sdh := { st := .sync }, msSf := { decl := true, on := true } }).sfRestart (.ms 63) false }

theorem sfWaits_open : sfWaits.dev.sfOpen (.ms 63) = true := by decide
theorem sfWaits_ena : sfWaits.dev.sfEna (sfWaits.dev.sfProfile (.ms 63)) false = true := by decide
theorem sfWaits_waiting : sfWaits.dev.sfGet (.ms 63) false = { decl := true } := by decide
/-- What follows the command leaves the defect declared. -/
theorem sfWaits_followed : ((followed sfWaits sfWaits.dev).dev.lane 63).msSf.decl = true := by decide

/-- Refutes O34: its last clause leaves out that the window is in progress. While a declared SF waits for its next window (R318, last
row), no window ends and it stays declared, with no errored block counted; the clause has it cleared. -/
theorem not_scansTimersAndChoices : ¬ Obligations.ScansTimersAndChoices := by
  intro h
  have hlive : Live sfWaits := rfl
  obtain ⟨-, -, -, -, -, -, -, -, -, -, hwindow⟩ := h sfWaits hlive
  obtain ⟨d, hrun, -, hdecl, -⟩ := hwindow (.ms 63) false
  rw [exec_sfsdWindowEnd, path_followed hlive, sfWindowEnd_waiting sfWaits_open sfWaits_ena (by rw [sfWaits_waiting])] at hrun
  have hsame : followed sfWaits sfWaits.dev = followed sfWaits d := Host.Outcome.next.inj hrun
  have hkept : (d.sfGet (.ms 63) false).decl = true := followed_msSf sfWaits d 63 (hsame ▸ sfWaits_followed)
  obtain ⟨-, -, hreached⟩ := hdecl.mp hkept
  rw [sfWaits_waiting] at hreached
  exact absurd hreached (Nat.not_le.mpr (sfThreshold_pos ..))

end Sys2Proof.Machine
end

section
/-! SUPPORT. The request machine of the Landing (R333 to R342): which request is active, and what an external command that is
accepted leaves. -/

namespace Sys2Proof.Machine
open Sys2Proof Sys2Proof.Safety

/-! The active request. -/

/-- The priority of the local request (R333). -/
theorem Chooser.localReq_prio (c : Chooser) (rev : Bool) :
    (c.localReq rev).prio =
      if c.lo then 1 else if c.sfP then 2 else if c.fs.isSome then 3 else if c.sfW then 4 else if c.sdW || c.sdP then 5
      else if c.ms.isSome then 6 else if c.wtr.isSome then 7 else if c.exer then 8 else if !rev && c.choice then 10 else 11 := by
  unfold Chooser.localReq Chooser.localLow
  repeat' split
  all_goals simp_all

/-- Nothing ranks above a forced switch: neither LO nor SF of the protect copy. -/
theorem Chooser.prio_above_forced {c : Chooser} {rev : Bool} (h : 2 < (c.localReq rev).prio) : c.lo = false ∧ c.sfP = false := by
  rw [Chooser.localReq_prio] at h
  by_cases hlo : c.lo = true
  · simp [hlo] at h
  · by_cases hsf : c.sfP = true
    · simp [hlo, hsf] at h
    · simp_all

/-- Nothing ranks above a manual switch: no lockout, no forced switch, no failure and no degrade. -/
theorem Chooser.prio_above_manual {c : Chooser} {rev : Bool} (h : 5 < (c.localReq rev).prio) :
    c.lo = false ∧ c.sfP = false ∧ c.fs = none ∧ c.sfW = false ∧ c.sdW = false ∧ c.sdP = false := by
  obtain ⟨hlo, hsf⟩ := Chooser.prio_above_forced (by omega : 2 < (c.localReq rev).prio)
  rw [Chooser.localReq_prio, hlo, hsf] at h
  cases hfs : c.fs with
  | some b => simp [hfs] at h
  | none =>
    by_cases hw : c.sfW = true
    · simp [hfs, hw] at h
    · by_cases hd : (c.sdW || c.sdP) = true
      · simp [hfs, hw, hd] at h
      · simp_all

/-- Nothing ranks above an exercise: no manual switch and no WTR either. -/
theorem Chooser.prio_above_exercise {c : Chooser} {rev : Bool} (h : 7 < (c.localReq rev).prio) : c.ms = none ∧ c.wtr = none := by
  obtain ⟨hlo, hsf, hfs, hw, hdw, hdp⟩ := Chooser.prio_above_manual (by omega : 5 < (c.localReq rev).prio)
  rw [Chooser.localReq_prio, hlo, hsf, hfs, hw, hdw, hdp] at h
  cases hms : c.ms with
  | some b => simp [hms] at h
  | none =>
    cases hwtr : c.wtr with
    | some n => simp [hms, hwtr] at h
    | none => exact ⟨rfl, rfl⟩

/-- With nothing received the local request is the active one. -/
theorem Chooser.activeReq_alone (c : Chooser) (rev : Bool) : c.activeReq rev {} = (c.localReq rev, false) := rfl

/-- The active request ranks as the higher of the local and the remote one (R358). -/
theorem Chooser.lt_activeReq_prio {c : Chooser} {rev : Bool} {far : FarEnd} {n : Nat} :
    n < (c.activeReq rev far).1.prio ↔ n < (c.localReq rev).prio ∧ ∀ r, far.req = some r → n < r.prio := by
  unfold Chooser.activeReq
  cases far.req with
  | none => simp
  | some r =>
    dsimp only
    split
    · simp only [Option.some.injEq, forall_eq']; omega
    · simp only [Option.some.injEq, forall_eq']; omega

/-- A command that is accepted ranks no lower than the active request (R341). -/
theorem Chooser.cmdPrio_le_of_accepts {c : Chooser} {rev : Bool} {far : FarEnd} {cmd : Nat} (h0 : cmd ≠ 0)
    (h : c.accepts rev far cmd = true) : cmdPrio cmd ≤ (c.activeReq rev far).1.prio := by
  simp only [Chooser.accepts, beq_eq_false_iff_ne.2 h0, Bool.false_or, Bool.or_eq_true, Bool.and_eq_true, decide_eq_true_eq] at h
  omega

/-! The request taken (R333, R337, R339). -/

/-- The start of WTR is all `wtrStart` can bring. -/
theorem Chooser.wtrStart_only (c : Chooser) (cfg : ChooseCfg) (prio : Nat) :
    c.wtrStart cfg prio = { c with wtr := (c.wtrStart cfg prio).wtr } := by
  unfold Chooser.wtrStart
  split
  · rfl
  · rfl

/-- WTR does not start while WTR was the active request. -/
theorem Chooser.wtrStart_of_wtr {c : Chooser} (cfg : ChooseCfg) (prio : Nat) (h : c.req = 6) : c.wtrStart cfg prio = c :=
  if_neg (by simp [h])

/-- Nor does it start beside a request of priority 1 to 6. -/
theorem Chooser.wtrStart_of_high {c : Chooser} (cfg : ChooseCfg) {prio : Nat} (h : prio ≤ 6) : c.wtrStart cfg prio = c :=
  if_neg (by simp [Nat.not_lt.2 h])

/-- The standing commands once a request is taken: those it outranks are gone (R339, R361). -/
theorem Chooser.resolve_standing (cfg : ChooseCfg) (far : FarEnd) (c : Chooser) :
    let prio := (c.activeReq cfg.rev far).1.prio
    (c.resolve cfg far).lo = c.lo ∧ (c.resolve cfg far).fs = c.fs ∧ (c.resolve cfg far).ms = (if prio ≤ 5 then none else c.ms) ∧
      (c.resolve cfg far).exer = (c.exer && decide (7 < prio)) := by
  unfold Chooser.resolve
  rw [Chooser.wtrStart_only]
  exact ⟨rfl, rfl, rfl, rfl⟩

/-- A request of priority 1 to 6 outlives what it cancels. -/
theorem Chooser.localReq_cancel {c : Chooser} {rev : Bool} (h : (c.localReq rev).prio ≤ 6) :
    (c.cancel (c.localReq rev).prio).localReq rev = c.localReq rev := by
  unfold Chooser.cancel
  generalize hp : (c.localReq rev).prio = prio at h
  rw [Chooser.localReq_prio] at hp
  unfold Chooser.localReq Chooser.localLow
  cases hfs : c.fs <;> cases hms : c.ms <;> rw [hfs, hms] at hp <;> repeat' split at hp
  all_goals subst hp; simp_all

/-- A local request of priority 1 to 6 that is alone is taken as it stands. -/
theorem Chooser.resolve_high {c : Chooser} {cfg : ChooseCfg} (h : (c.localReq cfg.rev).prio ≤ 6) :
    c.resolve cfg {} =
      { c.cancel (c.localReq cfg.rev).prio with
          req := (c.localReq cfg.rev).code
          ch := (c.localReq cfg.rev).ch
          remote := false
          choice := chooseMove c.choice (c.localReq cfg.rev) none } := by
  unfold Chooser.resolve
  rw [Chooser.activeReq_alone, Chooser.wtrStart_of_high cfg h]
  beta_reduce
  rw [Chooser.activeReq_alone, Chooser.localReq_cancel h]
  rfl

/-! External commands (R339 to R342). -/

/-- The commands that select a copy, and whether that is the protect copy (R340). -/
def switchCommands : List (Nat × Bool) := [(1, false), (2, true), (3, false), (4, true), (5, false)]

theorem Chooser.localReq_forced {c : Chooser} {rev : Bool} (h : c.lo = false ∧ c.sfP = false) (p : Bool) :
    { c with fs := some p }.localReq rev = ⟨3, 14, b2n p, some p⟩ := by
  simp [Chooser.localReq, h.1, h.2]

theorem Chooser.localReq_manual {c : Chooser} {rev : Bool} (h : 5 < (c.localReq rev).prio) (p : Bool) :
    { c with ms := some p }.localReq rev = ⟨6, 8, b2n p, some p⟩ := by
  obtain ⟨hlo, hsf, hfs, hw, hdw, hdp⟩ := Chooser.prio_above_manual h
  simp [Chooser.localReq, Chooser.localLow, hlo, hsf, hfs, hw, hdw, hdp]

/-- A command that selects a copy and is accepted is the active request once it stands. -/
theorem Chooser.localReq_stand {c : Chooser} {rev : Bool} {cmd : Nat} {p : Bool} (hcmd : (cmd, p) ∈ switchCommands)
    (h : c.accepts rev {} cmd = true) : ∃ code, (c.stand cmd).localReq rev = ⟨cmdPrio cmd, code, b2n p, some p⟩ := by
  have hne : cmd ≠ 0 := by rintro rfl; simp [switchCommands] at hcmd
  have hle : cmdPrio cmd ≤ (c.localReq rev).prio := Chooser.cmdPrio_le_of_accepts hne h
  simp only [switchCommands, List.mem_cons, Prod.mk.injEq, List.not_mem_nil, or_false] at hcmd
  rcases hcmd with ⟨rfl, rfl⟩ | ⟨rfl, rfl⟩ | ⟨rfl, rfl⟩ | ⟨rfl, rfl⟩ | ⟨rfl, rfl⟩
  · exact ⟨15, rfl⟩
  · exact ⟨14, Chooser.localReq_forced (Chooser.prio_above_forced hle) true⟩
  · exact ⟨14, Chooser.localReq_forced (Chooser.prio_above_forced hle) false⟩
  · exact ⟨8, Chooser.localReq_manual hle true⟩
  · exact ⟨8, Chooser.localReq_manual hle false⟩

/-- It stands alone of its rank and above (R339). -/
theorem Chooser.standing_stand {c : Chooser} {rev : Bool} {cmd : Nat} {p : Bool} (hcmd : (cmd, p) ∈ switchCommands)
    (h : c.accepts rev {} cmd = true) : ((c.stand cmd).cancel (cmdPrio cmd)).standing = cmd := by
  have hne : cmd ≠ 0 := by rintro rfl; simp [switchCommands] at hcmd
  have hle : cmdPrio cmd ≤ (c.localReq rev).prio := Chooser.cmdPrio_le_of_accepts hne h
  simp only [switchCommands, List.mem_cons, Prod.mk.injEq, List.not_mem_nil, or_false] at hcmd
  rcases hcmd with ⟨rfl, -⟩ | ⟨rfl, -⟩ | ⟨rfl, -⟩ | ⟨rfl, -⟩ | ⟨rfl, -⟩
  · rfl
  · have hlo := (Chooser.prio_above_forced hle).1
    simp [Chooser.standing, Chooser.cancel, Chooser.stand, hlo]
  · have hlo := (Chooser.prio_above_forced hle).1
    simp [Chooser.standing, Chooser.cancel, Chooser.stand, hlo]
  · obtain ⟨hlo, -, hfs, -, -, -⟩ := Chooser.prio_above_manual hle
    simp [Chooser.standing, Chooser.cancel, Chooser.stand, hlo, hfs, cmdPrio]
  · obtain ⟨hlo, -, hfs, -, -, -⟩ := Chooser.prio_above_manual hle
    simp [Chooser.standing, Chooser.cancel, Chooser.stand, hlo, hfs, cmdPrio]

/-- A switch command that is accepted stands, selects its copy and leaves ACCEPTED (R339, R342). -/
theorem Chooser.command_switches {c : Chooser} {cfg : ChooseCfg} {cmd : Nat} {p : Bool} (hcmd : (cmd, p) ∈ switchCommands)
    (h : c.accepts cfg.rev {} cmd = true) :
    let x := c.command cfg {} cmd
    x.1 = 0 ∧ x.2.standing = cmd ∧ x.2.choice = p ∧ x.2.lastRes = 0 := by
  obtain ⟨code, hreq⟩ := Chooser.localReq_stand hcmd h
  have hprio : cmdPrio cmd ≤ 6 := by
    simp only [switchCommands, List.mem_cons, Prod.mk.injEq, List.not_mem_nil, or_false] at hcmd
    rcases hcmd with ⟨rfl, -⟩ | ⟨rfl, -⟩ | ⟨rfl, -⟩ | ⟨rfl, -⟩ | ⟨rfl, -⟩ <;> decide
  have htake := Chooser.resolve_high (c := c.stand cmd) (cfg := cfg) (by rw [hreq]; exact hprio)
  rw [hreq] at htake
  have hchoice : chooseMove (c.stand cmd).choice ⟨cmdPrio cmd, code, b2n p, some p⟩ none = p := by
    cases p
    · rfl
    · exact Bool.or_true _
  rw [Chooser.command, if_pos h, htake]
  exact ⟨rfl, Chooser.standing_stand hcmd h, hchoice, rfl⟩

/-- A command that is not accepted leaves PRIORITY alone (R341). -/
theorem Chooser.command_refused {c : Chooser} {cfg : ChooseCfg} {far : FarEnd} {cmd : Nat} (h : c.accepts cfg.rev far cmd = false) :
    c.command cfg far cmd = (1, { c with lastRes := 1 }) := by
  rw [Chooser.command, h]; rfl

/-- CLEAR leaves no command standing, and no WTR where that was the active request (R340). -/
theorem Chooser.command_clear (c : Chooser) (cfg : ChooseCfg) (far : FarEnd) :
    let x := c.command cfg far 0
    x.1 = 0 ∧ x.2.standing = 0 ∧ x.2.lastRes = 0 ∧ (c.req = 6 → x.2.wtr = none) := by
  obtain ⟨hlo, hfs, hms, hex⟩ := Chooser.resolve_standing cfg far (c.stand 0)
  have hms' : ((c.stand 0).resolve cfg far).ms = none := hms.trans (ite_self _)
  have hstanding : ((c.stand 0).resolve cfg far).standing = 0 := by
    rw [Chooser.standing, hlo, hfs, hms', hex]
    rfl
  have hwtr : c.req = 6 → ((c.stand 0).resolve cfg far).wtr = none := fun hreq => by
    unfold Chooser.resolve
    rw [Chooser.wtrStart_of_wtr cfg _ (by exact hreq)]
    exact ite_self _
  exact ⟨rfl, hstanding, rfl, hwtr⟩

/-- An exercise that is accepted stands, whatever the far end asks for (R341, R361). -/
theorem Chooser.command_exercise {c : Chooser} {cfg : ChooseCfg} {far : FarEnd} (h : c.accepts cfg.rev far 6 = true) :
    let x := c.command cfg far 6
    x.1 = 0 ∧ x.2.exer = true ∧ x.2.lastRes = 0 := by
  obtain ⟨hloc, hfar⟩ := Chooser.lt_activeReq_prio.1 (Chooser.cmdPrio_le_of_accepts (by decide) h)
  obtain ⟨hlo, hsf, hfs, hw, hdw, hdp⟩ := Chooser.prio_above_manual (Nat.lt_of_le_of_lt (by decide) hloc)
  obtain ⟨hms, hwtr⟩ := Chooser.prio_above_exercise hloc
  have hreq : (c.stand 6).localReq cfg.rev = ⟨8, 4, 1, none⟩ := by
    simp [Chooser.stand, Chooser.localReq, Chooser.localLow, hlo, hsf, hfs, hw, hdw, hdp, hms, hwtr]
  have hactive : 7 < ((c.stand 6).activeReq cfg.rev far).1.prio := Chooser.lt_activeReq_prio.2 ⟨by rw [hreq]; decide, hfar⟩
  obtain ⟨-, -, -, hex⟩ := Chooser.resolve_standing cfg far (c.stand 6)
  rw [Chooser.command, if_pos h]
  exact ⟨rfl, hex.trans (by rw [decide_eq_true hactive]; rfl), rfl⟩

end Sys2Proof.Machine
end

section
/-! SUPPORT. The Landing (R332 to R370): its commands as runs of a device, its registers at the bridge, and what its events leave. -/

namespace Sys2Proof.Machine
open Sys2Proof Sys2Proof.Safety

/-! External commands on a selector (`msp` false) or a pair. -/

/-- The commands of the Landing with their codes (R340). -/
def landCommands (m : Nat) (msp : Bool) (i : Nat) : List (Instr × Nat) :=
  [(.landClear m msp i, 0), (.lockout m msp i, 1), (.forcedP m msp i, 2), (.forcedW m msp i, 3), (.manualP m msp i, 4),
    (.manualW m msp i, 5), (.exercise m msp i, 6)]

/-- Those that select a copy, with that copy. -/
def landSwitches (m : Nat) (msp : Bool) (i : Nat) : List (Instr × Nat × Bool) :=
  [(.lockout m msp i, 1, false), (.forcedP m msp i, 2, true), (.forcedW m msp i, 3, false), (.manualP m msp i, 4, true),
    (.manualW m msp i, 5, false)]

theorem landSwitches_commands {m : Nat} {msp : Bool} {i : Nat} {e : Instr × Nat × Bool} (h : e ∈ landSwitches m msp i) :
    (e.1, e.2.1) ∈ landCommands m msp i ∧ (e.2.1, e.2.2) ∈ switchCommands := by
  simp only [landSwitches, List.mem_cons, List.not_mem_nil, or_false] at h
  rcases h with rfl | rfl | rfl | rfl | rfl <;> simp [landCommands, switchCommands]

theorem landCommands_lt {m : Nat} {msp : Bool} {i : Nat} {c : Instr} {cmd : Nat} (h : (c, cmd) ∈ landCommands m msp i) : cmd < 7 := by
  simp only [landCommands, List.mem_cons, Prod.mk.injEq, List.not_mem_nil, or_false] at h
  omega

/-- Each is a write of its code to the command word. -/
theorem exec_landCommand {m : Nat} {msp : Bool} {i : Nat} {c : Instr} {cmd : Nat} (h : (c, cmd) ∈ landCommands m msp i) (s : State) :
    exec c s = s.live (fun d => d.cmdWrite m (landCmdAt msp i) (wd cmd)) := by
  simp only [landCommands, List.mem_cons, Prod.mk.injEq, List.not_mem_nil, or_false] at h
  rcases h with ⟨rfl, rfl⟩ | ⟨rfl, rfl⟩ | ⟨rfl, rfl⟩ | ⟨rfl, rfl⟩ | ⟨rfl, rfl⟩ | ⟨rfl, rfl⟩ | ⟨rfl, rfl⟩ <;> rfl

theorem landCmdAt_sel (i : Nat) : landCmdAt false i = selBase i + 8 := rfl
theorem landCmdAt_msp (i : Nat) : landCmdAt true i = mspBase i + 8 := rfl

/-- A value of a command word that its row allows. -/
theorem landCommand_legal {r : RegRow} (hb : r.bits = 7) (hc : r.chks = []) : ∀ cmd < 7, r.legal (wd cmd).toNat = true := by
  simp only [RegRow.legal, RegRow.reserved, hb, hc]
  decide

/-! Registers of a selector. -/

/-- SEL_CFG. -/
def selCfgRow : RegRow := rw 0x0 0x1FFFFF 0 [⟨4, 7, [(0, 100)]⟩, ⟨11, 10, [(0, 720)]⟩]
/-- SEL_CMD. -/
def selCmdRow : RegRow := wo 0x8 0x7

theorem rowAt_selCfg (i : Nat) : rowAt ⟨.sel, i, 0⟩ = some selCfgRow := rfl
theorem rowAt_selCmd (i : Nat) : rowAt ⟨.sel, i, 8⟩ = some selCmdRow := rfl

theorem locOf_selCfg {i : Nat} (hi : i < 137216) : locOf (selBase i) = some ⟨.sel, i, 0⟩ := locOf_sel (o := 0) hi (by decide)
theorem locOf_selCmd {i : Nat} (hi : i < 137216) : locOf (selBase i + 8) = some ⟨.sel, i, 8⟩ := locOf_sel hi (by decide)

theorem rowOf_selCfg {i : Nat} (hi : i < 137216) : rowOf (selBase i) = some selCfgRow := by rw [rowOf_of (locOf_selCfg hi)]; rfl

theorem selReg_aligned {i o : Nat} (ho : o % 4 = 0) : (selBase i + o) % 4 = 0 := by unfold selBase; omega
theorem selReg_ge (i o : Nat) : selBase 0 ≤ selBase i + o := by unfold selBase; omega
theorem selCfg_ne {i a : Nat} (ha : a < 0x06000000) : selBase i ≠ a := by unfold selBase; omega
theorem selCfg_aligned (i : Nat) : selBase i % 4 = 0 := selReg_aligned (o := 0) rfl

/-! Registers of a pair. -/

/-- MSP_CFG. -/
def mspCfgRow : RegRow := (rw 0x1000 0x7FFFFF 0 [⟨16, 7, [(0, 100)]⟩]).each 0x20 32
/-- MSP_CMD. -/
def mspCmdRow : RegRow := (wo 0x1008 0x7).each 0x20 32

theorem rowAt_mspCfg : ∀ i < 32, rowAt ⟨.landing, 0, 0x1000 + 0x20 * i⟩ = some mspCfgRow := by decide
theorem rowAt_mspCmd : ∀ i < 32, rowAt ⟨.landing, 0, 0x1008 + 0x20 * i⟩ = some mspCmdRow := by decide
theorem locOf_mspCfg : ∀ i < 32, locOf (mspBase i) = some ⟨.landing, 0, 0x1000 + 0x20 * i⟩ := by decide
theorem locOf_mspCmd : ∀ i < 32, locOf (mspBase i + 8) = some ⟨.landing, 0, 0x1008 + 0x20 * i⟩ := by decide

theorem rowOf_mspCfg {i : Nat} (hi : i < 32) : rowOf (mspBase i) = some mspCfgRow := by
  rw [rowOf_of (locOf_mspCfg i hi)]; exact rowAt_mspCfg i hi

theorem mspReg_aligned {i o : Nat} (ho : o % 4 = 0) : (mspBase i + o) % 4 = 0 := by unfold mspBase; omega
theorem mspReg_ne {i o a : Nat} (ha : a < 0xB1000) : mspBase i + o ≠ a := by unfold mspBase; omega
theorem mspCfg_ne {i a : Nat} (ha : a < 0xB1000) : mspBase i ≠ a := mspReg_ne (o := 0) ha
theorem mspCfg_aligned (i : Nat) : mspBase i % 4 = 0 := mspReg_aligned (o := 0) rfl

/-! Writes of LANDING and of selectors at the bridge. -/

/-- In the Landing a write that is no sticky clear goes to its block. -/
theorem applyLoc_land (d : Device) (m a : Nat) {l : Loc} {r : RegRow} (v : Word) (hb : l.blk = .sel ∨ l.blk = .landing)
    (hacc : r.acc = .rw ∨ r.acc = .wo) : d.applyLoc m a l r v = d.applyBlk m a l r v := by
  have hm : d.memberWord l = false := by rcases hb with e | e <;> simp [Device.memberWord, e]
  have hw : r.acc ≠ .w1c := by rcases hacc with e | e <;> simp [e]
  rw [Device.applyLoc, hm, if_neg Bool.false_ne_true, if_neg hw]

theorem domainOf_land {l : Loc} (hb : l.blk = .sel ∨ l.blk = .landing) : domainOf l = none := by
  rcases hb with e | e <;> simp [domainOf, e]

section
variable {s : State} {m a : Nat} {l : Loc} {r : RegRow} {v : Word} {d : Device} (h : Ready s m) (hl : locOf a = some l)
  (hb : l.blk = .sel ∨ l.blk = .landing) (hr : rowAt l = some r) (ha : a % 4 = 0) (hw : r.wide = false) (hacc : r.acc = .rw ∨ r.acc = .wo)
  (href : s.dev.refusal a l r v = none)
include h hl hb hr ha hw hacc href

/-- A write of configuration the Landing accepts: what it does with it, CFG_DIRTY, and what follows the defects. -/
theorem exec_landConfig (hcov : r.cov = true) (he : s.dev.applyBlk m a l r v = (.ok, d)) :
    s.live (fun d => d.cmdWrite m a v) = .next (acceptedSettled s m d.covered) := by
  rw [exec_mgmtWrite h hl hr (domainOf_land hb) ha hw hacc href ((applyLoc_land _ _ _ _ hb hacc).trans he), if_pos hcov,
    settleAt_settled hl (by rcases hb with e | e <;> simp [e]), acceptedSettled]

/-- A command the Landing accepts: what it does with it, and what follows the defects. -/
theorem exec_landCommandWrite (hcov : r.cov = false) (he : s.dev.applyBlk m a l r v = (.ok, d)) :
    s.live (fun d => d.cmdWrite m a v) = .next (acceptedSettled s m d) := by
  rw [exec_mgmtWrite h hl hr (domainOf_land hb) ha hw hacc href ((applyLoc_land _ _ _ _ hb hacc).trans he), hcov,
    if_neg Bool.false_ne_true, settleAt_settled hl (by rcases hb with e | e <;> simp [e]), acceptedSettled]

/-- A write the Landing refuses with RANGE: the record of the refusal and the completion. -/
theorem exec_landWrite_refused (he : s.dev.applyBlk m a l r v = (.range, d)) :
    s.live (fun d => d.cmdWrite m a v) =
      .next (after s ((d.refused { master := m, wide := false } .range a).complete m { status := .range })) :=
  exec_mgmtWrite_refused h hl hr (domainOf_land hb) ha hw hacc href ((applyLoc_land _ _ _ _ hb hacc).trans he) nofun

end

section
variable {s : State} {m i cmd : Nat} {c : Instr} (h : Ready s m) (hstandby : s.dev.standby = false) (hcores : s.dev.cores.mc0Away = false)
include h hstandby hcores

omit h in
/-- An acting device whose MC0 is present serves the commands of the Landing (R343). -/
theorem landServed_acting (m : Nat) : s.dev.landServed m = none := by
  simp [Device.landServed, hstandby, hcores]

/-- A command on a selector. -/
theorem exec_selCommand (hi : i < 137216) (hc : (c, cmd) ∈ landCommands m false i) :
    exec c s = .next (acceptedSettled s m (s.dev.selCommand i cmd).2) := by
  have hcmd := landCommands_lt hc
  have hlegal := landCommand_legal (r := selCmdRow) rfl rfl cmd hcmd
  have href : s.dev.refusal (selBase i + 8) ⟨.sel, i, 8⟩ selCmdRow (wd cmd) = none :=
    refusal_command rfl nofun (by simp [Device.standbyBars, hstandby]) (by simp [Device.bridgeBad, hlegal])
  have hap : s.dev.applyBlk m (selBase i + 8) ⟨.sel, i, 8⟩ selCmdRow (wd cmd) = (.ok, (s.dev.selCommand i cmd).2) := by
    have hblk : s.dev.applyBlk m (selBase i + 8) ⟨.sel, i, 8⟩ selCmdRow (wd cmd) = s.dev.selCmdWrite m i (wd cmd).toNat := rfl
    rw [hblk, wd_toNat (by omega), Device.selCmdWrite, landServed_acting hstandby hcores]
    exact if_neg (by omega)
  rw [exec_landCommand hc, landCmdAt_sel]
  exact exec_landCommandWrite h (locOf_selCmd hi) (.inl rfl) (rowAt_selCmd i) (selReg_aligned (by decide)) rfl (.inr rfl) href rfl hap

/-- A command on a pair. -/
theorem exec_mspCommand (hi : i < 32) (hc : (c, cmd) ∈ landCommands m true i) :
    exec c s = .next (acceptedSettled s m (s.dev.mspCommand i cmd).2) := by
  have hcmd := landCommands_lt hc
  have hlegal := landCommand_legal (r := mspCmdRow) rfl rfl cmd hcmd
  have href : s.dev.refusal (mspBase i + 8) ⟨.landing, 0, 0x1008 + 0x20 * i⟩ mspCmdRow (wd cmd) = none :=
    refusal_command rfl nofun (by simp [Device.standbyBars, hstandby]) (by simp [Device.bridgeBad, hlegal])
  have hap : s.dev.applyBlk m (mspBase i + 8) ⟨.landing, 0, 0x1008 + 0x20 * i⟩ mspCmdRow (wd cmd) = (.ok, (s.dev.mspCommand i cmd).2) := by
    have hidx : (0x1008 + 0x20 * i - 0x1000) / 0x20 = i := by omega
    have hblk : s.dev.applyLanding m (mspBase i + 8) (0x1008 + 0x20 * i) mspCmdRow (wd cmd) = s.dev.mspCmdWrite m i (wd cmd).toNat := by
      rw [Device.applyLanding]
      iterate 7 rw [if_neg (by omega)]
      rw [if_pos (by omega), hidx]
    refine Eq.trans hblk ?_
    rw [wd_toNat (by omega), Device.mspCmdWrite, landServed_acting hstandby hcores]
    exact if_neg (by omega)
  rw [exec_landCommand hc, landCmdAt_msp]
  exact exec_landCommandWrite h (locOf_mspCmd i hi) (.inr rfl) (rowAt_mspCmd i hi) (mspReg_aligned (by decide)) rfl (.inr rfl) href rfl hap

end

end Sys2Proof.Machine
end

section
/-! PROOFS. The external commands on a selector (R339 to R343, R368). -/

namespace Sys2Proof.Machine
open Sys2Proof Sys2Proof.Safety

/-! Events of a selector (R240, R368). -/

/-- A selector that enters the Landing queue leaves the selectors and their registers. -/
theorem selQueuePush_selKept (d : Device) (i : Nat) :
    KeptOn (selBase 0 ≤ ·) d (d.selQueuePush i) ∧ (d.selQueuePush i).land.sels = d.land.sels := by
  unfold Device.selQueuePush
  split
  · exact ⟨((KeptOn.refl _ d).inc (by decide)).ev _ (by decide), rfl⟩
  · refine ⟨((KeptOn.refl _ d).when ((KeptOn.refl _ d).ev _ (by decide))).trans (.of_regs rfl), ?_⟩
    exact when_ind (P := fun e => e.land.sels = d.land.sels) rfl fun _ => rfl

/-- An event of a selector sets its bit and leaves the selectors. -/
theorem selEv_record (d : Device) (i : Nat) {b : Nat} (hb : b < 32) :
    (d.selEv i b).bit (selBase i + 0x18) b = true ∧ (d.selEv i b).land.sels = d.land.sels := by
  have hset := bit_ev_same d (selBase i + 0x18) hb
  obtain ⟨hkept, hsels⟩ := selQueuePush_selKept (d.ev (selBase i + 0x18) b) i
  unfold Device.selEv
  refine when_ind (P := fun e => e.bit (selBase i + 0x18) b = true ∧ e.land.sels = d.land.sels) ⟨hset, rfl⟩ fun _ => ⟨?_, hsels⟩
  rw [bit_of_rd (hkept _ (selReg_ge i _)), hset]

/-- A request machine stored with an event: the selector has it, its bit is set, and the other selectors are as they were. -/
theorem setSelC_selEv_record (d : Device) (i : Nat) (c : Chooser) {b : Nat} (hb : b < 32) :
    let d' := (d.setSelC i c).selEv i b
    d'.sel i = { d.sel i with c := c } ∧ d'.bit (selBase i + 0x18) b = true ∧ ∀ k, k ≠ i → d'.sel k = d.sel k := by
  obtain ⟨hbit, hsels⟩ := selEv_record (d.setSelC i c) i hb
  have hsel : ∀ k, ((d.setSelC i c).selEv i b).sel k = (d.setSelC i c).sel k := fun k => by rw [Device.sel, hsels]; rfl
  exact ⟨(hsel i).trans (sel_setSel d i _), hbit, fun k hk => (hsel k).trans (sel_setSel_ne d _ hk)⟩

/-! The command (R340 to R342). -/

theorem selCommand_notActive {d : Device} {i : Nat} (cmd : Nat) (h : (d.sel i).st ≠ 1) :
    (d.selCommand i cmd).2 = (d.setSelC i { (d.sel i).c with lastRes := 2 }).selEv i 2 := by
  rw [Device.selCommand, if_pos h]

section
variable {d : Device} {i : Nat} (h : (d.sel i).st = 1)
include h

theorem selCommand_exercise : (d.selCommand i 6).2 = (d.setSelC i { (d.sel i).c with lastRes := 3 }).selEv i 2 := by
  rw [Device.selCommand, if_neg (not_not.2 h), if_pos rfl]

theorem selCommand_accepted {cmd : Nat} (h6 : cmd ≠ 6) (hacc : ((d.sel i).c.command (d.selCfg i) {} cmd).1 = 0) :
    (d.selCommand i cmd).2 = (d.setSelC i ((d.sel i).c.command (d.selCfg i) {} cmd).2).selEv i 1 := by
  rw [Device.selCommand, if_neg (not_not.2 h), if_neg h6]
  beta_reduce
  rw [if_pos hacc]

theorem selCommand_rejected {cmd : Nat} (h6 : cmd ≠ 6) (hrej : (d.sel i).c.accepts (d.selCfg i).rev {} cmd = false) :
    (d.selCommand i cmd).2 = (d.setSelC i { (d.sel i).c with lastRes := 1 }).selEv i 2 := by
  rw [Device.selCommand, if_neg (not_not.2 h), if_neg h6, Chooser.command_refused hrej]
  rfl

end

/-- Settles O31: each command is a write of SEL_CMD that MC0 serves; the request machine judges it (R341) and its event says how. -/
theorem selectorCommandsArePriorityJudged : Obligations.SelectorCommandsArePriorityJudged := by
  intro s m i h hi hstandby hcores
  refine ⟨fun hst => ⟨fun e he => ?_, ?_, ?_⟩, fun hst c hc => ?_⟩
  · obtain ⟨hc, hswitch⟩ := landSwitches_commands he
    have hrun := exec_selCommand h hstandby hcores hi hc
    have h6 : e.2.1 ≠ 6 := fun h6 => by simp [h6, switchCommands] at hswitch
    refine ⟨fun hacc => ?_, fun hrej => ?_⟩
    · obtain ⟨hres, hstanding, hchoice, hlast⟩ := Chooser.command_switches (cfg := s.dev.selCfg i) hswitch hacc
      obtain ⟨hsel, hbit, hothers⟩ := setSelC_selEv_record s.dev i ((s.dev.sel i).c.command (s.dev.selCfg i) {} e.2.1).2 (b := 1) (by decide)
      rw [selCommand_accepted hst h6 hres] at hrun
      refine ⟨_, hrun, ?_, ?_, ?_, hbit, ?_, hothers⟩ <;> rw [hsel]
      exacts [hstanding, hchoice, hlast, hst]
    · obtain ⟨hsel, hbit, hothers⟩ := setSelC_selEv_record s.dev i { (s.dev.sel i).c with lastRes := 1 } (b := 2) (by decide)
      rw [selCommand_rejected hst h6 hrej] at hrun
      exact ⟨_, hrun, hsel, hbit, hothers⟩
  · have hrun := exec_selCommand (c := .landClear m false i) h hstandby hcores hi (List.mem_cons_self ..)
    obtain ⟨hres, hstanding, hlast, hwtr⟩ := Chooser.command_clear (s.dev.sel i).c (s.dev.selCfg i) {}
    obtain ⟨hsel, hbit, -⟩ := setSelC_selEv_record s.dev i ((s.dev.sel i).c.command (s.dev.selCfg i) {} 0).2 (b := 1) (by decide)
    rw [selCommand_accepted hst (by decide) hres] at hrun
    refine ⟨_, hrun, ?_, ?_, hbit, ?_⟩ <;> rw [hsel]
    exacts [hstanding, hlast, hwtr]
  · have hrun := exec_selCommand (c := .exercise m false i) (cmd := 6) h hstandby hcores hi (by simp [landCommands])
    obtain ⟨hsel, hbit, -⟩ := setSelC_selEv_record s.dev i { (s.dev.sel i).c with lastRes := 3 } (b := 2) (by decide)
    rw [selCommand_exercise hst] at hrun
    exact ⟨_, hrun, hsel, hbit⟩
  · obtain ⟨cmd, hcmd⟩ : ∃ cmd, (c, cmd) ∈ landCommands m false i := by
      simp only [List.mem_cons, List.not_mem_nil, or_false] at hc
      rcases hc with rfl | rfl | rfl | rfl | rfl | rfl | rfl <;> simp [landCommands]
    have hrun := exec_selCommand h hstandby hcores hi hcmd
    obtain ⟨hsel, hbit, -⟩ := setSelC_selEv_record s.dev i { (s.dev.sel i).c with lastRes := 2 } (b := 2) (by decide)
    rw [selCommand_notActive cmd hst] at hrun
    exact ⟨_, hrun, hsel, hbit⟩

end Sys2Proof.Machine
end

section
/-! SUPPORT. The record of a refusal of the Landing (R362), and what the events and the request machine of a pair leave (R357, R361,
R370). -/

namespace Sys2Proof.Machine
open Sys2Proof Sys2Proof.Safety

/-! Refusals (R362). -/

/-- A write the Landing refuses with RANGE leaves its record, in LANDING and in GLOBAL, and no pair or selector changes. -/
theorem landRefused_record (d : Device) (kind idx cause : Nat) (x : Access) (a : Nat) :
    let d' := (d.landRefuse kind idx cause).refused x .range a
    d'.land = d.land ∧ d'.pairs = d.pairs ∧ d'.rd 0xB0048 = wd (idx + 2 ^ 18 * kind + 2 ^ 20 * cause) ∧
      ∀ b, 0xB0048 < b → d'.rd b = d.rd b := by
  refine ⟨by rw [refused_only]; rfl, by rw [refused_only]; rfl, ?_, fun b hb => ?_⟩
  · rw [rd_refused _ _ _ _ (.inr (by decide)), Device.landRefuse, rd_ev_ne _ _ (by decide), rd_wr_same]
  · rw [rd_refused _ _ _ _ (.inr (by omega)), Device.landRefuse, rd_ev_ne _ _ (by omega), rd_wr_ne _ _ (by omega), rd_inc_ne _ (by omega)]

/-! Events of a pair (R370). -/

/-- An event of a pair sets its bit; nothing but the register file changes, and of it MSP_EVENT and LAND_EVENT alone. -/
theorem mspEv_record (d : Device) (i : Nat) {b : Nat} (hb : b < 32) :
    (d.mspEv i b).bit (mspBase i + 0x1C) b = true ∧ Only [mspBase i + 0x1C, 0xB0014] d (d.mspEv i b) := by
  have hne : mspBase i + 0x1C ≠ 0xB0014 := mspReg_ne (by decide)
  have hset := bit_ev_same d (mspBase i + 0x1C) hb
  have hkeep : KeepsBut [mspBase i + 0x1C, 0xB0014] d (d.ev (mspBase i + 0x1C) b) := fun a ha => rd_ev_ne _ _ (by simp_all)
  unfold Device.mspEv
  refine when_ind (P := fun e => e.bit (mspBase i + 0x1C) b = true ∧ Only [mspBase i + 0x1C, 0xB0014] d e)
    ⟨hset, (OnlyRegs.refl d).ev _ _, hkeep⟩ fun _ => ⟨?_, ((OnlyRegs.refl d).ev _ _).ev _ _, ?_⟩
  · rw [bit_of_rd (rd_ev_ne _ _ hne), hset]
  · exact hkeep.trans fun a ha => rd_ev_ne _ _ (by simp_all)

theorem msp_of_only {d d' : Device} (h : OnlyRegs d d') (i : Nat) : d'.msp i = d.msp i := by rw [h]; rfl

theorem msp_mspEv (d : Device) (i : Nat) {b : Nat} (hb : b < 32) (k : Nat) : (d.mspEv i b).msp k = d.msp k := by
  obtain ⟨-, honly, -⟩ := mspEv_record d i hb
  exact msp_of_only honly k

/-- The register of the K bytes a pair sends is none of its events. -/
theorem rd_mspEv_txK (d : Device) (i : Nat) {b : Nat} (hb : b < 32) : (d.mspEv i b).rd (mspBase i + 0x10) = d.rd (mspBase i + 0x10) := by
  obtain ⟨-, -, hkeep⟩ := mspEv_record d i hb
  have hne : mspBase i + 0x10 ≠ 0xB0014 := mspReg_ne (by decide)
  exact hkeep _ (by simp [hne])

/-- A pair stored with an event: the pair is stored, the event's bit is set. -/
theorem setMsp_mspEv_record (d : Device) (i : Nat) (x : Msp) {b : Nat} (hb : b < 32) :
    ((d.setMsp i x).mspEv i b).msp i = x ∧ ((d.setMsp i x).mspEv i b).bit (mspBase i + 0x1C) b = true :=
  ⟨(msp_mspEv _ i hb i).trans (msp_setMsp d i x), (mspEv_record _ i hb).1⟩

theorem pair_idx {d : Device} {i : Nat} {p : Pair} (h : d.pair i = some p) : p.idx = i := by
  simpa using List.find?_some h

/-! A request machine taken (R357, R361). -/

/-- What a request machine that is taken leaves: the pair has it and keeps its FOP, and the registers but MSP_EVENT, LAND_EVENT and the K
bytes sent stay; a unidirectional pair sends its request and channel. -/
structure MspTaken (d : Device) (i : Nat) (c : Chooser) (d' : Device) : Prop where
  machine : (d'.msp i).c = c
  fop : (d'.msp i).fop = (d.msp i).fop
  cause : (d'.msp i).cause = (d.msp i).cause
  sends : d.mspBidir i = false → d'.rd (mspBase i + 0x10) = wd (256 * (16 * c.req + c.ch) + (16 * c.ch + 4))

theorem mspTaken_sent {d d' : Device} {p : Pair} {c : Chooser} (hc : (d'.msp p.idx).c = c) (hf : (d'.msp p.idx).fop = (d.msp p.idx).fop)
    (hcause : (d'.msp p.idx).cause = (d.msp p.idx).cause) (hbidir : d'.mspBidir p.idx = d.mspBidir p.idx) :
    MspTaken d p.idx c (d'.wr (mspBase p.idx + 0x10) (wd (d'.mspTxK p c))) := by
  refine ⟨hc, hf, hcause, fun huni => ?_⟩
  rw [rd_wr_same, Device.mspTxK, hbidir, huni]
  rfl

theorem mspTake_taken (d : Device) (p : Pair) (c : Chooser) : MspTaken d p.idx c (d.mspTake p c) := by
  have hstored := msp_setMsp d p.idx { d.msp p.idx with c := c }
  unfold Device.mspTake
  beta_reduce
  generalize hd1 : d.setMsp p.idx { d.msp p.idx with c := c } = d1 at hstored
  have hregs : d1.regs = d.regs := by rw [← hd1]; rfl
  split
  · obtain ⟨hmsp, -⟩ := setMsp_mspEv_record d1 p.idx { d1.msp p.idx with exerRes := 3 } (b := 5) (by decide)
    obtain ⟨-, -, hkeep⟩ := mspEv_record (d1.setMsp p.idx { d1.msp p.idx with exerRes := 3 }) p.idx (b := 5) (by decide)
    have hcfg : mspBase p.idx ≠ 0xB0014 := mspCfg_ne (by decide)
    refine mspTaken_sent ?_ ?_ ?_ (bit_of_rd ((hkeep _ (by simp [hcfg])).trans (rd_of_regs hregs _)) 13) <;> rw [hmsp, hstored]
  · refine mspTaken_sent ?_ ?_ ?_ (bit_of_rd (rd_of_regs hregs _) 13) <;> rw [hstored]

/-- A pair whose FOP changes keeps it while it decides anew (R360). -/
theorem mspResolve_fop (d : Device) (i : Nat) :
    ((d.mspResolve i).msp i).fop = (d.msp i).fop ∧ ((d.mspResolve i).msp i).cause = (d.msp i).cause := by
  unfold Device.mspResolve
  cases hp : d.pair i with
  | none => exact ⟨rfl, rfl⟩
  | some p =>
    obtain rfl : p.idx = i := pair_idx hp
    dsimp only
    split
    · obtain ⟨-, hfop, hcause, -⟩ := mspTake_taken d p ((d.msp p.idx).c.resolve (d.mspCfg p.idx) (d.mspFar p))
      exact ⟨hfop, hcause⟩
    · exact ⟨rfl, rfl⟩

end Sys2Proof.Machine
end

section
/-! PROOFS. The external commands on an MSP pair, and the times of its exercise and of FOP (R340 to R342, R357, R360, R361). -/

namespace Sys2Proof.Machine
open Sys2Proof Sys2Proof.Safety

theorem exec_exerTimeout (i : Nat) (s : State) : exec (.exerTimeout i) s = s.path (fun d => d.exerTimeout i) := rfl
theorem exec_fopDeclare (i cause : Nat) (s : State) : exec (.fopDeclare i cause) s = s.path (fun d => d.fopDeclare i cause) := rfl
theorem exec_fopClear (i : Nat) (s : State) : exec (.fopClear i) s = s.path (fun d => d.fopClear i) := rfl

/-! The command. -/

theorem mspFar_unidirectional {d : Device} {p : Pair} (h : d.mspBidir p.idx = false) : d.mspFar p = {} := by
  rw [Device.mspFar, h]; rfl

section
variable {d : Device} {p : Pair} (hp : d.pair p.idx = some p) (he : p.ena = true)
include hp he

theorem mspCommand_unsupported (huni : d.mspBidir p.idx = false) :
    (d.mspCommand p.idx 6).2 = (d.setMsp p.idx { d.msp p.idx with c := { (d.msp p.idx).c with lastRes := 3 } }).mspEv p.idx 3 := by
  simp [Device.mspCommand, hp, he, huni]

/-- A command of a unidirectional pair that is accepted (R341, R357). -/
theorem mspCommand_accepted {cmd : Nat} (h6 : cmd ≠ 6) (huni : d.mspBidir p.idx = false)
    (hacc : ((d.msp p.idx).c.command (d.mspCfg p.idx) {} cmd).1 = 0) :
    (d.mspCommand p.idx cmd).2 = (d.mspTake p ((d.msp p.idx).c.command (d.mspCfg p.idx) {} cmd).2).mspEv p.idx 2 := by
  simp [Device.mspCommand, hp, he, h6, mspFar_unidirectional huni, hacc, Device.when]

/-- An exercise of a bidirectional pair that is accepted: its result waits for the answer (R361). -/
theorem mspCommand_exercises_record (hbi : d.mspBidir p.idx = true)
    (hacc : ((d.msp p.idx).c.command (d.mspCfg p.idx) (d.mspFar p) 6).1 = 0) :
    let d' := (d.mspCommand p.idx 6).2
    (d'.msp p.idx).c = ((d.msp p.idx).c.command (d.mspCfg p.idx) (d.mspFar p) 6).2 ∧ (d'.msp p.idx).exerRes = 0 ∧
      d'.bit (mspBase p.idx + 0x1C) 2 = true := by
  obtain ⟨hc, -, -, -⟩ := mspTake_taken d p ((d.msp p.idx).c.command (d.mspCfg p.idx) (d.mspFar p) 6).2
  generalize htaken : d.mspTake p ((d.msp p.idx).c.command (d.mspCfg p.idx) (d.mspFar p) 6).2 = d1 at hc
  have hcmd : (d.mspCommand p.idx 6).2 = (d1.setMsp p.idx { d1.msp p.idx with exerRes := 0 }).mspEv p.idx 2 := by
    simp [Device.mspCommand, hp, he, hbi, hacc, htaken, Device.when]
  obtain ⟨hmsp, hbit⟩ := setMsp_mspEv_record d1 p.idx { d1.msp p.idx with exerRes := 0 } (b := 2) (by decide)
  rw [hcmd]
  exact ⟨(congrArg Msp.c hmsp).trans hc, congrArg Msp.exerRes hmsp, hbit⟩

/-- What an accepted command of a unidirectional pair leaves: its request machine, the event, and the K bytes it sends. -/
theorem mspCommand_accepted_record {cmd : Nat} (h6 : cmd ≠ 6) (huni : d.mspBidir p.idx = false)
    (hacc : ((d.msp p.idx).c.command (d.mspCfg p.idx) {} cmd).1 = 0) :
    let d' := (d.mspCommand p.idx cmd).2
    let c := ((d.msp p.idx).c.command (d.mspCfg p.idx) {} cmd).2
    (d'.msp p.idx).c = c ∧ d'.bit (mspBase p.idx + 0x1C) 2 = true ∧
      d'.rd (mspBase p.idx + 0x10) = wd (256 * (16 * c.req + c.ch) + (16 * c.ch + 4)) := by
  rw [mspCommand_accepted hp he h6 huni hacc]
  obtain ⟨hc, -, -, hsends⟩ := mspTake_taken d p ((d.msp p.idx).c.command (d.mspCfg p.idx) {} cmd).2
  refine ⟨?_, (mspEv_record _ _ (by decide)).1, ?_⟩
  · rw [msp_mspEv _ _ (by decide), hc]
  · rw [rd_mspEv_txK _ _ (by decide), hsends huni]

end

/-! The ends of times. -/

theorem exerTimeout_fails {d : Device} {i : Nat} (h : (d.msp i).c.exer = true) :
    d.exerTimeout i = (d.setMsp i { d.msp i with exerRes := 2, c := { (d.msp i).c with exer := false } }).mspEv i 5 := if_pos h

theorem fopDeclare_declares {d : Device} {i cause : Nat} (hc : (d.fopCauses i).contains cause = true) (hf : (d.msp i).fop = false) :
    d.fopDeclare i cause = ((d.setMsp i { d.msp i with fop := true, cause := cause }).mspResolve i).mspEv i 1 :=
  if_pos (by rw [hc, hf]; rfl)

theorem fopClear_clears {d : Device} {i : Nat} (hc : (d.fopCauses i).isEmpty = true) (hf : (d.msp i).fop = true) :
    d.fopClear i = ((d.setMsp i { d.msp i with fop := false, cause := 0 }).mspResolve i).mspEv i 1 :=
  if_pos (by rw [hc, hf]; rfl)

/-- A change of FOP stands, with its event, once the pair has decided anew. -/
theorem fopChanged_record (d : Device) (i : Nat) (x : Msp) :
    let d' := ((d.setMsp i x).mspResolve i).mspEv i 1
    (d'.msp i).fop = x.fop ∧ (d'.msp i).cause = x.cause ∧ d'.bit (mspBase i + 0x1C) 1 = true := by
  obtain ⟨hfop, hcause⟩ := mspResolve_fop (d.setMsp i x) i
  rw [msp_setMsp] at hfop hcause
  refine ⟨?_, ?_, (mspEv_record _ _ (by decide)).1⟩
  · rw [msp_mspEv _ _ (by decide), hfop]
  · rw [msp_mspEv _ _ (by decide), hcause]

end Sys2Proof.Machine
end

section
/-! PROOFS. MSP_CFG (R353, R354, R362, R366): a pair is bound, refused or held. -/

namespace Sys2Proof.Machine
open Sys2Proof Sys2Proof.Safety

theorem exec_mspEnable (m i : Nat) (v : Word) (s : State) :
    exec (.mspEnable m i v) s = s.live (fun d => d.cmdWrite m (mspBase i) (setFld v 0 1 1)) := rfl
theorem exec_mspDisable (m i : Nat) (v : Word) (s : State) :
    exec (.mspDisable m i v) s = s.live (fun d => d.cmdWrite m (mspBase i) (setFld v 0 1 0)) := rfl

theorem applyBlk_mspCfg (d : Device) (m : Nat) {i : Nat} (hi : i < 32) (v : Word) :
    d.applyBlk m (mspBase i) ⟨.landing, 0, 0x1000 + 0x20 * i⟩ mspCfgRow v = d.mspCfgWrite i v := by
  have hidx : (0x1000 + 0x20 * i - 0x1000) / 0x20 = i := by omega
  have hblk : d.applyLanding m (mspBase i) (0x1000 + 0x20 * i) mspCfgRow v = d.mspCfgWrite i v := by
    rw [Device.applyLanding]
    iterate 5 rw [if_neg (by omega)]
    rw [if_pos (by omega), hidx]
  exact hblk

theorem mspLanes_setFld (v : Word) (b : Nat) : mspLanes (setFld v 0 1 b) = (fld v 1 6, fld v 7 6) := by
  rw [mspLanes, fld_setFld_ne _ _ (by decide) (by decide), fld_setFld_ne _ _ (by decide) (by decide)]

/-! ENA 1 on an index that is free. -/

/-- The pair bound: the working lane selected, a fresh request machine (R353). -/
def pairBound (d : Device) (i : Nat) (v : Word) : Device :=
  ({ d.wr (mspBase i) v with
      pairs := d.pairs.filter (fun q => q.idx != i) ++ [⟨i, (mspLanes v).1, (mspLanes v).2, true, false⟩] } : Device).setMsp i
    { c := { lastRes := (d.msp i).c.lastRes } }

section
variable {d : Device} {i : Nat} {v : Word} (hv : bitAt v 0 = true) (hp : d.pair i = none)
include hv hp

theorem mspCfgWrite_binds (hc : d.mspCause i (mspLanes v).1 (mspLanes v).2 = none) : d.mspCfgWrite i v = (.ok, pairBound d i v) := by
  simp [Device.mspCfgWrite, Device.mspCfgTake, Device.mspEna, hv, hp, hc, pairBound]

theorem mspCfgWrite_refuses {c : Nat} (hc : d.mspCause i (mspLanes v).1 (mspLanes v).2 = some c) :
    d.mspCfgWrite i v = (.range, d.landRefuse 3 i c) := by
  simp [Device.mspCfgWrite, Device.mspEna, hv, hp, hc]

end

theorem pairBound_record (d : Device) (i : Nat) (v : Word) :
    let d' := (pairBound d i v).covered
    d'.rd (mspBase i) = v ∧ d'.pair i = some ⟨i, (mspLanes v).1, (mspLanes v).2, true, false⟩ ∧
      (d'.msp i).c = { lastRes := (d.msp i).c.lastRes } := by
  refine ⟨?_, ?_, congrArg Msp.c (msp_setMsp _ i _)⟩
  · rw [rd_covered _ (mspCfg_ne (by decide)), pairBound, rd_setMsp]
    exact rd_wr_same d _ _
  · have hpairs : (pairBound d i v).covered.pairs =
        d.pairs.filter (fun q => q.idx != i) ++ [⟨i, (mspLanes v).1, (mspLanes v).2, true, false⟩] := rfl
    rw [Device.pair, hpairs, List.find?_append, List.find?_eq_none.2 (by simp)]
    simp

/-! ENA 0 on a pair that is enabled. -/

/-- The pair held: its choice in force kept, nothing evaluated, no K bytes sent (R366). -/
def pairHeld (d : Device) (i : Nat) (v : Word) : Device :=
  (({ d.wr (mspBase i) v with pairs := d.pairs.map (fun q => if q.idx == i then { q with ena := false } else q) } : Device).setMsp i
    { d.msp i with c := { (d.msp i).c.stop with choice := (d.msp i).c.applied } }).wr (mspBase i + 0x10) 0

theorem mspCfgWrite_holds {d : Device} {i : Nat} {v : Word} (hv : bitAt v 0 = false) (he : d.mspEna i = true) :
    d.mspCfgWrite i v = (.ok, pairHeld d i v) := by
  simp [Device.mspCfgWrite, Device.mspCfgTake, hv, he, pairHeld]

theorem pairHeld_record (d : Device) (i : Nat) (v : Word) :
    let d' := (pairHeld d i v).covered
    d'.rd (mspBase i) = v ∧ d'.mspEna i = false ∧ (d'.msp i).c = { (d.msp i).c.stop with choice := (d.msp i).c.applied } ∧
      d'.rd (mspBase i + 0x10) = 0 := by
  refine ⟨?_, ?_, ?_, ?_⟩
  · rw [rd_covered _ (mspCfg_ne (by decide)), pairHeld, rd_wr_ne _ _ (by omega), rd_setMsp]
    exact rd_wr_same d _ _
  · have hpairs : (pairHeld d i v).covered.pairs = d.pairs.map (fun q => if q.idx == i then { q with ena := false } else q) := rfl
    have hidx : ∀ q : Pair, (if q.idx == i then { q with ena := false } else q).idx = q.idx := fun q => by split <;> rfl
    rw [Device.mspEna, Device.pair, hpairs, List.find?_map]
    simp only [Function.comp_def, hidx]
    cases hq : d.pairs.find? (fun q => q.idx == i) with
    | none => rfl
    | some q => simp [pair_idx hq]
  · exact congrArg Msp.c (msp_setMsp _ i _)
  · rw [rd_covered _ (mspReg_ne (by decide)), pairHeld, rd_wr_same]

/-! The statement's clauses on MSP_CFG. -/

section
variable {s : State} {m i : Nat} {v : Word} (h : Ready s m) (hi : i < 32)
include h hi

theorem exec_mspCfg {w : Word} {d : Device} (href : s.dev.refusal (mspBase i) ⟨.landing, 0, 0x1000 + 0x20 * i⟩ mspCfgRow w = none)
    (he : s.dev.mspCfgWrite i w = (.ok, d)) : s.live (fun d => d.cmdWrite m (mspBase i) w) = .next (acceptedSettled s m d.covered) :=
  exec_landConfig h (locOf_mspCfg i hi) (.inr rfl) (rowAt_mspCfg i hi) (mspCfg_aligned i) rfl (.inl rfl) href rfl
    ((applyBlk_mspCfg _ _ hi _).trans he)

/-- MSP_CFG with ENA 1 on a free index binds the pair, unless a cause of R353 refuses it. -/
theorem mspEnable_binds (href : s.dev.refusal (mspBase i) ⟨.landing, 0, 0x1000 + 0x20 * i⟩ mspCfgRow (setFld v 0 1 1) = none)
    (hp : s.dev.pair i = none) :
    (s.dev.mspCause i (fld v 1 6) (fld v 7 6) = none →
      ∃ d, exec (.mspEnable m i v) s = .next (acceptedSettled s m d) ∧ d.rd (mspBase i) = setFld v 0 1 1 ∧
        d.pair i = some ⟨i, fld v 1 6, fld v 7 6, true, false⟩ ∧ (d.msp i).c = { lastRes := (s.dev.msp i).c.lastRes }) ∧
    (∀ c, s.dev.mspCause i (fld v 1 6) (fld v 7 6) = some c →
      ∃ d : Device, exec (.mspEnable m i v) s = .next (after s (d.complete m { status := .range })) ∧ d.pairs = s.dev.pairs ∧
        d.rd 0xB0048 = wd (i + 2 ^ 18 * 3 + 2 ^ 20 * c) ∧ d.rd (mspBase i) = s.dev.rd (mspBase i)) := by
  have hv : bitAt (setFld v 0 1 1) 0 = true := bitAt_setFld_one v (by decide)
  have hlanes := mspLanes_setFld v 1
  rw [exec_mspEnable]
  refine ⟨fun hc => ?_, fun c hc => ?_⟩
  · have hrun := exec_mspCfg h hi href (mspCfgWrite_binds hv hp (by rw [hlanes]; exact hc))
    obtain ⟨hcfg, hpair, hmsp⟩ := pairBound_record s.dev i (setFld v 0 1 1)
    rw [hlanes] at hpair
    exact ⟨_, hrun, hcfg, hpair, hmsp⟩
  · have hrefuses := mspCfgWrite_refuses hv hp (by rw [hlanes]; exact hc)
    obtain ⟨-, hpairs, hrec, hkeep⟩ := landRefused_record s.dev 3 i c { master := m, wide := false } (mspBase i)
    exact ⟨_, exec_landWrite_refused h (locOf_mspCfg i hi) (.inr rfl) (rowAt_mspCfg i hi) (mspCfg_aligned i) rfl (.inl rfl) href
      ((applyBlk_mspCfg _ _ hi _).trans hrefuses), hpairs, hrec, hkeep _ (by unfold mspBase; omega)⟩

/-- MSP_CFG with ENA 0 on an enabled pair holds it (R366). -/
theorem mspDisable_holds (href : s.dev.refusal (mspBase i) ⟨.landing, 0, 0x1000 + 0x20 * i⟩ mspCfgRow (setFld v 0 1 0) = none)
    (he : s.dev.mspEna i = true) :
    ∃ d, exec (.mspDisable m i v) s = .next (acceptedSettled s m d) ∧ d.rd (mspBase i) = setFld v 0 1 0 ∧ d.mspEna i = false ∧
      (d.msp i).c.choice = (s.dev.msp i).c.applied ∧ (d.msp i).c.standing = 0 ∧ d.rd (mspBase i + 0x10) = 0 := by
  obtain ⟨hcfg, hena, hc, hk⟩ := pairHeld_record s.dev i (setFld v 0 1 0)
  refine ⟨_, exec_mspCfg h hi href (mspCfgWrite_holds (bitAt_setFld_zero v (by decide)) he), hcfg, hena,
    congrArg Chooser.choice hc, congrArg Chooser.standing hc, hk⟩

end

/-- Settles O32: MSP_CFG binds, refuses or holds a pair; its commands are judged as a selector's are and set the K bytes; the ends of the
times of R360 and R361 find what they wait for. -/
theorem pairsAreConfiguredCommandedAndWatched : Obligations.PairsAreConfiguredCommandedAndWatched := by
  intro s i hlive hi
  refine ⟨fun m v r h hr href hp => ?_, fun m v r h hr href he => ?_, fun m p h hstandby hcores hp he => ?_, fun hex => ?_,
    fun cause hc hf => ?_, fun hc hf => ?_⟩
  · cases hr.symm.trans (rowOf_mspCfg hi)
    exact mspEnable_binds h hi href hp
  · cases hr.symm.trans (rowOf_mspCfg hi)
    exact mspDisable_holds h hi href he
  · obtain rfl : p.idx = i := pair_idx hp
    refine ⟨fun huni => ⟨fun e hmem hacc => ?_, ?_, ?_⟩, fun hbi hacc => ?_⟩
    · obtain ⟨hc, hswitch⟩ := landSwitches_commands hmem
      have h6 : e.2.1 ≠ 6 := fun h6 => by simp [h6, switchCommands] at hswitch
      obtain ⟨hres, hstanding, hchoice, hlast⟩ := Chooser.command_switches (cfg := s.dev.mspCfg p.idx) hswitch hacc
      obtain ⟨hmachine, hbit, hk⟩ := mspCommand_accepted_record hp he h6 huni hres
      refine ⟨_, exec_mspCommand h hstandby hcores hi hc, ?_, ?_, ?_, hbit, ?_⟩ <;> rw [hmachine]
      exacts [hstanding, hchoice, hlast, hk]
    · have hrun := exec_mspCommand (c := .exercise m true p.idx) (cmd := 6) h hstandby hcores hi (by simp [landCommands])
      obtain ⟨hmsp, hbit⟩ := setMsp_mspEv_record s.dev p.idx
        { s.dev.msp p.idx with c := { (s.dev.msp p.idx).c with lastRes := 3 } } (b := 3) (by decide)
      rw [mspCommand_unsupported hp he huni] at hrun
      exact ⟨_, hrun, congrArg Msp.c hmsp, hbit⟩
    · obtain ⟨hres, hstanding, hlast, -⟩ := Chooser.command_clear (s.dev.msp p.idx).c (s.dev.mspCfg p.idx) {}
      obtain ⟨hmachine, -, -⟩ := mspCommand_accepted_record hp he (by decide) huni hres
      refine ⟨_, exec_mspCommand (c := .landClear m true p.idx) h hstandby hcores hi (List.mem_cons_self ..), ?_, ?_⟩ <;> rw [hmachine]
      exacts [hstanding, hlast]
    · have hrun := exec_mspCommand (c := .exercise m true p.idx) (cmd := 6) h hstandby hcores hi (by simp [landCommands])
      obtain ⟨hres, hex, hlast⟩ := Chooser.command_exercise (cfg := s.dev.mspCfg p.idx) hacc
      obtain ⟨hmachine, hwaits, hbit⟩ := mspCommand_exercises_record hp he hbi hres
      exact ⟨_, hrun, (congrArg Chooser.exer hmachine).trans hex, (congrArg Chooser.lastRes hmachine).trans hlast, hwaits, hbit⟩
  · obtain ⟨hmsp, hbit⟩ := setMsp_mspEv_record s.dev i
      { s.dev.msp i with exerRes := 2, c := { (s.dev.msp i).c with exer := false } } (b := 5) (by decide)
    rw [exec_exerTimeout, path_followed hlive, exerTimeout_fails hex]
    exact ⟨_, rfl, congrArg (·.c.exer) hmsp, congrArg Msp.exerRes hmsp, hbit⟩
  · rw [exec_fopDeclare, path_followed hlive, fopDeclare_declares hc hf]
    exact ⟨_, rfl, fopChanged_record s.dev i { s.dev.msp i with fop := true, cause := cause }⟩
  · rw [exec_fopClear, path_followed hlive, fopClear_clears hc hf]
    exact ⟨_, rfl, fopChanged_record s.dev i { s.dev.msp i with fop := false, cause := 0 }⟩

end Sys2Proof.Machine
end

section
/-! PROOFS. SEL_CFG (R334, R346, R347, R362): a selector goes from OFF to ACTIVE to HELD and back. -/

namespace Sys2Proof.Machine
open Sys2Proof Sys2Proof.Safety

theorem exec_selEnable (m i : Nat) (v : Word) (s : State) :
    exec (.selEnable m i v) s = s.live (fun d => d.cmdWrite m (selBase i) (setFld v 0 1 1)) := rfl
theorem exec_selDisable (m i : Nat) (v : Word) (s : State) :
    exec (.selDisable m i v) s = s.live (fun d => d.cmdWrite m (selBase i) (setFld v 0 1 0)) := rfl
theorem exec_selCfgChange (m i : Nat) (v : Word) (s : State) :
    exec (.selCfgChange m i v) s = s.live (fun d => d.cmdWrite m (selBase i) (setFld v 0 1 (d.get (selBase i) 0 1))) := rfl

theorem applyBlk_selCfg (d : Device) (m i : Nat) (v : Word) :
    d.applyBlk m (selBase i) ⟨.sel, i, 0⟩ selCfgRow v = d.selCfgWrite i v := rfl

/-- SD_TRIG of a selector under SNC/I, which R334 refuses. -/
def sdTrigBad (v : Word) : Bool := bitAt v 3 && !bitAt v 1

theorem sdTrigBad_setFld (v : Word) (b : Nat) : sdTrigBad (setFld v 0 1 b) = sdTrigBad v := by
  rw [sdTrigBad, bitAt_setFld_ne v b (by decide) (by decide), bitAt_setFld_ne v b (by decide) (by decide), sdTrigBad]

/-! What an accepted word does (R346, R347). -/

/-- SEL_CFG stored with a state of its selector. -/
def selStored (d : Device) (i : Nat) (v : Word) (x : Sel) : Device := (d.wr (selBase i) v).setSel i x

theorem selStored_record (d : Device) (i : Nat) (v : Word) (x : Sel) :
    (selStored d i v x).covered.rd (selBase i) = v ∧ (selStored d i v x).covered.sel i = x := by
  refine ⟨?_, sel_setSel (d.wr (selBase i) v) i x⟩
  rw [rd_covered _ (selCfg_ne (by decide)), selStored, rd_setSel, rd_wr_same]

section
variable {d : Device} {i : Nat} {v : Word}

theorem selCfgTake_activates (hv : bitAt v 0 = true) (hst : (d.sel i).st = 0) :
    d.selCfgTake i v = selStored d i v { d.sel i with st := 1, c := { lastRes := (d.sel i).c.lastRes } } := by
  simp [Device.selCfgTake, selStored, hv, hst]

theorem selCfgTake_resumes (hv : bitAt v 0 = true) (hst : (d.sel i).st = 2) :
    d.selCfgTake i v = selStored d i v { d.sel i with st := 1, c := (d.sel i).c.resume (bitAt v 2) } := by
  simp [Device.selCfgTake, selStored, hv, hst]

theorem selCfgTake_holds (hv : bitAt v 0 = false) (hst : (d.sel i).st = 1) :
    d.selCfgTake i v = selStored d i v { d.sel i with st := 2, c := (d.sel i).c.stop } := by
  simp [Device.selCfgTake, selStored, hv, hst]

theorem selCfgTake_reevaluates (hv : bitAt v 0 = true) (hst : (d.sel i).st = 1) (hne : fld (d.rd (selBase i)) 1 20 ≠ fld v 1 20) :
    d.selCfgTake i v = selStored d i v { d.sel i with c := { (d.sel i).c with reeval := true } } := by
  simp [Device.selCfgTake, selStored, hv, hst, hne]

end

/-! The write at the bridge. -/

section
variable {s : State} {m i : Nat} {v : Word} (h : Ready s m) (hi : i < 137216)
  (href : s.dev.refusal (selBase i) ⟨.sel, i, 0⟩ selCfgRow v = none)
include h hi href

theorem exec_selCfg (hsd : sdTrigBad v = false) :
    s.live (fun d => d.cmdWrite m (selBase i) v) = .next (acceptedSettled s m (s.dev.selCfgTake i v).covered) :=
  exec_landConfig h (locOf_selCfg hi) (.inl rfl) (rowAt_selCfg i) (selCfg_aligned i) rfl (.inl rfl) href rfl
    ((applyBlk_selCfg ..).trans (if_neg (Bool.eq_false_iff.1 hsd)))

theorem exec_selCfg_refused (hsd : sdTrigBad v = true) :
    s.live (fun d => d.cmdWrite m (selBase i) v) = .next (after s
      (((s.dev.landRefuse 2 i 5).refused { master := m, wide := false } .range (selBase i)).complete m { status := .range })) :=
  exec_landWrite_refused h (locOf_selCfg hi) (.inl rfl) (rowAt_selCfg i) (selCfg_aligned i) rfl (.inl rfl) href
    ((applyBlk_selCfg ..).trans (if_pos hsd))

end

section
variable {s : State} {m i : Nat} {v : Word} (h : Ready s m) (hi : i < 137216)
include h hi

/-- SEL_CFG with ENA 1 on a selector that is OFF or HELD. -/
theorem selEnable_activates (href : s.dev.refusal (selBase i) ⟨.sel, i, 0⟩ selCfgRow (setFld v 0 1 1) = none) (hsd : sdTrigBad v = false) :
    ((s.dev.sel i).st = 0 →
      ∃ d, exec (.selEnable m i v) s = .next (acceptedSettled s m d) ∧ d.rd (selBase i) = setFld v 0 1 1 ∧ (d.sel i).st = 1 ∧
        (d.sel i).c = { lastRes := (s.dev.sel i).c.lastRes } ∧ (d.sel i).used = (s.dev.sel i).used) ∧
    ((s.dev.sel i).st = 2 →
      ∃ d, exec (.selEnable m i v) s = .next (acceptedSettled s m d) ∧ (d.sel i).st = 1 ∧
        (d.sel i).c.choice = (s.dev.sel i).c.choice ∧ (d.sel i).c.standing = 0 ∧ (d.sel i).c.reeval = false ∧
        (d.sel i).c.req = (if (s.dev.sel i).c.choice = true ∧ bitAt v 2 = false then 1 else 0)) := by
  have hv : bitAt (setFld v 0 1 1) 0 = true := bitAt_setFld_one v (by decide)
  have hrev : bitAt (setFld v 0 1 1) 2 = bitAt v 2 := bitAt_setFld_ne v 1 (by decide) (by decide)
  have hrun := exec_selCfg h hi href ((sdTrigBad_setFld v 1).trans hsd)
  rw [exec_selEnable]
  refine ⟨fun hst => ?_, fun hst => ?_⟩
  · rw [selCfgTake_activates hv hst] at hrun
    obtain ⟨hcfg, hsel⟩ := selStored_record s.dev i (setFld v 0 1 1)
      { s.dev.sel i with st := 1, c := { lastRes := (s.dev.sel i).c.lastRes } }
    exact ⟨_, hrun, hcfg, congrArg Sel.st hsel, congrArg Sel.c hsel, by rw [hsel]⟩
  · rw [selCfgTake_resumes hv hst, hrev] at hrun
    obtain ⟨-, hsel⟩ := selStored_record s.dev i (setFld v 0 1 1) { s.dev.sel i with st := 1, c := (s.dev.sel i).c.resume (bitAt v 2) }
    have hreq : ((s.dev.sel i).c.resume (bitAt v 2)).req = if (s.dev.sel i).c.choice = true ∧ bitAt v 2 = false then 1 else 0 := by
      simp [Chooser.resume, and_comm]
    exact ⟨_, hrun, congrArg Sel.st hsel, congrArg (·.c.choice) hsel, congrArg (·.c.standing) hsel, congrArg (·.c.reeval) hsel,
      (congrArg (·.c.req) hsel).trans hreq⟩

/-- SEL_CFG with ENA 0 on an ACTIVE selector. -/
theorem selDisable_holds (href : s.dev.refusal (selBase i) ⟨.sel, i, 0⟩ selCfgRow (setFld v 0 1 0) = none) (hsd : sdTrigBad v = false)
    (hst : (s.dev.sel i).st = 1) :
    ∃ d, exec (.selDisable m i v) s = .next (acceptedSettled s m d) ∧ d.rd (selBase i) = setFld v 0 1 0 ∧ (d.sel i).st = 2 ∧
      (d.sel i).c.choice = (s.dev.sel i).c.choice ∧ (d.sel i).c.hold = none ∧ (d.sel i).c.wtr = none ∧ (d.sel i).c.standing = 0 := by
  have hrun := exec_selCfg h hi href ((sdTrigBad_setFld v 0).trans hsd)
  rw [selCfgTake_holds (bitAt_setFld_zero v (by decide)) hst] at hrun
  obtain ⟨hcfg, hsel⟩ := selStored_record s.dev i (setFld v 0 1 0) { s.dev.sel i with st := 2, c := (s.dev.sel i).c.stop }
  exact ⟨_, hrun, hcfg, congrArg Sel.st hsel, congrArg (·.c.choice) hsel, congrArg (·.c.hold) hsel, congrArg (·.c.wtr) hsel,
    congrArg (·.c.standing) hsel⟩

/-- SEL_CFG with another setting on an ACTIVE selector that stays so. -/
theorem selCfgChange_reevaluates
    (href : s.dev.refusal (selBase i) ⟨.sel, i, 0⟩ selCfgRow (setFld v 0 1 (s.dev.get (selBase i) 0 1)) = none)
    (hst : (s.dev.sel i).st = 1) (hena : s.dev.get (selBase i) 0 1 = 1) (hne : fld (s.dev.rd (selBase i)) 1 20 ≠ fld v 1 20) :
    (sdTrigBad v = false →
      ∃ d, exec (.selCfgChange m i v) s = .next (acceptedSettled s m d) ∧ d.rd (selBase i) = setFld v 0 1 1 ∧
        d.sel i = { s.dev.sel i with c := { (s.dev.sel i).c with reeval := true } }) ∧
    (sdTrigBad v = true →
      ∃ d : Device, exec (.selCfgChange m i v) s = .next (after s (d.complete m { status := .range })) ∧ d.land = s.dev.land ∧
        d.rd 0xB0048 = wd (i + 2 ^ 18 * 2 + 2 ^ 20 * 5)) := by
  have hexec : exec (.selCfgChange m i v) s = s.live (fun d => d.cmdWrite m (selBase i) (setFld v 0 1 1)) := by
    rw [exec_selCfgChange, live_after h.live, live_after h.live, hena]
  rw [hena] at href
  rw [hexec]
  refine ⟨fun hsd => ?_, fun hsd => ?_⟩
  · have hrun := exec_selCfg h hi href ((sdTrigBad_setFld v 1).trans hsd)
    rw [selCfgTake_reevaluates (bitAt_setFld_one v (by decide)) hst (by rwa [fld_setFld_ne v 1 (by decide) (by decide)])] at hrun
    obtain ⟨hcfg, hsel⟩ := selStored_record s.dev i (setFld v 0 1 1) { s.dev.sel i with c := { (s.dev.sel i).c with reeval := true } }
    exact ⟨_, hrun, hcfg, hsel⟩
  · obtain ⟨hland, -, hrec, -⟩ := landRefused_record s.dev 2 i 5 { master := m, wide := false } (selBase i)
    exact ⟨_, exec_selCfg_refused h hi href ((sdTrigBad_setFld v 1).trans hsd), hland, hrec⟩

end

end Sys2Proof.Machine
end

section
/-! PROOFS. The protection words of contexts (R344, R362): the context a word names in its role, or the refusal of a role that is held. -/

namespace Sys2Proof.Machine
open Sys2Proof Sys2Proof.Safety

theorem exec_protWordWrite (m c : Nat) (v : Word) (s : State) :
    exec (.protWordWrite m c v) s = s.live (fun d => d.cmdWrite m (protAddr c) v) := rfl

/-! The word at the bridge. -/

/-- TC_PROT. -/
def tcProtRow : RegRow := rw 0xC 0xFFFFF
/-- HO_PROT. -/
def hoProtRow : RegRow := rw 0x10 0xFFFF 0 [⟨0, 13, [(0, 6143)]⟩]

/-- Where the protection word of a context stands, and who takes a write of it: a covered word of a path in the management domain. -/
structure ProtWord (d : Device) (c : Nat) (l : Loc) (r : RegRow) : Prop where
  loc : locOf (protAddr c) = some l
  row : rowAt l = some r
  path : l.blk ∈ [.lane, .slice, .ho, .tc]
  here : domainOf l = none
  aligned : protAddr c % 4 = 0
  plain : r.wide = false ∧ r.acc = .rw ∧ r.cov = true
  taken : ∀ m v, d.applyLoc m (protAddr c) l r v = d.protWrite c v

theorem protAddr_ge (c : Nat) : 0x01000000 ≤ protAddr c := by
  unfold protAddr tcBase hoBase
  split
  · omega
  · omega

theorem protWord_tc (d : Device) {c : Nat} (hc : c < 262144) : ProtWord d c ⟨.tc, c, 0xC⟩ tcProtRow := by
  have haddr : protAddr c = tcBase c + 0xC := if_pos hc
  refine ⟨by rw [haddr]; exact locOf_tc hc (by decide), rfl, by simp, rfl, by rw [haddr]; unfold tcBase; omega, ⟨rfl, rfl, rfl⟩,
    fun m v => rfl⟩

theorem protWord_ho {d : Device} {c : Nat} (hge : 262144 ≤ c) (hc : c < 274432) (hclaim : (d.ho (c - 262144)).claim = none) :
    ProtWord d c ⟨.ho, c - 262144, 0x10⟩ hoProtRow := by
  have haddr : protAddr c = hoBase (c - 262144) + 0x10 := if_neg (by omega)
  refine ⟨by rw [haddr]; exact locOf_ho (by omega) (by decide), rfl, by simp, rfl, by rw [haddr]; unfold hoBase; omega, ⟨rfl, rfl, rfl⟩,
    fun m v => ?_⟩
  have hctx : 262144 + (c - 262144) = c := by omega
  simp [Device.applyLoc, Device.memberWord, Device.applyBlk, Device.applyHo, hoProtRow, rw, hclaim, hctx]

theorem protWord_of {d : Device} {c : Nat} {r : RegRow} (hc : c < 274432) (hclaim : 262144 ≤ c → (d.ho (c - 262144)).claim = none)
    (hr : rowOf (protAddr c) = some r) : ∃ l, ProtWord d c l r := by
  obtain ⟨l, r', hword⟩ : ∃ l r', ProtWord d c l r' := by
    by_cases hlt : c < 262144
    · exact ⟨_, _, protWord_tc d hlt⟩
    · exact ⟨_, _, protWord_ho (by omega) hc (hclaim (by omega))⟩
  rw [rowOf_of hword.loc, hword.row] at hr
  cases hr
  exact ⟨l, hword⟩

section
variable {s : State} {m c : Nat} {v : Word} {l : Loc} {r : RegRow} {d : Device} (h : Ready s m) (hword : ProtWord s.dev c l r)
  (href : s.dev.refusal (protAddr c) l r v = none)
include h hword href

theorem exec_prot (he : s.dev.protWrite c v = (.ok, d)) :
    exec (.protWordWrite m c v) s = .next (acceptedFollowed s m d.covered) := by
  obtain ⟨hl, hr, hb, hd, ha, ⟨hw, hacc, hcov⟩, happly⟩ := hword
  rw [exec_protWordWrite, exec_mgmtWrite h hl hr hd ha hw (.inl hacc) href ((happly m v).trans he), if_pos hcov,
    settleAt_followed hl hb, acceptedFollowed]

theorem exec_prot_refused (he : s.dev.protWrite c v = (.range, d)) :
    exec (.protWordWrite m c v) s =
      .next (after s ((d.refused { master := m, wide := false } .range (protAddr c)).complete m { status := .range })) := by
  obtain ⟨hl, hr, -, hd, ha, ⟨hw, hacc, -⟩, happly⟩ := hword
  exact exec_mgmtWrite_refused h hl hr hd ha hw (.inl hacc) href ((happly m v).trans he) nofun

end

/-! The members by the words as accepted (R344). -/

theorem Members.side_put (x : Members) (p : Bool) (c : Option Nat) : (x.put p c).side p = c := by cases p <;> rfl

theorem enname_side {c : Nat} {v : Word} (he : protEna c v = true) (x : Members) : (enname c v x).side (protRole c v) = some c := by
  rw [enname, if_pos he, Members.side_put]

/-- What an update leaves of the Landing's registers and of the members by the words as accepted. -/
structure NamedKept (d d' : Device) : Prop where
  regs : d'.regs = d.regs
  named : ∀ i, (d'.sel i).named = (d.sel i).named

theorem NamedKept.refl (d : Device) : NamedKept d d := ⟨rfl, fun _ => rfl⟩
theorem NamedKept.trans {d d' d'' : Device} (h : NamedKept d d') (h' : NamedKept d' d'') : NamedKept d d'' :=
  ⟨h'.regs.trans h.regs, fun i => (h'.named i).trans (h.named i)⟩

theorem setSel_namedKept {d : Device} {i : Nat} {x : Sel} (h : x.named = (d.sel i).named) : NamedKept d (d.setSel i x) := by
  refine ⟨rfl, fun k => ?_⟩
  by_cases hk : k = i
  · rw [hk, sel_setSel, h]
  · rw [sel_setSel_ne d x hk]

theorem protMembers_namedKept (d : Device) (c : Nat) (old new : Word) : NamedKept d (d.protMembers c old new) := by
  unfold Device.protMembers
  beta_reduce
  have left : NamedKept d (d.setSel (protSel c old)
      { d.sel (protSel c old) with taken := unname c old (d.sel (protSel c old)).taken, moved := true }) := setSel_namedKept rfl
  by_cases hold : protEna c old = true
  · rw [if_pos hold]
    split
    · exact left.trans (setSel_namedKept rfl)
    · exact left
  · rw [if_neg hold]
    split
    · exact setSel_namedKept rfl
    · exact .refl d

/-- A context that takes its word into use names nothing anew: the members as accepted stay, until scans apply those taken (R348). -/
theorem protTake_namedKept (d : Device) (c : Nat) : NamedKept d (d.protTake c) := by
  unfold Device.protTake
  beta_reduce
  have huse : NamedKept d (if c < 262144 then d.onTc c (fun x => { x with prot := d.rd (protAddr c) })
      else d.onHo (c - 262144) (fun x => { x with prot := d.rd (protAddr c) })) := by
    split
    · exact ⟨rfl, fun _ => rfl⟩
    · exact ⟨rfl, fun _ => rfl⟩
  split
  · exact huse
  · exact huse.trans (protMembers_namedKept _ _ _ _)

/-! The word judged and taken. -/

/-- The word stored, and the context gone from the role its old word named. -/
def protLeft (d : Device) (c : Nat) (v : Word) : Device :=
  if protEna c (d.rd (protAddr c)) then
    (d.wr (protAddr c) v).setSel (protSel c (d.rd (protAddr c)))
      { d.sel (protSel c (d.rd (protAddr c))) with
          named := unname c (d.rd (protAddr c)) (d.sel (protSel c (d.rd (protAddr c)))).named }
  else d.wr (protAddr c) v

/-- The context entered in the role its new word names. -/
def protEntered (d : Device) (c : Nat) (v : Word) : Device :=
  if protEna c v then d.setSel (protSel c v) { d.sel (protSel c v) with named := enname c v (d.sel (protSel c v)).named } else d

theorem protLeft_regs (d : Device) (c : Nat) (v : Word) : (protLeft d c v).regs = (d.wr (protAddr c) v).regs := by
  unfold protLeft
  split
  · rfl
  · rfl

theorem protEntered_names (d : Device) (c : Nat) (v : Word) :
    (protEntered d c v).regs = d.regs ∧
      (protEna c v = true → ((protEntered d c v).sel (protSel c v)).named.side (protRole c v) = some c) := by
  unfold protEntered
  split
  · rename_i he
    exact ⟨rfl, fun _ => by rw [sel_setSel]; exact enname_side he _⟩
  · rename_i he
    exact ⟨rfl, fun h => absurd h he⟩

section
variable {d : Device} {c : Nat} {v : Word}

/-- A word whose role is free is stored, its context moved; a receive side that is off takes it into use at once. -/
theorem protWrite_accepted (hfree : protEna c v = false ∨ (d.sel (protSel c v)).named.side (protRole c v) = none) :
    ∃ off : Bool, d.protWrite c v =
      (.ok, if off then (protEntered (protLeft d c v) c v).protTake c else protEntered (protLeft d c v) c v) := by
  unfold Device.protWrite
  beta_reduce
  rw [if_neg (by rcases hfree with hf | hf <;> simp [hf])]
  exact ⟨_, rfl⟩

/-- It names its context, and of the registers it alone changes. -/
theorem protWrite_names (hfree : protEna c v = false ∨ (d.sel (protSel c v)).named.side (protRole c v) = none) :
    ∃ d', d.protWrite c v = (.ok, d') ∧ d'.regs = (d.wr (protAddr c) v).regs ∧
      (protEna c v = true → (d'.sel (protSel c v)).named.side (protRole c v) = some c) := by
  obtain ⟨hregs, hnames⟩ := protEntered_names (protLeft d c v) c v
  obtain ⟨hregs', hnamed⟩ := protTake_namedKept (protEntered (protLeft d c v) c v) c
  obtain ⟨off, he⟩ := protWrite_accepted hfree
  refine ⟨_, he, ?_⟩
  cases off with
  | true =>
    exact ⟨hregs'.trans (hregs.trans (protLeft_regs d c v)), fun hv => (congrArg (·.side (protRole c v)) (hnamed _)).trans (hnames hv)⟩
  | false => exact ⟨hregs.trans (protLeft_regs d c v), hnames⟩

/-- A role another context holds refuses the word (R344). -/
theorem protWrite_refuses {o : Nat} (he : protEna c v = true) (hsame : protSame c (d.rd (protAddr c)) v = false)
    (hheld : (d.sel (protSel c v)).named.side (protRole c v) = some o) (hne : o ≠ c) :
    d.protWrite c v = (.range, d.landRefuse (if c < 262144 then 0 else 1) (if c < 262144 then c else c - 262144) 1) := by
  unfold Device.protWrite
  beta_reduce
  rw [if_pos (by simp [he, hsame, hheld, hne])]

end

section
variable {s : State} {m c : Nat} {v : Word} {r : RegRow} (h : Ready s m) (hc : c < 274432) (hr : rowOf (protAddr c) = some r)
  (hclaim : 262144 ≤ c → (s.dev.ho (c - 262144)).claim = none)
  (href : ∀ l, locOf (protAddr c) = some l → s.dev.refusal (protAddr c) l r v = none)
include h hc hr hclaim href

/-- A protection word whose role is free names its context; of the registers the word and CFG_DIRTY alone change. -/
theorem protWordWrite_names (hfree : protEna c v = false ∨ (s.dev.sel (protSel c v)).named.side (protRole c v) = none) :
    ∃ d, exec (.protWordWrite m c v) s = .next (acceptedFollowed s m d) ∧ d.rd (protAddr c) = v ∧
      (protEna c v = true → (d.sel (protSel c v)).named.side (protRole c v) = some c) ∧ KeepsBut [protAddr c, 0x50] s.dev d := by
  have hge := protAddr_ge c
  obtain ⟨l, hword⟩ := protWord_of (d := s.dev) hc hclaim hr
  obtain ⟨d, he, hregs, hnames⟩ := protWrite_names hfree
  refine ⟨_, exec_prot h hword (href l hword.loc) he, ?_, hnames, fun a ha => ?_⟩
  · rw [rd_covered _ (by omega), rd_of_regs hregs, rd_wr_same]
  · simp only [List.mem_cons, List.not_mem_nil, or_false, not_or] at ha
    rw [rd_covered _ ha.2, rd_of_regs hregs, rd_wr_ne _ _ ha.1]

/-- A protection word whose role another context holds is refused, and nothing is named anew. -/
theorem protWordWrite_refused {o : Nat} (he : protEna c v = true) (hsame : protSame c (s.dev.rd (protAddr c)) v = false)
    (hheld : (s.dev.sel (protSel c v)).named.side (protRole c v) = some o) (hne : o ≠ c) :
    ∃ d : Device, exec (.protWordWrite m c v) s = .next (after s (d.complete m { status := .range })) ∧ d.land = s.dev.land ∧
      d.rd (protAddr c) = s.dev.rd (protAddr c) ∧ d.get 0xB0048 20 3 = 1 := by
  have hge := protAddr_ge c
  obtain ⟨l, hword⟩ := protWord_of (d := s.dev) hc hclaim hr
  obtain ⟨hland, -, hrec, hkeep⟩ := landRefused_record s.dev (if c < 262144 then 0 else 1) (if c < 262144 then c else c - 262144) 1
    { master := m, wide := false } (protAddr c)
  refine ⟨_, exec_prot_refused h hword (href l hword.loc) (protWrite_refuses he hsame hheld hne), hland, hkeep _ (by omega), ?_⟩
  rw [Device.get, hrec, fld, wd_toNat (by split <;> omega), Nat.shiftRight_eq_div_pow]
  split
  · omega
  · omega

end

end Sys2Proof.Machine
end

section
/-! PROOFS. The group command (R363 to R365): its record opened, its entries judged, its record closed. -/

namespace Sys2Proof.Machine
open Sys2Proof Sys2Proof.Safety

theorem exec_landingGroupGo (m : Nat) (v : Word) (s : State) :
    exec (.landingGroupGo m v) s = s.live (fun d => d.cmdWrite m 0xB0100 (setFld v 0 1 1)) := rfl
theorem exec_landingGroupDone (s : State) : exec .landingGroupDone s = s.path (fun d => d.groupDone) := rfl

/-! GROUP_CMD. -/

/-- GROUP_CMD. -/
def groupCmdRow : RegRow := wo 0x100 0x7FFF

theorem locOf_groupCmd : locOf 0xB0100 = some ⟨.landing, 0, 0x100⟩ := by decide
theorem rowAt_groupCmd : rowAt ⟨.landing, 0, 0x100⟩ = some groupCmdRow := by decide

/-- Bit 0 is none of the bits GROUP_CMD reserves. -/
theorem setFld_reserved (v : Word) : setFld v 0 1 1 &&& 0xFFFF8000 = v &&& 0xFFFF8000 := by
  ext i hi
  rw [← BitVec.getLsbD_eq_getElem, ← BitVec.getLsbD_eq_getElem, BitVec.getLsbD_and, BitVec.getLsbD_and]
  have hlow : BitVec.getLsbD (0xFFFF8000 : Word) 0 = false := by decide
  cases i with
  | zero => rw [hlow, Bool.and_false, Bool.and_false]
  | succ j => rw [← bitAt_eq_getLsbD (setFld v 0 1 1), bitAt_setFld_ne v 1 (by decide) (by omega), bitAt_eq_getLsbD]

theorem groupCmd_legal {v : Word} (hv : v &&& 0xFFFF8000 = 0) : groupCmdRow.legal (setFld v 0 1 1).toNat = true := by
  have hzero : (setFld v 0 1 1).toNat &&& 0xFFFF8000 = 0 := by
    have := congrArg BitVec.toNat ((setFld_reserved v).trans hv)
    rwa [BitVec.toNat_and] at this
  have hres : groupCmdRow.reserved (setFld v 0 1 1).toNat = false := decide_eq_false (not_not.2 hzero)
  rw [RegRow.legal, hres]
  rfl

/-- A group in progress under the record `k`, whose OP_ID is shown (R364). -/
def groupStarted (d : Device) (k cmd n : Nat) : Device :=
  ({ d with land := { d.land with group := some (k, cmd, n) } } : Device).wr 0xB010C (d.opId k)

/-- The group's record is opened with it. -/
def groupOpened (d : Device) (m k : Nat) (v : Word) : Device := groupStarted (d.opOpenAt k 2 m (fld v 4 11)) k (fld v 1 3) (fld v 4 11)

theorem rd_groupStarted_id (d : Device) (k cmd n : Nat) : (groupStarted d k cmd n).rd 0xB010C = d.opId k := rd_wr_same _ _ _
theorem rd_groupStarted_ne (d : Device) (k cmd n : Nat) {a : Nat} (ha : a ≠ 0xB010C) : (groupStarted d k cmd n).rd a = d.rd a :=
  rd_wr_ne _ _ ha

theorem groupGo_opens {d : Device} {m k : Nat} {v : Word} (hserved : d.landServed m = none) (hgroup : d.land.group = none)
    (hlo : 1 ≤ fld v 4 11) (hhi : fld v 4 11 ≤ 1024) (hcmd : fld v 1 3 ≠ 7) (hgo : bitAt v 0 = true) (hpick : d.opPick = some k) :
    d.groupGo m v = (.ok, groupOpened d m k v) := by
  have h0 : fld v 4 11 ≠ 0 := by omega
  rw [Device.groupGo, hserved]
  simp only [hgroup, hgo, opOpen_some hpick]
  simp [h0, hhi, hcmd, groupOpened, groupStarted]

theorem groupOpened_record (d : Device) {m k : Nat} (v : Word) (hm : m < 16) (hk : k < 16) :
    let d' := groupOpened d m k v
    d'.land.group = some (k, fld v 1 3, fld v 4 11) ∧ d'.rd 0xB010C = d.rd 0x104 ∧ d'.get (oprecBase k + 4) 0 8 = 2 ∧
      d'.rd (oprecBase k + 8) = wd (fld v 4 11) := by
  have hrec := oprecBase_le hk
  obtain ⟨hkind, -, htotal⟩ := opOpenAt_words d k (kind := 2) (fld v 4 11) (by decide) hm
  refine ⟨rfl, ?_, (get_of_rd (rd_groupStarted_ne _ _ _ _ (by omega)) 0 8).trans hkind, (rd_groupStarted_ne _ _ _ _ (by omega)).trans htotal⟩
  exact (rd_groupStarted_id _ _ _ _).trans (opOpenAt_id d k _ _ _)

/-- GO on an acting device whose Landing serves no other group opens a record. -/
theorem landingGroupGo_opens {s : State} {m k : Nat} {v : Word} (h : Ready s m) (hstandby : s.dev.standby = false)
    (hcores : s.dev.cores.mc0Away = false) (hgroup : s.dev.land.group = none) (hlo : 1 ≤ fld v 4 11) (hhi : fld v 4 11 ≤ 1024)
    (hcmd : fld v 1 3 ≠ 7) (hv : v &&& 0xFFFF8000 = 0) (hpick : s.dev.opPick = some k) (hk : k < 16) :
    ∃ d, exec (.landingGroupGo m v) s = .next (acceptedSettled s m d) ∧ d.land.group = some (k, fld v 1 3, fld v 4 11) ∧
      d.rd 0xB010C = s.dev.rd 0x104 ∧ d.get (oprecBase k + 4) 0 8 = 2 ∧ d.rd (oprecBase k + 8) = wd (fld v 4 11) := by
  have hcount : fld (setFld v 0 1 1) 4 11 = fld v 4 11 := fld_setFld_ne v 1 (by decide) (by decide)
  have hcode : fld (setFld v 0 1 1) 1 3 = fld v 1 3 := fld_setFld_ne v 1 (by decide) (by decide)
  have href : s.dev.refusal 0xB0100 ⟨.landing, 0, 0x100⟩ groupCmdRow (setFld v 0 1 1) = none :=
    refusal_command rfl nofun (by simp [Device.standbyBars, hstandby]) (by simp [Device.bridgeBad, groupCmd_legal hv])
  have hopens : s.dev.groupGo m (setFld v 0 1 1) = (.ok, groupOpened s.dev m k (setFld v 0 1 1)) :=
    groupGo_opens (landServed_acting hstandby hcores m) hgroup (by rwa [hcount]) (by rwa [hcount]) (by rwa [hcode])
      (bitAt_setFld_one v (by decide)) hpick
  have hrecord := groupOpened_record s.dev (setFld v 0 1 1) (Nat.lt_trans h.master (by decide)) hk
  rw [hcount, hcode] at hrecord
  exact ⟨_, exec_landCommandWrite h locOf_groupCmd (.inr rfl) rowAt_groupCmd (by decide) rfl (.inr rfl) href rfl hopens, hrecord⟩

/-! The end of a group (R365). -/

/-- The status a group's results give. -/
def groupStatus (res : List Nat) : Status :=
  if res.all (· == 0) then .ok else if res.any (· == 0) then .partly else .abandoned

/-- The results stored: a bit and a nibble of each entry. -/
def groupStored (d : Device) (res : List Nat) : Device :=
  (d.wrs 0xB3000 (packWords 1 32 32 (res.map (fun r => b2n (r == 0))))).wrs 0xB3100 (packWords 4 8 128 res)

/-- The first entry that failed, the count of those accepted and the steps done stand in the record. -/
def groupNoted (d : Device) (k : Nat) (res : List Nat) : Device :=
  ((match firstBad 0 res with | some i => d.opFail k i | none => d).opDetail k (res.filter (· == 0)).length).opSteps k res.length

/-- The record closed, the result shown. -/
def groupClosed (d : Device) (k : Nat) (res : List Nat) : Device :=
  (d.opClose k (groupStatus res)).wr 0xB0108 (wd ((res.filter (· == 0)).length + 2 ^ 11 + 2 ^ 12 * (groupStatus res).code))

/-- No group in progress, GROUP_DONE set. -/
def groupFreed (d : Device) : Device := ({ d with land := { d.land with group := none } } : Device).ev 0xB0014 2

theorem groupFinish_eq (d : Device) (k : Nat) (res : List Nat) :
    d.groupFinish k res = groupFreed (groupClosed (groupNoted (groupStored d res) k res) k res) := rfl

theorem rd_groupFreed {d : Device} {a : Nat} (ha : a ≠ 0xB0014) : (groupFreed d).rd a = d.rd a := rd_ev_ne _ _ ha

theorem rd_groupClosed {d : Device} {k : Nat} {res : List Nat} {a : Nat} (ha : a ≠ 0xB0108) :
    (groupClosed d k res).rd a = (d.opClose k (groupStatus res)).rd a := rd_wr_ne _ _ ha

theorem groupNoted_out (d : Device) {k : Nat} (res : List Nat) (hk : k < 16) {a : Nat} (ha : 0x800 ≤ a) :
    (groupNoted d k res).rd a = d.rd a := by
  have hrec := oprecBase_le hk
  unfold groupNoted
  rw [rd_opSteps_ne _ (by omega), Device.opDetail, rd_wr_ne _ _ (by omega)]
  split
  · exact rd_wr_ne _ _ (by omega)
  · rfl

/-- A group that has ended: the Landing is free, its event set, its record closed with the results' status, the results stand. -/
theorem groupFinish_record (d : Device) {k : Nat} (res : List Nat) (hk : k < 16) :
    let d' := d.groupFinish k res
    d'.land.group = none ∧ d'.bit 0xB0014 2 = true ∧ d'.get (oprecBase k + 4) 12 2 = 2 ∧
      d'.get (oprecBase k + 4) 8 4 = (groupStatus res).code ∧ ∀ a, 0xB0108 < a → d'.rd a = (groupStored d res).rd a := by
  have hrec := oprecBase_le hk
  obtain ⟨hdone, hresult⟩ := opClose_result (groupNoted (groupStored d res) k res) k (groupStatus res)
  rw [groupFinish_eq]
  have hword := (rd_groupFreed (d := groupClosed (groupNoted (groupStored d res) k res) k res) (by omega : oprecBase k + 4 ≠ 0xB0014)).trans
    (rd_groupClosed (by omega : oprecBase k + 4 ≠ 0xB0108))
  refine ⟨rfl, bit_ev_same _ _ (by decide), (get_of_rd hword 12 2).trans hdone, (get_of_rd hword 8 4).trans hresult, fun a ha => ?_⟩
  rw [rd_groupFreed (by omega), rd_groupClosed (by omega), rd_opClose_outside _ _ hk (.inr (by omega)), groupNoted_out _ _ hk (by omega)]

theorem groupDone_finishes {d : Device} {k cmd n : Nat} (h : d.land.group = some (k, cmd, n)) :
    d.groupDone = (d.groupJudge cmd (d.rds 0xB2000 n) [] []).2.groupFinish k (d.groupJudge cmd (d.rds 0xB2000 n) [] []).1 := by
  rw [Device.groupDone, h]

theorem groupJudge_malformed (d : Device) (cmd : Nat) {e : Word} (h : groupEntry e = none) : d.groupJudge cmd [e] [] [] = ([4], d) := by
  simp [Device.groupJudge, h]

theorem rd_wrs_head (d : Device) (a : Nat) (v : Word) (t : List Word) : (d.wrs a (v :: t)).rd a = v := by
  rw [Device.wrs, rd_wrs_out _ _ _ _ (.inl (by omega)), rd_wr_same]

/-- The results of one malformed entry: BAD_ENTRY, not accepted. -/
theorem groupStored_malformed (d : Device) : (groupStored d [4]).get 0xB3100 0 4 = 4 ∧ (groupStored d [4]).get 0xB3000 0 1 = 0 := by
  have hnibbles : packWords 4 8 128 [4] = 4 :: packWords 4 8 127 [] := rfl
  have hbits : packWords 1 32 32 [0] = 0 :: packWords 1 32 31 [] := rfl
  have hmap : [4].map (fun r => b2n (r == 0)) = [0] := rfl
  rw [groupStored, hmap, hnibbles, hbits, Device.get, Device.get, rd_wrs_head, rd_wrs_out _ _ _ _ (.inl (by decide)), rd_wrs_head]
  exact ⟨rfl, rfl⟩

end Sys2Proof.Machine
end

section
/-! PROOFS. Selectors, their members and the group command together (R334, R344, R346, R347, R362 to R365). -/

namespace Sys2Proof.Machine
open Sys2Proof Sys2Proof.Safety

/-- Settles O33: SEL_CFG moves its selector by its state, a protection word names its context unless the role is held, and a group
command opens its record and closes it with what its entries gave. -/
theorem selectorsMembersAndGroups : Obligations.SelectorsMembersAndGroups := by
  intro s hlive
  refine ⟨fun m i v r h hi hr => ?_, fun m c v r h hc hr hclaim href => ?_, fun m v k h hstandby hcores hgroup hlo hhi hcmd hv hpick hk => ?_,
    fun k cmd n hgroup hk => ?_, fun k cmd hgroup hk => ?_⟩
  · cases hr.symm.trans (rowOf_selCfg hi)
    exact ⟨selEnable_activates h hi, selDisable_holds h hi, selCfgChange_reevaluates h hi⟩
  · exact ⟨protWordWrite_names h hc hr hclaim href, fun o he hsame hheld hne =>
      protWordWrite_refused h hc hr hclaim href he hsame hheld hne⟩
  · exact landingGroupGo_opens h hstandby hcores hgroup hlo hhi hcmd hv hpick hk
  · rw [exec_landingGroupDone, path_followed hlive, groupDone_finishes hgroup]
    obtain ⟨hfree, hev, hdone, -, -⟩ := groupFinish_record (s.dev.groupJudge cmd (s.dev.rds 0xB2000 n) [] []).2
      (s.dev.groupJudge cmd (s.dev.rds 0xB2000 n) [] []).1 hk
    exact ⟨_, rfl, hfree, hev, hdone⟩
  · rw [exec_landingGroupDone, path_followed hlive, groupDone_finishes hgroup]
    obtain ⟨hfree, hev, hdone, hresult, hstand⟩ := groupFinish_record (s.dev.groupJudge cmd (s.dev.rds 0xB2000 1) [] []).2
      (s.dev.groupJudge cmd (s.dev.rds 0xB2000 1) [] []).1 hk
    refine ⟨_, rfl, hfree, hev, hdone, fun hbad => ?_⟩
    have hjudge : s.dev.groupJudge cmd (s.dev.rds 0xB2000 1) [] [] = ([4], s.dev) := groupJudge_malformed s.dev cmd hbad
    rw [hjudge] at hresult hstand ⊢
    obtain ⟨hnibble, hbit⟩ := groupStored_malformed s.dev
    exact ⟨(get_of_rd (hstand _ (by decide)) 0 4).trans hnibble, (get_of_rd (hstand _ (by decide)) 0 1).trans hbit, hresult⟩

end Sys2Proof.Machine
end

section
/-! SUPPORT. The Cellar (R371 to R402): its commands as runs of a device, a refusal it records, and what the descriptors of pairs and
the delay steps leave. -/

namespace Sys2Proof.Machine
open Sys2Proof Sys2Proof.Safety

theorem exec_cellarTrainingDone (failed : List Nat) (s : State) :
    exec (.cellarTrainingDone failed) s = s.path (fun d => d.celTrained failed) := rfl
theorem exec_cellarRetrain (m : Nat) (s : State) : exec (.cellarRetrain m) s = s.live (fun d => d.cmdWrite m 0x9001C 1) := rfl
theorem exec_cellarRecal (c : Nat) (settles : Bool) (s : State) :
    exec (.cellarRecal c settles) s = s.path (fun d => d.celRecal c settles) := rfl
theorem exec_pairSet (m : Nat) (v : Word) (s : State) : exec (.pairSet m v) s = s.live (fun d => d.cmdWrite m 0x9009C v) := rfl
theorem exec_pairReservationApply (i : Nat) (s : State) : exec (.pairReservationApply i) s = s.path (fun d => d.pairApply i) := rfl
theorem exec_pairSel (m : Nat) (v : Word) (s : State) : exec (.pairSel m v) s = s.live (fun d => d.cmdWrite m 0x900A0 v) := rfl
theorem exec_alignSearchSlot (ecc : Option Nat) (s : State) : exec (.alignSearchSlot ecc) s = s.path (fun d => d.searchSlot ecc) := rfl
theorem exec_pairRetryDue (i : Nat) (s : State) : exec (.pairRetryDue i) s = s.path (fun d => d.pairRetry i) := rfl
theorem exec_rehomeChangeover (i late : Nat) (s : State) :
    exec (.rehomeChangeover i late) s = s.path (fun d => d.changeover i late) := rfl
theorem exec_ringFreeze (m r : Nat) (s : State) : exec (.ringFreeze m r) s = s.live (fun d => d.cmdWrite m (ringBase r + 0xC) 1) := rfl

/-! The Cellar's own state through what a command brings with it. -/

theorem raise_cel (d : Device) (r : SrcReport) : (d.raise r).cel = d.cel := by rw [raise_only]
theorem refused_cel (d : Device) (x : Access) (st : Status) (a : Nat) : (d.refused x st a).cel = d.cel := by rw [refused_only]
theorem irqSettle_cel (d0 d : Device) : (irqSettle d0 d).cel = d.cel := by
  unfold irqSettle
  split
  · rfl
  · split <;> rfl

/-- What a refused access adds to the record `d` of its block: the completion, and words of GLOBAL. -/
theorem celRefused_adds (s : State) (x : Access) (st : Status) (a : Nat) (d : Device) :
    let t := after s ((d.refused x st a).complete x.master { status := st })
    tabGet {} t.dev.bus.done x.master = { status := st } ∧ t.dev.cel = d.cel ∧ ∀ b, 0xB4 < b → t.dev.rd b = d.rd b := by
  refine ⟨?_, ?_, fun b hb => ?_⟩
  · rw [after, irqSettle_bus, done_complete]
  · rw [after, irqSettle_cel]
    exact refused_cel d x st a
  · rw [after, rd_irqSettle, rd_complete, rd_refused _ _ _ _ (.inr hb)]

/-- The record of a refusal by the Cellar (R378). -/
theorem celRefuse_record (d : Device) (kind idx cause : Nat) :
    (d.celRefuse kind idx cause).cel = d.cel ∧
      (d.celRefuse kind idx cause).rd 0x90054 = wd (idx % 2 ^ 18 + 2 ^ 18 * kind + 2 ^ 20 * cause) ∧
      (d.celRefuse kind idx cause).bit 0x90014 0 = true := by
  refine ⟨rfl, ?_, bit_ev_same _ _ (by decide)⟩
  rw [Device.celRefuse, rd_ev_ne _ _ (by decide), rd_wr_same]

/-! Descriptors. -/

@[simp] theorem setHpair_regs (d : Device) (i : Nat) (p : Option HPair) : (d.setHpair i p).regs = d.regs := rfl
@[simp] theorem rd_setHpair (d : Device) (i : Nat) (p : Option HPair) (a : Nat) : (d.setHpair i p).rd a = d.rd a := rfl
@[simp] theorem hpair_setHpair (d : Device) (i : Nat) (p : Option HPair) : (d.setHpair i p).hpair i = p := tabGet_tabPut_same _ _ _ _
theorem hpair_setHpair_ne (d : Device) {i k : Nat} (p : Option HPair) (hk : k ≠ i) : (d.setHpair i p).hpair k = d.hpair k :=
  tabGet_tabPut_ne _ _ _ _ hk

theorem hpair_of_cel {d d' : Device} (h : d'.cel = d.cel) (i : Nat) : d'.hpair i = d.hpair i := by rw [Device.hpair, h, Device.hpair]

theorem tabGet_mem {α : Type} {dflt x : α} {n : Nat} : ∀ {t : Tab α}, tabGet dflt t n = x → x ≠ dflt → (n, x) ∈ t
  | [], h, hx => absurd h.symm hx
  | (k, v) :: t, h, hx => by
    rw [tabGet] at h
    split at h
    · next hk => rw [hk, h]; exact List.mem_cons_self ..
    · exact List.mem_cons_of_mem _ (tabGet_mem h hx)

/-- A descriptor is among the pairs that exist. -/
theorem mem_hpairs {d : Device} {i : Nat} {p : HPair} (h : d.hpair i = some p) : (i, p) ∈ d.hpairs :=
  List.mem_filterMap.2 ⟨(i, some p), tabGet_mem h nofun, rfl⟩

/-! Delay steps (R390). -/

theorem convSwitch_cel (d : Device) (i : Nat) : (d.convSwitch i).cel = d.cel := by
  unfold Device.convSwitch
  split
  · refine List.foldlRecOn (motive := fun e : Device => e.cel = d.cel) _ _ rfl (fun e he k _ => ?_)
    split
    · obtain ⟨r, hr⟩ := rtRestart_eq e k
      rw [hr]
      exact he
    · exact he
  · rfl

/-- A delay step leaves the descriptors, and of the registers it writes its counter alone. -/
theorem delayStep_keeps (d : Device) (i : Nat) (old new : Option Align) :
    (d.delayStep i old new).cel = d.cel ∧ KeepsBut [0x90074] d (d.delayStep i old new) := by
  unfold Device.delayStep
  split
  · refine ⟨convSwitch_cel _ i, fun a ha => ?_⟩
    rw [convSwitch_kept _ i (fun _ => True) a trivial, rd_inc_ne _ (by simpa using ha)]
  · exact ⟨rfl, .refl _ d⟩

theorem rd_delayStep (d : Device) (i : Nat) (old new : Option Align) {a : Nat} (ha : a ≠ 0x90074) : (d.delayStep i old new).rd a = d.rd a :=
  (delayStep_keeps d i old new).2 a (by simpa using ha)

theorem hpair_delayStep (d : Device) (i : Nat) (old new : Option Align) (k : Nat) : (d.delayStep i old new).hpair k = d.hpair k :=
  hpair_of_cel (delayStep_keeps d i old new).1 k

end Sys2Proof.Machine
end

section
/-! PROOFS. Training and recalibration of the Cellar's channels (R372, R374, R375). -/

namespace Sys2Proof.Machine
open Sys2Proof Sys2Proof.Safety

theorem celChan_ge (c : Nat) : 0x90100 ≤ celChan c := Nat.le_add_right ..
theorem celChan_inj {c c' : Nat} (h : c ≠ c') : celChan c ≠ celChan c' := by unfold celChan; omega

/-! The end of training. -/

/-- A sum of distinct powers of two below `2 ^ n` is `2 ^ n - 1` exactly when none is left out. -/
theorem foldl_powers (p : Nat → Bool) (n : Nat) :
    ((List.range n).filter p).foldl (fun a c => a + 2 ^ c) 0 < 2 ^ n ∧
      (((List.range n).filter p).foldl (fun a c => a + 2 ^ c) 0 + 1 = 2 ^ n ↔ ∀ c, c < n → p c = true) := by
  induction n with
  | zero => simp
  | succ n ih =>
    obtain ⟨hlt, hall⟩ := ih
    rw [List.range_succ, List.filter_append, List.foldl_append, Nat.forall_lt_succ_right, ← hall]
    cases hp : p n with
    | true => simp [hp]; omega
    | false => simp [hp]; omega

theorem passedMask_lt (failed : List Nat) : passedMask failed < 2 ^ 12 := (foldl_powers _ 12).1

/-- Every channel passes when none of the twelve is listed. -/
theorem passedMask_full (failed : List Nat) : passedMask failed = 0xFFF ↔ ∀ c, c < 12 → c ∉ failed := by
  have h := (foldl_powers (fun c => !failed.contains c) 12).2
  simp only [Bool.not_eq_true', List.contains_eq_mem, decide_eq_false_iff_not] at h
  rw [← h, passedMask]
  simp only [List.contains_eq_mem]
  omega

/-- CEL_STATUS after training: READY, not TRAINING, and the channels that passed. -/
def trainedStatus (failed : List Nat) : Word := wd (b2n (passedMask failed == 0xFFF) + 2 ^ 16 * passedMask failed)

theorem trainedStatus_bits (failed : List Nat) :
    bitAt (trainedStatus failed) 0 = (passedMask failed == 0xFFF) ∧ bitAt (trainedStatus failed) 1 = false := by
  have hlt := passedMask_lt failed
  have hw : (trainedStatus failed).toNat = b2n (passedMask failed == 0xFFF) + 2 ^ 16 * passedMask failed :=
    wd_toNat (by unfold b2n; split <;> omega)
  simp only [bitAt, fld, hw, Nat.shiftRight_eq_div_pow]
  cases passedMask failed == 0xFFF with
  | true => simp [b2n]; omega
  | false => simp [b2n]; omega

/-- Bit 0 of each channel set from a function leaves CEL_STATUS. -/
theorem foldl_setBit_chans (f : Nat → Bool) (n : Nat) (d : Device) :
    let d' := (List.range n).foldl (fun e c => e.setBit (celChan c) 0 (f c)) d
    (∀ c, c < n → d'.bit (celChan c) 0 = f c) ∧ ∀ a, a < 0x90100 → d'.rd a = d.rd a := by
  induction n with
  | zero => simp
  | succ n ih =>
    obtain ⟨hchan, hbelow⟩ := ih
    rw [List.range_succ, List.foldl_append]
    refine ⟨fun c hc => ?_, fun a ha => ?_⟩
    · rcases Nat.lt_succ_iff_lt_or_eq.1 hc with hlt | rfl
      · exact (bit_of_rd (rd_setBit_ne _ _ _ (celChan_inj (by omega))) 0).trans (hchan c hlt)
      · exact bit_setBit_same _ _ _ (by decide)
    · have hge := celChan_ge n
      exact (rd_setBit_ne _ _ _ (by omega)).trans (hbelow a ha)

/-- What the end of a training leaves (R374). -/
theorem celTrained_record {d : Device} (failed : List Nat) (h : d.bit 0x90010 1 = true) :
    ((d.celTrained failed).bit 0x90010 0 = true ↔ ∀ c, c < 12 → c ∉ failed) ∧ (d.celTrained failed).bit 0x90010 1 = false ∧
      ∀ c, c < 12 → (d.celTrained failed).bit (celChan c) 0 = !failed.contains c := by
  obtain ⟨hchan, hbelow⟩ := foldl_setBit_chans (fun c => !failed.contains c) 12 (d.wr 0x90010 (trainedStatus failed))
  obtain ⟨hready, htraining⟩ := trainedStatus_bits failed
  have hst := (hbelow 0x90010 (by decide)).trans (rd_wr_same d 0x90010 _)
  rw [Device.celTrained, if_pos h]
  refine ⟨?_, ?_, hchan⟩
  · rw [← passedMask_full, Device.bit]
    exact (congrArg (bitAt · 0 = true) hst).to_iff.trans (by rw [hready, beq_iff_eq])
  · exact (congrArg (bitAt · 1) hst).trans htraining

/-! RETRAIN. -/

theorem celTrain_record (d : Device) :
    d.celTrain.rd 0x90010 = 2 ∧ (∀ c, c < 12 → d.celTrain.rd (celChan c) = 0) ∧
      Only (0x90010 :: (List.range 12).map celChan) d d.celTrain := by
  refine ⟨?_, fun c hc => ?_, (OnlyRegs.wr (.refl d) _ _).trans (foldl_wr_only _ _ _ _), fun a ha => ?_⟩
  · rw [Device.celTrain, rd_foldl_wr, if_neg (by decide), rd_wr_same]
  · rw [Device.celTrain, rd_foldl_wr, if_pos (List.mem_map_of_mem (List.mem_range.2 hc))]
  · obtain ⟨hst, hchans⟩ := not_or.1 (List.mem_cons.not.1 ha)
    rw [Device.celTrain, rd_foldl_wr, if_neg hchans, rd_wr_ne _ _ hst]

theorem locOf_celCmd : locOf 0x9001C = some ⟨.cellar, 0, 0x1C⟩ := by decide
theorem rowAt_celCmd : rowAt ⟨.cellar, 0, 0x1C⟩ = some (bitRow 0x1C) := by decide

theorem refusal_celCmd (d : Device) : d.refusal 0x9001C ⟨.cellar, 0, 0x1C⟩ (bitRow 0x1C) 1 = none :=
  refusal_command rfl nofun (by simp [Device.standbyBars]) (by simp [Device.bridgeBad, bitRow_legal])

theorem applyLoc_celCmd (d : Device) (m : Nat) : d.applyLoc m 0x9001C ⟨.cellar, 0, 0x1C⟩ (bitRow 0x1C) 1 = d.celRetrain := rfl

section
variable {s : State} {m : Nat} (h : Ready s m)
include h

theorem cellarRetrain_starts (hready : s.dev.bit 0x90010 0 = false) :
    exec (.cellarRetrain m) s = .next (accepted s m s.dev.celTrain) := by
  have he : s.dev.celRetrain = (.ok, s.dev.celTrain) := if_neg (by simp [Device.celReady, hready])
  rw [exec_cellarRetrain, exec_mgmtWrite h locOf_celCmd rowAt_celCmd rfl (by decide) rfl (.inr rfl) (refusal_celCmd _)
    ((applyLoc_celCmd _ m).trans he), settleAt_plain locOf_celCmd (by decide)]
  rfl

theorem cellarRetrain_refused (hready : s.dev.bit 0x90010 0 = true) :
    ∃ t, exec (.cellarRetrain m) s = .next t ∧ tabGet {} t.dev.bus.done m = { status := .range } ∧ t.dev.cel = s.dev.cel ∧
      KeepsBut [0x8C, 0x54, 0xB0, 0xB4] s.dev t.dev := by
  have he : s.dev.celRetrain = (.range, s.dev) := if_pos hready
  obtain ⟨hdone, hcel, -⟩ := celRefused_adds s { master := m, wide := false } .range 0x9001C s.dev
  refine ⟨_, ?_, hdone, hcel, fun a ha => ?_⟩
  · rw [exec_cellarRetrain, exec_mgmtWrite_refused h locOf_celCmd rowAt_celCmd rfl (by decide) rfl (.inr rfl) (refusal_celCmd _)
      ((applyLoc_celCmd _ m).trans he) nofun]
  · rw [after, rd_irqSettle, rd_complete]
    exact refused_keeps _ _ _ rfl a ha

end

/-! Recalibration. -/

/-- One that does not settle (R375). -/
theorem celRecal_record {d : Device} {c : Nat} (hready : d.bit 0x90010 0 = true) (hc : c < 12) :
    (d.celRecal c false).rd (celChan c + 0xC) = wd (satAdd 32 (d.rd (celChan c + 0xC)).toNat 1) ∧
      (d.celRecal c false).bit 0x90014 6 = true ∧ Raised (d.celRecal c false) 21 ∧
      KeepsBut [celChan c + 0xC, 0x90014] d (d.celRecal c false) := by
  have hge := celChan_ge c
  rw [Device.celRecal, if_pos (by simp [Device.celReady, hready, hc])]
  refine ⟨?_, ?_, raised_raise _ rfl, fun a ha => ?_⟩
  · rw [rd_raise, rd_ev_ne _ _ (by omega), rd_inc, if_pos rfl]
  · exact (bit_of_rd (rd_raise _ _ _) 6).trans (bit_ev_same _ _ (by decide))
  · simp only [List.mem_cons, List.not_mem_nil, or_false, not_or] at ha
    rw [rd_raise, rd_ev_ne _ _ ha.2, rd_inc_ne _ ha.1]

/-- One that settles. -/
theorem celRecal_settles (d : Device) (c : Nat) : d.celRecal c true = d := if_neg (by simp)

end Sys2Proof.Machine
end

section
/-! PROOFS. The reservations of hitless pairs: PAIR_SET, its change at the period boundary, PAIR_SEL (R378, R379, R400, R401). -/

namespace Sys2Proof.Machine
open Sys2Proof Sys2Proof.Safety

/-! PAIR_SET. -/

/-- PAIR_SET, 16 bytes, write only. -/
def pairSetRow : RegRow := { base := 0x90, acc := .wo, size := 16, cov := false, wide := true }

theorem locOf_pairSet3 : locOf 0x9009C = some ⟨.cellar, 0, 0x9C⟩ := by decide
theorem rowAt_pairSet3 : rowAt ⟨.cellar, 0, 0x9C⟩ = some pairSetRow := by decide

/-- Word 3 applies the words staged (R61, R400). -/
theorem wideWord_pairSet {d : Device} {m : Nat} {w0 w1 w2 : Word} (hs : d.staged m = some ⟨0x90090, [w0, w1, w2]⟩) (w3 : Word) :
    d.wideWord false m 0x9009C ⟨.cellar, 0, 0x9C⟩ pairSetRow w3 = (d.setStaged m none).pairSet w0 w1 w2 w3 := by
  simp [Device.wideWord, hs, Device.wideWhole, Device.wideRefusal, domainOf, Device.applyWide, noteCovered, pairSetRow, nthWord]

/-- A write of word 3 behind words 0 to 2. -/
theorem exec_pairSet_staged {s : State} {m : Nat} {w0 w1 w2 : Word} (hlive : Live s) (hs : s.dev.staged m = some ⟨0x90090, [w0, w1, w2]⟩)
    (w3 : Word) :
    exec (.pairSet m w3) s =
      .next (after s (Device.ended { master := m, wide := true } 0x9009C ((s.dev.setStaged m none).pairSet w0 w1 w2 w3))) := by
  have hd : s.dev.discards m 0x9009C = false := discards_inside hs (by simp)
  have hat : s.dev.writeAt false m 0x9009C w3 = (s.dev.setStaged m none).pairSet w0 w1 w2 w3 := by
    rw [← wideWord_pairSet hs w3]
    simp [Device.writeAt, locOf_pairSet3, rowAt_pairSet3, show pairSetRow.acc = .wo from rfl, show pairSetRow.wide = true from rfl]
  have hbus : s.dev.busWrite m 0x9009C 15 w3 =
      Device.ended { master := m, wide := true } 0x9009C ((s.dev.setStaged m none).pairSet w0 w1 w2 w3) := by
    rw [Device.busWrite, wideReg_of locOf_pairSet3 rowAt_pairSet3]
    simp [Device.writeBytes, Device.writeWord, Device.touch, Device.touched, hd, hat, pairSetRow]
  rw [exec_pairSet, live_after hlive, cmdWrite_mgmtAt (by decide), hbus]

/-- PAIR_SET has a bit set that R400 reserves. -/
def pairSetReserved (w0 w1 w2 w3 : Word) : Bool :=
  decide (fld w0 18 14 ≠ 0) || decide (fld w1 12 20 ≠ 0) || decide (w2 ≠ 0) || decide (w3 ≠ 0)

section
variable {d : Device} {w0 w1 w2 w3 : Word}

theorem pairSet_taken (h : d.pairCause (fld w0 0 18) (fld w1 0 8) (fld w1 8 4) (pairSetReserved w0 w1 w2 w3) = none) :
    d.pairSet w0 w1 w2 w3 = (.ok, d.pairTake (fld w0 0 18) (fld w1 0 8) (fld w1 8 4)) := by
  unfold pairSetReserved at h
  rw [Device.pairSet, h]

theorem pairSet_refused {c : Nat} (h : d.pairCause (fld w0 0 18) (fld w1 0 8) (fld w1 8 4) (pairSetReserved w0 w1 w2 w3) = some c) :
    d.pairSet w0 w1 w2 w3 = (if c = 6 then .busy else .range, d.celRefuse 0 (fld w0 0 18) c) := by
  unfold pairSetReserved at h
  rw [Device.pairSet, h]

end

/-- The bridge's staging has no part in the judgement. -/
theorem pairCause_setStaged (d : Device) (m : Nat) (g : Option Staging) (i dm t : Nat) (resv : Bool) :
    (d.setStaged m g).pairCause i dm t resv = d.pairCause i dm t resv := rfl

/-- A FREE descriptor is made at once. -/
theorem pairTake_free {d : Device} {i dm : Nat} (t : Nat) (h : d.hpair i = none) (hm : 0 < dm) :
    d.pairTake i dm t = d.setHpair i (some { maxDelay := dm, ctype := t }) := by
  rw [Device.pairTake, h]
  exact if_neg (by omega)

section
variable {s : State} {m : Nat} {w0 w1 w2 : Word} (hlive : Live s) (hs : s.dev.staged m = some ⟨0x90090, [w0, w1, w2]⟩) (w3 : Word)
include hlive hs

/-- Without a cause a FREE descriptor is made (R379). -/
theorem pairSet_makes
    (hcause : s.dev.pairCause (fld w0 0 18) (fld w1 0 8) (fld w1 8 4) (pairSetReserved w0 w1 w2 w3) = none)
    (hfree : s.dev.hpair (fld w0 0 18) = none) (hm : 0 < fld w1 0 8) :
    ∃ d, exec (.pairSet m w3) s = .next (accepted s m d) ∧ d.staged m = none ∧
      d.hpair (fld w0 0 18) = some { maxDelay := fld w1 0 8, ctype := fld w1 8 4 } ∧
      (∀ k, k ≠ fld w0 0 18 → d.hpair k = s.dev.hpair k) ∧ d.regs = s.dev.regs := by
  refine ⟨(s.dev.setStaged m none).setHpair (fld w0 0 18) (some { maxDelay := fld w1 0 8, ctype := fld w1 8 4 }), ?_,
    staged_setStaged s.dev m none, hpair_setHpair _ _ _, fun k hk => hpair_setHpair_ne _ _ hk, rfl⟩
  have hmake := pairTake_free (d := s.dev.setStaged m none) (fld w1 8 4) hfree hm
  rw [exec_pairSet_staged hlive hs, pairSet_taken ((pairCause_setStaged ..).trans hcause), hmake, ended_ok, accepted]

/-- A cause refuses it with its record (R378). -/
theorem pairSet_refuses {c : Nat}
    (hcause : s.dev.pairCause (fld w0 0 18) (fld w1 0 8) (fld w1 8 4) (pairSetReserved w0 w1 w2 w3) = some c) :
    ∃ t, exec (.pairSet m w3) s = .next t ∧ tabGet {} t.dev.bus.done m = { status := if c = 6 then .busy else .range } ∧
      t.dev.cel = s.dev.cel ∧ t.dev.rd 0x90054 = wd (fld w0 0 18 + 2 ^ 20 * c) ∧ t.dev.bit 0x90014 0 = true := by
  obtain ⟨hcel, hrec, hev⟩ := celRefuse_record (s.dev.setStaged m none) 0 (fld w0 0 18) c
  obtain ⟨hdone, hkept, hrd⟩ := celRefused_adds s { master := m, wide := true } (if c = 6 then .busy else .range) 0x9009C
    ((s.dev.setStaged m none).celRefuse 0 (fld w0 0 18) c)
  refine ⟨_, ?_, hdone, hkept.trans hcel, ?_, (bit_of_rd (hrd _ (by decide)) 0).trans hev⟩
  · rw [exec_pairSet_staged hlive hs, pairSet_refused ((pairCause_setStaged ..).trans hcause), Device.ended]
  · rw [hrd _ (by decide), hrec, Nat.mod_eq_of_lt (fld_lt w0 0 18), Nat.mul_zero, Nat.add_zero]

end

/-! The change at the period boundary (R379). -/

theorem pairApply_record {d : Device} {i : Nat} {p : HPair} {mt : Nat × Nat} (h : d.hpair i = some p) (hn : p.next = some mt) :
    (mt.1 = 0 → (d.pairApply i).hpair i = none) ∧
      (mt.1 ≠ 0 → ∃ q, (d.pairApply i).hpair i = some q ∧ q.st = 1 ∧ q.maxDelay = mt.1 ∧ q.ctype = mt.2 ∧ q.next = none ∧ q.al = none) := by
  obtain ⟨dm, t⟩ := mt
  simp only [Device.pairApply, h, hn, hpair_delayStep, hpair_setHpair]
  exact ⟨fun h0 => if_pos h0, fun h0 => ⟨_, if_neg h0, rfl, rfl, rfl, rfl, rfl⟩⟩

/-! PAIR_SEL and PAIR_VIEW (R401). -/

/-- PAIR_SEL. -/
def pairSelRow : RegRow := wo 0xA0 0x3FFFF

theorem locOf_pairSel : locOf 0x900A0 = some ⟨.cellar, 0, 0xA0⟩ := by decide
theorem rowAt_pairSel : rowAt ⟨.cellar, 0, 0xA0⟩ = some pairSelRow := by decide

theorem pairSel_legal {v : Word} (hv : v.toNat < 2 ^ 18) : pairSelRow.legal v.toNat = true := by
  have hres : v.toNat &&& 0xFFFC0000 = 0 := by
    apply Nat.eq_of_testBit_eq
    intro i
    rw [Nat.testBit_and, Nat.zero_testBit, show (0xFFFC0000 : Nat) = (2 ^ 14 - 1) <<< 18 from rfl, Nat.testBit_shiftLeft]
    rcases Nat.lt_or_ge i 18 with hi | hi
    · simp [Nat.not_le.2 hi]
    · rw [Nat.testBit_lt_two_pow (Nat.lt_of_lt_of_le hv (Nat.pow_le_pow_right (by decide) hi)), Bool.false_and]
  have hreserved : pairSelRow.reserved v.toNat = false := decide_eq_false (not_not.2 hres)
  rw [RegRow.legal, hreserved]
  rfl

/-- The selection stored. -/
def pairSelected (d : Device) (v : Word) : Device := { d with cel := { d.cel with sel := v.toNat } }

theorem pairSel_stores {s : State} {m : Nat} {v : Word} (h : Ready s m) (hv : v.toNat < 2 ^ 18) :
    exec (.pairSel m v) s = .next (accepted s m (pairSelected s.dev v)) := by
  rw [exec_pairSel, exec_mgmtWrite (d := pairSelected s.dev v) h locOf_pairSel rowAt_pairSel rfl (by decide) rfl (.inr rfl)
    (refusal_command rfl nofun (by simp [Device.standbyBars]) (by simp [Device.bridgeBad, pairSel_legal hv])) rfl,
    settleAt_plain locOf_pairSel (by decide)]
  rfl

theorem fld_wd_low {n k : Nat} (hn : n < 2 ^ 18) : fld (wd (n + 2 ^ 18 * k)) 0 18 = n := by
  rw [fld, wd, BitVec.toNat_ofNat, Nat.shiftRight_zero]
  omega

/-- PAIR_VIEW begins with the index selected. -/
theorem pairView_index {d : Device} (h : d.cel.sel < 2 ^ 18) : fld (d.pairView.getD 0 0) 0 18 = d.cel.sel := by
  unfold Device.pairView
  split
  · exact fld_wd_low (k := 0) h
  · next =>
    have hword : ∀ a b c : Nat,
        d.cel.sel + 2 ^ 18 * a + 2 ^ 21 * b + 2 ^ 22 * c = d.cel.sel + 2 ^ 18 * (a + 2 ^ 3 * b + 2 ^ 4 * c) := by omega
    rw [List.getD_cons_zero, hword, fld_wd_low h]

end Sys2Proof.Machine
end

section
/-! PROOFS. The searches of hitless pairs, the builds that waited, the retry and the changeover (R383, R384, R388, R389, R391); and
training and pairs together. -/

namespace Sys2Proof.Machine
open Sys2Proof Sys2Proof.Safety

/-! Builds that waited (R391). -/

theorem buildWaiting_idle {d : Device} {i : Nat} (h : ∀ p, d.hpair i = some p → p.waiting = none) : d.buildWaiting i = d := by
  unfold Device.buildWaiting
  split
  · next p hp => rw [h p hp]
  · rfl

theorem buildWaiting_some {d : Device} {i : Nat} {p : HPair} {a : Align} (h : d.hpair i = some p) (hw : p.waiting = some a) :
    d.buildWaiting i = if d.canBuild p then d.setHpair i (some { p with build := some (p.alignFrom a), waiting := none }) else d := by
  rw [Device.buildWaiting, h]
  simp only [hw]

/-- A build that starts changes its own descriptor alone. -/
theorem buildWaiting_keeps (d : Device) (i : Nat) :
    (d.buildWaiting i).regs = d.regs ∧ ∀ k, k ≠ i → (d.buildWaiting i).hpair k = d.hpair k := by
  unfold Device.buildWaiting
  split
  · split
    · split
      · exact ⟨rfl, fun k hk => hpair_setHpair_ne _ _ hk⟩
      · exact ⟨rfl, fun _ _ => rfl⟩
    · exact ⟨rfl, fun _ _ => rfl⟩
  · exact ⟨rfl, fun _ _ => rfl⟩

/-- What may start has started. -/
theorem buildWaiting_again (d : Device) (i : Nat) : (d.buildWaiting i).buildWaiting i = d.buildWaiting i := by
  cases h : d.hpair i with
  | none =>
    have he : d.buildWaiting i = d := buildWaiting_idle (by simp [h])
    rw [he, he]
  | some p =>
    cases hw : p.waiting with
    | none =>
      have he : d.buildWaiting i = d := buildWaiting_idle (by simp [h, hw])
      rw [he, he]
    | some a =>
      have he := buildWaiting_some h hw
      split at he
      · rw [he, buildWaiting_idle fun q hq => ?_]
        rw [hpair_setHpair] at hq
        cases hq
        rfl
      · rw [he, he]

theorem buildsStart_regs (d : Device) : d.buildsStart.regs = d.regs :=
  List.foldlRecOn (motive := fun e : Device => e.regs = d.regs) _ _ rfl fun e he i _ => (buildWaiting_keeps e i).1.trans he

/-- With one waiting build the start of a slot is that build's. -/
theorem buildsStart_one {d : Device} {i : Nat} {p : HPair} (h : d.hpair i = some p)
    (hothers : ∀ j q, j ≠ i → d.hpair j = some q → q.waiting = none) : d.buildsStart = d.buildWaiting i := by
  have hafter : ∀ k, (d.buildWaiting i).buildWaiting k = d.buildWaiting i := fun k => by
    by_cases hk : k = i
    · rw [hk, buildWaiting_again]
    · exact buildWaiting_idle fun q hq => hothers k q hk (((buildWaiting_keeps d i).2 k hk).symm.trans hq)
  have hfold : ∀ l : List Nat, i ∈ l → l.foldl Device.buildWaiting d = d.buildWaiting i := fun l => by
    induction l with
    | nil => exact nofun
    | cons k t ih =>
      intro hmem
      rw [List.foldl_cons]
      by_cases hk : k = i
      · rw [hk]
        exact foldl_same t fun x _ => hafter x
      · rw [buildWaiting_idle fun q => hothers k q hk]
        exact ih ((List.mem_cons.1 hmem).resolve_left (Ne.symm hk))
  exact hfold _ (List.mem_map_of_mem (mem_hpairs h))

/-! A search slot (R383, R384). -/

theorem celUncorr_eq (d : Device) {c : Nat} (hc : c < 12) :
    d.celUncorr c = ((d.inc (celChan c + 8)).ev 0x90014 7).raise { src := 20, syndrome := c } := if_pos hc

/-- The slot is that of pair `i`: the engine serves it, with what the slot's reads have left in `d`. -/
def slotServed (d : Device) (i : Nat) : Device := { d with cel := { d.cel with served := i } }

section
variable {d : Device} {i : Nat} {p : HPair}

theorem searchSlot_idle (ecc : Option Nat) (h : d.buildsStart.searchPick = none) : d.searchSlot ecc = d.buildsStart := by
  simp [Device.searchSlot, h]

/-- A slot whose reads meet an uncorrectable error (R372): NO_MATCH. -/
theorem searchSlot_ecc {c : Nat} (hc : c < 12) (h : d.buildsStart.searchPick = some (i, p)) :
    d.searchSlot (some c) = (slotServed ((d.buildsStart.inc 0x90060).celUncorr c) i).searchFail i p false := by
  have hcel : ((d.buildsStart.inc 0x90060).celUncorr c).cel = d.buildsStart.cel := by rw [celUncorr_eq _ hc, raise_cel]; rfl
  simp [Device.searchSlot, h, searchFind, slotServed, hcel]

/-- A slot that finds one match. -/
theorem searchSlot_found {l : Bool} {o : Nat} (h : d.buildsStart.searchPick = some (i, p))
    (hf : searchFind (pairD p.maxDelay p.ctype) p.w p.p false = .found l o) :
    d.searchSlot none = (slotServed (d.buildsStart.inc 0x90060) i).searchMatch i p l o := by
  simp [Device.searchSlot, h, hf, slotServed]

end

/-- A search without a match leaves a retry, NO_MATCH and its count. -/
theorem searchFail_record (d : Device) (i : Nat) (p : HPair) :
    (∃ q, (d.searchFail i p false).hpair i = some q ∧ q.retry = true ∧ q.outcome = 2 ∧ q.st = if p.st = 6 then 6 else 1) ∧
      (d.searchFail i p false).cel.served = d.cel.served ∧ (d.searchFail i p false).fc = d.fc ∧
      ∀ a, (d.searchFail i p false).rd a = if a = 0x90068 then wd (satAdd 32 (d.rd 0x90068).toNat 1) else d.rd a :=
  ⟨⟨_, hpair_setHpair d i _, rfl, rfl, rfl⟩, rfl, rfl, fun a => rd_inc _ _ a⟩

/-- A match of a pair that is not in REHOME is an alignment to lock. -/
theorem searchMatch_aligns (d : Device) {i : Nat} {p : HPair} (l : Bool) (o : Nat) (hst : p.st ≠ 6) :
    (∃ q, (d.searchMatch i p l o).hpair i = some q ∧ q.st = 3 ∧ q.outcome = 1 ∧ ∃ v, q.al = some (p.align l o v)) ∧
      (d.searchMatch i p l o).regs = d.regs := by
  simp only [Device.searchMatch, if_neg hst]
  exact ⟨⟨_, hpair_setHpair .., rfl, rfl, _, rfl⟩, rfl⟩

section
variable {d : Device} {i : Nat} {p : HPair}

theorem searchSlot_ecc_record {c : Nat} (hc : c < 12) (h : d.buildsStart.searchPick = some (i, p)) :
    ∃ q, (d.searchSlot (some c)).rd (celChan c + 8) = wd (satAdd 32 (d.rd (celChan c + 8)).toNat 1) ∧
      (d.searchSlot (some c)).bit 0x90014 7 = true ∧ Raised (d.searchSlot (some c)) 20 ∧
      (d.searchSlot (some c)).rd 0x90060 = wd (satAdd 32 (d.rd 0x90060).toNat 1) ∧
      (d.searchSlot (some c)).rd 0x90068 = wd (satAdd 32 (d.rd 0x90068).toNat 1) ∧ (d.searchSlot (some c)).hpair i = some q ∧
      q.retry = true ∧ q.outcome = 2 ∧ q.st = (if p.st = 6 then 6 else 1) ∧ (d.searchSlot (some c)).cel.served = i := by
  have hge := celChan_ge c
  rw [searchSlot_ecc hc h, celUncorr_eq _ hc]
  have hread : ∀ e : Device, ∀ a, (slotServed e i).rd a = e.rd a := fun _ _ => rfl
  have hslot : ∀ a, d.buildsStart.rd a = d.rd a := rd_of_regs (buildsStart_regs d)
  obtain ⟨⟨q, hq, hretry, hout, hst⟩, hserved, hfc, hrd⟩ := searchFail_record
    (slotServed (((((d.buildsStart.inc 0x90060).inc (celChan c + 8)).ev 0x90014 7)).raise { src := 20, syndrome := c }) i) i p
  refine ⟨q, ?_, ?_, (raised_raise _ (r := { src := 20, syndrome := c }) rfl).of_fc hfc, ?_, ?_, hq, hretry, hout, hst, hserved⟩
  · rw [hrd, if_neg (by omega), hread, rd_raise, rd_ev_ne _ _ (by omega), rd_inc, if_pos rfl, rd_inc_ne _ (by omega), hslot]
  · rw [bit_of_rd ((hrd 0x90014).trans (if_neg (by decide))), bit_of_rd (hread _ _), bit_of_rd (rd_raise _ _ _)]
    exact bit_ev_same _ _ (by decide)
  · rw [hrd, if_neg (by decide), hread, rd_raise, rd_ev_ne _ _ (by decide), rd_inc_ne _ (by omega), rd_inc, if_pos rfl, hslot]
  · rw [hrd, if_pos rfl, hread, rd_raise, rd_ev_ne _ _ (by decide), rd_inc_ne _ (by omega), rd_inc_ne _ (by decide), hslot]

theorem searchSlot_found_record {l : Bool} {o : Nat} (h : d.buildsStart.searchPick = some (i, p)) (hst : p.st ≠ 6)
    (hf : searchFind (pairD p.maxDelay p.ctype) p.w p.p false = .found l o) :
    ∃ q, (d.searchSlot none).hpair i = some q ∧ q.st = 3 ∧ q.outcome = 1 ∧ (∃ v, q.al = some (p.align l o v)) ∧
      (d.searchSlot none).rd 0x90060 = wd (satAdd 32 (d.rd 0x90060).toNat 1) := by
  rw [searchSlot_found h hf]
  obtain ⟨⟨q, hq, hlocking, hout, hal⟩, hregs⟩ := searchMatch_aligns (slotServed (d.buildsStart.inc 0x90060) i) (i := i) l o hst
  refine ⟨q, hq, hlocking, hout, hal, ?_⟩
  rw [rd_of_regs hregs]
  exact (rd_inc d.buildsStart 0x90060 0x90060).trans (by rw [if_pos rfl, rd_of_regs (buildsStart_regs d)])

end

/-! The retry (R384). -/

/-- Queueing for the engine changes a descriptor's state alone (R388). -/
theorem pairQueue_record {d : Device} {i : Nat} {p : HPair} (h : d.hpair i = some p) :
    (∃ st, (d.pairQueue i).hpair i = some { p with st := st }) ∧ (d.pairQueue i).regs = d.regs := by
  simp only [Device.pairQueue, h]
  split
  · exact ⟨⟨2, hpair_setHpair ..⟩, rfl⟩
  · exact ⟨⟨p.st, h⟩, rfl⟩

theorem pairRetry_record {d : Device} {i : Nat} {p : HPair} (h : d.hpair i = some p) :
    ∃ q, (d.pairRetry i).hpair i = some q ∧ q.retry = false ∧ q.maxDelay = p.maxDelay ∧ (d.pairRetry i).regs = d.regs := by
  obtain ⟨⟨st, hq⟩, hregs⟩ := pairQueue_record (hpair_setHpair d i (some { p with retry := false }))
  rw [Device.pairRetry, h]
  exact ⟨_, hq, rfl, rfl, hregs⟩

/-! The changeover (R389). -/

theorem changeover_record {d : Device} {i : Nat} {p : HPair} {b : Align} (late : Nat) (h : d.hpair i = some p) (hb : p.build = some b)
    (hlocked : b.locked = true) (hst : p.st = 6) :
    ∃ q, (d.changeover i late).hpair i = some q ∧ q.st = 4 ∧ q.al = some b ∧ q.build = none ∧
      (d.changeover i late).rd 0x9006C = wd (satAdd 32 (d.rd 0x9006C).toNat 1) ∧
      (d.changeover i late).rd 0x90070 = wd (satAdd 32 (d.rd 0x90070).toNat late) := by
  simp only [Device.changeover, h, hb, hlocked, hst, beq_self_eq_true, Bool.and_self, if_true, hpair_delayStep]
  refine ⟨_, hpair_setHpair d i _, rfl, rfl, rfl, ?_, ?_⟩
  · rw [rd_delayStep _ _ _ _ (by decide), rd_add, if_neg (by decide), rd_inc, if_pos rfl, rd_setHpair]
  · rw [rd_delayStep _ _ _ _ (by decide), rd_add, if_pos rfl, rd_inc_ne _ (by decide), rd_setHpair]

/-- Settles O35: by what training leaves in the channels, what PAIR_SET and the boundary do with a descriptor, what the engine's slot
finds, and what the changeover puts into service. -/
theorem cellarTrainsAndAlignsPairs : Obligations.CellarTrainsAndAlignsPairs := by
  intro s hlive
  refine ⟨fun failed h => ?_, fun m h => ⟨fun hready => ?_, fun hready => cellarRetrain_refused h hready⟩, fun c hready hc => ⟨?_, ?_⟩,
    fun m w0 w1 w2 w3 _ hs => ⟨fun hcause hfree hm => ?_, fun c hcause => ?_⟩, fun i p mt h hn => ?_, fun m v h hv => ?_,
    fun ecc h => ?_, fun i p a h hw hothers => ?_, fun i p h => ⟨fun c hc => ?_, fun l o hst hf => ?_⟩, fun i p h => ?_,
    fun i p b late h hb hlocked hst => ?_⟩
  · exact ⟨_, by rw [exec_cellarTrainingDone, path_followed hlive], celTrained_record failed h⟩
  · exact ⟨_, cellarRetrain_starts h hready, celTrain_record s.dev⟩
  · exact ⟨_, by rw [exec_cellarRecal, path_followed hlive], celRecal_record hready hc⟩
  · rw [exec_cellarRecal, path_followed hlive, celRecal_settles]
  · exact pairSet_makes hlive hs w3 hcause hfree hm
  · exact pairSet_refuses hlive hs w3 hcause
  · exact ⟨_, by rw [exec_pairReservationApply, path_followed hlive], pairApply_record h hn⟩
  · exact ⟨_, pairSel_stores h hv, rfl, pairView_index (d := pairSelected s.dev v) hv, rfl⟩
  · rw [exec_alignSearchSlot, path_followed hlive, searchSlot_idle ecc h]
  · rw [buildsStart_one h hothers, buildWaiting_some h hw]
  · obtain ⟨q, hrecord⟩ := searchSlot_ecc_record hc h
    exact ⟨_, q, by rw [exec_alignSearchSlot, path_followed hlive], hrecord⟩
  · obtain ⟨q, hrecord⟩ := searchSlot_found_record h hst hf
    exact ⟨_, q, by rw [exec_alignSearchSlot, path_followed hlive], hrecord⟩
  · obtain ⟨q, hrecord⟩ := pairRetry_record h
    exact ⟨_, q, by rw [exec_pairRetryDue, path_followed hlive], hrecord⟩
  · obtain ⟨q, hrecord⟩ := changeover_record late h hb hlocked hst
    exact ⟨_, q, by rw [exec_rehomeChangeover, path_followed hlive], hrecord⟩

end Sys2Proof.Machine
end

section
/-! PROOFS. FREEZE of a ring beside an EXPORTING one whose operation record is none of the sixteen (R83, R396, R397). -/

namespace Sys2Proof.Machine
open Sys2Proof Sys2Proof.Safety

/-- Ring 2 is RUNNING. Ring 0 is EXPORTING with the drive OFF, under the record 0x2430: behind the sixteen, where the words of a record
would lie over those of rings 0 to 2, its time stamp over ring 2. No run opens such a record, but the statement is about every state. -/
def exportAstray : State :=
  { State.reset with dev := ((State.reset.dev.wr (ringBase 0 + 8) 4).wr (ringBase 2 + 8) 1).setRing 0 { op := some 0x2430 } }

theorem exportAstray_ready : Ready exportAstray 6 := ⟨rfl, by decide, by decide⟩

/-- FREEZE of ring 2 also abandons what ring 0 has begun without a drive, and closes its record: RING_STATUS of ring 2 reads OFF. -/
theorem exportAstray_frozen : (exportAstray.dev.cmdWrite 6 (ringBase 2 + 0xC) 1).ringSt 2 = 0 := by decide

/-- Refutes O36: its clause of FREEZE leaves out that every EXPORTING ring holds one of the sixteen records. Where another ring names a
record behind them, its closing in the same command writes over RING_STATUS of the ring that freezes. -/
theorem not_captureRingsRecordFreezeAndExport : ¬ Obligations.CaptureRingsRecordFreezeAndExport := by
  intro h
  obtain ⟨-, -, hfreezes, -, -⟩ := h exportAstray 2 exportAstray_ready.live (by decide)
  obtain ⟨-, hfreeze⟩ := hfreezes (by decide)
  obtain ⟨d, hrun, hfrozen, -⟩ := hfreeze 6 exportAstray_ready (.inl (by decide))
  rw [exec_ringFreeze, live_after exportAstray_ready.live] at hrun
  have hsame := Host.Outcome.next.inj hrun
  have hrd : d.rd (ringBase 2 + 8) = (exportAstray.dev.cmdWrite 6 (ringBase 2 + 0xC) 1).rd (ringBase 2 + 8) := by
    rw [← rd_complete d 6 {}, ← rd_irqSettle exportAstray.dev (d.complete 6 {}), ← rd_irqSettle exportAstray.dev (Device.cmdWrite ..)]
    exact congrArg (fun t => t.dev.rd (ringBase 2 + 8)) hsame.symm
  rw [Device.ringSt, get_of_rd hrd] at hfrozen
  exact absurd (exportAstray_frozen.symm.trans hfrozen) (by decide)

end Sys2Proof.Machine
end
